-- ==== Sys2Proof/Word.lean ====
section
/-! DEFINITION. Words and bytes: the bit vectors of the machine. -/

namespace Sys2Proof

/-- The value of one object dictionary entry, held as 64 bits (R37): unsigned entries zero-extended, signed ones
sign-extended. -/
abbrev Word := BitVec 64

/-- One byte of memory. -/
abbrev Byte := BitVec 8

end Sys2Proof
end

