-- ==== Sys2Proof/Types.lean ====
section
/-! DEFINITION. Types: what the operands of commands are made of (requesters, frames, head-link frames, descriptors from outside). -/

namespace Sys2Proof

/-- The masters that reach the OD window (R44, R52): SV, an AP hart, a DMA channel. -/
inductive Master
  | sv
  | ap (h : Fin 4)
  | dma (ch : Fin 32)
  deriving DecidableEq, Repr

/-- What a fabric access is (R424, R444): a load, a store, an instruction fetch, or an access of the A extension (R422), whose operation is 0 swap,
1 add, 2 xor, 3 and, 4 or, 5 min, 6 max, 7 minu, 8 maxu for an AMO. -/
inductive BusUse
  | load | store | fetch | lr | sc
  | amo (op : Fin 9)
  deriving DecidableEq, Repr

/-- The requester classes of R44. -/
inductive Cls
  | host | fm | fs
  deriving DecidableEq, Repr

/-- Who makes an object dictionary request: the host over the chain, with the tag of its OD_REQ (R92), or a master
through the window, with whether a hart is in M-mode (R44). -/
inductive Req
  | chain (tag : Nat)
  | window (m : Master) (machine : Bool)
  deriving DecidableEq, Repr

/-- One write request: who makes it, and what the hardware finds on its way: the byte parity of the value (R48,
check 11) and the verification of the two store copies (R61, R62) of a Kept entry. -/
structure Access where
  who : Req
  parity : Bool := true
  copyA : Bool := true
  copyB : Bool := true
  deriving DecidableEq, Repr

/-- The table an update command works on, and the byte parity of the copy it reads (R243). -/
structure TableRead where
  u : Fin 48
  ok : Bool
  deriving DecidableEq, Repr

/-- What CAL finds as it writes a retained copy (R222, R243): the byte parity of the table it copies, and how many verifications of the
staging bytes and of the slot's fail. -/
structure CopyOutcome where
  readOk : Bool
  staging : Fin 3
  slot : Fin 3
  deriving DecidableEq, Repr

/-- An edge of an encoder's Z input (R250). -/
structure ZEdge where
  e : Fin 6
  rising : Bool
  deriving DecidableEq, Repr

/-- The bit positions at which a training lane receives commas or sync headers (R342). -/
structure LaneMarks where
  l : Fin 16
  marks : List Nat
  deriving DecidableEq, Repr

/-- The bits that the checker of a lane in TEST receives (R354). -/
structure LaneBits where
  l : Fin 16
  bits : List Bool
  deriving DecidableEq, Repr

/-- A chain frame as R76 lays it out, with the check values it arrived with and how it ended. `broken` is a start
symbol or loss of lock inside the frame, or more than LEN bytes (R80 case 7). `phase` and `slip` are what the port finds of its start
symbol: the time from its first bit at the port's internal point to the command, in 2^-16 ns, and the bits that the 8b/10b word
alignment has slipped (R369). -/
structure Frame where
  dest : Nat
  src : Nat
  cls : Nat
  typ : Nat
  looped : Bool := false
  ts : Bool := false
  /-- FLAGS[7:2], which are reserved (R7) and travel as they came. -/
  flags : Nat := 0
  seq : Nat := 0
  corr : Int := 0
  payload : List Nat := []
  len : Nat := 0
  hcrc : Nat := 0
  crc : Nat := 0
  broken : Bool := false
  badEnd : Bool := false
  phase : Nat := 0
  slip : Nat := 0
  deriving DecidableEq, Repr

end Sys2Proof
end

