-- ==== Sys2Proof/Syntax.lean ====
section
/-! DEFINITION. Syntax: the commands of the block, one constructor per row of the opcode table, with the operands each brings. -/

namespace Sys2Proof

/-- The commands the block takes. -/
inductive Instr
  /-- VAON_RISE (R459): VAON rises into its range and AON raises PMIC_EN[3:0] in order 1 ms apart. -/
  | vaonRise
  /-- COLD_START (R59): Release of POR_N or RST_N puts the unit in START with cause COLD_START and starts boot, clocks and restore. -/
  | coldStart (boot : Fin 4) (flash : List (List Nat))
  /-- RESET_ASSERT (R534): POR_N or RST_N goes low in any power state, which is a cold start. -/
  | resetAssert
  /-- VAON_LOSS (R535): VAON falls below its range: every PMIC_EN falls and AON registers clear as a loss of power. -/
  | vaonLoss
  /-- RESTORED (R64): The retained store restore completes, and the unit enters CONFIG, or FAULT when a freeze fault was recorded. -/
  | restored (us : Nat) (bad : Nat)
  /-- OD_REQ (R93): An OD_REQ frame addressed to the unit is admitted to the 64-request queue, or answered at once with 0x0801 or 0x0805. -/
  | odReq (p : Fin 2) (f : Frame)
  /-- OD_WRITE (R48): A write from chain or window to an entry with no row of its own is checked in order and applied on success. -/
  | odWrite (acc : Access) (idx : Fin 65536) (sub : Fin 256) (size : Nat) (val : Nat)
  /-- WINDOW_LOW_WORD_READ (R52): A 4-byte read of a slot's low word takes a snapshot of the 64-bit value for that master. -/
  | windowLowWordRead (m : Master) (machine : Bool) (idx : Fin 65536) (sub : Fin 256)
  /-- WINDOW_SPLIT_WRITE (R52): A 4-byte low-word write is staged and a high-word write commits the staged low word with it. -/
  | windowSplitWrite (acc : Access) (high : Bool) (idx : Fin 65536) (sub : Fin 256) (word : Nat)
  /-- DESCRIBE_SELECT (R41): A write to a class's DESCRIBE select makes its descriptor subindex describe the selected entry. -/
  | describeSelect (acc : Access) (pair : Cls) (sel : Nat)
  /-- DOMAIN_ADDRESS_WRITE (R38): A write to a DOMAIN address subindex is staged for the requester class. -/
  | domainAddressWrite (acc : Access) (idx : Fin 65536) (sub : Fin 256) (addr : Nat)
  /-- DOMAIN_LENGTH_WRITE (R38): A write to a DOMAIN length subindex checks and commits the staged address with the new length. -/
  | domainLengthWrite (acc : Access) (idx : Fin 65536) (sub : Fin 256) (len : Nat)
  /-- RSP_COMMIT (R55): Firmware writes the response length, which sends the response to a firmware-served request. -/
  | rspCommit (acc : Access) (len : Nat)
  /-- SERVICE_TIMEOUT (R55): A firmware-served request not answered within SERVICE_TIMEOUT is answered 0x0805 and withdrawn. -/
  | serviceTimeout (tag : Nat)
  /-- FWS_DATA_WRITE (R61): A write to FWS_DATA stores 8 bytes at the selected firmware store offset through both copies. -/
  | fwsDataWrite (acc : Access) (val : Nat)
  /-- STORE_REBUILD_COMPLETE (R62): The rebuild of a failed store copy ends and waiting writes to the pair proceed. -/
  | storeRebuildComplete (pair : Fin 16)
  /-- GO_CONFIG (R58): DEVICE_COMMAND GO_CONFIG from READY starts the stop of every slot and axis with CONFIG pending. -/
  | goConfig (acc : Access)
  /-- GO_CONFIG_COMPLETE (R58): The last slot or axis stops, and the pending transition to CONFIG completes. -/
  | goConfigComplete
  /-- GO_READY (R58): DEVICE_COMMAND GO_READY runs the consistency checks and moves CONFIG to READY or refuses. -/
  | goReady (acc : Access) (badTables : Nat)
  /-- ARM (R58): DEVICE_COMMAND ARM moves READY to ARMED when LSAFE_N is high and no RESTORE_ACK is owed. -/
  | arm (acc : Access)
  /-- DISARM (R58): DEVICE_COMMAND DISARM closes every gate, inhibits FIRE and returns the unit to READY. -/
  | disarm (acc : Access)
  /-- ENTER_SERVICE (R57): DEVICE_COMMAND ENTER_SERVICE moves CONFIG or FAULT to SERVICE. -/
  | enterService (acc : Access)
  /-- LEAVE_SERVICE (R57): DEVICE_COMMAND LEAVE_SERVICE moves SERVICE to CONFIG, or to FAULT when a freeze fault is active. -/
  | leaveService (acc : Access)
  /-- CLEAR_FAULT (R57): DEVICE_COMMAND CLEAR_FAULT moves FAULT to CONFIG when no freeze fault is active. -/
  | clearFault (acc : Access)
  /-- WARM_RESET (R58): DEVICE_COMMAND WARM_RESET is accepted and answered and records its cause. -/
  | warmReset (acc : Access)
  /-- WARM_RESET_ACTS (R58): Within 2 us of its answer the warm reset drives outputs low, resets blocks, restarts firmware and restores the store. -/
  | warmResetActs
  /-- LSAFE_FALL (R23): LSAFE_N falls: emission outputs are forced inactive within 50 ns and ARMED drops to READY. -/
  | lsafeFall
  /-- LSAFE_RISE (R195): LSAFE_N rises: the gate cause clears and ILK_OUT may go high. -/
  | lsafeRise
  /-- DEFAULTS_KEEP_IDENTITY (R551): Store command 1 returns every Kept entry outside P0, P14 and P15 to its factory default. -/
  | defaultsKeepIdentity (acc : Access)
  /-- DEFAULTS_ALL (R551): Store command 2, in SERVICE only, returns every Kept entry and both firmware store pairs to defaults. -/
  | defaultsAll (acc : Access)
  /-- VERIFY (R551): Store command 3 checks every bank and starts rebuilds of failing ones. -/
  | verify (acc : Access)
  /-- REBUILD (R551): Store command 4 rewrites every failed copy from its good copy. -/
  | rebuild (acc : Access)
  /-- STORE_COMMAND_COMPLETE (R551): A running store command completes, sets STORE_RESULT and raises PLIC source 63. -/
  | storeCommandComplete (bad : Nat)
  /-- RESTORE_ACK (R65): The host writes 1 to RESTORE_ACK, acknowledging every recorded bank failure. -/
  | restoreAck (acc : Access)
  /-- FRAME_FORWARD (R72): A chain frame arrives at a port and is checked, looped, discarded or forwarded cut-through. -/
  | frameForward (p : Fin 2) (f : Frame)
  /-- COUNT (R86): An ENUM COUNT frame increments the counter, sets POSITION and is passed on. -/
  | count (p : Fin 2) (f : Frame)
  /-- IDENTIFY (R86): An ENUM IDENTIFY frame makes the unit at the given position answer its identity. -/
  | identify (p : Fin 2) (f : Frame)
  /-- ASSIGN (R86): An ENUM ASSIGN frame gives the unit at the given position its chain address. -/
  | assign (p : Fin 2) (f : Frame)
  /-- ASSIGN_ALIAS (R86): An ENUM ASSIGN_ALIAS frame gives the unit with the matching alias its chain address. -/
  | assignAlias (p : Fin 2) (f : Frame)
  /-- RELEASE (R86): An ENUM RELEASE frame returns the unit to address 0x00. -/
  | release (p : Fin 2) (f : Frame)
  /-- STREAM (R94): A STREAM frame is accepted into its endpoint ring through DMA or discarded and counted. -/
  | stream (p : Fin 2) (f : Frame)
  /-- ALARM (R209): A received ALARM frame is matched against stitch zones and overlaps and changes their state. -/
  | alarm (p : Fin 2) (f : Frame)
  /-- SYNC (R373): A received SYNC from SYNC_SRC gives a recorded OFFSET and raises the TMB interrupt. -/
  | sync (p : Fin 2) (f : Frame)
  /-- DELAY_REQ (R370): A received DELAY_REQ is stamped and answered in hardware with a DELAY_RSP. -/
  | delayReq (p : Fin 2) (f : Frame)
  /-- DELAY_RSP (R370): A received DELAY_RSP gives a link delay value that updates LINK_DELAY. -/
  | delayRsp (p : Fin 2) (f : Frame)
  /-- BOOT_DATA (R101): The boot ROM loads a requested BOOT_DATA into shared SRAM and checks the image when complete. -/
  | bootData (p : Fin 2) (f : Frame)
  /-- BOOT_REQ_TIMEOUT (R101): A BOOT_REQ unanswered for 10 ms is repeated, up to 8 attempts. -/
  | bootReqTimeout
  /-- BOOT_RESTART (R101): After failed attempts or a rejected image the boot ROM restarts from offset 0 after 1 s. -/
  | bootRestart
  /-- CREDIT_SYMBOL (R83): A received Credit symbol returns freed cells of one class to the transmitter. -/
  | creditSymbol (p : Fin 2) (cls : Fin 3) (cells : Nat)
  /-- CREDIT_RETURN_TIMER (R83): 1 us after a first freed cell of a class, the receiver sends a Credit symbol. -/
  | creditReturnTimer (p : Fin 2) (cls : Fin 3)
  /-- HEARTBEAT (R84): A received Heartbeat records the neighbour and its device state and may bring the port UP. -/
  | heartbeat (p : Fin 2) (addr : Nat) (st : Nat) (gateway : Bool)
  /-- HEARTBEAT_SEND (R84): The 10 us heartbeat interval expires and a Heartbeat is sent. -/
  | heartbeatSend (p : Fin 2)
  /-- HEARTBEAT_TIMEOUT (R74): No heartbeat for 40 us takes the chain port DOWN and closes its loopback. -/
  | heartbeatTimeout (p : Fin 2)
  /-- PORT_ENABLE_WRITE (R74): A write to a chain port ENABLE disables the port or returns it to DOWN. -/
  | portEnableWrite (acc : Access) (p : Fin 2) (v : Nat)
  /-- ENDPOINT_ENABLE_WRITE (R96): Enabling a stream endpoint resets its offsets and sends a CREDIT with reason 2. -/
  | endpointEnableWrite (acc : Access) (n : Fin 8) (v : Nat)
  /-- RELEASE_OFFSET_WRITE (R96): Firmware releases ring space of a firmware-consumed endpoint, which may lead to a CREDIT. -/
  | releaseOffsetWrite (acc : Access) (n : Fin 8) (v : Nat)
  /-- CREDIT_PERIOD_EXPIRY (R96): CREDIT_PERIOD after the last CREDIT ends, and a waiting release CREDIT is sent. -/
  | creditPeriodExpiry (n : Fin 8)
  /-- GATEWAY_DATAGRAM (R99): The gateway checks a received UDP datagram and injects its frame as a host frame. -/
  | gatewayDatagram (m : Fin 2) (d : List Nat)
  /-- ARP_REQUEST (R99): The gateway answers an ARP request for LOCAL_IP in hardware. -/
  | arpRequest (m : Fin 2) (d : List Nat)
  /-- CHANNEL_ENABLE (R141): Channel command ENABLE moves OFF to IDLE with resync. -/
  | channelEnable (acc : Access) (c : Fin 16) (tableOk : Bool)
  /-- CHANNEL_DISABLE (R141): Channel command DISABLE moves IDLE or HALTED to OFF. -/
  | channelDisable (acc : Access) (c : Fin 16)
  /-- CHANNEL_START (R141): Channel command START moves IDLE to RUNNING in ARMED. -/
  | channelStart (acc : Access) (c : Fin 16)
  /-- CHANNEL_PAUSE (R141): Channel command PAUSE makes a RUNNING channel hold at its next rest point. -/
  | channelPause (acc : Access) (c : Fin 16)
  /-- CHANNEL_RESUME (R141): Channel command RESUME returns HELD to RUNNING or cancels a pending pause. -/
  | channelResume (acc : Access) (c : Fin 16)
  /-- CHANNEL_STOP (R141): Channel command STOP makes a safe stop of a RUNNING or HELD channel. -/
  | channelStop (acc : Access) (c : Fin 16)
  /-- CHANNEL_RESET (R112): Channel command RESET empties the Bobbin, releases the ring and starts resync. -/
  | channelReset (acc : Access) (c : Fin 16)
  /-- HOOP_ENABLE_WRITE (R128): A write of 1 to HOOP_ENABLE in READY runs the table CRC and Z-plane checks. -/
  | hoopEnableWrite (acc : Access) (c : Fin 16) (v : Nat) (tableOk : Bool)
  /-- BLOCK_FETCH (R110): The SCU fetches the next ring block into a free Bobbin slot and checks it under parity. -/
  | blockFetch (c : Fin 16) (ok : Bool)
  /-- DESCRIPTOR_LOOKAHEAD (R114): A descriptor enters the 16-deep look-ahead and is checked. -/
  | descriptorLookahead (c : Fin 16) (ok : Bool)
  /-- SCU_SAMPLE (R103): At its trigger the SCU computes and corrects the X, Y and Z set-points and posts gate and power to MPL. -/
  | scuSample (c : Fin 16) (ok : Bool)
  /-- JUMP (R116): Descriptor JUMP moves rest to rest with the gate closed, then settles. -/
  | jump (c : Fin 16)
  /-- MARK (R117): Descriptor MARK moves in a straight line at SPEED with the gate open, skywritten or delayed. -/
  | mark (c : Fin 16)
  /-- ARC (R119): Descriptor ARC marks about a centre through SWEEP. -/
  | arc (c : Fin 16)
  /-- DWELL (R120): Descriptor DWELL holds a point for DURATION, with the gate open when POWER is non-zero. -/
  | dwell (c : Fin 16)
  /-- POWER (R130): Descriptor POWER sets the modulation mode and pulse fields for later marking descriptors. -/
  | power (c : Fin 16)
  /-- WAIT_TIME (R121): Descriptor WAIT_TIME holds at rest until device time reaches TIME. -/
  | waitTime (c : Fin 16)
  /-- WAIT_TIME_REACHED (R121): Device time reaches the waited TIME and execution continues. -/
  | waitTimeReached (c : Fin 16)
  /-- WAIT_EVENT (R121): Descriptor WAIT_EVENT holds at rest until the named capture unit records a new capture. -/
  | waitEvent (c : Fin 16)
  /-- WAIT_EVENT_TIMEOUT (R121): TIMEOUT expires before the capture; the channel continues or stops with WAIT_TIMEOUT. -/
  | waitEventTimeout (c : Fin 16)
  /-- SEAM_POINT (R123): Descriptor SEAM_POINT marks an instant at which a due table swap takes effect. -/
  | seamPoint (c : Fin 16)
  /-- CAL_MARK (R226): Descriptor CAL_MARK executes a dot, line or cross calibration mark and logs it. -/
  | calMark (c : Fin 16)
  /-- LINK (R122): Descriptor LINK checks and executes a linked block in shared SRAM with an offset, then returns. -/
  | linkBlock (c : Fin 16)
  /-- END (R124): Descriptor END brings the channel to rest, optionally parks, records the layer and enters IDLE. -/
  | endDescr (c : Fin 16)
  /-- READY_TIMEOUT (R131): LP_STS does not show ready within READY_TIMEOUT of LP_EN, raising LASER_NOT_READY. -/
  | readyTimeout (c : Fin 16)
  /-- LP_STS_CHANGE (R131): LP_STS[c] changes, clearing LASER_NOT_READY or raising LASER_STATUS. -/
  | lpStsChange (c : Fin 16) (level : Bool)
  /-- SOS_TIMEOUT (R135): No start-of-scan edge within SOS_TIMEOUT while RUNNING raises SOS_LOSS. -/
  | sosTimeout (c : Fin 16)
  /-- TRIGGER_EDGE (R361): A trigger edge falls at its instant and starts its consumers' samples, updates and paced rows. -/
  | triggerEdge (n : Fin 32)
  /-- SLOT_EVALUATION (R158): A free evaluation unit evaluates a slot's control law on its feedback word and writes the output code. -/
  | slotEvaluation (n : Fin 64) (code : Int) (ok : Bool) (wait : Nat) (stateOk : Bool) (readOk : Bool)
  /-- LINE_BREAK (R155): A feedback leg stays outside its window for 2 us and the line-break flag is set. -/
  | lineBreak (n : Fin 64) (broken : Bool)
  /-- CLOSE (R167): Slot command CLOSE starts the slot in RUN without a bump. -/
  | slotClose (acc : Access) (n : Fin 64)
  /-- OPEN (R169): Slot command OPEN ramps a running slot down to OFF. -/
  | slotOpen (acc : Access) (n : Fin 64)
  /-- SLOT_RESET (R169): Slot command RESET clears fault bits and returns COAST to OFF once the output is zero. -/
  | slotReset (acc : Access) (n : Fin 64)
  /-- RC_LEARN (R165): Slot command RC_LEARN sets the repetitive controller to LEARNING. -/
  | rcLearn (acc : Access) (n : Fin 64)
  /-- RC_FREEZE (R165): Slot command RC_FREEZE freezes the repetitive controller memory. -/
  | rcFreeze (acc : Access) (n : Fin 64)
  /-- RC_CLEAR (R165): Slot command RC_CLEAR zeroes the memory and turns the controller OFF. -/
  | rcClear (acc : Access) (n : Fin 64)
  /-- SLOT_MODE_WRITE (R172): A MODE write in RUN starts a hand-over, or sets the mode used at the next CLOSE. -/
  | slotModeWrite (acc : Access) (n : Fin 64) (v : Nat)
  /-- BQ_ENABLE_WRITE (R159): Setting a biquad enable bit in RUN initialises its states to steady state. -/
  | bqEnableWrite (acc : Access) (n : Fin 64) (v : Nat)
  /-- RC_CONFIG_WRITE (R165): A write to RC_SOURCE, RC_LEN, RC_PARAM or RC_CPR clears the repetitive memory. -/
  | rcConfigWrite (acc : Access) (n : Fin 64) (sub : Fin 4) (v : Nat)
  /-- FAULT_HOLD_EXPIRY (R170): FAULT_HOLD elapses and a slot held after GO_CONFIG or FAULT entry enters RAMP_DOWN. -/
  | faultHoldExpiry (n : Fin 64)
  /-- MPL_UPDATE (R186): Every 160 ns the MPL forms signal, speed ratio and correction and drives LP_OUT and LP_MOD. -/
  | mplUpdate (c : Fin 16) (a : List Nat) (b : List Nat) (ok : Bool) (readOk : Bool)
  /-- GATE_MISMATCH (R193): The two gate paths disagree for 2 CECLK cycles and the gate is latched closed. -/
  | gateMismatch (c : Fin 16) (pathA : Bool) (pathB : Bool)
  /-- ZONE_ENABLE_WRITE (R205): A write to a zone or overlap ENABLE puts it in WITHDRAWN or DISABLED. -/
  | zoneEnableWrite (acc : Access) (w : Fin 192) (v : Nat)
  /-- JOIN (R211): Zone command JOIN schedules a return to NORMAL at JOIN_TIME. -/
  | join (acc : Access) (w : Fin 192)
  /-- CANCEL_JOIN (R211): Zone command CANCEL_JOIN returns a JOINING zone to its previous state. -/
  | cancelJoin (acc : Access) (w : Fin 192)
  /-- JOIN_TIME_REACHED (R211): Device time reaches JOIN_TIME and a JOINING zone becomes NORMAL. -/
  | joinTimeReached
  /-- TAKEOVER_COLLECTION_CLOSE (R206): 1 us after the first takeover event the unit sends one ALARM listing the failed channels or heads. -/
  | takeoverCollectionClose
  /-- TAKEOVER_INSTANT (R210): At the takeover instant zones enter TAKEN, WITHDRAWN or UNCOVERED and records are queued. -/
  | takeoverInstant
  /-- REPORT_POP (R216): A write of 1 to POP removes the oldest unmarked-region record. -/
  | reportPop (acc : Access) (v : Nat)
  /-- UPDATE_START (R235): Update command START begins checking a table update toward the target. -/
  | updateStart (acc : Access) (u : Fin 48)
  /-- UPDATE_RESUME (R235): Update command RESUME rechecks a halted update from the step not made. -/
  | updateResume (acc : Access) (u : Fin 48)
  /-- UPDATE_ABORT (R235): Update command ABORT ends the update, leaving the active table. -/
  | updateAbort (acc : Access) (u : Fin 48)
  /-- UPDATE_ROLLBACK (R235): Update command ROLLBACK copies the retained copy to the target and updates toward it. -/
  | updateRollback (acc : Access) (u : TableRead)
  /-- UPDATE_INSTALL (R235): Update command INSTALL copies the target into both buffers and writes the retained copy. -/
  | updateInstall (acc : Access) (u : Fin 48) (ok : Bool)
  /-- CHECKS_COMPLETE (R236): CAL finishes the update checks and builds a step, refuses, or returns. -/
  | checksComplete (u : Fin 48) (ok : Bool)
  /-- STEP_BUILT (R239): A step is built and verified in the pending buffer and the update is SCHEDULED. -/
  | stepBuilt (u : Fin 48) (ok : Bool) (verified : Bool) (off : Nat)
  /-- SWAP_WINDOW_EXPIRY (R240): T_k + WINDOW passes without a swap and the update halts EXPIRED. -/
  | swapWindowExpiry (u : Fin 48)
  /-- CAL_COPY_WRITE (R222): CAL writes a queued retained copy through the staging slot and verifies it. -/
  | calCopyWrite (ok : CopyOutcome)
  /-- LOAD_RECORD (R224): CAL takes a whole load record from its stream ring into a target buffer and checks it. -/
  | loadRecord (ok : Bool)
  /-- PAT_REQUEST (R233): PAT_COMMAND REQUEST queues a calibration pattern for a group. -/
  | patRequest (acc : Access) (g : Fin 4)
  /-- PAT_CLEAR (R233): PAT_COMMAND CLEAR empties the group's pattern queue. -/
  | patClear (acc : Access) (g : Fin 4)
  /-- ENCODER_EDGE (R249): A quadrature edge counts and updates the MTU high-water mark and interpolation. -/
  | encoderEdge (e : Fin 6) (a : Bool) (b : Bool)
  /-- ENCODER_Z (R250): A rising Z edge latches count and time and may zero the count. -/
  | encoderZ (e : ZEdge)
  /-- ENCODER_LOSS (R250): Encoder signal loss is detected and recorded with its users' faults. -/
  | encoderLoss (e : Fin 6) (leg : Fin 3) (broken : Bool)
  /-- ENCODER_CLEAR (R250): Encoder command CLEAR clears a loss whose condition is gone. -/
  | encoderClear (acc : Access) (e : Fin 6)
  /-- ENCODER_ZERO (R250): Encoder command ZERO sets the count to 0. -/
  | encoderZero (acc : Access) (e : Fin 6)
  /-- SOS_EDGE (R258): A selected start-of-scan edge latches the swath origin or starts a raster line. -/
  | sosEdge (input : Fin 8) (rising : Bool)
  /-- FIX_INSTANT (R262): A waiting group's start conditions hold: the pass row and maps are fixed and slice fetch starts. -/
  | fixInstant (g : Fin 4)
  /-- SLICE_FETCH (R261): PEN fetches a raster slice into its line buffer and checks it. -/
  | sliceFetch (g : Fin 4) (ok : Bool)
  /-- DATA_SEND (R270): PEN sends a DATA frame for the next event of a head when fewer than DEPTH are outstanding. -/
  | dataSend (h : Fin 32) (ok : Bool)
  /-- ACK (R270): A head board ACK frame acknowledges DATA events. -/
  | ackFrame (l : Fin 8) (body : List Nat)
  /-- ACK_TIMEOUT (R270): An unacknowledged DATA frame is resent, up to RETRIES times. -/
  | ackTimeout (h : Fin 32)
  /-- FIRE_STROBE (R255): A FIRE output reaches its column instant, strobes or suppresses, and commits the next column. -/
  | fireStrobe (f : Fin 16)
  /-- SWATH_END (R264): The last column is fired or suppressed on every output and the group feeds or holds. -/
  | swathEnd (g : Fin 4)
  /-- FEED_SETTLE_EXPIRY (R264): FEED_SETTLE after the feed completes and the group can take the next swath. -/
  | feedSettleExpiry (g : Fin 4)
  /-- STATUS (R272): A head board STATUS frame updates temperature, drive faults and commit misses. -/
  | statusFrame (l : Fin 8) (body : List Nat)
  /-- NOZZLE (R280): A head board NOZZLE frame writes nozzle failure and recovery records. -/
  | nozzleFrame (l : Fin 8) (body : List Nat)
  /-- WACK (R273): A head board WACK frame sets WAVE_OK for heads using the set. -/
  | wackFrame (l : Fin 8) (body : List Nat)
  /-- CTRL_RSP (R269): A head board CTRL_RSP frame completes a control access. -/
  | ctrlRsp (l : Fin 8) (body : List Nat)
  /-- LINK_HEARTBEAT (R268): A head board heartbeat gives DEPTH and ports and keeps the link UP. -/
  | linkHeartbeat (l : Fin 8) (depth : Nat) (ports : Nat)
  /-- LINK_HEARTBEAT_TIMEOUT (R268): No heartbeat for 40 us takes the head link DOWN and raises HEAD_LINK_DOWN. -/
  | linkHeartbeatTimeout (l : Fin 8)
  /-- CTRL_WRITE (R269): CTRL_COMMAND write sends a CTRL register write to a head board. -/
  | ctrlWrite (acc : Access) (l : Fin 8)
  /-- CTRL_READ (R269): CTRL_COMMAND read sends a CTRL register read to a head board. -/
  | ctrlRead (acc : Access) (l : Fin 8)
  /-- CTRL_TIMEOUT (R269): No CTRL_RSP within 10 ms sets CTRL_STATUS 0xFFFF. -/
  | ctrlTimeout (l : Fin 8)
  /-- PICOT_STORE (R267): Picot command STORE writes the retained copy of the selected set. -/
  | picotStore (acc : Access) (ok : Bool)
  /-- PICOT_SEND (R273): Picot command SEND sends the selected set to every link with a head using it. -/
  | picotSend (acc : Access)
  /-- PICOT_CHECK (R266): Picot command CHECK checks every picot set and updates SET_OK. -/
  | picotCheck (acc : Access) (bad : Nat)
  /-- HEAD_TEMP_READING (R277): The 1 ms head temperature reading updates TEMP and the WARN or HARD state. -/
  | headTempReading (h : Fin 32) (code : Fin 4096)
  /-- GATE_INPUT_CHANGE (R278): A GATE input changes after its filter and applies its action. -/
  | gateInputChange (n : Fin 12) (level : Bool)
  /-- GROUP_ENABLE (R281): Group command ENABLE moves OFF to IDLE with resync. -/
  | groupEnable (acc : Access) (g : Fin 4)
  /-- GROUP_DISABLE (R281): Group command DISABLE moves IDLE or HALTED to OFF. -/
  | groupDisable (acc : Access) (g : Fin 4)
  /-- GROUP_START (R281): Group command START moves IDLE to WAITING. -/
  | groupStart (acc : Access) (g : Fin 4)
  /-- GROUP_PAUSE (R281): Group command PAUSE returns the group to IDLE, after the feed where one runs. -/
  | groupPause (acc : Access) (g : Fin 4)
  /-- GROUP_RESUME (R281): Group command RESUME cancels a pause or feeds the held feed. -/
  | groupResume (acc : Access) (g : Fin 4)
  /-- GROUP_STOP (R281): Group command STOP halts the group. -/
  | groupStop (acc : Access) (g : Fin 4)
  /-- GROUP_RESET (R281): Group command RESET empties the line buffer and resyncs. -/
  | groupReset (acc : Access) (g : Fin 4)
  /-- AXIS_UPDATE (R286): At its trigger the axis applies causes and commands and computes the next set-point. -/
  | axisUpdate (a : Fin 8) (ok : Bool)
  /-- AXIS_ENABLE (R307): Axis command ENABLE moves OFF to IDLE. -/
  | axisEnable (acc : Access) (a : Fin 8)
  /-- AXIS_DISABLE (R307): Axis command DISABLE moves IDLE or HALTED to OFF. -/
  | axisDisable (acc : Access) (a : Fin 8)
  /-- MOVE_ABS (R288): Axis command MOVE_ABS starts or retargets a trapezoidal move to TARGET. -/
  | moveAbs (acc : Access) (a : Fin 8)
  /-- MOVE_REL (R288): Axis command MOVE_REL starts or retargets a move by DISTANCE. -/
  | moveRel (acc : Access) (a : Fin 8)
  /-- RUN_TABLE (R294): Axis command RUN_TABLE starts the selected segment table. -/
  | runTable (acc : Access) (a : Fin 8) (ok : Bool)
  /-- SWITCH_TABLE (R295): Axis command SWITCH_TABLE arms a switch to segment 0 of the selected table. -/
  | switchTable (acc : Access) (a : Fin 8)
  /-- AXIS_STOP (R296): Axis command STOP makes a programmed stop. -/
  | axisStop (acc : Access) (a : Fin 8)
  /-- QUICK_STOP (R297): Axis command QUICK_STOP makes an emergency stop at ESTOP_DECEL. -/
  | quickStop (acc : Access) (a : Fin 8)
  /-- AXIS_RESET (R307): Axis command RESET clears faults and returns HALTED or COAST to IDLE. -/
  | axisReset (acc : Access) (a : Fin 8)
  /-- SET_POSITION (R307): Axis command SET_POSITION sets an open-loop position to TARGET. -/
  | setPosition (acc : Access) (a : Fin 8)
  /-- PWM_PERIOD (R300): Each PWM period the drive computes bridge voltages and duty times. -/
  | pwmPeriod (a : Fin 8) (codes : List Nat)
  /-- INPOS_TIMEOUT (R291): INPOS_TIMEOUT elapses after landing without completion. -/
  | inposTimeout (a : Fin 8)
  /-- HOLD_DELAY_EXPIRY (R299): A stepper at rest for HOLD_DELAY switches to V_HOLD. -/
  | holdDelayExpiry (a : Fin 8)
  /-- VBUS_FAULT (R301): VBUS stays outside its limits for 100 us, raising VBUS_LOW or VBUS_HIGH. -/
  | vbusFault (b : Fin 2) (codes : List Nat)
  /-- FRAME_START (R318): A CSI Frame Start opens a frame in its context and stamps its capture time. -/
  | frameStart (p : Fin 2) (vc : Fin 16) (num : Fin 65536) (ecc : Bool)
  /-- CSI_LINE (R319): A CSI long packet line enters its context FIFO or is discarded. -/
  | csiLine (p : Fin 2) (vc : Fin 16) (dt : Fin 64) (d : List Nat) (crcOk : Bool) (ecc : Bool)
  /-- FRAME_END (R318): A CSI Frame End closes the open frame. -/
  | frameEnd (p : Fin 2) (vc : Fin 16) (ecc : Bool)
  /-- CSI_PACKET (R315): A CSI packet of another kind is routed or discarded, with header ECC and CRC checks. -/
  | csiPacket (p : Fin 2) (vc : Fin 16) (dt : Fin 64) (ecc : Fin 3) (sotOk : Bool) (crcOk : Bool)
  /-- FRAME_TIMEOUT (R318): A frame open for FRAME_TIMEOUT closes with TIMEOUT. -/
  | frameTimeout (k : Fin 16)
  /-- LINE_GRANT (R321): The arbiter grants the pipeline to a context with a whole line, which passes the pipeline stages. -/
  | lineGrant (ok : Bool)
  /-- FRAME_RECORD (R332): After every write of a closed frame is answered, its frame record is written and the context interrupt raised. -/
  | frameRecord (k : Fin 16)
  /-- CONTEXT_ENABLE_WRITE (R317): A write to a context ENABLE checks and enables it, or discards its lines and closes its frame. -/
  | contextEnableWrite (acc : Access) (k : Fin 16) (v : Nat)
  /-- OUTPUT_ENABLE_WRITE (R326): A write of 1 to an output ENABLE checks the buffer ring. -/
  | outputEnableWrite (acc : Access) (k : Fin 16) (n : Fin 3) (v : Nat)
  /-- PROF_ENABLE_WRITE (R330): A write of PROF_ENABLE checks that the ROI divides into BANDS. -/
  | profEnableWrite (acc : Access) (k : Fin 16) (v : Nat)
  /-- DETECT_PROBE (R341): Every 100 us a lane in DETECT probes for far-end termination. -/
  | detectProbe (l : Fin 16) (present : Bool)
  /-- SYMBOL_LOCK (R342): A training lane gains symbol or block lock and enters CAPABILITY. -/
  | symbolLock (l : LaneMarks)
  /-- TRAIN_TIMEOUT (R341): 20 ms in TRAIN without lock returns the lane to DETECT. -/
  | trainTimeout (l : Fin 16)
  /-- CAP (R344): A received CAP ordered set advances capability exchange or changes the port lane mask. -/
  | capSet (l : Fin 16) (d1 : Nat) (d2 : Nat) (d3 : Nat) (skewOk : Bool)
  /-- CAPABILITY_TIMEOUT (R341): 4 ms in CAPABILITY without success returns the lane to DETECT. -/
  | capabilityTimeout (l : Fin 16)
  /-- LOSS_OF_LOCK (R342): A lane loses lock and returns to DETECT or the port degrades or goes DOWN. -/
  | lossOfLock (l : Fin 16) (errs : List Nat) (cut : Option Frame)
  /-- SINGLE_LANE_TIMEOUT (R346): 4 ms after one lane of a two-lane port succeeds alone, the port comes up on that lane. -/
  | singleLaneTimeout (p : Fin 2)
  /-- RETRAIN (R356): Lane command RETRAIN sends the lane to DETECT. -/
  | retrain (acc : Access) (l : Fin 16)
  /-- RELOAD_EQ (R340): Lane command RELOAD_EQ rereads the board equalisation table for the lane. -/
  | reloadEq (acc : Access) (l : Fin 16)
  /-- TEST_START (R354): Lane command TEST_START puts the lane in TEST sending its pattern. -/
  | testStart (acc : Access) (l : Fin 16)
  /-- TEST_STOP (R354): Lane command TEST_STOP ends the test and returns the lane to its user. -/
  | testStop (acc : Access) (l : Fin 16)
  /-- LANE_PLL (R355): A lane PLL loses lock and its lanes in use enter DETECT. -/
  | lanePll (g : Fin 4) (fam : Fin 4)
  /-- MAC_FRAME_RECEIVE (R351): An Ethernet frame is received, filtered and routed to the gateway or the receive ring. -/
  | macFrameReceive (m : Fin 2) (d : List Nat) (fcsOk : Bool) (fec : Nat)
  /-- TX_TAIL_WRITE (R352): Firmware advances TX_TAIL and the MAC starts sending the new slots. -/
  | txTailWrite (acc : Access) (m : Fin 2) (v : Nat)
  /-- MAC_FRAME_SENT (R352): A transmitted frame has left; its slot is stamped, marked DONE and TX_HEAD advances. -/
  | macFrameSent (m : Fin 2) (ok : Bool)
  /-- ETH_LINK (R350): The MAC link state changes between UP and a fault state. -/
  | ethLink (m : Fin 2) (st : Fin 4) (hiBer : Bool) (fecBad : Nat)
  /-- INCREMENT_WRITE (R359): A write to INCREMENT or ADJ_INCREMENT takes effect from the next tick. -/
  | incrementWrite (acc : Access) (adj : Bool) (v : Nat)
  /-- ADJ_TICKS_WRITE (R359): A write to ADJ_TICKS starts, restarts or ends a rate adjustment. -/
  | adjTicksWrite (acc : Access) (v : Nat)
  /-- ADJ_TICKS_EXPIRY (R359): ADJ_TICKS counts down to zero and INCREMENT alone is in force. -/
  | adjTicksExpiry
  /-- TIME_STEP (R360): A TIME_STEP write adds its value to device time at the next tick. -/
  | timeStep (acc : Access) (v : Int)
  /-- TRIGGER_CONFIG_WRITE (R362): A write of MODE, START or PERIOD restarts the trigger on its new grid. -/
  | triggerConfigWrite (acc : Access) (n : Fin 32) (sub : Fin 3) (v : Nat)
  /-- TRIGGER_ARM (R363): A write to AT arms or re-arms a ONE_SHOT trigger. -/
  | triggerArm (acc : Access) (n : Fin 32) (v : Nat)
  /-- PULSE (R364): Trigger command PULSE gives an edge at the next tick in PULSED mode. -/
  | pulse (acc : Access) (n : Fin 32)
  /-- CANCEL (R363): Trigger command CANCEL disarms a ONE_SHOT trigger. -/
  | cancel (acc : Access) (n : Fin 32)
  /-- CAPTURE_EVENT (R368): A capture source event is stamped, counted and appended to the FIFO. -/
  | captureEvent (pin : Fin 32) (rising : Bool)
  /-- CAPTURE_POP (R368): A write to POP removes the oldest capture stamp. -/
  | capturePop (acc : Access) (n : Fin 32) (v : Nat)
  /-- CAPTURE_CONFIG_WRITE (R368): A write to SOURCE or EDGE empties the capture FIFO. -/
  | captureConfigWrite (acc : Access) (n : Fin 32) (edge : Bool) (v : Nat)
  /-- DELAY_REQ_SEND (R370): Every DELAY_INTERVAL the unit sends a stamped DELAY_REQ to its neighbour. -/
  | delayReqSend (p : Fin 2)
  /-- DELAY_RSP_TIMEOUT (R370): No DELAY_RSP within 10 us counts in DELAY_FAILS. -/
  | delayRspTimeout (p : Fin 2)
  /-- SYNC_SEND (R371): A SYNC master sends a SYNC at each whole multiple of SYNC_INTERVAL. -/
  | syncSend
  /-- DRAM_REQUEST (R383): A DRAM access enters its channel queue, a write being answered on entry. -/
  | dramRequest (master : Fin 256) (write : Bool) (addr : Nat) (len : Nat) (data : List Nat)
  /-- DRAM_ISSUE (R383): The scheduler issues a queued burst whose bank is free. -/
  | dramIssue (ch : Fin 2) (ok : Bool)
  /-- DRAM_READ_DATA (R388): Read data returns and is checked for parity, freezing the controller on error. -/
  | dramReadData (ch : Fin 2) (bad : Nat)
  /-- DRAM_ALERT (R388): ALERT_n goes low on a channel, freezing a RUNNING controller. -/
  | dramAlert (ch : Fin 2) (low : Bool)
  /-- REFRESH_INTERVAL (R386): A tREFI interval falls due and is served or postponed. -/
  | refreshInterval
  /-- MR4_POLL (R386): Every 1 ms the controller reads MR4 and sets the refresh interval. -/
  | mr4Poll (hot : Bool)
  /-- OSC_RUN (R387): Every OSC_INTERVAL the DQS oscillator runs and write delays track drift. -/
  | oscRun (counts : List Nat)
  /-- UNFREEZE (R391): Command UNFREEZE empties the queues and returns a frozen controller to RUNNING. -/
  | unfreeze (acc : Access)
  /-- DEBUG_READ (R390): DEBUG_COMMAND READ reads a burst bypassing queue and parity check. -/
  | debugRead (acc : Access) (bad : Nat)
  /-- PPR_SOFT (R394): PPR_COMMAND SOFT starts a soft post-package repair of a row. -/
  | pprSoft (acc : Access)
  /-- PPR_HARD (R394): PPR_COMMAND HARD starts a hard post-package repair of a row. -/
  | pprHard (acc : Access)
  /-- PPR_COMPLETE (R394): A repair ends with its result and a soft repair is listed. -/
  | pprComplete (resource : Bool) (verified : Bool)
  /-- BEGIN (R392): TRAIN_COMMAND BEGIN enters TRAINING. -/
  | trainBegin (acc : Access)
  /-- TRAIN_END (R397): TRAIN_COMMAND END checks every rank and enters RUNNING or stays TRAINING. -/
  | trainEnd (acc : Access) (pass : Bool) (osc : List Nat)
  /-- TRAIN_ABORT (R392): TRAIN_COMMAND ABORT returns the controller to UNTRAINED. -/
  | trainAbort (acc : Access)
  /-- MRW (R396): MR_COMMAND MRW writes a mode register on every device of the selected rank. -/
  | mrw (acc : Access)
  /-- MRR (R396): MR_COMMAND MRR reads each device's mode register into MR_READ. -/
  | mrr (acc : Access) (val : Nat)
  /-- MPC (R396): MR_COMMAND MPC sends MR_DATA as an MPC opcode. -/
  | mpc (acc : Access)
  /-- MRW_LANE (R396): MR_COMMAND MRW_LANE writes the selected lane's device only. -/
  | mrwLane (acc : Access)
  /-- PAT_WRITE (R396): PAT_COMMAND WRITE writes PAT_BURSTS pattern bursts from PAT_OFFSET. -/
  | patWrite (acc : Access)
  /-- PAT_COMPARE (R396): PAT_COMMAND COMPARE reads the bursts back and records failing bits. -/
  | patCompare (acc : Access)
  /-- SAMPLE (R396): PAT_COMMAND SAMPLE sends one training sample as MODE selects. -/
  | sample (acc : Access)
  /-- PAT_COMPLETE (R396): A pattern engine command finishes and PAT_BUSY clears. -/
  | patComplete (bits : Nat) (errs : Nat)
  /-- DMA_ARM (R410): A write to ARM checks the shadow set and arms it. -/
  | dmaArm (acc : Access) (d : Fin 32) (v : Nat)
  /-- HAND_OVER (R408): The active count reaches zero and an armed shadow becomes active. -/
  | handOver (d : Fin 32)
  /-- SHADOW_TAKE (R409): A channel takes an armed shadow at an edge other than a hand-over edge and sets GAP. -/
  | shadowTake (d : Fin 32)
  /-- DESCRIPTOR_FETCH (R411): In ring mode the engine fetches and checks the descriptor at HEAD into the shadow. -/
  | descriptorFetch (d : Fin 32) (ok : Bool)
  /-- DMA_STOP (R412): Channel command STOP stops the channel or lets its transfer finish. -/
  | dmaStop (acc : Access) (d : Fin 32)
  /-- DMA_START (R412): Channel command START resumes a stopped or stopping channel. -/
  | dmaStart (acc : Access) (d : Fin 32)
  /-- DMA_CLEAR (R412): Channel command CLEAR clears the channel flags. -/
  | dmaClear (acc : Access) (d : Fin 32)
  /-- DMA_ENABLE_WRITE (R413): A write to ENABLE stops the channel at once or enables it to IDLE. -/
  | dmaEnableWrite (acc : Access) (d : Fin 32) (v : Nat)
  /-- DMA_BURST (R415): The engine grants one read or write burst to a channel by priority. -/
  | dmaBurst (bad : Nat)
  /-- TRANSFER_COMPLETE (R414): A transfer completes, with writeback and a completion record. -/
  | transferComplete (d : Fin 32)
  /-- CQ_TAIL_WRITE (R418): A queue TAIL write frees room and releases a record held under WAIT. -/
  | cqTailWrite (acc : Access) (q : Fin 8) (v : Nat)
  /-- LATE_ERROR_RESPONSE (R416): A write error arrives after an unfenced completion and sets LATE_ERROR. -/
  | lateErrorResponse (d : Fin 32) (addr : Nat)
  /-- AP_RUN_WRITE (R423): SV sets or clears AP_RUN bits, starting or resetting AP harts. -/
  | apRunWrite (hart : Fin 5) (machine : Bool) (v : Nat)
  /-- FABRIC_ACCESS (R447): A master's access enters the fabric and is checked by firewall, map and parity. -/
  | fabricAccess (m : Fin 256) (machine : Bool) (use : BusUse) (size : Nat) (addr : Nat) (v : Nat) (reqOk : Bool) (bad : Nat)
  /-- REMOTE_PMP_WRITE (R445): SV writes an AP hart's PMP registers through the remote PMP block. -/
  | remotePmpWrite (hart : Fin 5) (machine : Bool) (h : Fin 4) (off : Fin 256) (v : Nat)
  /-- CBO_CLEAN (R428): cbo.clean writes a dirty L1 line to the L2 and keeps it. -/
  | cboClean (h : Fin 4) (addr : Nat)
  /-- CBO_FLUSH (R428): cbo.flush writes a line to the L2 and invalidates it in every AP L1. -/
  | cboFlush (h : Fin 4) (addr : Nat)
  /-- CBO_INVAL (R428): cbo.inval invalidates a line in every AP L1. -/
  | cboInval (h : Fin 4) (mode : Fin 4) (addr : Nat)
  /-- FENCE_W_O (R428): fence w,o holds later I/O writes until earlier writes and cleans are accepted. -/
  | fenceWO (h : Fin 5)
  /-- FENCE_I_R (R428): fence i,r holds later loads until earlier I/O reads return. -/
  | fenceIR (h : Fin 4)
  /-- FENCE_I (R425): fence.i makes new code visible to the hart's instruction fetch. -/
  | fenceI (h : Fin 5)
  /-- WFI (R460): SV executes wfi, which begins a pending NAP entry. -/
  | wfi
  /-- CHECK_A (R437): Image command CHECK_A checks the image in slot A. -/
  | checkA (acc : Access)
  /-- CHECK_B (R437): Image command CHECK_B checks the image in slot B. -/
  | checkB (acc : Access)
  /-- IMAGE_CHECK_COMPLETE (R437): An image check completes with its result and raises PLIC source 65. -/
  | imageCheckComplete
  /-- INVALIDATE_A (R452): Image command INVALIDATE_A zeroes the MAGIC of slot A. -/
  | invalidateA (acc : Access)
  /-- INVALIDATE_B (R452): Image command INVALIDATE_B zeroes the MAGIC of slot B. -/
  | invalidateB (acc : Access)
  /-- CONFIRM (R438): Image command CONFIRM ends a boot trial and stops its timer. -/
  | confirm (acc : Access)
  /-- TRIAL_TIMEOUT (R438): An unconfirmed trial ends and the unit warm-resets with the slot marked FAILED. -/
  | trialTimeout
  /-- MRAM_WRITE (R439): MRAM command WRITE copies a buffer into MRAM with readback. -/
  | mramWrite (acc : Access)
  /-- MRAM_COMPARE (R439): MRAM command COMPARE compares a buffer with MRAM. -/
  | mramCompare (acc : Access)
  /-- MRAM_ZERO (R439): MRAM command ZERO writes zeros over a span of MRAM. -/
  | mramZero (acc : Access)
  /-- MRAM_COMMAND_COMPLETE (R439): An MRAM command ends with its result and raises PLIC source 64. -/
  | mramCommandComplete (fail : Option Nat)
  /-- OTP_READ (R452): OTP command READ reads a word into OTP_DATA. -/
  | otpRead (acc : Access)
  /-- OTP_PROGRAM (R441): OTP command PROGRAM sets bits of an OTP word in SERVICE. -/
  | otpProgram (acc : Access) (ok : Bool)
  /-- DEBUG_MODULE_ACCESS (R443): A DMI access reaches the debug module or is refused when it is not reachable. -/
  | debugModuleAccess (write : Bool) (addr : Fin 128) (data : Nat)
  /-- NAP (R460): Power command NAP is checked and pends until SV executes wfi. -/
  | nap (acc : Access)
  /-- NAP_ENTRY_TIMEOUT (R460): SV does not execute wfi within 10 ms and the NAP entry is abandoned. -/
  | napEntryTimeout
  /-- HOLD (R465): Power command HOLD is accepted and answered. -/
  | hold (acc : Access)
  /-- HOLD_ENTRY (R465): The unit ends its state, stops its ports, saves the hold image and lowers its rails. -/
  | holdEntry
  /-- WAKE_EVENT (R468): An enabled wake source asserts and the unit returns from NAP or HOLD. -/
  | wakeEvent (pins : Fin 16) (bad : Nat)
  /-- WAKE_TIMER (R468): TIMER_MS counted in SRC cycles expires as a wake source. -/
  | wakeTimer
  /-- DOMAIN_ENABLE_WRITE (R456): A write to the RUN domain ENABLE power-gates or powers up domains. -/
  | domainEnableWrite (acc : Access) (v : Nat)
  /-- DOMAIN_POWERED (R457): A powered-up domain finishes cold initialisation and its POWERED bit sets. -/
  | domainPowered (d : Fin 15)
  /-- DOMAIN_IDLE (R455): A domain with all blocks off and no access for 64 cycles stops its clock. -/
  | domainIdle (d : Fin 15)
  /-- PAD_RELEASE (R480): A write to RELEASE releases held pads of the named domains. -/
  | padRelease (acc : Access) (v : Nat)
  /-- PLL_ENABLE_WRITE (R472): A write to PLL_ENABLE starts or stops PLLs. -/
  | pllEnableWrite (acc : Access) (v : Nat)
  /-- PLL_LOCK (R14): A started PLL reaches lock. -/
  | pllLock (n : Fin 4)
  /-- CLOCK_SOURCE_WRITE (R472): A write to SOURCE switches clocks to their locked PLLs. -/
  | clockSourceWrite (acc : Access) (v : Nat)
  /-- FAULT_OCCURRENCE (R487): The gatherer records a fault occurrence and applies its reaction. -/
  | faultOccurrence (code : Fin 128) (kind : Fin 14) (inst : Nat) (t : Nat)
  /-- REPORT_MERGE_EXPIRY (R493): The 1 ms merge window of a code ends and one FAULT_REPORT covers the merged occurrences. -/
  | reportMergeExpiry (code : Fin 128)
  /-- FAULT_LOG_POP (R492): A write to the fault log POP removes the oldest entry. -/
  | faultLogPop (acc : Access) (v : Nat)
  /-- ERR_CAPTURE_READ (R497): Reading both ERR_ADDR and ERR_MASTER re-arms the error capture. -/
  | errCaptureRead (who : Req) (master : Bool)
  /-- EMISSION_PIN (R486): An emission pad's ball level differs from its driven level for 20 ns. -/
  | emissionPin (out : Fin 48) (level : Bool) (missed : Bool)
  /-- DIE_TEMP (R496): The 10 ms mean junction temperature passes the limit of the ordering code. -/
  | dieTemp (t : Int)
  /-- SAMPLER_TICK (R500): A Sampler tick bins each quantity and closes the record after 4,096 ticks. -/
  | samplerTick (lin : List (Int × Int × Int))
  /-- WORK_AREA_WRITE (R498): Each second in RUN the Sampler writes the operating time to its work area. -/
  | workAreaWrite (a : Bool) (b : Bool)
  /-- CLOSE_NOW (R504): Sampler command CLOSE_NOW closes the interval as a SHORT record. -/
  | closeNow (acc : Access)
  /-- CLEAR_CIRCULATING (R506): Sampler command CLEAR_CIRCULATING empties the circulating area in SERVICE. -/
  | clearCirculating (acc : Access)
  /-- SAMPLER_CLEAR_COMPLETE (R506): The clearing of the circulating area completes. -/
  | samplerClearComplete
  /-- SAMPLER_SELECT (R505): A write to AREA or INDEX snapshots the selected record into the window. -/
  | samplerSelect (acc : Access) (index : Bool) (v : Nat)
  /-- PLIC_CLAIM (R432): A hart reads the PLIC claim register of its context, which takes the highest pending source and marks it claimed. -/
  | plicClaim (ctx : Fin 9)
  /-- PLIC_COMPLETE (R432): A hart writes the PLIC complete register, which ends the claim and lets the gateway forward the source again. -/
  | plicComplete (ctx : Fin 9) (src : Fin 128)
  /-- VBUS_RETURN (R311): VBUS returns inside VBUS_MIN to VBUS_MAX and the VBUS_LOW or VBUS_HIGH fault clears. -/
  | vbusReturn (b : Fin 2) (codes : List Nat)
  /-- DIE_TEMP_CLEAR (R496): The 10 ms mean junction temperature falls below the limit minus 5 degrees C and DIE_TEMP clears. -/
  | dieTempClear (t : Int)
  /-- CHECKER_LOCK (R354): The test-pattern checker of a lane in TEST locks after 64 correct bits and starts counting bits and errors. -/
  | checkerLock (l : LaneBits)
  /-- CHECKER_LOCK_LOSS (R354): The test-pattern checker loses lock at 32 errors within 64 bits. -/
  | checkerLockLoss (l : Fin 16) (errs : List Nat)
  /-- SKEW_CALIBRATION (R313): A CSI port receives a D-PHY skew calibration sequence, aligns its lanes and counts it in DESKEWS. -/
  | skewCalibration (p : Fin 2)
  /-- ULPS (R313): A CSI lane enters or leaves ULPS and the port STATE changes. -/
  | ulps (p : Fin 2) (enter : Bool)
  /-- LINK_HEARTBEAT_SEND (R268): PEN's 10 us head-link heartbeat interval expires and it sends a Heartbeat to the head board. -/
  | linkHeartbeatSend (l : Fin 8)
  /-- MALFORMED_LINK_FRAME (R269): A head link receives a frame with a bad HCRC or CRC-32, a bad end or an unknown type, discards it and counts it toward HEAD_LINK_CRC. -/
  | malformedLinkFrame (l : Fin 8) (kind : Fin 4)
  /-- TCK_EDGE (R443): A TCK edge, or TRST_N low, advances or resets the IEEE 1149.1 TAP, including boundary-scan instructions. -/
  | tckEdge (trstN : Bool) (rising : Bool) (tms : Bool) (tdi : Bool) (pins : List Bool)
  deriving DecidableEq, Repr

end Sys2Proof
end

