-- ==== Sys2Proof/Decode.lean ====
section
/-! DEFINITION. Decode: the commands of this block arrive as commands, not as words. No row of the opcode table gives bits, so no word spells a command. -/

namespace Sys2Proof

/-- The command that a word of `nbits` bits spells: none, since the table gives no row any bits. -/
def decodeTableWord (_nbits _w : Nat) : Option Instr := none

end Sys2Proof
end

