-- ==== Sys2Proof/Config.lean ====
section
/-! DEFINITION. Config: what the spec leaves open and what one part fixes: the free values (no body) and the fixed figures of the unit. -/

namespace Sys2Proof.Config

/-- A value the spec leaves open, one per use of the counter in State; nothing constrains it. -/
opaque freeValue : Nat → Word

/-- What a DRAM byte reads as after its contents were lost (R392, R420, R466), for the how-manyth loss and the address. -/
opaque dramByte : Nat → Nat → Byte

/-- What an open quantity reads as where the spec states no result for its operands: the first argument names the
quantity, the others are the operands. -/
opaque openValue : Nat → List Int → Int

/-- The code of the boot ROM (R15), which the spec does not give. -/
opaque romByte : Nat → Byte

end Sys2Proof.Config
end

