-- ==== Sys2Proof/Machine/Dict.lean ====
section
/-! DEFINITION. The dictionary of object dictionary entries (R35 to R42, R66): for every index family the subindexes with their type, access, writable states, Kept flag, default, accepted values and class restriction, taken from the entry tables of the section files. -/

namespace Sys2Proof.Machine.Dict

/-- The types of R37. -/
inductive Ty
  | bool | u8 | i8 | u16 | i16 | u32 | i32 | u64 | i64 | q18 | time | enum8 | bits32 | domain | string
  deriving DecidableEq, Repr

/-- The access classes of R42. -/
inductive Acc
  | ro | rw | wo
  deriving DecidableEq, Repr

/-- Which classes may write, where an entry's description restricts them (R45). -/
inductive WrCls
  | any | fm | fmfs | h | fs | hfm
  deriving DecidableEq, Repr

/-- One subindex, or a run of `n` equal ones, of an index. `st` is the writable-states mask of R43, `ok` the
accepted values (none listed: all of the type), `step` the granule of the value, `mask` the bits that are not
reserved (0: all), `cc` a count since cold start (R58), `dom` the granule, the meaning of length 0 and the
shared-SRAM-only flag of a DOMAIN length (R38). -/
structure Row where
  sub : Nat := 0
  n : Nat := 1
  ty : Ty
  acc : Acc := .ro
  st : Nat := 0
  kept : Bool := false
  dflt : Int := 0
  ok : List (Int × Int) := []
  step : Nat := 1
  mask : Nat := 0
  cls : WrCls := .any
  cc : Bool := false
  dom : Option (Nat × Bool × Bool) := none
  deriving DecidableEq, Repr

/-- A family of indexes `base + s1 * i + s2 * j` (i below n1, j below n2) with the same rows. -/
structure Fam where
  base : Nat
  s1 : Nat := 1
  n1 : Nat := 1
  s2 : Nat := 1
  n2 : Nat := 1
  rows : List Row
  deriving DecidableEq, Repr

/-- The assigned fault codes of R495. -/
def faultCodes : List Nat :=
  [0x01, 0x02, 0x03, 0x04, 0x05, 0x06, 0x07, 0x08, 0x09, 0x0A, 0x0B,
   0x10, 0x11, 0x12, 0x13, 0x14, 0x15, 0x16, 0x17, 0x18, 0x19, 0x1A,
   0x20, 0x21, 0x22, 0x23, 0x24, 0x28, 0x29, 0x2A, 0x2B, 0x2C,
   0x30, 0x31, 0x32, 0x33, 0x34, 0x35, 0x36, 0x37, 0x38, 0x39, 0x3A, 0x3B, 0x3C,
   0x40, 0x41, 0x42, 0x43, 0x44, 0x45, 0x48, 0x49, 0x4A,
   0x50, 0x51, 0x52, 0x53, 0x54, 0x55, 0x56, 0x58, 0x59, 0x5A, 0x5B, 0x5C,
   0x60, 0x61, 0x62, 0x63, 0x64, 0x68, 0x69, 0x6A, 0x6B, 0x6C, 0x6D, 0x6E, 0x6F]

/-- `0000`: Dir (R39). -/
def famDir : Fam :=
  { base := 0x0000, s1 := 1, n1 := 1, s2 := 1, n2 := 1,
    rows := [
      { sub := 0x01, ty := .u16, dflt := 256 },
      { sub := 0x02, ty := .u16 }] }

/-- `00tt`: TypeDesc (R39). -/
def famTypeDesc : Fam :=
  { base := 0x0001, s1 := 1, n1 := 15, s2 := 1, n2 := 1,
    rows := [
      { sub := 0x01, ty := .u8 }] }

/-- `0080`: Describe (R41). -/
def famDescribe : Fam :=
  { base := 0x0080, s1 := 1, n1 := 1, s2 := 1, n2 := 1,
    rows := [
      { sub := 0x01, ty := .u32, acc := .rw, st := 63, mask := 0xFFFFFF, cls := .h },
      { sub := 0x02, ty := .u64 },
      { sub := 0x03, ty := .u32, acc := .rw, st := 63, mask := 0xFFFFFF, cls := .fm },
      { sub := 0x04, ty := .u64 },
      { sub := 0x05, ty := .u32, acc := .rw, st := 63, mask := 0xFFFFFF, cls := .fs },
      { sub := 0x06, ty := .u64 }] }

/-- `0113`: WinAbort (R53). -/
def famWinAbort : Fam :=
  { base := 0x0113, s1 := 1, n1 := 1, s2 := 1, n2 := 1,
    rows := [
      { sub := 0x01, ty := .u64 },
      { sub := 0x02, n := 4, ty := .u64 },
      { sub := 0x06, ty := .u64 }] }

/-- `00F0`: Fws (R55). REQ_TAIL, for which the rule states no range, takes the places of the sixteen requests, 0 to 15 (DESIGN CHOICE, log
entry 52). -/
def famFws : Fam :=
  { base := 0x00F0, s1 := 1, n1 := 1, s2 := 1, n2 := 1,
    rows := [
      { sub := 0x01, ty := .domain, acc := .rw, st := 63, cls := .fm },
      { sub := 0x02, ty := .u32, acc := .rw, st := 63, ok := [(1024, 1024)], dom := some (64, false, true) },
      { sub := 0x03, ty := .u8 },
      { sub := 0x04, ty := .u8, acc := .rw, st := 63, ok := [(0, 15)], cls := .fm },
      { sub := 0x05, ty := .u16, acc := .rw, st := 63, cls := .fm },
      { sub := 0x06, ty := .u16, acc := .rw, st := 63, cls := .fm },
      { sub := 0x07, ty := .u8, acc := .wo, st := 63, ok := [(0, 48)], cls := .fm },
      { sub := 0x08, ty := .u32, acc := .rw, st := 34, kept := true, dflt := 10000, ok := [(100, 1000000)] },
      { sub := 0x10, n := 6, ty := .u64, acc := .rw, st := 63, cls := .fm }] }

/-- `0100`: Ident (R55). -/
def famIdent : Fam :=
  { base := 0x0100, s1 := 1, n1 := 1, s2 := 1, n2 := 1,
    rows := [
      { sub := 0x01, ty := .u16, dflt := 23106 },
      { sub := 0x02, ty := .u16, dflt := 29760 },
      { sub := 0x03, ty := .u16, dflt := 1 },
      { sub := 0x04, ty := .enum8 },
      { sub := 0x05, ty := .u64 },
      { sub := 0x06, ty := .u32 }] }

/-- `0110`: DevCmd (R55). -/
def famDevCmd : Fam :=
  { base := 0x0110, s1 := 1, n1 := 1, s2 := 1, n2 := 1,
    rows := [
      { sub := 0x00, ty := .enum8, acc := .wo, st := 63, ok := [(1, 8)] }] }

/-- `0111`: DevState (R55). -/
def famDevState : Fam :=
  { base := 0x0111, s1 := 1, n1 := 1, s2 := 1, n2 := 1,
    rows := [
      { sub := 0x00, ty := .enum8 },
      { sub := 0x01, ty := .enum8, dflt := 255 }] }

/-- `0112`: Cause (R55). -/
def famCause : Fam :=
  { base := 0x0112, s1 := 1, n1 := 1, s2 := 1, n2 := 1,
    rows := [
      { sub := 0x01, ty := .u16, dflt := 1 },
      { sub := 0x02, ty := .time },
      { sub := 0x03, ty := .u32 },
      { sub := 0x04, ty := .enum8 },
      { sub := 0x05, ty := .enum8 },
      { sub := 0x06, ty := .u8 }] }

/-- `0120`: OpHours (R55). -/
def famOpHours : Fam :=
  { base := 0x0120, s1 := 1, n1 := 1, s2 := 1, n2 := 1,
    rows := [
      { sub := 0x00, ty := .u32 }] }

/-- `0121`: PwrCycles (R55). -/
def famPwrCycles : Fam :=
  { base := 0x0121, s1 := 1, n1 := 1, s2 := 1, n2 := 1,
    rows := [
      { sub := 0x00, ty := .u32 }] }

/-- `0600`: Store (R65). -/
def famStore : Fam :=
  { base := 0x0600, s1 := 1, n1 := 1, s2 := 1, n2 := 1,
    rows := [
      { sub := 0x00, ty := .enum8, acc := .wo, st := 34, ok := [(1, 4)] },
      { sub := 0x01, ty := .u8 },
      { sub := 0x02, ty := .u16 }] }

/-- `0601`: Restore (R65). -/
def famRestore : Fam :=
  { base := 0x0601, s1 := 1, n1 := 1, s2 := 1, n2 := 1,
    rows := [
      { sub := 0x01, ty := .enum8 },
      { sub := 0x02, ty := .bool },
      { sub := 0x03, ty := .u32 }] }

/-- `0602`: StoreFail (R65). -/
def famStoreFail : Fam :=
  { base := 0x0602, s1 := 1, n1 := 1, s2 := 1, n2 := 1,
    rows := [
      { sub := 0x01, ty := .bits32 },
      { sub := 0x02, ty := .bits32 },
      { sub := 0x03, ty := .bits32 }] }

/-- `0603`: RestoreAck (R65). -/
def famRestoreAck : Fam :=
  { base := 0x0603, s1 := 1, n1 := 1, s2 := 1, n2 := 1,
    rows := [
      { sub := 0x00, ty := .bool, acc := .wo, st := 38, cls := .h }] }

/-- `0605`: FwStore (R65). -/
def famFwStore : Fam :=
  { base := 0x0605, s1 := 1, n1 := 1, s2 := 1, n2 := 1,
    rows := [
      { sub := 0x01, ty := .u8, acc := .rw, st := 63, dflt := 14, ok := [(14, 15)], cls := .fm },
      { sub := 0x02, ty := .u32, acc := .rw, st := 63, ok := [(0, 65520)], step := 8, cls := .fm },
      { sub := 0x03, ty := .u64, acc := .rw, st := 63, kept := true, cls := .fm }] }

/-- `0200`: Chain (R101). -/
def famChain : Fam :=
  { base := 0x0200, s1 := 1, n1 := 1, s2 := 1, n2 := 1,
    rows := [
      { sub := 0x01, ty := .u8 }] }

/-- `0201`: Alias (R101). -/
def famAlias : Fam :=
  { base := 0x0201, s1 := 1, n1 := 1, s2 := 1, n2 := 1,
    rows := [
      { sub := 0x00, ty := .u16, acc := .rw, st := 34, kept := true }] }

/-- `0202`: Pos (R101). -/
def famPos : Fam :=
  { base := 0x0202, s1 := 1, n1 := 1, s2 := 1, n2 := 1,
    rows := [
      { sub := 0x01, ty := .u16 },
      { sub := 0x02, ty := .enum8, dflt := 2 },
      { sub := 0x03, ty := .enum8, dflt := 2 }] }

/-- `0210`: Port (R101). -/
def famPort : Fam :=
  { base := 0x0210, s1 := 1, n1 := 2, s2 := 1, n2 := 1,
    rows := [
      { sub := 0x01, ty := .u8 },
      { sub := 0x02, ty := .u8 },
      { sub := 0x03, ty := .enum8, dflt := 1 },
      { sub := 0x04, ty := .bool, dflt := 1 },
      { sub := 0x05, ty := .u8 },
      { sub := 0x06, ty := .bool, acc := .rw, st := 38, kept := true, dflt := 1 },
      { sub := 0x07, ty := .bool, acc := .rw, st := 34, kept := true, dflt := 1 },
      { sub := 0x08, ty := .u64 },
      { sub := 0x09, ty := .u64 },
      { sub := 0x0A, ty := .u32 },
      { sub := 0x0B, ty := .u32 },
      { sub := 0x0C, ty := .u32 },
      { sub := 0x0D, ty := .u32 },
      { sub := 0x0E, ty := .u32 }] }

/-- `0220`: Credits (R101). -/
def famCredits : Fam :=
  { base := 0x0220, s1 := 1, n1 := 1, s2 := 1, n2 := 1,
    rows := [
      { sub := 0x01, ty := .u16, dflt := 8 },
      { sub := 0x02, ty := .u16, dflt := 408 },
      { sub := 0x03, ty := .u16, dflt := 96 },
      { sub := 0x04, ty := .u8 },
      { sub := 0x05, ty := .u32 },
      { sub := 0x06, ty := .u32 }] }

/-- `E`: Ep (R101). -/
def famEp : Fam :=
  { base := 0x0230, s1 := 2, n1 := 8, s2 := 1, n2 := 1,
    rows := [
      { sub := 0x01, ty := .bool, acc := .rw, st := 6, kept := true },
      { sub := 0x02, ty := .domain, acc := .rw, st := 2, kept := true },
      { sub := 0x03, ty := .u32, acc := .rw, st := 2, kept := true, dom := some (64, false, false) },
      { sub := 0x04, ty := .enum8, acc := .rw, st := 2, kept := true, ok := [(0, 3)] },
      { sub := 0x05, ty := .u8, acc := .rw, st := 2, kept := true, ok := [(0, 15)] },
      { sub := 0x06, ty := .u32, acc := .rw, st := 38, kept := true, dflt := 20, ok := [(1, 10000)] },
      { sub := 0x07, ty := .u32, acc := .rw, st := 38, kept := true, dflt := 4096, ok := [(64, 4294967295)], step := 64 }] }

/-- `F`: EpSt (R101). -/
def famEpSt : Fam :=
  { base := 0x0231, s1 := 2, n1 := 8, s2 := 1, n2 := 1,
    rows := [
      { sub := 0x01, ty := .u32 },
      { sub := 0x02, ty := .u32, acc := .rw, st := 46, cls := .fm },
      { sub := 0x03, ty := .u64 },
      { sub := 0x04, ty := .u32 },
      { sub := 0x05, ty := .u32 }] }

/-- `0240`: Gw (R101). -/
def famGw : Fam :=
  { base := 0x0240, s1 := 1, n1 := 1, s2 := 1, n2 := 1,
    rows := [
      { sub := 0x01, ty := .bool, acc := .rw, st := 34, kept := true },
      { sub := 0x02, ty := .enum8, acc := .rw, st := 34, kept := true, ok := [(0, 1)] },
      { sub := 0x03, ty := .u32, acc := .rw, st := 34, kept := true },
      { sub := 0x04, ty := .u16, acc := .rw, st := 34, kept := true, dflt := 47310 },
      { sub := 0x05, ty := .u32, acc := .rw, st := 34, kept := true },
      { sub := 0x06, ty := .u16, acc := .rw, st := 34, kept := true, dflt := 47310 },
      { sub := 0x07, ty := .u64, acc := .rw, st := 34, kept := true, ok := [(0, 281474976710655)] },
      { sub := 0x08, ty := .u64 },
      { sub := 0x09, ty := .u32 },
      { sub := 0x0A, ty := .u32 },
      { sub := 0x0B, ty := .u32 }] }

/-- `1c07`: Area (R107). -/
def famArea : Fam :=
  { base := 0x1007, s1 := 256, n1 := 16, s2 := 1, n2 := 1,
    rows := [
      { sub := 0x01, ty := .i32, acc := .rw, st := 6, kept := true, dflt := (-8388608) },
      { sub := 0x02, ty := .i32, acc := .rw, st := 6, kept := true, dflt := 8388607 },
      { sub := 0x03, ty := .i32, acc := .rw, st := 6, kept := true, dflt := (-8388608) },
      { sub := 0x04, ty := .i32, acc := .rw, st := 6, kept := true, dflt := 8388607 },
      { sub := 0x05, ty := .i32, acc := .rw, st := 6, kept := true, dflt := (-8388608) },
      { sub := 0x06, ty := .i32, acc := .rw, st := 6, kept := true, dflt := 8388607 }] }

/-- `1c08`: Field (R107). -/
def famField : Fam :=
  { base := 0x1008, s1 := 256, n1 := 16, s2 := 1, n2 := 1,
    rows := [
      { sub := 0x01, ty := .u32, acc := .rw, st := 2, kept := true, dflt := 262144000, ok := [(1000000, 2000000000)] },
      { sub := 0x02, ty := .i32, acc := .rw, st := 2, kept := true },
      { sub := 0x03, ty := .i32, acc := .rw, st := 2, kept := true },
      { sub := 0x04, ty := .i32, acc := .rw, st := 2, kept := true, ok := [(-8388608, 8388608)] }] }

/-- `1c01`: Queue (R112). -/
def famQueue : Fam :=
  { base := 0x1001, s1 := 256, n1 := 16, s2 := 1, n2 := 1,
    rows := [
      { sub := 0x01, ty := .domain, acc := .rw, st := 2, kept := true },
      { sub := 0x02, ty := .u32, acc := .rw, st := 2, kept := true, ok := [(16512, 264192)], step := 8256, dom := some (64, false, true) },
      { sub := 0x03, ty := .u32, acc := .rw, st := 14 },
      { sub := 0x04, ty := .u32 },
      { sub := 0x05, ty := .u8 },
      { sub := 0x06, ty := .bool },
      { sub := 0x07, ty := .u32 }] }

/-- `1c02`: Jump (R124). -/
def famJump : Fam :=
  { base := 0x1002, s1 := 256, n1 := 16, s2 := 1, n2 := 1,
    rows := [
      { sub := 0x01, ty := .u32, acc := .rw, st := 6, kept := true, dflt := 640000, ok := [(1, 4000000)] },
      { sub := 0x02, ty := .u32, acc := .rw, st := 6, kept := true, dflt := 256000, ok := [(1, 100000000)] },
      { sub := 0x03, ty := .u32, acc := .rw, st := 6, kept := true, dflt := 20000, ok := [(0, 10000000)] },
      { sub := 0x04, ty := .u32, acc := .rw, st := 6, kept := true, dflt := 100, ok := [(0, 1000000)] }] }

/-- `1c03`: Mark (R124). -/
def famMark : Fam :=
  { base := 0x1003, s1 := 256, n1 := 16, s2 := 1, n2 := 1,
    rows := [
      { sub := 0x01, ty := .u32, acc := .rw, st := 6, kept := true, dflt := 160000, ok := [(1, 4000000)] },
      { sub := 0x02, ty := .u32, acc := .rw, st := 6, kept := true, dflt := 128000, ok := [(1, 100000000)] },
      { sub := 0x03, ty := .enum8, acc := .rw, st := 6, kept := true, dflt := 1, ok := [(0, 1)] },
      { sub := 0x04, ty := .u32, acc := .rw, st := 6, kept := true, dflt := 640, ok := [(0, 1000000)] },
      { sub := 0x05, ty := .u32, acc := .rw, st := 6, kept := true, ok := [(0, 1000000)] },
      { sub := 0x06, ty := .u32, acc := .rw, st := 6, kept := true, ok := [(0, 1000000)] },
      { sub := 0x07, ty := .u32, acc := .rw, st := 6, kept := true, ok := [(0, 10000000)] }] }

/-- `1c04`: Corner (R124). -/
def famCorner : Fam :=
  { base := 0x1004, s1 := 256, n1 := 16, s2 := 1, n2 := 1,
    rows := [
      { sub := 0x01, ty := .u16, acc := .rw, st := 6, kept := true, dflt := 1000, ok := [(0, 18000)] },
      { sub := 0x02, ty := .u16, acc := .rw, st := 6, kept := true, dflt := 6000, ok := [(0, 18000)] },
      { sub := 0x03, ty := .q18, acc := .rw, st := 6, kept := true, dflt := 16384, ok := [(1, 131071)] },
      { sub := 0x04, ty := .u32, acc := .rw, st := 6, kept := true, dflt := 256000 }] }

/-- `1c06`: Stop (R124). -/
def famStop : Fam :=
  { base := 0x1006, s1 := 256, n1 := 16, s2 := 1, n2 := 1,
    rows := [
      { sub := 0x01, ty := .u32, acc := .rw, st := 6, kept := true, dflt := 320000, ok := [(1, 100000000)] },
      { sub := 0x02, ty := .i32, acc := .rw, st := 6, kept := true },
      { sub := 0x03, ty := .i32, acc := .rw, st := 6, kept := true },
      { sub := 0x04, ty := .i32, acc := .rw, st := 6, kept := true }] }

/-- `1c10`: Hoop (R128). -/
def famHoop : Fam :=
  { base := 0x1010, s1 := 256, n1 := 16, s2 := 1, n2 := 1,
    rows := [
      { sub := 0x01, ty := .domain, acc := .rw, st := 2, kept := true },
      { sub := 0x02, ty := .u32, acc := .rw, st := 2, kept := true, ok := [(101440, 101440)], dom := some (64, false, true) },
      { sub := 0x03, ty := .domain, acc := .rw, st := 2, kept := true },
      { sub := 0x04, ty := .u32, acc := .rw, st := 2, kept := true, ok := [(101440, 101440)], dom := some (64, false, true) },
      { sub := 0x05, ty := .bool, acc := .rw, st := 6, kept := true },
      { sub := 0x06, ty := .i32, acc := .rw, st := 2, kept := true, dflt := (-4194304) },
      { sub := 0x07, ty := .i32, acc := .rw, st := 2, kept := true },
      { sub := 0x08, ty := .i32, acc := .rw, st := 2, kept := true, dflt := 4194304 },
      { sub := 0x09, ty := .bool },
      { sub := 0x0A, ty := .u32 }] }

/-- `1c20`: Mod (R131). -/
def famMod : Fam :=
  { base := 0x1020, s1 := 256, n1 := 16, s2 := 1, n2 := 1,
    rows := [
      { sub := 0x01, ty := .enum8, acc := .rw, st := 6, kept := true, ok := [(0, 2)] },
      { sub := 0x02, ty := .u32, acc := .rw, st := 6, kept := true, dflt := 5000, ok := [(10, 50000000)] },
      { sub := 0x03, ty := .u32, acc := .rw, st := 6, kept := true, dflt := 500, ok := [(2, 49999998)] },
      { sub := 0x04, ty := .u32, acc := .rw, st := 6, kept := true, dflt := 1600, ok := [(1, 8388607)] },
      { sub := 0x05, ty := .enum8, acc := .rw, st := 2, kept := true, ok := [(0, 1)] },
      { sub := 0x06, ty := .u32, acc := .rw, st := 2, kept := true, dflt := 2000, ok := [(0, 600000)] },
      { sub := 0x07, ty := .bool },
      { sub := 0x08, ty := .bool }] }

/-- `1c21`: Prof (R131). -/
def famProf : Fam :=
  { base := 0x1021, s1 := 256, n1 := 16, s2 := 1, n2 := 1,
    rows := [
      { sub := 0x01, n := 8, ty := .u64, acc := .rw, st := 6, kept := true, dflt := 18446744069414584320 }] }

/-- `1c22`: Raster (R135). -/
def famRaster : Fam :=
  { base := 0x1022, s1 := 256, n1 := 16, s2 := 1, n2 := 1,
    rows := [
      { sub := 0x01, ty := .u16, acc := .rw, st := 6, kept := true, dflt := 65535 },
      { sub := 0x02, ty := .enum8, acc := .rw, st := 2, kept := true, ok := [(0, 1)] },
      { sub := 0x03, ty := .u32, acc := .rw, st := 6, kept := true, dflt := 1000000, ok := [(1000, 100000000)] },
      { sub := 0x04, ty := .enum8, acc := .rw, st := 6, kept := true, ok := [(0, 1)] }] }

/-- `1c00`: Ch (R146). -/
def famCh : Fam :=
  { base := 0x1000, s1 := 256, n1 := 16, s2 := 1, n2 := 1,
    rows := [
      { sub := 0x01, ty := .enum8, acc := .wo, st := 14, ok := [(1, 7)] },
      { sub := 0x02, ty := .enum8 },
      { sub := 0x03, ty := .enum8 },
      { sub := 0x04, ty := .enum8, acc := .rw, st := 2, kept := true, ok := [(0, 1)] },
      { sub := 0x05, ty := .u8, acc := .rw, st := 2, kept := true, dflt := 255, ok := [(0, 3), (255, 255)] },
      { sub := 0x06, ty := .u8, acc := .rw, st := 2, kept := true, ok := [(0, 31)] },
      { sub := 0x07, ty := .u32 },
      { sub := 0x08, ty := .bool, acc := .rw, st := 14, kept := true, dflt := 1 },
      { sub := 0x09, ty := .time }] }

/-- `1c60`: ChPos (R146). -/
def famChPos : Fam :=
  { base := 0x1060, s1 := 256, n1 := 16, s2 := 1, n2 := 1,
    rows := [
      { sub := 0x01, ty := .i32 },
      { sub := 0x02, ty := .i32 },
      { sub := 0x03, ty := .i32 },
      { sub := 0x04, ty := .u32 },
      { sub := 0x05, ty := .u32 },
      { sub := 0x06, ty := .u16 },
      { sub := 0x07, ty := .u32 },
      { sub := 0x08, ty := .u32 },
      { sub := 0x09, ty := .time },
      { sub := 0x0A, ty := .u32 }] }

/-- `1c61`: ChCnt (R146). -/
def famChCnt : Fam :=
  { base := 0x1061, s1 := 256, n1 := 16, s2 := 1, n2 := 1,
    rows := [
      { sub := 0x01, ty := .u64 },
      { sub := 0x02, ty := .u64 },
      { sub := 0x03, ty := .u32 },
      { sub := 0x04, ty := .u32 },
      { sub := 0x05, ty := .u32 },
      { sub := 0x06, ty := .u32 },
      { sub := 0x07, ty := .u32 },
      { sub := 0x08, ty := .u32 },
      { sub := 0x09, ty := .u32 },
      { sub := 0x0A, ty := .u64 }] }

/-- `2000`: Ce (R179). -/
def famCe : Fam :=
  { base := 0x2000, s1 := 1, n1 := 1, s2 := 1, n2 := 1,
    rows := [
      { sub := 0x01, n := 4, ty := .u32 },
      { sub := 0x05, n := 4, ty := .u16, cc := true },
      { sub := 0x09, n := 4, ty := .u32 }] }

/-- `S0`: Slot (R180). -/
def famSlot : Fam :=
  { base := 0x2400, s1 := 16, n1 := 64, s2 := 1, n2 := 1,
    rows := [
      { sub := 0x01, ty := .enum8, acc := .wo, st := 30, ok := [(1, 6)] },
      { sub := 0x02, ty := .bool, acc := .rw, st := 2, kept := true },
      { sub := 0x03, ty := .enum8, acc := .rw, st := 14, kept := true, dflt := 1, ok := [(0, 3)] },
      { sub := 0x04, ty := .enum8 },
      { sub := 0x05, ty := .enum8 },
      { sub := 0x06, ty := .bits32 },
      { sub := 0x07, ty := .u8, acc := .rw, st := 2, kept := true, ok := [(0, 31)] },
      { sub := 0x08, ty := .u32 },
      { sub := 0x09, ty := .u8, acc := .rw, st := 2, kept := true, dflt := 1, ok := [(1, 16)] },
      { sub := 0x0A, ty := .enum8, acc := .rw, st := 2, kept := true, ok := [(0, 6)] },
      { sub := 0x0B, ty := .u8, acc := .rw, st := 2, kept := true, dflt := 255, ok := [(0, 7), (255, 255)] },
      { sub := 0x0C, ty := .i32, acc := .rw, st := 12, cls := .fmfs },
      { sub := 0x0E, ty := .u32, acc := .rw, st := 6, kept := true, dflt := 64, ok := [(1, 8388607)] },
      { sub := 0x0F, ty := .enum8, dflt := 1 }] }

/-- `S1`: SlotFb (R180). -/
def famSlotFb : Fam :=
  { base := 0x2401, s1 := 16, n1 := 64, s2 := 1, n2 := 1,
    rows := [
      { sub := 0x01, ty := .i32, acc := .rw, st := 2, kept := true, ok := [(-131072, 131071)] },
      { sub := 0x02, ty := .i32, acc := .rw, st := 2, kept := true, dflt := 65536 },
      { sub := 0x03, ty := .u8, acc := .rw, st := 2, kept := true, ok := [(0, 7)] },
      { sub := 0x04, ty := .i32, acc := .rw, st := 6, kept := true, dflt := (-131000) },
      { sub := 0x05, ty := .i32, acc := .rw, st := 6, kept := true, dflt := 131000 },
      { sub := 0x06, ty := .u8, acc := .rw, st := 6, kept := true, dflt := 2, ok := [(1, 16)] },
      { sub := 0x07, ty := .bool, acc := .rw, st := 6, kept := true, dflt := 1 },
      { sub := 0x08, ty := .u16, acc := .rw, st := 6, kept := true, ok := [(0, 0), (2, 65535)] },
      { sub := 0x09, ty := .u32, acc := .rw, st := 6, kept := true, dflt := 64, ok := [(1, 8388607)] },
      { sub := 0x0A, ty := .u32, acc := .rw, st := 6, kept := true, dflt := 4096, ok := [(1, 8388607)] }] }

/-- `S2`: SlotOut (R180). -/
def famSlotOut : Fam :=
  { base := 0x2402, s1 := 16, n1 := 64, s2 := 1, n2 := 1,
    rows := [
      { sub := 0x01, ty := .i32, acc := .rw, st := 2, kept := true, dflt := 65536 },
      { sub := 0x02, ty := .i32, acc := .rw, st := 2, kept := true, ok := [(-131072, 131071)] },
      { sub := 0x03, ty := .q18, acc := .rw, st := 6, kept := true, dflt := (-131072) },
      { sub := 0x04, ty := .q18, acc := .rw, st := 6, kept := true, dflt := 131071 },
      { sub := 0x05, ty := .u32, acc := .rw, st := 6, kept := true, dflt := 262143, ok := [(1, 262143)] },
      { sub := 0x06, ty := .u32, acc := .rw, st := 6, kept := true, dflt := 1000, ok := [(1, 100000)] },
      { sub := 0x07, ty := .i32 }] }

/-- `S3`: SlotPos (R180). -/
def famSlotPos : Fam :=
  { base := 0x2403, s1 := 16, n1 := 64, s2 := 1, n2 := 1,
    rows := [
      { sub := 0x01, ty := .i32, acc := .rw, st := 14, kept := true },
      { sub := 0x02, ty := .i32, acc := .rw, st := 14, kept := true },
      { sub := 0x03, ty := .u32, acc := .rw, st := 14, kept := true, dflt := 131071, ok := [(0, 131071)] },
      { sub := 0x04, ty := .i32, acc := .rw, st := 14, kept := true, dflt := 65536 }] }

/-- `S4`: SlotVel (R180). -/
def famSlotVel : Fam :=
  { base := 0x2404, s1 := 16, n1 := 64, s2 := 1, n2 := 1,
    rows := [
      { sub := 0x01, ty := .i32, acc := .rw, st := 14, kept := true },
      { sub := 0x02, ty := .i32, acc := .rw, st := 14, kept := true },
      { sub := 0x03, ty := .i32, acc := .rw, st := 14, kept := true },
      { sub := 0x04, ty := .u32, acc := .rw, st := 14, kept := true, dflt := 131071, ok := [(0, 131071)] },
      { sub := 0x05, ty := .i32, acc := .rw, st := 14, kept := true }] }

/-- `S5`: SlotBq (R180). -/
def famSlotBq : Fam :=
  { base := 0x2405, s1 := 16, n1 := 64, s2 := 1, n2 := 1,
    rows := [
      { sub := 0x01, ty := .bits32, acc := .rw, st := 14, kept := true, mask := 0xF },
      { sub := 0x02, ty := .i32, acc := .rw, st := 14, kept := true, dflt := 268435456 },
      { sub := 0x03, ty := .i32, acc := .rw, st := 14, kept := true },
      { sub := 0x04, ty := .i32, acc := .rw, st := 14, kept := true },
      { sub := 0x05, ty := .i32, acc := .rw, st := 14, kept := true },
      { sub := 0x06, ty := .i32, acc := .rw, st := 14, kept := true },
      { sub := 0x07, ty := .i32, acc := .rw, st := 14, kept := true, dflt := 268435456 },
      { sub := 0x08, ty := .i32, acc := .rw, st := 14, kept := true },
      { sub := 0x09, ty := .i32, acc := .rw, st := 14, kept := true },
      { sub := 0x0A, ty := .i32, acc := .rw, st := 14, kept := true },
      { sub := 0x0B, ty := .i32, acc := .rw, st := 14, kept := true },
      { sub := 0x0C, ty := .i32, acc := .rw, st := 14, kept := true, dflt := 268435456 },
      { sub := 0x0D, ty := .i32, acc := .rw, st := 14, kept := true },
      { sub := 0x0E, ty := .i32, acc := .rw, st := 14, kept := true },
      { sub := 0x0F, ty := .i32, acc := .rw, st := 14, kept := true },
      { sub := 0x10, ty := .i32, acc := .rw, st := 14, kept := true },
      { sub := 0x11, ty := .i32, acc := .rw, st := 14, kept := true, dflt := 268435456 },
      { sub := 0x12, ty := .i32, acc := .rw, st := 14, kept := true },
      { sub := 0x13, ty := .i32, acc := .rw, st := 14, kept := true },
      { sub := 0x14, ty := .i32, acc := .rw, st := 14, kept := true },
      { sub := 0x15, ty := .i32, acc := .rw, st := 14, kept := true }] }

/-- `S6`: SlotRc (R180). -/
def famSlotRc : Fam :=
  { base := 0x2406, s1 := 16, n1 := 64, s2 := 1, n2 := 1,
    rows := [
      { sub := 0x01, ty := .enum8, acc := .rw, st := 6, kept := true, ok := [(0, 4)] },
      { sub := 0x02, ty := .u16, acc := .rw, st := 6, kept := true, dflt := 1024, ok := [(2, 1024)] },
      { sub := 0x03, ty := .u8, acc := .rw, st := 6, kept := true, ok := [(0, 31)] },
      { sub := 0x04, ty := .u32, acc := .rw, st := 6, kept := true, dflt := 4096, ok := [(2, 1073741824)] },
      { sub := 0x05, ty := .i32, acc := .rw, st := 14, kept := true },
      { sub := 0x06, ty := .q18, acc := .rw, st := 14, kept := true, dflt := 8192, ok := [(0, 32768)] },
      { sub := 0x07, ty := .q18, acc := .rw, st := 14, kept := true, dflt := 130941, ok := [(98304, 131071)] },
      { sub := 0x08, ty := .u16, acc := .rw, st := 14, kept := true },
      { sub := 0x09, ty := .u32, acc := .rw, st := 14, kept := true, dflt := 13107, ok := [(0, 131071)] },
      { sub := 0x0A, ty := .enum8 },
      { sub := 0x0B, ty := .u16, acc := .rw, st := 63 },
      { sub := 0x0C, ty := .q18, acc := .rw, st := 46 },
      { sub := 0x0D, ty := .u32 }] }

/-- `S7`: SlotFe (R180). -/
def famSlotFe : Fam :=
  { base := 0x2407, s1 := 16, n1 := 64, s2 := 1, n2 := 1,
    rows := [
      { sub := 0x01, ty := .u32, acc := .rw, st := 14, kept := true },
      { sub := 0x02, ty := .u16, acc := .rw, st := 14, kept := true, dflt := 16, ok := [(1, 65535)] },
      { sub := 0x03, ty := .u32, acc := .rw, st := 6, kept := true, dflt := 1311, ok := [(0, 262143)] },
      { sub := 0x04, ty := .u16, acc := .rw, st := 6, kept := true, dflt := 256, ok := [(0, 1024)] },
      { sub := 0x05, ty := .bool, acc := .rw, st := 2, kept := true },
      { sub := 0x06, ty := .u32, acc := .rw, st := 6, kept := true, dflt := 200, ok := [(1, 10000)] }] }

/-- `SA`: SlotMon (R180). -/
def famSlotMon : Fam :=
  { base := 0x240A, s1 := 16, n1 := 64, s2 := 1, n2 := 1,
    rows := [
      { sub := 0x01, ty := .i32 },
      { sub := 0x02, ty := .q18 },
      { sub := 0x03, ty := .i32 },
      { sub := 0x04, ty := .q18 },
      { sub := 0x05, ty := .i32 },
      { sub := 0x06, ty := .u32, acc := .rw, st := 63, ok := [(0, 0)] },
      { sub := 0x07, ty := .i32 },
      { sub := 0x08, ty := .bits32 }] }

/-- `SB`: SlotCnt (R180). -/
def famSlotCnt : Fam :=
  { base := 0x240B, s1 := 16, n1 := 64, s2 := 1, n2 := 1,
    rows := [
      { sub := 0x01, ty := .u64 },
      { sub := 0x02, ty := .u32 },
      { sub := 0x03, ty := .u32 },
      { sub := 0x04, ty := .u32 },
      { sub := 0x05, ty := .u32 },
      { sub := 0x06, ty := .u32 },
      { sub := 0x07, ty := .u16 }] }

/-- `1c30`: Mpl (R198). -/
def famMpl : Fam :=
  { base := 0x1030, s1 := 256, n1 := 16, s2 := 1, n2 := 1,
    rows := [
      { sub := 0x01, ty := .enum8, acc := .rw, st := 6, kept := true, ok := [(0, 2)] },
      { sub := 0x02, ty := .enum8, acc := .rw, st := 6, kept := true, ok := [(0, 2)] },
      { sub := 0x03, ty := .q18, acc := .rw, st := 6, kept := true },
      { sub := 0x04, ty := .u32, acc := .rw, st := 14, kept := true, ok := [(0, 131071)] },
      { sub := 0x05, ty := .u32, acc := .rw, st := 14, kept := true, dflt := 131071, ok := [(0, 131071)] },
      { sub := 0x06, ty := .u16, acc := .rw, st := 2, kept := true },
      { sub := 0x07, ty := .u16, acc := .rw, st := 2, kept := true, dflt := 65535 },
      { sub := 0x08, ty := .u16, acc := .rw, st := 2, kept := true }] }

/-- `1c31`: MplFf (R198). -/
def famMplFf : Fam :=
  { base := 0x1031, s1 := 256, n1 := 16, s2 := 1, n2 := 1,
    rows := [
      { sub := 0x01, ty := .i32, acc := .rw, st := 14, kept := true, dflt := 65536, ok := [(0, 131072)] },
      { sub := 0x02, ty := .i32, acc := .rw, st := 14, kept := true, dflt := 16384, ok := [(0, 65536)] },
      { sub := 0x03, ty := .i32, acc := .rw, st := 14, kept := true, dflt := 81920, ok := [(65536, 262144)] },
      { sub := 0x04, ty := .u32, acc := .rw, st := 14, kept := true, dflt := 1600, ok := [(1, 4000000)] }] }

/-- `1c32`: MplCl (R198). -/
def famMplCl : Fam :=
  { base := 0x1032, s1 := 256, n1 := 16, s2 := 1, n2 := 1,
    rows := [
      { sub := 0x01, ty := .i32, acc := .rw, st := 14, kept := true },
      { sub := 0x02, ty := .i32, acc := .rw, st := 14, kept := true },
      { sub := 0x03, ty := .u32, acc := .rw, st := 14, kept := true, dflt := 13107, ok := [(0, 131071)] },
      { sub := 0x04, ty := .q18, acc := .rw, st := 14, kept := true, dflt := 13107, ok := [(0, 131071)] },
      { sub := 0x05, ty := .i32, acc := .rw, st := 14, kept := true, dflt := 65536, ok := [(0, 8388607)] },
      { sub := 0x06, ty := .u8, acc := .rw, st := 14, kept := true, dflt := 4, ok := [(0, 255)] }] }

/-- `1c33`: MplAn (R198). -/
def famMplAn : Fam :=
  { base := 0x1033, s1 := 256, n1 := 16, s2 := 1, n2 := 1,
    rows := [
      { sub := 0x01, ty := .u32, acc := .rw, st := 14, kept := true, dflt := 131071 },
      { sub := 0x02, ty := .u32, acc := .rw, st := 14, kept := true },
      { sub := 0x03, ty := .u8, acc := .rw, st := 14, kept := true, dflt := 4, ok := [(1, 255)] },
      { sub := 0x04, ty := .u16, acc := .rw, st := 14, kept := true, dflt := 64 },
      { sub := 0x05, ty := .domain, acc := .rw, st := 2, kept := true },
      { sub := 0x06, ty := .u32, acc := .rw, st := 2, kept := true, dom := some (64, true, false) },
      { sub := 0x07, ty := .u32 },
      { sub := 0x08, ty := .u32, acc := .rw, st := 63, cls := .fmfs },
      { sub := 0x09, ty := .u32 }] }

/-- `1c34`: MplMon (R198). -/
def famMplMon : Fam :=
  { base := 0x1034, s1 := 256, n1 := 16, s2 := 1, n2 := 1,
    rows := [
      { sub := 0x01, ty := .q18 },
      { sub := 0x02, ty := .u32 },
      { sub := 0x03, ty := .i32 },
      { sub := 0x04, ty := .i32, dflt := 65536 },
      { sub := 0x05, ty := .bool },
      { sub := 0x06, ty := .bits32, dflt := 39 },
      { sub := 0x07, ty := .bits32 },
      { sub := 0x08, ty := .u16 }] }

/-- `1c35`: MplCnt (R198). -/
def famMplCnt : Fam :=
  { base := 0x1035, s1 := 256, n1 := 16, s2 := 1, n2 := 1,
    rows := [
      { sub := 0x01, ty := .u64 },
      { sub := 0x02, ty := .u32 },
      { sub := 0x03, ty := .u32 },
      { sub := 0x04, ty := .u32 },
      { sub := 0x05, ty := .u32 }] }

/-- `1c40`: Stitch (R215). -/
def famStitch : Fam :=
  { base := 0x1040, s1 := 256, n1 := 16, s2 := 1, n2 := 1,
    rows := [
      { sub := 0x01, ty := .bool, acc := .rw, st := 2, kept := true },
      { sub := 0x02, ty := .bits32, acc := .rw, st := 6, kept := true, dflt := 63, mask := 0x7F }] }

/-- `1c4z`: Zone (R215). -/
def famZone : Fam :=
  { base := 0x1041, s1 := 256, n1 := 16, s2 := 1, n2 := 8,
    rows := [
      { sub := 0x01, ty := .bool, acc := .rw, st := 6, kept := true },
      { sub := 0x02, ty := .u8, acc := .rw, st := 2, kept := true, ok := [(0, 250)] },
      { sub := 0x03, ty := .u8, acc := .rw, st := 2, kept := true, ok := [(0, 15)] },
      { sub := 0x04, ty := .enum8, acc := .rw, st := 2, kept := true, ok := [(0, 1)] },
      { sub := 0x05, ty := .enum8, acc := .rw, st := 2, kept := true, ok := [(0, 1)] },
      { sub := 0x06, ty := .i32, acc := .rw, st := 2, kept := true },
      { sub := 0x07, ty := .i32, acc := .rw, st := 2, kept := true },
      { sub := 0x08, ty := .i32, acc := .rw, st := 2, kept := true },
      { sub := 0x09, ty := .i32, acc := .rw, st := 2, kept := true },
      { sub := 0x0A, ty := .i32, acc := .rw, st := 2, kept := true },
      { sub := 0x0B, ty := .u32, acc := .rw, st := 2, kept := true, ok := [(0, 100000)] },
      { sub := 0x0C, ty := .u32, acc := .rw, st := 2, kept := true, ok := [(0, 0), (100, 10000000)] },
      { sub := 0x0D, ty := .u32, acc := .rw, st := 2, kept := true, ok := [(0, 100000)] },
      { sub := 0x0E, ty := .u64, acc := .rw, st := 2, kept := true },
      { sub := 0x0F, ty := .bool, acc := .rw, st := 14, kept := true, dflt := 1 },
      { sub := 0x10, ty := .enum8 },
      { sub := 0x11, ty := .time },
      { sub := 0x12, ty := .enum8, acc := .wo, st := 12, ok := [(1, 2)] },
      { sub := 0x13, ty := .time, acc := .rw, st := 12 },
      { sub := 0x14, ty := .u32 },
      { sub := 0x15, ty := .u32 }] }

/-- `10F0`: Take (R216). -/
def famTake : Fam :=
  { base := 0x10F0, s1 := 1, n1 := 1, s2 := 1, n2 := 1,
    rows := [
      { sub := 0x01, ty := .u32, acc := .rw, st := 6, kept := true, dflt := 20000, ok := [(1000, 10000000)] },
      { sub := 0x02, ty := .u32 },
      { sub := 0x03, ty := .u32 },
      { sub := 0x04, ty := .u32 }] }

/-- `10F1`: Rep (R216). -/
def famRep : Fam :=
  { base := 0x10F1, s1 := 1, n1 := 1, s2 := 1, n2 := 1,
    rows := [
      { sub := 0x01, n := 8, ty := .u64 },
      { sub := 0x09, ty := .bool, acc := .wo, st := 63, cls := .hfm },
      { sub := 0x0A, ty := .u16 },
      { sub := 0x0B, ty := .u32 },
      { sub := 0x0C, ty := .bool }] }

/-- `1c11`: Upd (R244). -/
def famUpd : Fam :=
  { base := 0x1011, s1 := 256, n1 := 16, s2 := 1, n2 := 1,
    rows := [
      { sub := 0x01, ty := .domain, acc := .rw, st := 2, kept := true },
      { sub := 0x02, ty := .u32, acc := .rw, st := 2, kept := true, ok := [(101440, 101440)], dom := some (64, false, false) },
      { sub := 0x03, ty := .u16, acc := .rw, st := 14, dflt := 1, ok := [(1, 1024)] },
      { sub := 0x04, ty := .time, acc := .rw, st := 12 },
      { sub := 0x05, ty := .u32, acc := .rw, st := 14, kept := true, dflt := 30000000, ok := [(1000, 4000000000)] },
      { sub := 0x06, ty := .u32, acc := .rw, st := 14, kept := true, dflt := 20000000, ok := [(100, 4000000000)] },
      { sub := 0x07, ty := .u32, acc := .rw, st := 6, kept := true, dflt := 2, ok := [(1, 131071)] },
      { sub := 0x08, ty := .u32, acc := .rw, st := 6, kept := true, dflt := 2, ok := [(1, 131071)] },
      { sub := 0x09, ty := .enum8, acc := .wo, st := 14, ok := [(1, 5)] },
      { sub := 0x0A, ty := .enum8 },
      { sub := 0x0B, ty := .u16 },
      { sub := 0x0C, ty := .enum8 },
      { sub := 0x0D, ty := .u32 },
      { sub := 0x0E, ty := .time },
      { sub := 0x0F, ty := .time },
      { sub := 0x10, ty := .bool },
      { sub := 0x11, ty := .bool },
      { sub := 0x12, ty := .u32 },
      { sub := 0x13, ty := .u32 }] }

/-- `1c50`: Ins (R245). -/
def famIns : Fam :=
  { base := 0x1050, s1 := 256, n1 := 16, s2 := 1, n2 := 1,
    rows := [
      { sub := 0x01, ty := .bool, acc := .rw, st := 14, kept := true },
      { sub := 0x02, ty := .domain, acc := .rw, st := 2, kept := true },
      { sub := 0x03, ty := .u32, acc := .rw, st := 2, kept := true, ok := [(64, 8192)], dom := some (64, false, true) },
      { sub := 0x04, ty := .u32 },
      { sub := 0x05, ty := .u32, acc := .rw, st := 63, cls := .fmfs },
      { sub := 0x06, ty := .u8, acc := .rw, st := 14, kept := true, dflt := 1, ok := [(1, 15)] },
      { sub := 0x07, ty := .u32, acc := .rw, st := 6, kept := true, dflt := 32000 },
      { sub := 0x08, ty := .u32 },
      { sub := 0x09, ty := .u32 }] }

/-- `1c51`: Selv (R245). -/
def famSelv : Fam :=
  { base := 0x1051, s1 := 256, n1 := 16, s2 := 1, n2 := 1,
    rows := [
      { sub := 0x01, ty := .i32, acc := .rw, st := 6, kept := true },
      { sub := 0x02, ty := .i32, acc := .rw, st := 6, kept := true },
      { sub := 0x03, ty := .i32, acc := .rw, st := 6, kept := true },
      { sub := 0x04, ty := .i32, acc := .rw, st := 6, kept := true },
      { sub := 0x05, ty := .i32, acc := .rw, st := 6, kept := true },
      { sub := 0x06, ty := .i32, acc := .rw, st := 6, kept := true },
      { sub := 0x07, ty := .i32, acc := .rw, st := 6, kept := true },
      { sub := 0x08, ty := .i32, acc := .rw, st := 6, kept := true },
      { sub := 0x09, ty := .i32, acc := .rw, st := 6, kept := true },
      { sub := 0x0A, ty := .i32, acc := .rw, st := 6, kept := true },
      { sub := 0x0B, ty := .i32, acc := .rw, st := 6, kept := true },
      { sub := 0x0C, ty := .i32, acc := .rw, st := 6, kept := true },
      { sub := 0x0D, ty := .i32, acc := .rw, st := 6, kept := true },
      { sub := 0x0E, ty := .i32, acc := .rw, st := 6, kept := true },
      { sub := 0x0F, ty := .i32, acc := .rw, st := 6, kept := true },
      { sub := 0x10, ty := .i32, acc := .rw, st := 6, kept := true }] }

/-- `4800`: Cal (R246). -/
def famCal : Fam :=
  { base := 0x4800, s1 := 1, n1 := 1, s2 := 1, n2 := 1,
    rows := [
      { sub := 0x01, ty := .domain, acc := .rw, st := 2, kept := true },
      { sub := 0x02, ty := .u32, acc := .rw, st := 2, kept := true, dom := some (64, true, false) },
      { sub := 0x03, ty := .u32 },
      { sub := 0x04, ty := .u32, acc := .rw, st := 63, cls := .fmfs },
      { sub := 0x05, ty := .u32 },
      { sub := 0x06, ty := .u8 },
      { sub := 0x07, ty := .u32 },
      { sub := 0x08, ty := .u32 },
      { sub := 0x09, ty := .enum8 },
      { sub := 0x0A, ty := .u32 }] }

/-- `481g`: Pat (R246). -/
def famPat : Fam :=
  { base := 0x4810, s1 := 1, n1 := 4, s2 := 1, n2 := 1,
    rows := [
      { sub := 0x01, ty := .u32, acc := .rw, st := 6, kept := true },
      { sub := 0x02, ty := .u16, acc := .rw, st := 6, kept := true },
      { sub := 0x03, ty := .u32, acc := .rw, st := 6, kept := true },
      { sub := 0x04, ty := .u16, acc := .rw, st := 6, kept := true },
      { sub := 0x05, ty := .bits32, acc := .rw, st := 12 },
      { sub := 0x06, ty := .enum8, acc := .rw, st := 12, dflt := 1, ok := [(1, 2)] },
      { sub := 0x07, ty := .enum8, acc := .rw, st := 12, ok := [(0, 1)] },
      { sub := 0x08, ty := .u8, acc := .rw, st := 12, dflt := 1, ok := [(1, 7)] },
      { sub := 0x09, ty := .u16, acc := .rw, st := 12, dflt := 16, ok := [(1, 1024)] },
      { sub := 0x0A, ty := .u16, acc := .rw, st := 12, dflt := 8, ok := [(0, 1024)] },
      { sub := 0x0B, ty := .u8, acc := .rw, st := 12, dflt := 8, ok := [(2, 16)] },
      { sub := 0x0C, ty := .u32, acc := .rw, st := 12 },
      { sub := 0x0D, ty := .enum8, acc := .wo, st := 12, ok := [(1, 2)] },
      { sub := 0x0E, ty := .u8 },
      { sub := 0x0F, ty := .u32 }] }

/-- `484h`: Map (R246). -/
def famMap : Fam :=
  { base := 0x4840, s1 := 1, n1 := 32, s2 := 1, n2 := 1,
    rows := [
      { sub := 0x01, ty := .domain, acc := .rw, st := 2, kept := true },
      { sub := 0x02, ty := .u32, acc := .rw, st := 2, kept := true, ok := [(16448, 16448)], dom := some (64, false, true) },
      { sub := 0x03, ty := .domain, acc := .rw, st := 2, kept := true },
      { sub := 0x04, ty := .u32, acc := .rw, st := 2, kept := true, ok := [(16448, 16448)], dom := some (64, false, true) },
      { sub := 0x05, ty := .bool, acc := .rw, st := 6, kept := true },
      { sub := 0x06, ty := .bool },
      { sub := 0x07, ty := .u32 }] }

/-- `301e`: Enc (R250). -/
def famEnc : Fam :=
  { base := 0x3010, s1 := 1, n1 := 6, s2 := 1, n2 := 1,
    rows := [
      { sub := 0x01, ty := .bool, acc := .rw, st := 2, kept := true },
      { sub := 0x02, ty := .u8, acc := .rw, st := 2, kept := true, dflt := 2, ok := [(0, 7)] },
      { sub := 0x03, ty := .bool, acc := .rw, st := 2, kept := true },
      { sub := 0x04, ty := .u16, acc := .rw, st := 6, kept := true, dflt := 16, ok := [(1, 65535)] },
      { sub := 0x05, ty := .i32 },
      { sub := 0x06, ty := .i32 },
      { sub := 0x07, ty := .time },
      { sub := 0x08, ty := .u32 },
      { sub := 0x09, ty := .bits32 },
      { sub := 0x0A, ty := .enum8, acc := .wo, st := 63, ok := [(1, 2)] },
      { sub := 0x0B, ty := .bool, acc := .rw, st := 2, kept := true }] }

/-- `M0`: Mtu (R258). -/
def famMtu : Fam :=
  { base := 0x3200, s1 := 64, n1 := 4, s2 := 1, n2 := 1,
    rows := [
      { sub := 0x01, ty := .enum8, acc := .rw, st := 2, kept := true, ok := [(0, 1)] },
      { sub := 0x02, ty := .u8, acc := .rw, st := 2, kept := true, ok := [(0, 5)] },
      { sub := 0x03, ty := .u8, acc := .rw, st := 6, kept := true, dflt := 2, ok := [(0, 15)] },
      { sub := 0x04, ty := .u8, acc := .rw, st := 6, kept := true, dflt := 2, ok := [(0, 4)] },
      { sub := 0x05, ty := .u8, acc := .rw, st := 2, kept := true, dflt := 255, ok := [(0, 7), (255, 255)] },
      { sub := 0x06, ty := .enum8, acc := .rw, st := 2, kept := true, ok := [(0, 1)] },
      { sub := 0x07, ty := .u32, acc := .rw, st := 6, kept := true, ok := [(0, 100000000)] },
      { sub := 0x08, ty := .u32, acc := .rw, st := 6, kept := true, dflt := 20000, ok := [(20000, 1000000000)] },
      { sub := 0x09, ty := .enum8 },
      { sub := 0x0A, ty := .u8 }] }

/-- `M1`: MtuSt (R258). -/
def famMtuSt : Fam :=
  { base := 0x3201, s1 := 64, n1 := 4, s2 := 1, n2 := 1,
    rows := [
      { sub := 0x01, ty := .i64 },
      { sub := 0x02, ty := .i32 },
      { sub := 0x03, ty := .enum8 },
      { sub := 0x04, ty := .u32 },
      { sub := 0x05, ty := .u32 },
      { sub := 0x06, ty := .i32 },
      { sub := 0x07, ty := .u32 }] }

/-- `306f`: Fire (R258). -/
def famFire : Fam :=
  { base := 0x3060, s1 := 1, n1 := 16, s2 := 1, n2 := 1,
    rows := [
      { sub := 0x01, ty := .i32, acc := .rw, st := 6, kept := true },
      { sub := 0x02, ty := .i32, acc := .rw, st := 6, kept := true },
      { sub := 0x03, ty := .u32, acc := .rw, st := 6, kept := true, dflt := 160, ok := [(160, 4000000)] },
      { sub := 0x04, ty := .u16, acc := .rw, st := 6, kept := true, dflt := 250, ok := [(1, 2500)] },
      { sub := 0x05, ty := .u64 }] }

/-- `Pr`: Pass (R265). -/
def famPass : Fam :=
  { base := 0x3900, s1 := 64, n1 := 4, s2 := 1, n2 := 16,
    rows := [
      { sub := 0x01, ty := .u8, acc := .rw, st := 14, kept := true, dflt := 255, ok := [(0, 31), (255, 255)] },
      { sub := 0x02, ty := .enum8, acc := .rw, st := 14, kept := true, ok := [(0, 1)] },
      { sub := 0x03, ty := .i32, acc := .rw, st := 14, kept := true },
      { sub := 0x04, ty := .u8, acc := .rw, st := 14, kept := true, ok := [(0, 63)] },
      { sub := 0x05, ty := .u8, acc := .rw, st := 14, kept := true, ok := [(0, 63)] }] }

/-- `3800`: Picot (R267). -/
def famPicot : Fam :=
  { base := 0x3800, s1 := 1, n1 := 1, s2 := 1, n2 := 1,
    rows := [
      { sub := 0x01, ty := .domain, acc := .rw, st := 2, kept := true },
      { sub := 0x02, ty := .u32, acc := .rw, st := 2, kept := true, ok := [(34816, 34816)], dom := some (64, false, true) },
      { sub := 0x03, ty := .u8, acc := .rw, st := 63, ok := [(0, 31)] },
      { sub := 0x04, ty := .enum8, acc := .wo, st := 6, ok := [(1, 3)] },
      { sub := 0x05, ty := .bits32 },
      { sub := 0x06, ty := .bits32 },
      { sub := 0x07, ty := .u32 }] }

/-- `3Al0`: Link (R273). -/
def famLink : Fam :=
  { base := 0x3A00, s1 := 16, n1 := 8, s2 := 1, n2 := 1,
    rows := [
      { sub := 0x01, ty := .bool, acc := .rw, st := 2, kept := true },
      { sub := 0x02, ty := .u8, acc := .rw, st := 2, kept := true, ok := [(0, 15)] },
      { sub := 0x03, ty := .enum8, acc := .rw, st := 2, kept := true, dflt := 1, ok := [(0, 1)] },
      { sub := 0x04, ty := .enum8, dflt := 1 },
      { sub := 0x05, ty := .u8 },
      { sub := 0x06, ty := .bits32 },
      { sub := 0x07, ty := .u16, acc := .rw, st := 6, kept := true, dflt := 4000, ok := [(500, 20000)] },
      { sub := 0x08, ty := .u8, acc := .rw, st := 6, kept := true, dflt := 3, ok := [(0, 7)] },
      { sub := 0x09, ty := .u32 }] }

/-- `3Al1`: LinkSt (R273). -/
def famLinkSt : Fam :=
  { base := 0x3A01, s1 := 16, n1 := 8, s2 := 1, n2 := 1,
    rows := [
      { sub := 0x01, ty := .u64 },
      { sub := 0x02, ty := .u64 },
      { sub := 0x03, ty := .u32 },
      { sub := 0x04, ty := .u32 },
      { sub := 0x05, ty := .u32 },
      { sub := 0x06, ty := .u8, acc := .rw, st := 63, ok := [(0, 3)] },
      { sub := 0x07, ty := .u16, acc := .rw, st := 63 },
      { sub := 0x08, ty := .u32, acc := .rw, st := 63 },
      { sub := 0x09, ty := .enum8, acc := .wo, st := 38, ok := [(1, 2)] },
      { sub := 0x0A, ty := .u16 }] }

/-- `3040`: Span (R280). -/
def famSpan : Fam :=
  { base := 0x3040, s1 := 1, n1 := 1, s2 := 1, n2 := 1,
    rows := [
      { sub := 0x01, ty := .domain, acc := .rw, st := 2, kept := true },
      { sub := 0x02, ty := .u32, acc := .rw, st := 2, kept := true, dom := some (64, true, false) },
      { sub := 0x03, ty := .u32 },
      { sub := 0x04, ty := .u32, acc := .rw, st := 63, cls := .fmfs },
      { sub := 0x05, ty := .u32 }] }

/-- `3050`: Nz (R280). -/
def famNz : Fam :=
  { base := 0x3050, s1 := 1, n1 := 1, s2 := 1, n2 := 1,
    rows := [
      { sub := 0x01, ty := .domain, acc := .rw, st := 2, kept := true },
      { sub := 0x02, ty := .u32, acc := .rw, st := 2, kept := true, dom := some (64, true, false) },
      { sub := 0x03, ty := .u32 },
      { sub := 0x04, ty := .u32, acc := .rw, st := 63, cls := .fmfs },
      { sub := 0x05, ty := .u32 }] }

/-- `3020`: GateIn (R280). -/
def famGateIn : Fam :=
  { base := 0x3020, s1 := 1, n1 := 1, s2 := 1, n2 := 1,
    rows := [
      { sub := 0x01, n := 12, ty := .bits32, acc := .rw, st := 6, kept := true, dflt := 40960, mask := 0x3FFFFF },
      { sub := 0x0D, ty := .bits32 }] }

/-- `303n`: Th (R280). -/
def famTh : Fam :=
  { base := 0x3030, s1 := 1, n1 := 8, s2 := 1, n2 := 1,
    rows := [
      { sub := 0x01, ty := .u32, acc := .rw, st := 2, kept := true, dflt := 10000, ok := [(100, 1000000)] },
      { sub := 0x02, ty := .u32, acc := .rw, st := 2, kept := true, dflt := 10000 },
      { sub := 0x03, ty := .u16, acc := .rw, st := 2, kept := true, dflt := 3950 },
      { sub := 0x04, ty := .i16 }] }

/-- `3001`: Pen (R284). -/
def famPen : Fam :=
  { base := 0x3001, s1 := 1, n1 := 1, s2 := 1, n2 := 1,
    rows := [
      { sub := 0x01, ty := .u64 }] }

/-- `G0`: Grp (R284). -/
def famGrp : Fam :=
  { base := 0x3100, s1 := 64, n1 := 4, s2 := 1, n2 := 1,
    rows := [
      { sub := 0x01, ty := .enum8, acc := .wo, st := 14, ok := [(1, 7)] },
      { sub := 0x02, ty := .enum8 },
      { sub := 0x03, ty := .enum8 },
      { sub := 0x04, ty := .u8, acc := .rw, st := 2, kept := true, dflt := 255, ok := [(0, 3), (255, 255)] },
      { sub := 0x05, ty := .bits32, acc := .rw, st := 2, kept := true, mask := 0xFFFF },
      { sub := 0x06, ty := .u32, acc := .rw, st := 14 },
      { sub := 0x07, ty := .u32 },
      { sub := 0x08, ty := .bool },
      { sub := 0x09, ty := .time }] }

/-- `G1`: GrpCfg (R284). -/
def famGrpCfg : Fam :=
  { base := 0x3101, s1 := 64, n1 := 4, s2 := 1, n2 := 1,
    rows := [
      { sub := 0x01, ty := .u32, acc := .rw, st := 2, kept := true, dflt := 10000, ok := [(10000, 100000000)] },
      { sub := 0x02, ty := .u32, acc := .rw, st := 2, kept := true, dflt := 524288, ok := [(65536, 2147483647)] },
      { sub := 0x04, ty := .i32, acc := .rw, st := 6, kept := true },
      { sub := 0x05, ty := .i32, acc := .rw, st := 6, kept := true },
      { sub := 0x06, ty := .u16, acc := .rw, st := 6, kept := true, dflt := 64, ok := [(1, 4096)] },
      { sub := 0x07, ty := .u8, acc := .rw, st := 2, kept := true, dflt := 255, ok := [(0, 31), (255, 255)] },
      { sub := 0x08, ty := .domain, acc := .rw, st := 2, kept := true },
      { sub := 0x09, ty := .u32, acc := .rw, st := 2, kept := true, dom := some (64, false, true) }] }

/-- `G2`: GrpMask (R284). -/
def famGrpMask : Fam :=
  { base := 0x3102, s1 := 64, n1 := 4, s2 := 1, n2 := 1,
    rows := [
      { sub := 0x01, ty := .domain, acc := .rw, st := 2, kept := true },
      { sub := 0x02, ty := .u32, acc := .rw, st := 2, kept := true, ok := [(512, 16384)], step := 512, dom := some (64, false, true) },
      { sub := 0x03, ty := .u8, acc := .rw, st := 2, kept := true, dflt := 255, ok := [(0, 7), (255, 255)] },
      { sub := 0x04, ty := .u32, acc := .rw, st := 6, kept := true, ok := [(0, 10000000)] },
      { sub := 0x05, ty := .bool, acc := .rw, st := 14, kept := true },
      { sub := 0x06, ty := .u8 },
      { sub := 0x07, ty := .u32 },
      { sub := 0x08, ty := .u32 }] }

/-- `G3`: GrpCnt (R284). -/
def famGrpCnt : Fam :=
  { base := 0x3103, s1 := 64, n1 := 4, s2 := 1, n2 := 1,
    rows := [
      { sub := 0x01, ty := .u64 },
      { sub := 0x02, ty := .u64 },
      { sub := 0x03, ty := .u32 },
      { sub := 0x04, ty := .u32 },
      { sub := 0x05, ty := .u32 },
      { sub := 0x06, ty := .u32 }] }

/-- `H0`: Head (R284). -/
def famHead : Fam :=
  { base := 0x3400, s1 := 32, n1 := 32, s2 := 1, n2 := 1,
    rows := [
      { sub := 0x01, ty := .bool, acc := .rw, st := 2, kept := true },
      { sub := 0x02, ty := .u8, acc := .rw, st := 2, kept := true, ok := [(0, 3)] },
      { sub := 0x03, ty := .u8, acc := .rw, st := 2, kept := true, ok := [(0, 15)] },
      { sub := 0x04, ty := .u8, acc := .rw, st := 2, kept := true, ok := [(0, 7)] },
      { sub := 0x05, ty := .u8, acc := .rw, st := 2, kept := true, ok := [(0, 3)] },
      { sub := 0x06, ty := .u16, acc := .rw, st := 2, kept := true, dflt := 4096, ok := [(8, 4096)] },
      { sub := 0x07, ty := .u8, acc := .rw, st := 2, kept := true, dflt := 1, ok := [(1, 3)] },
      { sub := 0x08, ty := .u8, acc := .rw, st := 6, kept := true, ok := [(0, 31)] },
      { sub := 0x09, ty := .i32, acc := .rw, st := 2, kept := true },
      { sub := 0x0A, ty := .bool, acc := .rw, st := 6, kept := true },
      { sub := 0x0B, ty := .bits32, acc := .rw, st := 6, kept := true, dflt := 31, mask := 0x1F }] }

/-- `H1`: HeadTemp (R284). -/
def famHeadTemp : Fam :=
  { base := 0x3401, s1 := 32, n1 := 32, s2 := 1, n2 := 1,
    rows := [
      { sub := 0x01, ty := .enum8, acc := .rw, st := 2, kept := true, ok := [(0, 8), (255, 255)] },
      { sub := 0x02, ty := .i16, acc := .rw, st := 14, kept := true, dflt := 800 },
      { sub := 0x03, ty := .i16, acc := .rw, st := 14, kept := true, dflt := 880 },
      { sub := 0x04, ty := .u16, acc := .rw, st := 14, kept := true, dflt := 32, ok := [(0, 800)] },
      { sub := 0x05, ty := .i16 },
      { sub := 0x06, ty := .enum8 }] }

/-- `H4`: HeadSt (R284). -/
def famHeadSt : Fam :=
  { base := 0x3404, s1 := 32, n1 := 32, s2 := 1, n2 := 1,
    rows := [
      { sub := 0x01, ty := .bits32 },
      { sub := 0x02, ty := .u64 },
      { sub := 0x03, ty := .u32 },
      { sub := 0x04, ty := .u32 },
      { sub := 0x05, ty := .u16 },
      { sub := 0x06, ty := .u32 }] }

/-- `H2`: HeadEnd (R284). -/
def famHeadEnd : Fam :=
  { base := 0x3402, s1 := 32, n1 := 32, s2 := 1, n2 := 2,
    rows := [
      { sub := 0x01, ty := .bool, acc := .rw, st := 6, kept := true },
      { sub := 0x02, ty := .u8, acc := .rw, st := 2, kept := true, ok := [(0, 250)] },
      { sub := 0x03, ty := .u8, acc := .rw, st := 2, kept := true, ok := [(0, 31)] },
      { sub := 0x04, ty := .u16, acc := .rw, st := 2, kept := true, dflt := 32, ok := [(2, 512)] },
      { sub := 0x05, ty := .u16, acc := .rw, st := 2, kept := true, dflt := 16 },
      { sub := 0x06, ty := .u16, acc := .rw, st := 2, kept := true, ok := [(0, 64)] },
      { sub := 0x07, ty := .u64, acc := .rw, st := 2, kept := true },
      { sub := 0x08, ty := .u16, acc := .rw, st := 2, kept := true },
      { sub := 0x09, ty := .u32, acc := .rw, st := 2, kept := true, ok := [(0, 0), (2, 1048576)] },
      { sub := 0x0A, ty := .bool, acc := .rw, st := 14, kept := true, dflt := 1 },
      { sub := 0x0B, ty := .enum8 },
      { sub := 0x0C, ty := .time },
      { sub := 0x0D, ty := .enum8, acc := .wo, st := 12, ok := [(1, 2)] },
      { sub := 0x0E, ty := .time, acc := .rw, st := 12 },
      { sub := 0x0F, ty := .u32 },
      { sub := 0x10, ty := .u32 }] }

/-- `A0`: Axis (R312). -/
def famAxis : Fam :=
  { base := 0x4000, s1 := 256, n1 := 8, s2 := 1, n2 := 1,
    rows := [
      { sub := 0x01, ty := .enum8, acc := .wo, st := 30, ok := [(1, 10)] },
      { sub := 0x02, ty := .enum8 },
      { sub := 0x03, ty := .enum8 },
      { sub := 0x04, ty := .enum8, acc := .rw, st := 2, kept := true, ok := [(0, 1)] },
      { sub := 0x05, ty := .enum8, acc := .rw, st := 2, kept := true, ok := [(0, 1)] },
      { sub := 0x06, ty := .u8, acc := .rw, st := 2, kept := true, ok := [(0, 31)] },
      { sub := 0x07, ty := .u32 },
      { sub := 0x08, ty := .bits32 },
      { sub := 0x09, ty := .time }] }

/-- `A1`: AxMove (R312). -/
def famAxMove : Fam :=
  { base := 0x4001, s1 := 256, n1 := 8, s2 := 1, n2 := 1,
    rows := [
      { sub := 0x01, ty := .i32, acc := .rw, st := 12 },
      { sub := 0x02, ty := .i32, acc := .rw, st := 12 },
      { sub := 0x03, ty := .u32, acc := .rw, st := 14, kept := true, dflt := 100000, ok := [(1, 2000000000)] },
      { sub := 0x04, ty := .u32, acc := .rw, st := 14, kept := true, dflt := 1000000, ok := [(1, 4000000000)] },
      { sub := 0x05, ty := .u32, acc := .rw, st := 14, kept := true, dflt := 1000000, ok := [(1, 4000000000)] },
      { sub := 0x06, ty := .i32, acc := .rw, st := 6, kept := true, dflt := (-2147483648) },
      { sub := 0x07, ty := .i32, acc := .rw, st := 6, kept := true, dflt := 2147483647 },
      { sub := 0x08, ty := .bool, acc := .rw, st := 2, kept := true },
      { sub := 0x09, ty := .u32, acc := .rw, st := 14, kept := true, dflt := 4, ok := [(0, 1000000)] },
      { sub := 0x0A, ty := .u16, acc := .rw, st := 14, kept := true, dflt := 20, ok := [(1, 65535)] },
      { sub := 0x0B, ty := .u32, acc := .rw, st := 14, kept := true, dflt := 100, ok := [(0, 60000)] }] }

/-- `A2`: AxStop (R312). -/
def famAxStop : Fam :=
  { base := 0x4002, s1 := 256, n1 := 8, s2 := 1, n2 := 1,
    rows := [
      { sub := 0x01, ty := .u32, acc := .rw, st := 14, kept := true, dflt := 2000000, ok := [(1, 4000000000)] },
      { sub := 0x02, ty := .u32, acc := .rw, st := 14, kept := true, dflt := 8000000, ok := [(1, 4000000000)] }] }

/-- `A3`: AxTab (R312). -/
def famAxTab : Fam :=
  { base := 0x4003, s1 := 256, n1 := 8, s2 := 1, n2 := 1,
    rows := [
      { sub := 0x01, ty := .domain, acc := .rw, st := 2, kept := true },
      { sub := 0x02, ty := .u32, acc := .rw, st := 2, kept := true, ok := [(0, 65536)], step := 16, dom := some (16, true, true) },
      { sub := 0x03, ty := .domain, acc := .rw, st := 2, kept := true },
      { sub := 0x04, ty := .u32, acc := .rw, st := 2, kept := true, ok := [(0, 65536)], step := 16, dom := some (16, true, true) },
      { sub := 0x05, ty := .u8, acc := .rw, st := 12, ok := [(0, 1)] },
      { sub := 0x06, ty := .u8, dflt := 255 },
      { sub := 0x07, ty := .u16 },
      { sub := 0x08, ty := .u16 }] }

/-- `A4`: AxPwm (R312). -/
def famAxPwm : Fam :=
  { base := 0x4004, s1 := 256, n1 := 8, s2 := 1, n2 := 1,
    rows := [
      { sub := 0x01, ty := .u32, acc := .rw, st := 2, kept := true, dflt := 40000, ok := [(20000, 100000)] },
      { sub := 0x02, ty := .u8, acc := .rw, st := 2, kept := true, ok := [(0, 1)] },
      { sub := 0x03, ty := .q18, acc := .rw, st := 6, kept := true, dflt := 124518, ok := [(0, 131071)] },
      { sub := 0x04, ty := .u16, acc := .rw, st := 2, kept := true, dflt := 100, ok := [(0, 2000)] },
      { sub := 0x05, ty := .u32, acc := .rw, st := 6, kept := true, dflt := 24000, ok := [(100, 200000)] },
      { sub := 0x06, ty := .u32, acc := .rw, st := 14, kept := true },
      { sub := 0x07, ty := .u16, acc := .rw, st := 2, kept := true, dflt := 256, ok := [(1, 1024)] },
      { sub := 0x08, ty := .u32, acc := .rw, st := 14, kept := true, dflt := 2000 },
      { sub := 0x09, ty := .u32, acc := .rw, st := 14, kept := true, dflt := 1000 },
      { sub := 0x0A, ty := .u16, acc := .rw, st := 6, kept := true, dflt := 200, ok := [(0, 60000)] },
      { sub := 0x0B, ty := .u32, acc := .rw, st := 6, kept := true, dflt := 48000, ok := [(100, 200000)] },
      { sub := 0x0C, ty := .u32, acc := .rw, st := 14, kept := true, ok := [(0, 65536)] },
      { sub := 0x0D, ty := .i32 },
      { sub := 0x0E, ty := .i32 }] }

/-- `A5`: AxEnc (R312). -/
def famAxEnc : Fam :=
  { base := 0x4005, s1 := 256, n1 := 8, s2 := 1, n2 := 1,
    rows := [
      { sub := 0x01, ty := .u8, dflt := 255 },
      { sub := 0x02, ty := .u8, acc := .rw, st := 2, kept := true, dflt := 255, ok := [(0, 5), (255, 255)] },
      { sub := 0x03, ty := .i32, acc := .rw, st := 2, kept := true, dflt := 65536 },
      { sub := 0x04, ty := .u32, acc := .rw, st := 6, kept := true },
      { sub := 0x05, ty := .i32 }] }

/-- `A6`: AxMon (R312). -/
def famAxMon : Fam :=
  { base := 0x4006, s1 := 256, n1 := 8, s2 := 1, n2 := 1,
    rows := [
      { sub := 0x01, ty := .i32 },
      { sub := 0x02, ty := .i32 },
      { sub := 0x03, ty := .i32 },
      { sub := 0x04, ty := .i32 },
      { sub := 0x05, ty := .u32 },
      { sub := 0x06, ty := .u32 },
      { sub := 0x07, ty := .u32 },
      { sub := 0x08, ty := .u32 }] }

/-- `A7`: AxCnt (R312). -/
def famAxCnt : Fam :=
  { base := 0x4007, s1 := 256, n1 := 8, s2 := 1, n2 := 1,
    rows := [
      { sub := 0x01, ty := .u32 },
      { sub := 0x02, ty := .u32 },
      { sub := 0x03, ty := .u32 },
      { sub := 0x04, ty := .u32 },
      { sub := 0x05, ty := .u32 },
      { sub := 0x06, ty := .u64 }] }

/-- `4bF0`: Bus (R312). -/
def famBus : Fam :=
  { base := 0x40F0, s1 := 256, n1 := 2, s2 := 1, n2 := 1,
    rows := [
      { sub := 0x01, ty := .u32 },
      { sub := 0x02, ty := .u32, acc := .rw, st := 2, kept := true, dflt := 14648, ok := [(1, 1000000)] },
      { sub := 0x03, ty := .u32, acc := .rw, st := 6, kept := true, dflt := 18000 },
      { sub := 0x04, ty := .u32, acc := .rw, st := 6, kept := true, dflt := 56000 },
      { sub := 0x05, ty := .u32, cc := true },
      { sub := 0x06, ty := .u32, cc := true }] }

/-- `P0`: Csi (R316). -/
def famCsi : Fam :=
  { base := 0x5001, s1 := 1, n1 := 2, s2 := 1, n2 := 1,
    rows := [
      { sub := 0x01, ty := .bool, acc := .rw, st := 46, kept := true },
      { sub := 0x02, ty := .u8, acc := .rw, st := 2, kept := true, dflt := 4, ok := [(1, 2), (4, 4)] },
      { sub := 0x03, ty := .u16, acc := .rw, st := 2, kept := true, dflt := 12816 },
      { sub := 0x04, ty := .bits32, acc := .rw, st := 2, kept := true, mask := 0x1F },
      { sub := 0x05, ty := .u8, acc := .rw, st := 2, kept := true, dflt := 30, ok := [(8, 60)] },
      { sub := 0x06, ty := .enum8 },
      { sub := 0x07, ty := .u32 },
      { sub := 0x08, ty := .u32 },
      { sub := 0x09, ty := .u32 },
      { sub := 0x0A, ty := .u32 },
      { sub := 0x0B, ty := .u32 },
      { sub := 0x0C, ty := .u32 }] }

/-- `C0`: Ctx (R334). -/
def famCtx : Fam :=
  { base := 0x5100, s1 := 16, n1 := 16, s2 := 1, n2 := 1,
    rows := [
      { sub := 0x01, ty := .bool, acc := .rw, st := 46, kept := true },
      { sub := 0x02, ty := .enum8, acc := .rw, st := 46, kept := true, ok := [(0, 1)] },
      { sub := 0x03, ty := .u8, acc := .rw, st := 46, kept := true, ok := [(0, 15)] },
      { sub := 0x04, ty := .enum8, acc := .rw, st := 46, kept := true, dflt := 43, ok := [(30, 30), (42, 46)] },
      { sub := 0x05, ty := .u16, acc := .rw, st := 46, kept := true, dflt := 1920, ok := [(16, 8192)], step := 2 },
      { sub := 0x06, ty := .u16, acc := .rw, st := 46, kept := true, dflt := 1080, ok := [(1, 16383)] },
      { sub := 0x07, ty := .u8, acc := .rw, st := 46, kept := true, dflt := 4, ok := [(0, 7)] },
      { sub := 0x08, ty := .enum8, acc := .rw, st := 46, kept := true, ok := [(0, 4)] },
      { sub := 0x09, ty := .i32, acc := .rw, st := 46, kept := true, ok := [(-100000000, 100000000)] },
      { sub := 0x0A, ty := .u32, acc := .rw, st := 46, kept := true }] }

/-- `C1`: CtxCol (R334). -/
def famCtxCol : Fam :=
  { base := 0x5101, s1 := 16, n1 := 16, s2 := 1, n2 := 1,
    rows := [
      { sub := 0x01, ty := .u16, acc := .rw, st := 46, kept := true },
      { sub := 0x02, ty := .u32, acc := .rw, st := 46, kept := true, dflt := 65536, ok := [(0, 524288)] },
      { sub := 0x03, ty := .u32, acc := .rw, st := 46, kept := true, dflt := 65536, ok := [(0, 524288)] },
      { sub := 0x04, ty := .u32, acc := .rw, st := 46, kept := true, dflt := 65536, ok := [(0, 524288)] },
      { sub := 0x05, n := 9, ty := .i32, acc := .rw, st := 46, kept := true }] }

/-- `C2`: CtxSt (R334). -/
def famCtxSt : Fam :=
  { base := 0x5102, s1 := 16, n1 := 16, s2 := 1, n2 := 1,
    rows := [
      { sub := 0x01, ty := .enum8 },
      { sub := 0x02, ty := .u64 },
      { sub := 0x03, ty := .u32 },
      { sub := 0x04, ty := .u32 },
      { sub := 0x05, ty := .u32 },
      { sub := 0x06, ty := .u32 },
      { sub := 0x07, ty := .u32 }] }

/-- `On`: Out (R334). -/
def famOut : Fam :=
  { base := 0x5200, s1 := 16, n1 := 16, s2 := 1, n2 := 3,
    rows := [
      { sub := 0x01, ty := .bool, acc := .rw, st := 46, kept := true },
      { sub := 0x02, ty := .domain, acc := .rw, st := 46, kept := true },
      { sub := 0x03, ty := .u32, acc := .rw, st := 46, kept := true, dom := some (64, false, false) },
      { sub := 0x04, ty := .u8, acc := .rw, st := 46, kept := true, dflt := 4, ok := [(2, 16)] },
      { sub := 0x05, ty := .u8 },
      { sub := 0x06, ty := .u8, acc := .rw, st := 63 },
      { sub := 0x09, ty := .u32 }] }

/-- `O0`: Disp (R325, R334). -/
def famDisp : Fam :=
  { base := 0x5200, s1 := 16, n1 := 16, s2 := 1, n2 := 1,
    rows := [
      { sub := 0x07, ty := .enum8, acc := .rw, st := 46, kept := true, ok := [(0, 1)] },
      { sub := 0x08, ty := .u8, acc := .rw, st := 46, kept := true, dflt := 1, ok := [(1, 2), (4, 4), (8, 8)] },
      { sub := 0x0A, ty := .bool, acc := .rw, st := 46, kept := true, dflt := 1 }] }

/-- `O1`: Cod (R325, R334): NV12 is its one format. -/
def famCod : Fam :=
  { base := 0x5201, s1 := 16, n1 := 16, s2 := 1, n2 := 1,
    rows := [{ sub := 0x07, ty := .enum8, acc := .rw, st := 46, kept := true, ok := [(0, 0)] }] }

/-- `O2`: Vis (R325, R334). -/
def famVis : Fam :=
  { base := 0x5202, s1 := 16, n1 := 16, s2 := 1, n2 := 1,
    rows := [
      { sub := 0x07, ty := .enum8, acc := .rw, st := 46, kept := true, ok := [(0, 1)] },
      { sub := 0x0A, ty := .u16, acc := .rw, st := 46, kept := true },
      { sub := 0x0B, ty := .u16, acc := .rw, st := 46, kept := true },
      { sub := 0x0C, ty := .u16, acc := .rw, st := 46, kept := true, dflt := 1920 },
      { sub := 0x0D, ty := .u16, acc := .rw, st := 46, kept := true, dflt := 1080 }] }

/-- `O3`: CamRec (R334). -/
def famCamRec : Fam :=
  { base := 0x5203, s1 := 16, n1 := 16, s2 := 1, n2 := 1,
    rows := [
      { sub := 0x01, ty := .domain, acc := .rw, st := 46, kept := true },
      { sub := 0x02, ty := .u32, acc := .rw, st := 46, kept := true, dom := some (64, true, false) },
      { sub := 0x03, ty := .u32 },
      { sub := 0x04, ty := .u32, acc := .rw, st := 63, cls := .fmfs },
      { sub := 0x05, ty := .u32 }] }

/-- `F0`: Blob (R334). -/
def famBlob : Fam :=
  { base := 0x5300, s1 := 16, n1 := 16, s2 := 1, n2 := 1,
    rows := [
      { sub := 0x01, ty := .bool, acc := .rw, st := 46, kept := true },
      { sub := 0x02, ty := .u16, acc := .rw, st := 46, kept := true, dflt := 32768 },
      { sub := 0x03, ty := .enum8, acc := .rw, st := 46, kept := true, ok := [(0, 1)] },
      { sub := 0x04, ty := .u32, acc := .rw, st := 46, kept := true, dflt := 4 },
      { sub := 0x05, ty := .u32, acc := .rw, st := 46, kept := true, dflt := 65536 },
      { sub := 0x06, ty := .u16, acc := .rw, st := 46, kept := true, dflt := 256, ok := [(1, 256)] }] }

/-- `F1`: Profl (R334). -/
def famProfl : Fam :=
  { base := 0x5301, s1 := 16, n1 := 16, s2 := 1, n2 := 1,
    rows := [
      { sub := 0x01, ty := .bool, acc := .rw, st := 46, kept := true },
      { sub := 0x02, ty := .enum8, acc := .rw, st := 46, kept := true, ok := [(0, 1)] },
      { sub := 0x03, ty := .u8, acc := .rw, st := 46, kept := true, dflt := 1, ok := [(1, 16)] }] }

/-- `F2`: Feat (R334). -/
def famFeat : Fam :=
  { base := 0x5302, s1 := 16, n1 := 16, s2 := 1, n2 := 1,
    rows := [
      { sub := 0x01, ty := .domain, acc := .rw, st := 46, kept := true },
      { sub := 0x02, ty := .u32, acc := .rw, st := 46, kept := true, dom := some (32, true, false) },
      { sub := 0x03, ty := .u32 },
      { sub := 0x04, ty := .u32, acc := .rw, st := 63, cls := .fmfs },
      { sub := 0x05, ty := .u32 }] }

/-- `X0`: Lane (R356). -/
def famLane : Fam :=
  { base := 0x0C00, s1 := 8, n1 := 16, s2 := 1, n2 := 1,
    rows := [
      { sub := 0x01, ty := .enum8 },
      { sub := 0x02, ty := .u8, dflt := 255 },
      { sub := 0x03, ty := .enum8, dflt := 255 },
      { sub := 0x04, ty := .enum8 },
      { sub := 0x05, ty := .enum8, acc := .wo, st := 46, ok := [(1, 4)] },
      { sub := 0x06, ty := .bool },
      { sub := 0x07, ty := .enum8, dflt := 2 }] }

/-- `X1`: LaneEq (R356). -/
def famLaneEq : Fam :=
  { base := 0x0C01, s1 := 8, n1 := 16, s2 := 1, n2 := 1,
    rows := [
      { sub := 0x01, ty := .i8 },
      { sub := 0x02, ty := .u8, dflt := 48 },
      { sub := 0x03, ty := .i8, dflt := (-8) },
      { sub := 0x04, ty := .u8, dflt := 6 },
      { sub := 0x05, n := 5, ty := .i8 },
      { sub := 0x0A, ty := .bits32 }] }

/-- `X2`: LaneCnt (R356). -/
def famLaneCnt : Fam :=
  { base := 0x0C02, s1 := 8, n1 := 16, s2 := 1, n2 := 1,
    rows := [
      { sub := 0x01, ty := .u32 },
      { sub := 0x02, ty := .u32 },
      { sub := 0x03, ty := .u32 },
      { sub := 0x04, ty := .u32 },
      { sub := 0x05, ty := .u32 },
      { sub := 0x06, ty := .u32 }] }

/-- `X3`: LaneTest (R356). -/
def famLaneTest : Fam :=
  { base := 0x0C03, s1 := 8, n1 := 16, s2 := 1, n2 := 1,
    rows := [
      { sub := 0x01, ty := .enum8, acc := .rw, st := 32, dflt := 3, ok := [(0, 4)] },
      { sub := 0x02, ty := .enum8, acc := .rw, st := 32, ok := [(0, 2)] },
      { sub := 0x03, ty := .enum8, acc := .rw, st := 32, dflt := 7, ok := [(0, 7)] },
      { sub := 0x04, ty := .bool },
      { sub := 0x05, ty := .u64 },
      { sub := 0x06, ty := .u64 }] }

/-- `0Dm0`: Mac (R357). -/
def famMac : Fam :=
  { base := 0x0D00, s1 := 16, n1 := 2, s2 := 1, n2 := 1,
    rows := [
      { sub := 0x01, ty := .bool, acc := .rw, st := 34, kept := true },
      { sub := 0x02, ty := .u8, acc := .rw, st := 2, kept := true, ok := [(0, 15)] },
      { sub := 0x03, ty := .enum8, acc := .rw, st := 2, kept := true, dflt := 1, ok := [(0, 1)] },
      { sub := 0x04, ty := .bool, acc := .rw, st := 2, kept := true },
      { sub := 0x05, ty := .u16, acc := .rw, st := 2, kept := true, dflt := 2114, ok := [(1518, 9600)] },
      { sub := 0x06, ty := .u64 },
      { sub := 0x07, ty := .u64, acc := .rw, st := 46, kept := true },
      { sub := 0x08, ty := .enum8 }] }

/-- `0Dm1`: MacRing (R357). -/
def famMacRing : Fam :=
  { base := 0x0D01, s1 := 16, n1 := 2, s2 := 1, n2 := 1,
    rows := [
      { sub := 0x01, ty := .domain, acc := .rw, st := 2, kept := true },
      { sub := 0x02, ty := .u32, acc := .rw, st := 2, kept := true, dom := some (64, true, false) },
      { sub := 0x03, ty := .u16 },
      { sub := 0x04, ty := .u16, acc := .rw, st := 63, cls := .fmfs },
      { sub := 0x05, ty := .domain, acc := .rw, st := 2, kept := true },
      { sub := 0x06, ty := .u32, acc := .rw, st := 2, kept := true, dom := some (64, true, false) },
      { sub := 0x07, ty := .u16 },
      { sub := 0x08, ty := .u16, acc := .rw, st := 63, cls := .fmfs },
      { sub := 0x09, ty := .u32, dflt := 2176 }] }

/-- `0Dm2`: MacCnt (R357). -/
def famMacCnt : Fam :=
  { base := 0x0D02, s1 := 16, n1 := 2, s2 := 1, n2 := 1,
    rows := [
      { sub := 0x01, ty := .u64 },
      { sub := 0x02, ty := .u64 },
      { sub := 0x03, ty := .u32 },
      { sub := 0x04, ty := .u32 },
      { sub := 0x05, ty := .u32 },
      { sub := 0x06, ty := .u32 },
      { sub := 0x07, ty := .u32 },
      { sub := 0x08, ty := .u32 },
      { sub := 0x09, ty := .u64 },
      { sub := 0x0A, ty := .u32 },
      { sub := 0x0B, ty := .u32 },
      { sub := 0x0C, ty := .u32 }] }

/-- `0E00`: Time (R376). -/
def famTime : Fam :=
  { base := 0x0E00, s1 := 1, n1 := 1, s2 := 1, n2 := 1,
    rows := [
      { sub := 0x00, ty := .time }] }

/-- `0E01`: Inc (R376). -/
def famInc : Fam :=
  { base := 0x0E01, s1 := 1, n1 := 1, s2 := 1, n2 := 1,
    rows := [
      { sub := 0x01, ty := .u64, acc := .rw, st := 63, dflt := 17179869184 },
      { sub := 0x02, ty := .u64, acc := .rw, st := 63, dflt := 17179869184 },
      { sub := 0x03, ty := .u32, acc := .rw, st := 63 }] }

/-- `0E02`: Step (R376). -/
def famStep : Fam :=
  { base := 0x0E02, s1 := 1, n1 := 1, s2 := 1, n2 := 1,
    rows := [
      { sub := 0x00, ty := .i64, acc := .wo, st := 35, ok := [(-4611686018427387904, 4611686018427387904)] }] }

/-- `0E03`: TimeSt (R376). -/
def famTimeSt : Fam :=
  { base := 0x0E03, s1 := 1, n1 := 1, s2 := 1, n2 := 1,
    rows := [
      { sub := 0x01, ty := .bits32 }] }

/-- `0E04`: Sync (R376). -/
def famSync : Fam :=
  { base := 0x0E04, s1 := 1, n1 := 1, s2 := 1, n2 := 1,
    rows := [
      { sub := 0x01, ty := .bool, acc := .rw, st := 34, kept := true },
      { sub := 0x02, ty := .u8, acc := .rw, st := 34, kept := true, dflt := 254 },
      { sub := 0x03, ty := .u32, acc := .rw, st := 34, kept := true, dflt := 10000, ok := [(1000, 1000000)] },
      { sub := 0x04, ty := .u32, acc := .rw, st := 34, kept := true, dflt := 1000, ok := [(100, 1000000)] },
      { sub := 0x05, ty := .i64 },
      { sub := 0x06, ty := .time },
      { sub := 0x07, ty := .u16 },
      { sub := 0x08, ty := .u32 },
      { sub := 0x09, ty := .u32 }] }

/-- `0E05`: Delay (R376). -/
def famDelay : Fam :=
  { base := 0x0E05, s1 := 1, n1 := 1, s2 := 1, n2 := 1,
    rows := [
      { sub := 0x01, ty := .u32 },
      { sub := 0x02, ty := .u32 },
      { sub := 0x03, ty := .u32 }] }

/-- `0E1n`: Trig (R376). -/
def famTrig : Fam :=
  { base := 0x0E10, s1 := 1, n1 := 32, s2 := 1, n2 := 1,
    rows := [
      { sub := 0x01, ty := .enum8, acc := .rw, st := 2, kept := true, ok := [(0, 3)] },
      { sub := 0x02, ty := .time, acc := .rw, st := 2, kept := true },
      { sub := 0x03, ty := .u32, acc := .rw, st := 2, kept := true, dflt := 1000000, ok := [(100, 4000000000)] },
      { sub := 0x04, ty := .time, acc := .rw, st := 46 },
      { sub := 0x05, ty := .enum8, acc := .wo, st := 63, ok := [(1, 2)] },
      { sub := 0x06, ty := .bool, acc := .rw, st := 2, kept := true },
      { sub := 0x07, ty := .u16, acc := .rw, st := 2, kept := true, dflt := 25, ok := [(1, 65535)] },
      { sub := 0x08, ty := .time },
      { sub := 0x09, ty := .u64 },
      { sub := 0x0A, ty := .bits32 }] }

/-- `0E4n`: Cap (R376). -/
def famCap : Fam :=
  { base := 0x0E40, s1 := 1, n1 := 32, s2 := 1, n2 := 1,
    rows := [
      { sub := 0x01, ty := .u8, acc := .rw, st := 6, kept := true, dflt := 255, ok := [(0, 7), (16, 27), (32, 64), (72, 77), (80, 81), (96, 127), (255, 255)] },
      { sub := 0x02, ty := .enum8, acc := .rw, st := 6, kept := true, ok := [(0, 2)] },
      { sub := 0x03, ty := .u16, acc := .rw, st := 6, kept := true, ok := [(0, 1000)] },
      { sub := 0x04, ty := .time },
      { sub := 0x05, ty := .u32 },
      { sub := 0x06, ty := .time },
      { sub := 0x07, ty := .u8 },
      { sub := 0x08, ty := .bool, acc := .wo, st := 63 },
      { sub := 0x09, ty := .u32 }] }

/-- `0D8m`: MacCorr (R376). -/
def famMacCorr : Fam :=
  { base := 0x0D80, s1 := 1, n1 := 2, s2 := 1, n2 := 1,
    rows := [
      { sub := 0x01, ty := .i32, dflt := 41600 },
      { sub := 0x02, ty := .i32, dflt := (-57300) }] }

/-- `0800`: Dmc (R400). -/
def famDmc : Fam :=
  { base := 0x0800, s1 := 1, n1 := 1, s2 := 1, n2 := 1,
    rows := [
      { sub := 0x01, ty := .enum8, acc := .rw, st := 49, dflt := 2, ok := [(1, 2)] },
      { sub := 0x02, ty := .enum8, acc := .rw, st := 49, ok := [(0, 1)] },
      { sub := 0x03, ty := .u8, acc := .rw, st := 49, dflt := 1, ok := [(1, 2)] },
      { sub := 0x04, ty := .u16, acc := .rw, st := 49, dflt := 6400, ok := [(3200, 3200), (3600, 3600), (4000, 4000), (4400, 4400), (4800, 4800), (5200, 5200), (5600, 5600), (6000, 6000), (6400, 6400)] },
      { sub := 0x05, ty := .u8, acc := .rw, st := 49, dflt := 52, ok := [(22, 66)], step := 2 },
      { sub := 0x06, ty := .enum8, acc := .rw, st := 49, dflt := 1, ok := [(0, 1)] },
      { sub := 0x07, ty := .u16, acc := .rw, st := 49, dflt := 100, ok := [(10, 10000)] },
      { sub := 0x08, ty := .u16, acc := .rw, st := 49, dflt := 16, ok := [(0, 128)] },
      { sub := 0x09, ty := .u64 }] }

/-- `0801`: DmcSt (R400). -/
def famDmcSt : Fam :=
  { base := 0x0801, s1 := 1, n1 := 1, s2 := 1, n2 := 1,
    rows := [
      { sub := 0x01, ty := .enum8, acc := .wo, st := 48, ok := [(1, 1)] },
      { sub := 0x02, ty := .enum8 },
      { sub := 0x03, ty := .bool }] }

/-- `0802`: DmcErr (R400). -/
def famDmcErr : Fam :=
  { base := 0x0802, s1 := 1, n1 := 1, s2 := 1, n2 := 1,
    rows := [
      { sub := 0x01, ty := .u64 },
      { sub := 0x02, ty := .enum8 },
      { sub := 0x03, ty := .bits32 },
      { sub := 0x04, ty := .u32 },
      { sub := 0x05, ty := .u64 },
      { sub := 0x06, ty := .enum8 },
      { sub := 0x07, ty := .u8 },
      { sub := 0x08, ty := .time },
      { sub := 0x09, ty := .u32 },
      { sub := 0x0A, ty := .u32, cc := true },
      { sub := 0x0B, ty := .u32 }] }

/-- `0803`: DmcDbg (R400). -/
def famDmcDbg : Fam :=
  { base := 0x0803, s1 := 1, n1 := 1, s2 := 1, n2 := 1,
    rows := [
      { sub := 0x01, ty := .u64, acc := .rw, st := 63, step := 64, cls := .fm },
      { sub := 0x02, ty := .enum8, acc := .wo, st := 63, ok := [(1, 1)], cls := .fm },
      { sub := 0x03, n := 8, ty := .u64 },
      { sub := 0x0B, ty := .u64 },
      { sub := 0x0C, ty := .u64 }] }

/-- `0804`: DmcRef (R400). -/
def famDmcRef : Fam :=
  { base := 0x0804, s1 := 1, n1 := 1, s2 := 1, n2 := 1,
    rows := [
      { sub := 0x01, ty := .u32, dflt := 3900 },
      { sub := 0x02, ty := .u64 },
      { sub := 0x03, ty := .u8 }] }

/-- `0805`: DmcCnt (R400). -/
def famDmcCnt : Fam :=
  { base := 0x0805, s1 := 1, n1 := 1, s2 := 1, n2 := 1,
    rows := [
      { sub := 0x01, ty := .u64 },
      { sub := 0x02, ty := .u64 },
      { sub := 0x03, ty := .u32 },
      { sub := 0x04, ty := .u32 },
      { sub := 0x05, ty := .u32 }] }

/-- `0810`: Ppr (R400). -/
def famPpr : Fam :=
  { base := 0x0810, s1 := 1, n1 := 1, s2 := 1, n2 := 1,
    rows := [
      { sub := 0x01, ty := .u32, acc := .rw, st := 32, ok := [(0, 1)] },
      { sub := 0x02, ty := .u32, acc := .rw, st := 32, ok := [(0, 1)] },
      { sub := 0x03, ty := .u32, acc := .rw, st := 32, ok := [(0, 4)] },
      { sub := 0x04, ty := .u32, acc := .rw, st := 32, ok := [(0, 7)] },
      { sub := 0x05, ty := .u32, acc := .rw, st := 32, ok := [(0, 3)] },
      { sub := 0x06, ty := .u32, acc := .rw, st := 32, ok := [(0, 131071)] },
      { sub := 0x07, ty := .enum8, acc := .wo, st := 32, ok := [(1, 2)] },
      { sub := 0x08, ty := .enum8 }] }

/-- `0811`: Soft (R400). -/
def famSoft : Fam :=
  { base := 0x0811, s1 := 1, n1 := 1, s2 := 1, n2 := 1,
    rows := [
      { sub := 0x01, n := 8, ty := .u64, acc := .rw, st := 32, kept := true, ok := [(0, 0)] }] }

/-- `0820`: Train (R400). -/
def famTrain : Fam :=
  { base := 0x0820, s1 := 1, n1 := 1, s2 := 1, n2 := 1,
    rows := [
      { sub := 0x01, ty := .enum8, acc := .wo, st := 49, ok := [(1, 3)] },
      { sub := 0x02, ty := .u8, acc := .rw, st := 49, ok := [(0, 1)] },
      { sub := 0x03, ty := .u8, acc := .rw, st := 49, ok := [(0, 1)] },
      { sub := 0x04, ty := .u8, acc := .rw, st := 49, ok := [(0, 4)] },
      { sub := 0x05, ty := .enum8, acc := .rw, st := 49, ok := [(0, 5)] }] }

/-- `0821`: TrainDly (R400). -/
def famTrainDly : Fam :=
  { base := 0x0821, s1 := 1, n1 := 1, s2 := 1, n2 := 1,
    rows := [
      { sub := 0x01, ty := .u8, acc := .rw, st := 49, dflt := 128 },
      { sub := 0x02, ty := .u8, acc := .rw, st := 49, dflt := 128 },
      { sub := 0x03, ty := .u16, acc := .rw, st := 49, ok := [(0, 1023)] },
      { sub := 0x04, ty := .u16, acc := .rw, st := 49, ok := [(0, 1023)] },
      { sub := 0x05, ty := .u8, acc := .rw, st := 49, dflt := 128 },
      { sub := 0x06, ty := .u16, acc := .rw, st := 49, ok := [(0, 1023)] },
      { sub := 0x07, ty := .u8, acc := .rw, st := 49, dflt := 64, ok := [(0, 127)] }] }

/-- `0822`: Mr (R400). -/
def famMr : Fam :=
  { base := 0x0822, s1 := 1, n1 := 1, s2 := 1, n2 := 1,
    rows := [
      { sub := 0x01, ty := .u8, acc := .rw, st := 49 },
      { sub := 0x02, ty := .u8, acc := .rw, st := 49 },
      { sub := 0x03, ty := .enum8, acc := .wo, st := 49, ok := [(1, 4)] },
      { sub := 0x04, ty := .u64 }] }

/-- `0823`: TPat (R400). -/
def famTPat : Fam :=
  { base := 0x0823, s1 := 1, n1 := 1, s2 := 1, n2 := 1,
    rows := [
      { sub := 0x01, ty := .enum8, acc := .rw, st := 49, dflt := 1, ok := [(0, 2)] },
      { sub := 0x02, ty := .u32, acc := .rw, st := 49, dflt := 1 },
      { sub := 0x03, ty := .u64, acc := .rw, st := 49, step := 64 },
      { sub := 0x04, ty := .u16, acc := .rw, st := 49, dflt := 64, ok := [(1, 4096)] },
      { sub := 0x05, ty := .enum8, acc := .wo, st := 49, ok := [(1, 3)] },
      { sub := 0x06, ty := .bool },
      { sub := 0x07, ty := .u64 },
      { sub := 0x08, ty := .u32 }] }

/-- `D0`: Dma (R421). -/
def famDma : Fam :=
  { base := 0x0900, s1 := 4, n1 := 32, s2 := 1, n2 := 1,
    rows := [
      { sub := 0x01, ty := .bool, acc := .rw, st := 63 },
      { sub := 0x02, ty := .enum8, acc := .rw, st := 63, ok := [(0, 1)] },
      { sub := 0x03, ty := .enum8, acc := .wo, st := 63, ok := [(1, 3)] },
      { sub := 0x04, ty := .enum8 },
      { sub := 0x05, ty := .u8, acc := .rw, st := 63, dflt := 255, ok := [(0, 7), (255, 255)] },
      { sub := 0x06, ty := .u8, acc := .rw, st := 63, dflt := 1, ok := [(0, 3)] },
      { sub := 0x07, ty := .u8, acc := .rw, st := 63, dflt := 255, ok := [(0, 31), (255, 255)] },
      { sub := 0x08, ty := .bits32 },
      { sub := 0x09, ty := .enum8, dflt := 1 },
      { sub := 0x0A, ty := .enum8 }] }

/-- `D1`: DmaAct (R421). -/
def famDmaAct : Fam :=
  { base := 0x0901, s1 := 4, n1 := 32, s2 := 1, n2 := 1,
    rows := [
      { sub := 0x01, ty := .u64 },
      { sub := 0x02, ty := .u64 },
      { sub := 0x03, ty := .u32 },
      { sub := 0x04, ty := .u16 },
      { sub := 0x05, ty := .u32 },
      { sub := 0x06, ty := .u32 }] }

/-- `D2`: DmaSh (R421). -/
def famDmaSh : Fam :=
  { base := 0x0902, s1 := 4, n1 := 32, s2 := 1, n2 := 1,
    rows := [
      { sub := 0x01, ty := .u64, acc := .rw, st := 63 },
      { sub := 0x02, ty := .u64, acc := .rw, st := 63 },
      { sub := 0x03, ty := .u32, acc := .rw, st := 63, dflt := 1 },
      { sub := 0x04, ty := .u16, acc := .rw, st := 63, dflt := 1 },
      { sub := 0x05, ty := .bits32, acc := .rw, st := 63, dflt := 1024, mask := 0x777 },
      { sub := 0x06, ty := .i16, acc := .rw, st := 63, dflt := 1 },
      { sub := 0x07, ty := .i16, acc := .rw, st := 63, dflt := 1 },
      { sub := 0x08, ty := .i32, acc := .rw, st := 63 },
      { sub := 0x09, ty := .i32, acc := .rw, st := 63 },
      { sub := 0x0A, ty := .u32, acc := .rw, st := 63 },
      { sub := 0x0B, ty := .bool, acc := .rw, st := 63 }] }

/-- `D3`: DmaRing (R421). -/
def famDmaRing : Fam :=
  { base := 0x0903, s1 := 4, n1 := 32, s2 := 1, n2 := 1,
    rows := [
      { sub := 0x01, ty := .domain, acc := .rw, st := 63 },
      { sub := 0x02, ty := .u32, acc := .rw, st := 63, ok := [(128, 1048576)], dom := some (64, false, false) },
      { sub := 0x03, ty := .u32 },
      { sub := 0x04, ty := .u32, acc := .rw, st := 63, cls := .fmfs },
      { sub := 0x05, ty := .u64 },
      { sub := 0x06, ty := .u32 },
      { sub := 0x07, ty := .u32 },
      { sub := 0x08, ty := .u32 },
      { sub := 0x09, ty := .u32 }] }

/-- `098q`: Cq (R421). -/
def famCq : Fam :=
  { base := 0x0980, s1 := 1, n1 := 8, s2 := 1, n2 := 1,
    rows := [
      { sub := 0x01, ty := .domain, acc := .rw, st := 63 },
      { sub := 0x02, ty := .u32, acc := .rw, st := 63, dom := some (64, true, false) },
      { sub := 0x03, ty := .u32 },
      { sub := 0x04, ty := .u32, acc := .rw, st := 63, cls := .fmfs },
      { sub := 0x05, ty := .enum8, acc := .rw, st := 63, ok := [(0, 1)] },
      { sub := 0x06, ty := .u32 },
      { sub := 0x07, ty := .u32 },
      { sub := 0x08, ty := .u64 }] }

/-- `0988`: DmaTot (R421). -/
def famDmaTot : Fam :=
  { base := 0x0988, s1 := 1, n1 := 1, s2 := 1, n2 := 1,
    rows := [
      { sub := 0x01, ty := .u64 },
      { sub := 0x02, ty := .bits32 }] }

/-- `0300`: Prot (R451). -/
def famProt : Fam :=
  { base := 0x0300, s1 := 1, n1 := 1, s2 := 1, n2 := 1,
    rows := [
      { sub := 0x01, ty := .bool, acc := .rw, st := 63 },
      { sub := 0x02, ty := .enum8, acc := .rw, st := 63, ok := [(0, 1)] },
      { sub := 0x03, ty := .u32 },
      { sub := 0x04, ty := .u32 },
      { sub := 0x05, ty := .u64 },
      { sub := 0x06, ty := .u8 },
      { sub := 0x07, ty := .bits32 }] }

/-- `0301`: Rights (R451). -/
def famRights : Fam :=
  { base := 0x0301, s1 := 1, n1 := 1, s2 := 1, n2 := 1,
    rows := [
      { sub := 0x01, n := 32, ty := .u64, acc := .rw, st := 63, mask := 0x8000003FFFFFFFFF }] }

/-- `Wr`: Wall (R451). -/
def famWall : Fam :=
  { base := 0x0310, s1 := 1, n1 := 32, s2 := 1, n2 := 1,
    rows := [
      { sub := 0x01, ty := .bool, acc := .rw, st := 63 },
      { sub := 0x02, ty := .u64, acc := .rw, st := 63, ok := [(0, 137438953472)], step := 4096 },
      { sub := 0x03, ty := .u64, acc := .rw, st := 63, dflt := 4096, ok := [(0, 137438953472)], step := 4096 },
      { sub := 0x04, ty := .bits32, acc := .rw, st := 63, mask := 0x3FFF },
      { sub := 0x05, ty := .bits32, acc := .rw, st := 63, mask := 0x3FFF },
      { sub := 0x06, ty := .u32 }] }

/-- `0A10`: Mram (R452). -/
def famMram : Fam :=
  { base := 0x0A10, s1 := 1, n1 := 1, s2 := 1, n2 := 1,
    rows := [
      { sub := 0x01, ty := .domain, acc := .rw, st := 63, cls := .fm },
      { sub := 0x02, ty := .u32, acc := .rw, st := 63, dom := some (64, false, false) },
      { sub := 0x03, ty := .u32, acc := .rw, st := 63, step := 64, cls := .fm },
      { sub := 0x04, ty := .enum8, acc := .wo, st := 63, ok := [(1, 3)], cls := .fm },
      { sub := 0x05, ty := .u8 },
      { sub := 0x06, ty := .u16 },
      { sub := 0x07, ty := .u32 }] }

/-- `0A20`: Image (R452). -/
def famImage : Fam :=
  { base := 0x0A20, s1 := 1, n1 := 1, s2 := 1, n2 := 1,
    rows := [
      { sub := 0x01, ty := .enum8, acc := .wo, st := 63, ok := [(1, 5)], cls := .fm },
      { sub := 0x02, ty := .enum8 },
      { sub := 0x03, ty := .enum8 },
      { sub := 0x04, ty := .enum8 },
      { sub := 0x05, ty := .bits32 },
      { sub := 0x06, ty := .u32 },
      { sub := 0x07, ty := .u32 },
      { sub := 0x08, ty := .u32 },
      { sub := 0x09, ty := .u32 },
      { sub := 0x0A, ty := .u32 }] }

/-- `0A30`: Otp (R452). -/
def famOtp : Fam :=
  { base := 0x0A30, s1 := 1, n1 := 1, s2 := 1, n2 := 1,
    rows := [
      { sub := 0x01, ty := .enum8 },
      { sub := 0x02, ty := .u8, acc := .rw, st := 63, ok := [(0, 127)] },
      { sub := 0x03, ty := .u32, acc := .rw, st := 63 },
      { sub := 0x04, ty := .enum8, acc := .wo, st := 63, ok := [(1, 2)] },
      { sub := 0x05, ty := .u16 },
      { sub := 0x06, ty := .u8 },
      { sub := 0x07, ty := .bits32 }] }

/-- `0A31`: Dbg (R452). -/
def famDbg : Fam :=
  { base := 0x0A31, s1 := 1, n1 := 1, s2 := 1, n2 := 1,
    rows := [
      { sub := 0x01, ty := .bool, acc := .rw, st := 63, cls := .fm },
      { sub := 0x02, ty := .bool }] }

/-- `0400`: Pwr (R482). -/
def famPwr : Fam :=
  { base := 0x0400, s1 := 1, n1 := 1, s2 := 1, n2 := 1,
    rows := [
      { sub := 0x01, ty := .enum8, acc := .wo, st := 54, ok := [(1, 2)] },
      { sub := 0x02, ty := .bits32, acc := .rw, st := 54, kept := true, dflt := 32699, mask := 0x7FFF },
      { sub := 0x03, ty := .domain, acc := .rw, st := 34, kept := true },
      { sub := 0x04, ty := .u32, acc := .rw, st := 34, kept := true, ok := [(64, 244800)], step := 64, dom := some (64, false, true) },
      { sub := 0x05, ty := .bool, acc := .rw, st := 34, kept := true },
      { sub := 0x06, ty := .bool, acc := .rw, st := 34, kept := true },
      { sub := 0x07, ty := .u16, acc := .rw, st := 34, kept := true, dflt := 500, ok := [(100, 10000)] }] }

/-- `0401`: PwrSt (R482). -/
def famPwrSt : Fam :=
  { base := 0x0401, s1 := 1, n1 := 1, s2 := 1, n2 := 1,
    rows := [
      { sub := 0x01, ty := .enum8 },
      { sub := 0x02, ty := .u16 },
      { sub := 0x03, ty := .u32 },
      { sub := 0x04, ty := .u32 },
      { sub := 0x05, ty := .u32 },
      { sub := 0x06, ty := .u32 }] }

/-- `0402`: Dom (R482). -/
def famDom : Fam :=
  { base := 0x0402, s1 := 1, n1 := 1, s2 := 1, n2 := 1,
    rows := [
      { sub := 0x01, ty := .bits32, acc := .rw, st := 54, kept := true, dflt := 65535, mask := 0x7FFF },
      { sub := 0x02, ty := .bits32, dflt := 65535 },
      { sub := 0x03, ty := .bits32 }] }

/-- `0403`: Wake (R482). -/
def famWake : Fam :=
  { base := 0x0403, s1 := 1, n1 := 1, s2 := 1, n2 := 1,
    rows := [
      { sub := 0x01, ty := .bits32, acc := .rw, st := 54, kept := true, dflt := 1121, mask := 0x7FF },
      { sub := 0x02, ty := .bits32, acc := .rw, st := 54, kept := true, dflt := 85, mask := 0xFF },
      { sub := 0x03, ty := .u32, acc := .rw, st := 54, kept := true, dflt := 60000, ok := [(1, 4000000000)] },
      { sub := 0x04, ty := .u8, acc := .rw, st := 54, kept := true, ok := [(0, 31)] },
      { sub := 0x05, ty := .enum8, acc := .rw, st := 34, kept := true, ok := [(0, 1)] }] }

/-- `0404`: WakeSt (R482). -/
def famWakeSt : Fam :=
  { base := 0x0404, s1 := 1, n1 := 1, s2 := 1, n2 := 1,
    rows := [
      { sub := 0x01, ty := .bits32 },
      { sub := 0x02, ty := .bits32 },
      { sub := 0x03, ty := .bits32 },
      { sub := 0x04, ty := .time },
      { sub := 0x05, ty := .u32 },
      { sub := 0x06, ty := .u32 }] }

/-- `0405`: Pad (R482). -/
def famPad : Fam :=
  { base := 0x0405, s1 := 1, n1 := 1, s2 := 1, n2 := 1,
    rows := [
      { sub := 0x01, ty := .bits32, acc := .wo, st := 63, mask := 0x7FFF, cls := .fm },
      { sub := 0x02, ty := .bits32 }] }

/-- `0410`: Pll (R482). -/
def famPll : Fam :=
  { base := 0x0410, s1 := 1, n1 := 1, s2 := 1, n2 := 1,
    rows := [
      { sub := 0x01, ty := .bits32, acc := .rw, st := 63, mask := 0xF, cls := .fm },
      { sub := 0x02, ty := .bits32 },
      { sub := 0x03, ty := .u16, acc := .rw, st := 63, dflt := 1600, ok := [(800, 1600)], step := 100, cls := .fm },
      { sub := 0x04, ty := .bits32, acc := .rw, st := 63, mask := 0x3F, cls := .fm },
      { sub := 0x05, ty := .u32 }] }

/-- `0500`: Gath (R497). -/
def famGath : Fam :=
  { base := 0x0500, s1 := 1, n1 := 1, s2 := 1, n2 := 1,
    rows := [
      { sub := 0x01, n := 4, ty := .bits32 },
      { sub := 0x05, ty := .bool },
      { sub := 0x06, ty := .u16 },
      { sub := 0x07, ty := .u32, cc := true },
      { sub := 0x08, ty := .u64 },
      { sub := 0x09, ty := .u8 }] }

/-- `0501`: FLog (R497). -/
def famFLog : Fam :=
  { base := 0x0501, s1 := 1, n1 := 1, s2 := 1, n2 := 1,
    rows := [
      { sub := 0x01, ty := .u64 },
      { sub := 0x02, ty := .time },
      { sub := 0x03, ty := .bool, acc := .wo, st := 63 },
      { sub := 0x04, ty := .u8 },
      { sub := 0x05, ty := .u32 }] }

/-- `0502`: one subindex per assigned fault code (R495). -/
def famFCount : Fam :=
  { base := 0x0502, s1 := 1, n1 := 1, s2 := 1, n2 := 1,
    rows := faultCodes.map fun c => { ({ ty := .u32, cc := true } : Row) with sub := c } }

/-- `0510`: one subindex per assigned fault code (R495). -/
def famReact : Fam :=
  { base := 0x0510, s1 := 1, n1 := 1, s2 := 1, n2 := 1,
    rows := faultCodes.map fun c => { ({ ty := .u8, acc := .rw, st := 38, kept := true, mask := 0xF } : Row) with sub := c } }

/-- `0580`: Smp (R507). -/
def famSmp : Fam :=
  { base := 0x0580, s1 := 1, n1 := 1, s2 := 1, n2 := 1,
    rows := [
      { sub := 0x01, ty := .u16, acc := .rw, st := 46, kept := true, dflt := 60, ok := [(1, 1440)] },
      { sub := 0x02, ty := .enum8, acc := .wo, st := 63, ok := [(1, 2)] },
      { sub := 0x03, ty := .u8 },
      { sub := 0x04, ty := .u16 },
      { sub := 0x05, ty := .u32 },
      { sub := 0x06, ty := .u16 }] }

/-- `0581`: SmpSel (R507). -/
def famSmpSel : Fam :=
  { base := 0x0581, s1 := 1, n1 := 1, s2 := 1, n2 := 1,
    rows := [
      { sub := 0x01, ty := .enum8, acc := .rw, st := 63, ok := [(0, 1)] },
      { sub := 0x02, ty := .u16, acc := .rw, st := 63, ok := [(0, 1023)] },
      { sub := 0x03, ty := .bool }] }

/-- `0582`: SmpRec (R507). -/
def famSmpRec : Fam :=
  { base := 0x0582, s1 := 1, n1 := 1, s2 := 1, n2 := 1,
    rows := [
      { sub := 0x01, n := 64, ty := .u64 }] }

/-- `5000`: Cam (R334). -/
def famCam : Fam :=
  { base := 0x5000, s1 := 1, n1 := 1, s2 := 1, n2 := 1,
    rows := [
      { sub := 0x01, ty := .u32 },
      { sub := 0x02, ty := .u32 }] }

/-- `0010`: Directory (R40). -/
def famDirectory : Fam :=
  { base := 0x0010, s1 := 1, n1 := 1, s2 := 1, n2 := 1,
    rows := [
      { sub := 0x01, n := 30, ty := .u32 }] }

/-- `486h`: MapUpd (R246). -/
def famMapUpd : Fam :=
  { base := 0x4860, s1 := 1, n1 := 32, s2 := 1, n2 := 1,
    rows := [
      { sub := 0x01, ty := .domain, acc := .rw, st := 2, kept := true },
      { sub := 0x02, ty := .u32, acc := .rw, st := 2, kept := true, ok := [(16448, 16448)], dom := some (64, false, false) },
      { sub := 0x03, ty := .u16, acc := .rw, st := 14, dflt := 1, ok := [(1, 1024)] },
      { sub := 0x04, ty := .time, acc := .rw, st := 12 },
      { sub := 0x05, ty := .u32, acc := .rw, st := 14, kept := true, dflt := 30000000, ok := [(1000, 4000000000)] },
      { sub := 0x06, ty := .u32, acc := .rw, st := 14, kept := true, dflt := 20000000, ok := [(100, 4000000000)] },
      { sub := 0x07, ty := .u32, acc := .rw, st := 6, kept := true, dflt := 64, ok := [(1, 4096)] },
      { sub := 0x09, ty := .enum8, acc := .wo, st := 14, ok := [(1, 5)] },
      { sub := 0x0A, ty := .enum8 },
      { sub := 0x0B, ty := .u16 },
      { sub := 0x0C, ty := .enum8 },
      { sub := 0x0D, ty := .u32 },
      { sub := 0x0E, ty := .time },
      { sub := 0x0F, ty := .time },
      { sub := 0x10, ty := .bool },
      { sub := 0x11, ty := .bool },
      { sub := 0x12, ty := .u32 },
      { sub := 0x13, ty := .u32 }] }

/-- The index families of range 00. -/
def chunk00 : List Fam := [famDir, famTypeDesc, famDescribe, famFws, famDirectory]

/-- The index families of range 01. -/
def chunk01 : List Fam := [famWinAbort, famIdent, famDevCmd, famDevState, famCause, famOpHours, famPwrCycles]

/-- The index families of range 06. -/
def chunk06 : List Fam := [famStore, famRestore, famStoreFail, famRestoreAck, famFwStore]

/-- The index families of range 02. -/
def chunk02 : List Fam := [famChain, famAlias, famPos, famPort, famCredits, famEp, famEpSt, famGw]

/-- The index families of range Chan. -/
def chunkChan : List Fam := [famArea, famField, famQueue, famJump, famMark, famCorner, famStop, famHoop, famMod, famProf, famRaster, famCh, famChPos, famChCnt, famMpl, famMplFf, famMplCl, famMplAn, famMplMon, famMplCnt, famStitch, famZone, famTake, famRep, famUpd, famIns, famSelv]

/-- The index families of range 20. -/
def chunk20 : List Fam := [famCe]

/-- The index families of range Slot. -/
def chunkSlot : List Fam := [famSlot, famSlotFb, famSlotOut, famSlotPos, famSlotVel, famSlotBq, famSlotRc, famSlotFe, famSlotMon, famSlotCnt]

/-- The index families of range 48. -/
def chunk48 : List Fam := [famCal, famPat, famMap, famMapUpd]

/-- The index families of range 30. -/
def chunk30 : List Fam := [famEnc, famFire, famSpan, famNz, famGateIn, famTh, famPen]

/-- The index families of range 32. -/
def chunk32 : List Fam := [famMtu, famMtuSt]

/-- The index families of range 39. -/
def chunk39 : List Fam := [famPass]

/-- The index families of range 38. -/
def chunk38 : List Fam := [famPicot]

/-- The index families of range 3A. -/
def chunk3A : List Fam := [famLink, famLinkSt]

/-- The index families of range 31. -/
def chunk31 : List Fam := [famGrp, famGrpCfg, famGrpMask, famGrpCnt]

/-- The index families of range Head. -/
def chunkHead : List Fam := [famHead, famHeadTemp, famHeadSt, famHeadEnd]

/-- The index families of range Axis. -/
def chunkAxis : List Fam := [famAxis, famAxMove, famAxStop, famAxTab, famAxPwm, famAxEnc, famAxMon, famAxCnt, famBus]

/-- The index families of range 50. -/
def chunk50 : List Fam := [famCsi, famCam]

/-- The index families of range 51. -/
def chunk51 : List Fam := [famCtx, famCtxCol, famCtxSt]

/-- The index families of range 52. -/
def chunk52 : List Fam := [famOut, famDisp, famCod, famVis, famCamRec]

/-- The index families of range 53. -/
def chunk53 : List Fam := [famBlob, famProfl, famFeat]

/-- The index families of range 0C. -/
def chunk0C : List Fam := [famLane, famLaneEq, famLaneCnt, famLaneTest]

/-- The index families of range 0D. -/
def chunk0D : List Fam := [famMac, famMacRing, famMacCnt, famMacCorr]

/-- The index families of range 0E. -/
def chunk0E : List Fam := [famTime, famInc, famStep, famTimeSt, famSync, famDelay, famTrig, famCap]

/-- The index families of range 08. -/
def chunk08 : List Fam := [famDmc, famDmcSt, famDmcErr, famDmcDbg, famDmcRef, famDmcCnt, famPpr, famSoft, famTrain, famTrainDly, famMr, famTPat]

/-- The index families of range 09. -/
def chunk09 : List Fam := [famDma, famDmaAct, famDmaSh, famDmaRing, famCq, famDmaTot]

/-- The index families of range 03. -/
def chunk03 : List Fam := [famProt, famRights, famWall]

/-- The index families of range 0A. -/
def chunk0A : List Fam := [famMram, famImage, famOtp, famDbg]

/-- The index families of range 04. -/
def chunk04 : List Fam := [famPwr, famPwrSt, famDom, famWake, famWakeSt, famPad, famPll]

/-- The index families of range 05. -/
def chunk05 : List Fam := [famGath, famFLog, famFCount, famReact, famSmp, famSmpSel, famSmpRec]

/-- The families of indexes that can hold index `idx`, by its high byte (R66). -/
def chunk (idx : Nat) : List Fam :=
  match idx / 256 with
  | 0x00 => chunk00
  | 0x01 => chunk01
  | 0x02 => chunk02
  | 0x03 => chunk03
  | 0x04 => chunk04
  | 0x05 => chunk05
  | 0x06 => chunk06
  | 0x08 => chunk08
  | 0x09 => chunk09
  | 0x0A => chunk0A
  | 0x0C => chunk0C
  | 0x0D => chunk0D
  | 0x0E => chunk0E
  | 0x10 => chunkChan
  | 0x11 => chunkChan
  | 0x12 => chunkChan
  | 0x13 => chunkChan
  | 0x14 => chunkChan
  | 0x15 => chunkChan
  | 0x16 => chunkChan
  | 0x17 => chunkChan
  | 0x18 => chunkChan
  | 0x19 => chunkChan
  | 0x1A => chunkChan
  | 0x1B => chunkChan
  | 0x1C => chunkChan
  | 0x1D => chunkChan
  | 0x1E => chunkChan
  | 0x1F => chunkChan
  | 0x20 => chunk20
  | 0x21 => chunkSlot
  | 0x22 => chunkSlot
  | 0x23 => chunkSlot
  | 0x24 => chunkSlot
  | 0x25 => chunkSlot
  | 0x26 => chunkSlot
  | 0x27 => chunkSlot
  | 0x28 => chunkHead
  | 0x29 => chunkHead
  | 0x2A => chunkHead
  | 0x2B => chunkHead
  | 0x2C => chunkHead
  | 0x2D => chunkHead
  | 0x2E => chunkHead
  | 0x2F => chunkHead
  | 0x30 => chunk30
  | 0x31 => chunk31
  | 0x32 => chunk32
  | 0x33 => chunkHead
  | 0x34 => chunkHead
  | 0x35 => chunkHead
  | 0x36 => chunkHead
  | 0x37 => chunkHead
  | 0x38 => chunk38
  | 0x39 => chunk39
  | 0x3A => chunk3A
  | 0x40 => chunkAxis
  | 0x41 => chunkAxis
  | 0x42 => chunkAxis
  | 0x43 => chunkAxis
  | 0x44 => chunkAxis
  | 0x45 => chunkAxis
  | 0x46 => chunkAxis
  | 0x47 => chunkAxis
  | 0x48 => chunk48
  | 0x50 => chunk50
  | 0x51 => chunk51
  | 0x52 => chunk52
  | 0x53 => chunk53
  | _ => []

/-- Whether a family holds index `idx`. -/
def Fam.holds (f : Fam) (idx : Nat) : Bool :=
  decide (f.base ≤ idx) &&
    (let d := idx - f.base
     let i := if f.n1 = 1 then 0 else d / f.s1
     let r := d - i * f.s1
     decide (i < f.n1) && decide (r % f.s2 = 0) && decide (r / f.s2 < f.n2))

/-- The families that hold an index (two for an output index of the camera, which two tables describe). -/
def famsOf (idx : Nat) : List Fam := (chunk idx).filter (fun f => f.holds idx)

/-- The rows of an index. -/
def rowsOf (idx : Nat) : List Row := (famsOf idx).flatMap (fun f => f.rows)

/-- The row of an entry, subindex 00 of R36 apart. -/
def rowOf (idx sub : Nat) : Option Row :=
  (rowsOf idx).find? (fun r => decide (r.sub ≤ sub) && decide (sub < r.sub + r.n))

/-- The highest subindex in use of an index (R36). -/
def maxSub (idx : Nat) : Nat := (rowsOf idx).foldl (fun m r => max m (r.sub + r.n - 1)) 0

/-- Whether an index holds an entry. -/
def indexExists (idx : Nat) : Bool := !(rowsOf idx).isEmpty

/-- The implicit subindex 00 of R36: a U8, read-only, not Kept. -/
def subZero : Row := { ty := .u8 }

/-- The row of an entry with the implicit subindex 00 (R36). -/
def find (idx sub : Nat) : Option Row :=
  match rowOf idx sub with
  | some r => some r
  | none => if sub = 0 && indexExists idx then some subZero else none

end Sys2Proof.Machine.Dict
end

