-- ==== Sys2Proof/Machine/Keys.lean ====
section
/-! DEFINITION. Keys: the key `index * 256 + subindex` of every object dictionary entry under the name its table gives it; the namespace is the index family, the arguments its instance numbers. -/

namespace Sys2Proof.Machine.Key

namespace Dir
/-- `0000.01` OD_VERSION (R39). -/
abbrev OD_VERSION : Nat := (0x0) * 256 + (0x01)
/-- `0000.02` HW_ENTRY_COUNT (R39). -/
abbrev HW_ENTRY_COUNT : Nat := (0x0) * 256 + (0x02)
end Dir

namespace TypeDesc
/-- `00tt.01` TYPE_SIZE (R39). -/
abbrev TYPE_SIZE (t : Nat) : Nat := (0x0 + t) * 256 + (0x01)
end TypeDesc

namespace Describe
/-- `0080.01` SELECT_H (R41). -/
abbrev SELECT_H : Nat := (0x80) * 256 + (0x01)
/-- `0080.02` DESCRIPTOR_H (R41). -/
abbrev DESCRIPTOR_H : Nat := (0x80) * 256 + (0x02)
/-- `0080.03` SELECT_FM (R41). -/
abbrev SELECT_FM : Nat := (0x80) * 256 + (0x03)
/-- `0080.04` DESCRIPTOR_FM (R41). -/
abbrev DESCRIPTOR_FM : Nat := (0x80) * 256 + (0x04)
/-- `0080.05` SELECT_FS (R41). -/
abbrev SELECT_FS : Nat := (0x80) * 256 + (0x05)
/-- `0080.06` DESCRIPTOR_FS (R41). -/
abbrev DESCRIPTOR_FS : Nat := (0x80) * 256 + (0x06)
end Describe

namespace WinAbort
/-- `0113.01` ABORT_SV (R53). -/
abbrev ABORT_SV : Nat := (0x113) * 256 + (0x01)
/-- `0113.02` ABORT_AP (R53). -/
abbrev ABORT_AP (i : Nat) : Nat := (0x113) * 256 + (0x02 + i)
/-- `0113.06` ABORT_DMA (R53). -/
abbrev ABORT_DMA : Nat := (0x113) * 256 + (0x06)
end WinAbort

namespace Fws
/-- `00F0.01` REQ_RING_ADDR (R55). -/
abbrev REQ_RING_ADDR : Nat := (0xF0) * 256 + (0x01)
/-- `00F0.02` REQ_RING_LEN (R55). -/
abbrev REQ_RING_LEN : Nat := (0xF0) * 256 + (0x02)
/-- `00F0.03` REQ_HEAD (R55). -/
abbrev REQ_HEAD : Nat := (0xF0) * 256 + (0x03)
/-- `00F0.04` REQ_TAIL (R55). -/
abbrev REQ_TAIL : Nat := (0xF0) * 256 + (0x04)
/-- `00F0.05` RSP_TAG (R55). -/
abbrev RSP_TAG : Nat := (0xF0) * 256 + (0x05)
/-- `00F0.06` RSP_CODE (R55). -/
abbrev RSP_CODE : Nat := (0xF0) * 256 + (0x06)
/-- `00F0.07` RSP_COMMIT (R55). -/
abbrev RSP_COMMIT : Nat := (0xF0) * 256 + (0x07)
/-- `00F0.08` SERVICE_TIMEOUT (R55). -/
abbrev SERVICE_TIMEOUT : Nat := (0xF0) * 256 + (0x08)
/-- `00F0.10` RSP_DATA (R55). -/
abbrev RSP_DATA (i : Nat) : Nat := (0xF0) * 256 + (0x10 + i)
end Fws

namespace Ident
/-- `0100.01` VENDOR (R55). -/
abbrev VENDOR : Nat := (0x100) * 256 + (0x01)
/-- `0100.02` DEVICE (R55). -/
abbrev DEVICE : Nat := (0x100) * 256 + (0x02)
/-- `0100.03` REVISION (R55). -/
abbrev REVISION : Nat := (0x100) * 256 + (0x03)
/-- `0100.04` SCREENING (R55). -/
abbrev SCREENING : Nat := (0x100) * 256 + (0x04)
/-- `0100.05` SERIAL (R55). -/
abbrev SERIAL : Nat := (0x100) * 256 + (0x05)
/-- `0100.06` FW_VERSION (R55). -/
abbrev FW_VERSION : Nat := (0x100) * 256 + (0x06)
end Ident

namespace DevCmd
/-- `0110.00` DEVICE_COMMAND (R55). -/
abbrev DEVICE_COMMAND : Nat := (0x110) * 256 + (0x00)
end DevCmd

namespace DevState
/-- `0111.00` DEVICE_STATE (R55). -/
abbrev DEVICE_STATE : Nat := (0x111) * 256 + (0x00)
/-- `0111.01` PENDING_STATE (R55). -/
abbrev PENDING_STATE : Nat := (0x111) * 256 + (0x01)
end DevState

namespace Cause
/-- `0112.01` CAUSE (R55). -/
abbrev CAUSE : Nat := (0x112) * 256 + (0x01)
/-- `0112.02` CAUSE_TIME (R55). -/
abbrev CAUSE_TIME : Nat := (0x112) * 256 + (0x02)
/-- `0112.03` CAUSE_DETAIL (R55). -/
abbrev CAUSE_DETAIL : Nat := (0x112) * 256 + (0x03)
/-- `0112.04` FROM_STATE (R55). -/
abbrev FROM_STATE : Nat := (0x112) * 256 + (0x04)
/-- `0112.05` TO_STATE (R55). -/
abbrev TO_STATE : Nat := (0x112) * 256 + (0x05)
/-- `0112.06` REQUESTER (R55). -/
abbrev REQUESTER : Nat := (0x112) * 256 + (0x06)
end Cause

namespace OpHours
/-- `0120.00` OPERATING_HOURS (R55). -/
abbrev OPERATING_HOURS : Nat := (0x120) * 256 + (0x00)
end OpHours

namespace PwrCycles
/-- `0121.00` POWER_CYCLES (R55). -/
abbrev POWER_CYCLES : Nat := (0x121) * 256 + (0x00)
end PwrCycles

namespace Store
/-- `0600.00` STORE_COMMAND (R65). -/
abbrev STORE_COMMAND : Nat := (0x600) * 256 + (0x00)
/-- `0600.01` STORE_PROGRESS (R65). -/
abbrev STORE_PROGRESS : Nat := (0x600) * 256 + (0x01)
/-- `0600.02` STORE_RESULT (R65). -/
abbrev STORE_RESULT : Nat := (0x600) * 256 + (0x02)
end Store

namespace Restore
/-- `0601.01` RESTORE_STATUS (R65). -/
abbrev RESTORE_STATUS : Nat := (0x601) * 256 + (0x01)
/-- `0601.02` ACK_REQUIRED (R65). -/
abbrev ACK_REQUIRED : Nat := (0x601) * 256 + (0x02)
/-- `0601.03` RESTORE_TIME (R65). -/
abbrev RESTORE_TIME : Nat := (0x601) * 256 + (0x03)
end Restore

namespace StoreFail
/-- `0602.01` FAILED_AT_RESTORE (R65). -/
abbrev FAILED_AT_RESTORE : Nat := (0x602) * 256 + (0x01)
/-- `0602.02` FAILED_NOW (R65). -/
abbrev FAILED_NOW : Nat := (0x602) * 256 + (0x02)
/-- `0602.03` DEFAULTED_PAIRS (R65). -/
abbrev DEFAULTED_PAIRS : Nat := (0x602) * 256 + (0x03)
end StoreFail

namespace RestoreAck
/-- `0603.00` RESTORE_ACK (R65). -/
abbrev RESTORE_ACK : Nat := (0x603) * 256 + (0x00)
end RestoreAck

namespace FwStore
/-- `0605.01` FWS_PAIR (R65). -/
abbrev FWS_PAIR : Nat := (0x605) * 256 + (0x01)
/-- `0605.02` FWS_OFFSET (R65). -/
abbrev FWS_OFFSET : Nat := (0x605) * 256 + (0x02)
/-- `0605.03` FWS_DATA (R65). -/
abbrev FWS_DATA : Nat := (0x605) * 256 + (0x03)
end FwStore

namespace Chain
/-- `0200.01` CHAIN_ADDRESS (R101). -/
abbrev CHAIN_ADDRESS : Nat := (0x200) * 256 + (0x01)
end Chain

namespace Alias
/-- `0201.00` ALIAS (R101). -/
abbrev ALIAS : Nat := (0x201) * 256 + (0x00)
end Alias

namespace Pos
/-- `0202.01` POSITION (R101). -/
abbrev POSITION : Nat := (0x202) * 256 + (0x01)
/-- `0202.02` POSITION_PORT (R101). -/
abbrev POSITION_PORT : Nat := (0x202) * 256 + (0x02)
/-- `0202.03` HOST_PORT (R101). -/
abbrev HOST_PORT : Nat := (0x202) * 256 + (0x03)
end Pos

namespace Port
/-- `0210.01` LANE_FIRST (R101). -/
abbrev LANE_FIRST (p : Nat) : Nat := (0x210 + p) * 256 + (0x01)
/-- `0210.02` LANE_COUNT (R101). -/
abbrev LANE_COUNT (p : Nat) : Nat := (0x210 + p) * 256 + (0x02)
/-- `0210.03` STATE (R101). -/
abbrev STATE (p : Nat) : Nat := (0x210 + p) * 256 + (0x03)
/-- `0210.04` LOOPBACK (R101). -/
abbrev LOOPBACK (p : Nat) : Nat := (0x210 + p) * 256 + (0x04)
/-- `0210.05` NEIGHBOUR (R101). -/
abbrev NEIGHBOUR (p : Nat) : Nat := (0x210 + p) * 256 + (0x05)
/-- `0210.06` ALARM_ON_LOSS (R101). -/
abbrev ALARM_ON_LOSS (p : Nat) : Nat := (0x210 + p) * 256 + (0x06)
/-- `0210.07` ENABLE (R101). -/
abbrev ENABLE (p : Nat) : Nat := (0x210 + p) * 256 + (0x07)
/-- `0210.08` FRAMES_RX (R101). -/
abbrev FRAMES_RX (p : Nat) : Nat := (0x210 + p) * 256 + (0x08)
/-- `0210.09` FRAMES_TX (R101). -/
abbrev FRAMES_TX (p : Nat) : Nat := (0x210 + p) * 256 + (0x09)
/-- `0210.0A` CRC_ERRORS (R101). -/
abbrev CRC_ERRORS (p : Nat) : Nat := (0x210 + p) * 256 + (0x0A)
/-- `0210.0B` HEADER_DISCARDS (R101). -/
abbrev HEADER_DISCARDS (p : Nat) : Nat := (0x210 + p) * 256 + (0x0B)
/-- `0210.0C` OTHER_DISCARDS (R101). -/
abbrev OTHER_DISCARDS (p : Nat) : Nat := (0x210 + p) * 256 + (0x0C)
/-- `0210.0D` DOWN_EVENTS (R101). -/
abbrev DOWN_EVENTS (p : Nat) : Nat := (0x210 + p) * 256 + (0x0D)
/-- `0210.0E` CREDIT_VIOLATIONS (R101). -/
abbrev CREDIT_VIOLATIONS (p : Nat) : Nat := (0x210 + p) * 256 + (0x0E)
end Port

namespace Credits
/-- `0220.01` INDIGO_CELLS (R101). -/
abbrev INDIGO_CELLS : Nat := (0x220) * 256 + (0x01)
/-- `0220.02` OCHRE_CELLS (R101). -/
abbrev OCHRE_CELLS : Nat := (0x220) * 256 + (0x02)
/-- `0220.03` SLATE_CELLS (R101). -/
abbrev SLATE_CELLS : Nat := (0x220) * 256 + (0x03)
/-- `0220.04` QUEUE_DEPTH (R101). -/
abbrev QUEUE_DEPTH : Nat := (0x220) * 256 + (0x04)
/-- `0220.05` BUSY_ANSWERS (R101). -/
abbrev BUSY_ANSWERS : Nat := (0x220) * 256 + (0x05)
/-- `0220.06` STARTING_ANSWERS (R101). -/
abbrev STARTING_ANSWERS : Nat := (0x220) * 256 + (0x06)
end Credits

namespace Ep
/-- `E.01` ENABLE (R101). -/
abbrev ENABLE (n : Nat) : Nat := (0x230 + 0x2 * n) * 256 + (0x01)
/-- `E.02` RING_ADDR (R101). -/
abbrev RING_ADDR (n : Nat) : Nat := (0x230 + 0x2 * n) * 256 + (0x02)
/-- `E.03` RING_LEN (R101). -/
abbrev RING_LEN (n : Nat) : Nat := (0x230 + 0x2 * n) * 256 + (0x03)
/-- `E.04` CONSUMER (R101). -/
abbrev CONSUMER (n : Nat) : Nat := (0x230 + 0x2 * n) * 256 + (0x04)
/-- `E.05` CONSUMER_INDEX (R101). -/
abbrev CONSUMER_INDEX (n : Nat) : Nat := (0x230 + 0x2 * n) * 256 + (0x05)
/-- `E.06` CREDIT_PERIOD (R101). -/
abbrev CREDIT_PERIOD (n : Nat) : Nat := (0x230 + 0x2 * n) * 256 + (0x06)
/-- `E.07` CREDIT_STEP (R101). -/
abbrev CREDIT_STEP (n : Nat) : Nat := (0x230 + 0x2 * n) * 256 + (0x07)
end Ep

namespace EpSt
/-- `F.01` NEXT_OFFSET (R101). -/
abbrev NEXT_OFFSET (n : Nat) : Nat := (0x231 + 0x2 * n) * 256 + (0x01)
/-- `F.02` RELEASE_OFFSET (R101). -/
abbrev RELEASE_OFFSET (n : Nat) : Nat := (0x231 + 0x2 * n) * 256 + (0x02)
/-- `F.03` FRAMES_ACCEPTED (R101). -/
abbrev FRAMES_ACCEPTED (n : Nat) : Nat := (0x231 + 0x2 * n) * 256 + (0x03)
/-- `F.04` DISCARD_STATE (R101). -/
abbrev DISCARD_STATE (n : Nat) : Nat := (0x231 + 0x2 * n) * 256 + (0x04)
/-- `F.05` DISCARD_ORDER (R101). -/
abbrev DISCARD_ORDER (n : Nat) : Nat := (0x231 + 0x2 * n) * 256 + (0x05)
end EpSt

namespace Gw
/-- `0240.01` ENABLE (R101). -/
abbrev ENABLE : Nat := (0x240) * 256 + (0x01)
/-- `0240.02` MAC (R101). -/
abbrev MAC : Nat := (0x240) * 256 + (0x02)
/-- `0240.03` LOCAL_IP (R101). -/
abbrev LOCAL_IP : Nat := (0x240) * 256 + (0x03)
/-- `0240.04` UDP_PORT (R101). -/
abbrev UDP_PORT : Nat := (0x240) * 256 + (0x04)
/-- `0240.05` HOST_IP (R101). -/
abbrev HOST_IP : Nat := (0x240) * 256 + (0x05)
/-- `0240.06` HOST_PORT (R101). -/
abbrev HOST_PORT : Nat := (0x240) * 256 + (0x06)
/-- `0240.07` HOST_MAC (R101). -/
abbrev HOST_MAC : Nat := (0x240) * 256 + (0x07)
/-- `0240.08` LOCAL_MAC (R101). -/
abbrev LOCAL_MAC : Nat := (0x240) * 256 + (0x08)
/-- `0240.09` RX_DATAGRAMS (R101). -/
abbrev RX_DATAGRAMS : Nat := (0x240) * 256 + (0x09)
/-- `0240.0A` RX_DISCARDS (R101). -/
abbrev RX_DISCARDS : Nat := (0x240) * 256 + (0x0A)
/-- `0240.0B` TX_DATAGRAMS (R101). -/
abbrev TX_DATAGRAMS : Nat := (0x240) * 256 + (0x0B)
end Gw

namespace Area
/-- `1c07.01` X_MIN (R107). -/
abbrev X_MIN (c : Nat) : Nat := (0x1007 + 0x100 * c) * 256 + (0x01)
/-- `1c07.02` X_MAX (R107). -/
abbrev X_MAX (c : Nat) : Nat := (0x1007 + 0x100 * c) * 256 + (0x02)
/-- `1c07.03` Y_MIN (R107). -/
abbrev Y_MIN (c : Nat) : Nat := (0x1007 + 0x100 * c) * 256 + (0x03)
/-- `1c07.04` Y_MAX (R107). -/
abbrev Y_MAX (c : Nat) : Nat := (0x1007 + 0x100 * c) * 256 + (0x04)
/-- `1c07.05` Z_MIN (R107). -/
abbrev Z_MIN (c : Nat) : Nat := (0x1007 + 0x100 * c) * 256 + (0x05)
/-- `1c07.06` Z_MAX (R107). -/
abbrev Z_MAX (c : Nat) : Nat := (0x1007 + 0x100 * c) * 256 + (0x06)
end Area

namespace Field
/-- `1c08.01` HALF_WIDTH (R107). -/
abbrev HALF_WIDTH (c : Nat) : Nat := (0x1008 + 0x100 * c) * 256 + (0x01)
/-- `1c08.02` ORIGIN_X (R107). -/
abbrev ORIGIN_X (c : Nat) : Nat := (0x1008 + 0x100 * c) * 256 + (0x02)
/-- `1c08.03` ORIGIN_Y (R107). -/
abbrev ORIGIN_Y (c : Nat) : Nat := (0x1008 + 0x100 * c) * 256 + (0x03)
/-- `1c08.04` ROTATION (R107). -/
abbrev ROTATION (c : Nat) : Nat := (0x1008 + 0x100 * c) * 256 + (0x04)
end Field

namespace Queue
/-- `1c01.01` QUEUE_ADDR (R112). -/
abbrev QUEUE_ADDR (c : Nat) : Nat := (0x1001 + 0x100 * c) * 256 + (0x01)
/-- `1c01.02` QUEUE_LEN (R112). -/
abbrev QUEUE_LEN (c : Nat) : Nat := (0x1001 + 0x100 * c) * 256 + (0x02)
/-- `1c01.03` FIRST_SEQ (R112). -/
abbrev FIRST_SEQ (c : Nat) : Nat := (0x1001 + 0x100 * c) * 256 + (0x03)
/-- `1c01.04` EXPECTED_SEQ (R112). -/
abbrev EXPECTED_SEQ (c : Nat) : Nat := (0x1001 + 0x100 * c) * 256 + (0x04)
/-- `1c01.05` BLOCKS_QUEUED (R112). -/
abbrev BLOCKS_QUEUED (c : Nat) : Nat := (0x1001 + 0x100 * c) * 256 + (0x05)
/-- `1c01.06` RESYNC (R112). -/
abbrev RESYNC (c : Nat) : Nat := (0x1001 + 0x100 * c) * 256 + (0x06)
/-- `1c01.07` DISCARDED_BLOCKS (R112). -/
abbrev DISCARDED_BLOCKS (c : Nat) : Nat := (0x1001 + 0x100 * c) * 256 + (0x07)
end Queue

namespace Jump
/-- `1c02.01` JUMP_SPEED_MAX (R124). -/
abbrev JUMP_SPEED_MAX (c : Nat) : Nat := (0x1002 + 0x100 * c) * 256 + (0x01)
/-- `1c02.02` JUMP_ACCEL (R124). -/
abbrev JUMP_ACCEL (c : Nat) : Nat := (0x1002 + 0x100 * c) * 256 + (0x02)
/-- `1c02.03` SETTLE_BASE (R124). -/
abbrev SETTLE_BASE (c : Nat) : Nat := (0x1002 + 0x100 * c) * 256 + (0x03)
/-- `1c02.04` SETTLE_SLOPE (R124). -/
abbrev SETTLE_SLOPE (c : Nat) : Nat := (0x1002 + 0x100 * c) * 256 + (0x04)
end Jump

namespace Mark
/-- `1c03.01` MARK_SPEED_MAX (R124). -/
abbrev MARK_SPEED_MAX (c : Nat) : Nat := (0x1003 + 0x100 * c) * 256 + (0x01)
/-- `1c03.02` MARK_ACCEL (R124). -/
abbrev MARK_ACCEL (c : Nat) : Nat := (0x1003 + 0x100 * c) * 256 + (0x02)
/-- `1c03.03` SKY (R124). -/
abbrev SKY (c : Nat) : Nat := (0x1003 + 0x100 * c) * 256 + (0x03)
/-- `1c03.04` SKY_MARGIN (R124). -/
abbrev SKY_MARGIN (c : Nat) : Nat := (0x1003 + 0x100 * c) * 256 + (0x04)
/-- `1c03.05` LASER_ON_SHIFT (R124). -/
abbrev LASER_ON_SHIFT (c : Nat) : Nat := (0x1003 + 0x100 * c) * 256 + (0x05)
/-- `1c03.06` LASER_OFF_SHIFT (R124). -/
abbrev LASER_OFF_SHIFT (c : Nat) : Nat := (0x1003 + 0x100 * c) * 256 + (0x06)
/-- `1c03.07` CORNER_DELAY (R124). -/
abbrev CORNER_DELAY (c : Nat) : Nat := (0x1003 + 0x100 * c) * 256 + (0x07)
end Mark

namespace Corner
/-- `1c04.01` ANGLE_CONT (R124). -/
abbrev ANGLE_CONT (c : Nat) : Nat := (0x1004 + 0x100 * c) * 256 + (0x01)
/-- `1c04.02` ANGLE_SKY (R124). -/
abbrev ANGLE_SKY (c : Nat) : Nat := (0x1004 + 0x100 * c) * 256 + (0x02)
/-- `1c04.03` CORNER_MIN (R124). -/
abbrev CORNER_MIN (c : Nat) : Nat := (0x1004 + 0x100 * c) * 256 + (0x03)
/-- `1c04.04` ARC_ACCEL (R124). -/
abbrev ARC_ACCEL (c : Nat) : Nat := (0x1004 + 0x100 * c) * 256 + (0x04)
end Corner

namespace Stop
/-- `1c06.01` SAFE_STOP_DECEL (R124). -/
abbrev SAFE_STOP_DECEL (c : Nat) : Nat := (0x1006 + 0x100 * c) * 256 + (0x01)
/-- `1c06.02` PARK_X (R124). -/
abbrev PARK_X (c : Nat) : Nat := (0x1006 + 0x100 * c) * 256 + (0x02)
/-- `1c06.03` PARK_Y (R124). -/
abbrev PARK_Y (c : Nat) : Nat := (0x1006 + 0x100 * c) * 256 + (0x03)
/-- `1c06.04` PARK_Z (R124). -/
abbrev PARK_Z (c : Nat) : Nat := (0x1006 + 0x100 * c) * 256 + (0x04)
end Stop

namespace Hoop
/-- `1c10.01` ACTIVE_ADDR (R128). -/
abbrev ACTIVE_ADDR (c : Nat) : Nat := (0x1010 + 0x100 * c) * 256 + (0x01)
/-- `1c10.02` ACTIVE_LEN (R128). -/
abbrev ACTIVE_LEN (c : Nat) : Nat := (0x1010 + 0x100 * c) * 256 + (0x02)
/-- `1c10.03` PENDING_ADDR (R128). -/
abbrev PENDING_ADDR (c : Nat) : Nat := (0x1010 + 0x100 * c) * 256 + (0x03)
/-- `1c10.04` PENDING_LEN (R128). -/
abbrev PENDING_LEN (c : Nat) : Nat := (0x1010 + 0x100 * c) * 256 + (0x04)
/-- `1c10.05` HOOP_ENABLE (R128). -/
abbrev HOOP_ENABLE (c : Nat) : Nat := (0x1010 + 0x100 * c) * 256 + (0x05)
/-- `1c10.06` Z_PLANE0 (R128). -/
abbrev Z_PLANE0 (c : Nat) : Nat := (0x1010 + 0x100 * c) * 256 + (0x06)
/-- `1c10.07` Z_PLANE1 (R128). -/
abbrev Z_PLANE1 (c : Nat) : Nat := (0x1010 + 0x100 * c) * 256 + (0x07)
/-- `1c10.08` Z_PLANE2 (R128). -/
abbrev Z_PLANE2 (c : Nat) : Nat := (0x1010 + 0x100 * c) * 256 + (0x08)
/-- `1c10.09` TABLE_OK (R128). -/
abbrev TABLE_OK (c : Nat) : Nat := (0x1010 + 0x100 * c) * 256 + (0x09)
/-- `1c10.0A` ACTIVE_GEN (R128). -/
abbrev ACTIVE_GEN (c : Nat) : Nat := (0x1010 + 0x100 * c) * 256 + (0x0A)
end Hoop

namespace Mod
/-- `1c20.01` MOD_MODE (R131). -/
abbrev MOD_MODE (c : Nat) : Nat := (0x1020 + 0x100 * c) * 256 + (0x01)
/-- `1c20.02` PULSE_PERIOD (R131). -/
abbrev PULSE_PERIOD (c : Nat) : Nat := (0x1020 + 0x100 * c) * 256 + (0x02)
/-- `1c20.03` PULSE_WIDTH (R131). -/
abbrev PULSE_WIDTH (c : Nat) : Nat := (0x1020 + 0x100 * c) * 256 + (0x03)
/-- `1c20.04` PULSE_SPACING (R131). -/
abbrev PULSE_SPACING (c : Nat) : Nat := (0x1020 + 0x100 * c) * 256 + (0x04)
/-- `1c20.05` STS_POLARITY (R131). -/
abbrev STS_POLARITY (c : Nat) : Nat := (0x1020 + 0x100 * c) * 256 + (0x05)
/-- `1c20.06` READY_TIMEOUT (R131). -/
abbrev READY_TIMEOUT (c : Nat) : Nat := (0x1020 + 0x100 * c) * 256 + (0x06)
/-- `1c20.07` LP_EN_STATE (R131). -/
abbrev LP_EN_STATE (c : Nat) : Nat := (0x1020 + 0x100 * c) * 256 + (0x07)
/-- `1c20.08` LP_STS_READY (R131). -/
abbrev LP_STS_READY (c : Nat) : Nat := (0x1020 + 0x100 * c) * 256 + (0x08)
end Mod

namespace Prof
/-- `1c21.01` PROFILE (R131). -/
abbrev PROFILE (c : Nat) (i : Nat) : Nat := (0x1021 + 0x100 * c) * 256 + (0x01 + i)
end Prof

namespace Raster
/-- `1c22.01` RASTER_FULL (R135). -/
abbrev RASTER_FULL (c : Nat) : Nat := (0x1022 + 0x100 * c) * 256 + (0x01)
/-- `1c22.02` SCAN_AXIS (R135). -/
abbrev SCAN_AXIS (c : Nat) : Nat := (0x1022 + 0x100 * c) * 256 + (0x02)
/-- `1c22.03` SOS_TIMEOUT (R135). -/
abbrev SOS_TIMEOUT (c : Nat) : Nat := (0x1022 + 0x100 * c) * 256 + (0x03)
/-- `1c22.04` CROSS_MODE (R135). -/
abbrev CROSS_MODE (c : Nat) : Nat := (0x1022 + 0x100 * c) * 256 + (0x04)
end Raster

namespace Ch
/-- `1c00.01` COMMAND (R146). -/
abbrev COMMAND (c : Nat) : Nat := (0x1000 + 0x100 * c) * 256 + (0x01)
/-- `1c00.02` STATE (R146). -/
abbrev STATE (c : Nat) : Nat := (0x1000 + 0x100 * c) * 256 + (0x02)
/-- `1c00.03` CAUSE (R146). -/
abbrev CAUSE (c : Nat) : Nat := (0x1000 + 0x100 * c) * 256 + (0x03)
/-- `1c00.04` MODE (R146). -/
abbrev MODE (c : Nat) : Nat := (0x1000 + 0x100 * c) * 256 + (0x04)
/-- `1c00.05` MTU (R146). -/
abbrev MTU (c : Nat) : Nat := (0x1000 + 0x100 * c) * 256 + (0x05)
/-- `1c00.06` TRIGGER (R146). -/
abbrev TRIGGER (c : Nat) : Nat := (0x1000 + 0x100 * c) * 256 + (0x06)
/-- `1c00.07` SAMPLE_PERIOD (R146). -/
abbrev SAMPLE_PERIOD (c : Nat) : Nat := (0x1000 + 0x100 * c) * 256 + (0x07)
/-- `1c00.08` AUTO_RESUME (R146). -/
abbrev AUTO_RESUME (c : Nat) : Nat := (0x1000 + 0x100 * c) * 256 + (0x08)
/-- `1c00.09` CAUSE_TIME (R146). -/
abbrev CAUSE_TIME (c : Nat) : Nat := (0x1000 + 0x100 * c) * 256 + (0x09)
end Ch

namespace ChPos
/-- `1c60.01` SET_X (R146). -/
abbrev SET_X (c : Nat) : Nat := (0x1060 + 0x100 * c) * 256 + (0x01)
/-- `1c60.02` SET_Y (R146). -/
abbrev SET_Y (c : Nat) : Nat := (0x1060 + 0x100 * c) * 256 + (0x02)
/-- `1c60.03` SET_Z (R146). -/
abbrev SET_Z (c : Nat) : Nat := (0x1060 + 0x100 * c) * 256 + (0x03)
/-- `1c60.04` PATH_SPEED (R146). -/
abbrev PATH_SPEED (c : Nat) : Nat := (0x1060 + 0x100 * c) * 256 + (0x04)
/-- `1c60.05` BLOCK_SEQ (R146). -/
abbrev BLOCK_SEQ (c : Nat) : Nat := (0x1060 + 0x100 * c) * 256 + (0x05)
/-- `1c60.06` DESCRIPTOR (R146). -/
abbrev DESCRIPTOR (c : Nat) : Nat := (0x1060 + 0x100 * c) * 256 + (0x06)
/-- `1c60.07` TAG (R146). -/
abbrev TAG (c : Nat) : Nat := (0x1060 + 0x100 * c) * 256 + (0x07)
/-- `1c60.08` LAYER (R146). -/
abbrev LAYER (c : Nat) : Nat := (0x1060 + 0x100 * c) * 256 + (0x08)
/-- `1c60.09` END_TIME (R146). -/
abbrev END_TIME (c : Nat) : Nat := (0x1060 + 0x100 * c) * 256 + (0x09)
/-- `1c60.0A` END_LAYER (R146). -/
abbrev END_LAYER (c : Nat) : Nat := (0x1060 + 0x100 * c) * 256 + (0x0A)
end ChPos

namespace ChCnt
/-- `1c61.01` BLOCKS_DONE (R146). -/
abbrev BLOCKS_DONE (c : Nat) : Nat := (0x1061 + 0x100 * c) * 256 + (0x01)
/-- `1c61.02` DESCRIPTORS_DONE (R146). -/
abbrev DESCRIPTORS_DONE (c : Nat) : Nat := (0x1061 + 0x100 * c) * 256 + (0x02)
/-- `1c61.03` CRC_REFETCHES (R146). -/
abbrev CRC_REFETCHES (c : Nat) : Nat := (0x1061 + 0x100 * c) * 256 + (0x03)
/-- `1c61.04` BLOCK_FAULTS (R146). -/
abbrev BLOCK_FAULTS (c : Nat) : Nat := (0x1061 + 0x100 * c) * 256 + (0x04)
/-- `1c61.05` STARVATIONS (R146). -/
abbrev STARVATIONS (c : Nat) : Nat := (0x1061 + 0x100 * c) * 256 + (0x05)
/-- `1c61.06` ARCS_SLOWED (R146). -/
abbrev ARCS_SLOWED (c : Nat) : Nat := (0x1061 + 0x100 * c) * 256 + (0x06)
/-- `1c61.07` CLAMPS (R146). -/
abbrev CLAMPS (c : Nat) : Nat := (0x1061 + 0x100 * c) * 256 + (0x07)
/-- `1c61.08` RASTER_UNDERRUNS (R146). -/
abbrev RASTER_UNDERRUNS (c : Nat) : Nat := (0x1061 + 0x100 * c) * 256 + (0x08)
/-- `1c61.09` PULSES_DROPPED (R146). -/
abbrev PULSES_DROPPED (c : Nat) : Nat := (0x1061 + 0x100 * c) * 256 + (0x09)
/-- `1c61.0A` GATE_OPEN_TIME (R146). -/
abbrev GATE_OPEN_TIME (c : Nat) : Nat := (0x1061 + 0x100 * c) * 256 + (0x0A)
end ChCnt

namespace Ce
/-- `2000.01` LOAD_CE (R179). -/
abbrev LOAD_CE (i : Nat) : Nat := (0x2000) * 256 + (0x01 + i)
/-- `2000.05` WAIT_MAX_CE (R179). -/
abbrev WAIT_MAX_CE (i : Nat) : Nat := (0x2000) * 256 + (0x05 + i)
/-- `2000.09` SKIPPED_CE (R179). -/
abbrev SKIPPED_CE (i : Nat) : Nat := (0x2000) * 256 + (0x09 + i)
end Ce

namespace Slot
/-- `S0.01` COMMAND (R180). -/
abbrev COMMAND (s : Nat) : Nat := (0x2400 + 0x10 * s) * 256 + (0x01)
/-- `S0.02` ENABLE (R180). -/
abbrev ENABLE (s : Nat) : Nat := (0x2400 + 0x10 * s) * 256 + (0x02)
/-- `S0.03` MODE (R180). -/
abbrev MODE (s : Nat) : Nat := (0x2400 + 0x10 * s) * 256 + (0x03)
/-- `S0.04` STATE (R180). -/
abbrev STATE (s : Nat) : Nat := (0x2400 + 0x10 * s) * 256 + (0x04)
/-- `S0.05` CAUSE (R180). -/
abbrev CAUSE (s : Nat) : Nat := (0x2400 + 0x10 * s) * 256 + (0x05)
/-- `S0.06` FAULTS (R180). -/
abbrev FAULTS (s : Nat) : Nat := (0x2400 + 0x10 * s) * 256 + (0x06)
/-- `S0.07` TRIGGER (R180). -/
abbrev TRIGGER (s : Nat) : Nat := (0x2400 + 0x10 * s) * 256 + (0x07)
/-- `S0.08` INNER_PERIOD (R180). -/
abbrev INNER_PERIOD (s : Nat) : Nat := (0x2400 + 0x10 * s) * 256 + (0x08)
/-- `S0.09` OUTER_DIV (R180). -/
abbrev OUTER_DIV (s : Nat) : Nat := (0x2400 + 0x10 * s) * 256 + (0x09)
/-- `S0.0A` FB_SOURCE (R180). -/
abbrev FB_SOURCE (s : Nat) : Nat := (0x2400 + 0x10 * s) * 256 + (0x0A)
/-- `S0.0B` OWNER_AXIS (R180). -/
abbrev OWNER_AXIS (s : Nat) : Nat := (0x2400 + 0x10 * s) * 256 + (0x0B)
/-- `S0.0C` SETPOINT (R180). -/
abbrev SETPOINT (s : Nat) : Nat := (0x2400 + 0x10 * s) * 256 + (0x0C)
/-- `S0.0E` CLOSE_RAMP (R180). -/
abbrev CLOSE_RAMP (s : Nat) : Nat := (0x2400 + 0x10 * s) * 256 + (0x0E)
/-- `S0.0F` ACTIVE_MODE (R180). -/
abbrev ACTIVE_MODE (s : Nat) : Nat := (0x2400 + 0x10 * s) * 256 + (0x0F)
end Slot

namespace SlotFb
/-- `S1.01` FB_OFFSET (R180). -/
abbrev FB_OFFSET (s : Nat) : Nat := (0x2401 + 0x10 * s) * 256 + (0x01)
/-- `S1.02` FB_GAIN (R180). -/
abbrev FB_GAIN (s : Nat) : Nat := (0x2401 + 0x10 * s) * 256 + (0x02)
/-- `S1.03` VSHIFT (R180). -/
abbrev VSHIFT (s : Nat) : Nat := (0x2401 + 0x10 * s) * 256 + (0x03)
/-- `S1.04` RANGE_MIN (R180). -/
abbrev RANGE_MIN (s : Nat) : Nat := (0x2401 + 0x10 * s) * 256 + (0x04)
/-- `S1.05` RANGE_MAX (R180). -/
abbrev RANGE_MAX (s : Nat) : Nat := (0x2401 + 0x10 * s) * 256 + (0x05)
/-- `S1.06` RANGE_COUNT (R180). -/
abbrev RANGE_COUNT (s : Nat) : Nat := (0x2401 + 0x10 * s) * 256 + (0x06)
/-- `S1.07` LINE_BREAK_EN (R180). -/
abbrev LINE_BREAK_EN (s : Nat) : Nat := (0x2401 + 0x10 * s) * 256 + (0x07)
/-- `S1.08` STALE_N (R180). -/
abbrev STALE_N (s : Nat) : Nat := (0x2401 + 0x10 * s) * 256 + (0x08)
/-- `S1.09` STALE_FB (R180). -/
abbrev STALE_FB (s : Nat) : Nat := (0x2401 + 0x10 * s) * 256 + (0x09)
/-- `S1.0A` STALE_CMD (R180). -/
abbrev STALE_CMD (s : Nat) : Nat := (0x2401 + 0x10 * s) * 256 + (0x0A)
end SlotFb

namespace SlotOut
/-- `S2.01` OUT_GAIN (R180). -/
abbrev OUT_GAIN (s : Nat) : Nat := (0x2402 + 0x10 * s) * 256 + (0x01)
/-- `S2.02` OUT_OFFSET (R180). -/
abbrev OUT_OFFSET (s : Nat) : Nat := (0x2402 + 0x10 * s) * 256 + (0x02)
/-- `S2.03` OUT_MIN (R180). -/
abbrev OUT_MIN (s : Nat) : Nat := (0x2402 + 0x10 * s) * 256 + (0x03)
/-- `S2.04` OUT_MAX (R180). -/
abbrev OUT_MAX (s : Nat) : Nat := (0x2402 + 0x10 * s) * 256 + (0x04)
/-- `S2.05` SLEW (R180). -/
abbrev SLEW (s : Nat) : Nat := (0x2402 + 0x10 * s) * 256 + (0x05)
/-- `S2.06` T_COAST (R180). -/
abbrev T_COAST (s : Nat) : Nat := (0x2402 + 0x10 * s) * 256 + (0x06)
/-- `S2.07` OUT_CODE (R180). -/
abbrev OUT_CODE (s : Nat) : Nat := (0x2402 + 0x10 * s) * 256 + (0x07)
end SlotOut

namespace SlotPos
/-- `S3.01` KP_P (R180). -/
abbrev KP_P (s : Nat) : Nat := (0x2403 + 0x10 * s) * 256 + (0x01)
/-- `S3.02` KI_P (R180). -/
abbrev KI_P (s : Nat) : Nat := (0x2403 + 0x10 * s) * 256 + (0x02)
/-- `S3.03` ILIM_P (R180). -/
abbrev ILIM_P (s : Nat) : Nat := (0x2403 + 0x10 * s) * 256 + (0x03)
/-- `S3.04` VFF (R180). -/
abbrev VFF (s : Nat) : Nat := (0x2403 + 0x10 * s) * 256 + (0x04)
end SlotPos

namespace SlotVel
/-- `S4.01` KP_V (R180). -/
abbrev KP_V (s : Nat) : Nat := (0x2404 + 0x10 * s) * 256 + (0x01)
/-- `S4.02` KI_V (R180). -/
abbrev KI_V (s : Nat) : Nat := (0x2404 + 0x10 * s) * 256 + (0x02)
/-- `S4.03` KD_V (R180). -/
abbrev KD_V (s : Nat) : Nat := (0x2404 + 0x10 * s) * 256 + (0x03)
/-- `S4.04` ILIM_V (R180). -/
abbrev ILIM_V (s : Nat) : Nat := (0x2404 + 0x10 * s) * 256 + (0x04)
/-- `S4.05` AFF (R180). -/
abbrev AFF (s : Nat) : Nat := (0x2404 + 0x10 * s) * 256 + (0x05)
end SlotVel

namespace SlotBq
/-- `S5.01` BQ_ENABLE (R180). -/
abbrev BQ_ENABLE (s : Nat) : Nat := (0x2405 + 0x10 * s) * 256 + (0x01)
/-- `S5.02` BQ0_B0 (R180). -/
abbrev BQ0_B0 (s : Nat) : Nat := (0x2405 + 0x10 * s) * 256 + (0x02)
/-- `S5.03` BQ0_B1 (R180). -/
abbrev BQ0_B1 (s : Nat) : Nat := (0x2405 + 0x10 * s) * 256 + (0x03)
/-- `S5.04` BQ0_B2 (R180). -/
abbrev BQ0_B2 (s : Nat) : Nat := (0x2405 + 0x10 * s) * 256 + (0x04)
/-- `S5.05` BQ0_A1 (R180). -/
abbrev BQ0_A1 (s : Nat) : Nat := (0x2405 + 0x10 * s) * 256 + (0x05)
/-- `S5.06` BQ0_A2 (R180). -/
abbrev BQ0_A2 (s : Nat) : Nat := (0x2405 + 0x10 * s) * 256 + (0x06)
/-- `S5.07` BQ1_B0 (R180). -/
abbrev BQ1_B0 (s : Nat) : Nat := (0x2405 + 0x10 * s) * 256 + (0x07)
/-- `S5.08` BQ1_B1 (R180). -/
abbrev BQ1_B1 (s : Nat) : Nat := (0x2405 + 0x10 * s) * 256 + (0x08)
/-- `S5.09` BQ1_B2 (R180). -/
abbrev BQ1_B2 (s : Nat) : Nat := (0x2405 + 0x10 * s) * 256 + (0x09)
/-- `S5.0A` BQ1_A1 (R180). -/
abbrev BQ1_A1 (s : Nat) : Nat := (0x2405 + 0x10 * s) * 256 + (0x0A)
/-- `S5.0B` BQ1_A2 (R180). -/
abbrev BQ1_A2 (s : Nat) : Nat := (0x2405 + 0x10 * s) * 256 + (0x0B)
/-- `S5.0C` BQ2_B0 (R180). -/
abbrev BQ2_B0 (s : Nat) : Nat := (0x2405 + 0x10 * s) * 256 + (0x0C)
/-- `S5.0D` BQ2_B1 (R180). -/
abbrev BQ2_B1 (s : Nat) : Nat := (0x2405 + 0x10 * s) * 256 + (0x0D)
/-- `S5.0E` BQ2_B2 (R180). -/
abbrev BQ2_B2 (s : Nat) : Nat := (0x2405 + 0x10 * s) * 256 + (0x0E)
/-- `S5.0F` BQ2_A1 (R180). -/
abbrev BQ2_A1 (s : Nat) : Nat := (0x2405 + 0x10 * s) * 256 + (0x0F)
/-- `S5.10` BQ2_A2 (R180). -/
abbrev BQ2_A2 (s : Nat) : Nat := (0x2405 + 0x10 * s) * 256 + (0x10)
/-- `S5.11` BQ3_B0 (R180). -/
abbrev BQ3_B0 (s : Nat) : Nat := (0x2405 + 0x10 * s) * 256 + (0x11)
/-- `S5.12` BQ3_B1 (R180). -/
abbrev BQ3_B1 (s : Nat) : Nat := (0x2405 + 0x10 * s) * 256 + (0x12)
/-- `S5.13` BQ3_B2 (R180). -/
abbrev BQ3_B2 (s : Nat) : Nat := (0x2405 + 0x10 * s) * 256 + (0x13)
/-- `S5.14` BQ3_A1 (R180). -/
abbrev BQ3_A1 (s : Nat) : Nat := (0x2405 + 0x10 * s) * 256 + (0x14)
/-- `S5.15` BQ3_A2 (R180). -/
abbrev BQ3_A2 (s : Nat) : Nat := (0x2405 + 0x10 * s) * 256 + (0x15)
end SlotBq

namespace SlotRc
/-- `S6.01` RC_SOURCE (R180). -/
abbrev RC_SOURCE (s : Nat) : Nat := (0x2406 + 0x10 * s) * 256 + (0x01)
/-- `S6.02` RC_LEN (R180). -/
abbrev RC_LEN (s : Nat) : Nat := (0x2406 + 0x10 * s) * 256 + (0x02)
/-- `S6.03` RC_PARAM (R180). -/
abbrev RC_PARAM (s : Nat) : Nat := (0x2406 + 0x10 * s) * 256 + (0x03)
/-- `S6.04` RC_CPR (R180). -/
abbrev RC_CPR (s : Nat) : Nat := (0x2406 + 0x10 * s) * 256 + (0x04)
/-- `S6.05` RC_KL (R180). -/
abbrev RC_KL (s : Nat) : Nat := (0x2406 + 0x10 * s) * 256 + (0x05)
/-- `S6.06` RC_QS (R180). -/
abbrev RC_QS (s : Nat) : Nat := (0x2406 + 0x10 * s) * 256 + (0x06)
/-- `S6.07` RC_QF (R180). -/
abbrev RC_QF (s : Nat) : Nat := (0x2406 + 0x10 * s) * 256 + (0x07)
/-- `S6.08` RC_LEAD (R180). -/
abbrev RC_LEAD (s : Nat) : Nat := (0x2406 + 0x10 * s) * 256 + (0x08)
/-- `S6.09` RC_LIMIT (R180). -/
abbrev RC_LIMIT (s : Nat) : Nat := (0x2406 + 0x10 * s) * 256 + (0x09)
/-- `S6.0A` RC_STATE (R180). -/
abbrev RC_STATE (s : Nat) : Nat := (0x2406 + 0x10 * s) * 256 + (0x0A)
/-- `S6.0B` RC_CELL_SEL (R180). -/
abbrev RC_CELL_SEL (s : Nat) : Nat := (0x2406 + 0x10 * s) * 256 + (0x0B)
/-- `S6.0C` RC_CELL (R180). -/
abbrev RC_CELL (s : Nat) : Nat := (0x2406 + 0x10 * s) * 256 + (0x0C)
/-- `S6.0D` RC_PEAK (R180). -/
abbrev RC_PEAK (s : Nat) : Nat := (0x2406 + 0x10 * s) * 256 + (0x0D)
end SlotRc

namespace SlotFe
/-- `S7.01` FE_LIMIT (R180). -/
abbrev FE_LIMIT (s : Nat) : Nat := (0x2407 + 0x10 * s) * 256 + (0x01)
/-- `S7.02` FE_TIME (R180). -/
abbrev FE_TIME (s : Nat) : Nat := (0x2407 + 0x10 * s) * 256 + (0x02)
/-- `S7.03` HANDOVER_LIMIT (R180). -/
abbrev HANDOVER_LIMIT (s : Nat) : Nat := (0x2407 + 0x10 * s) * 256 + (0x03)
/-- `S7.04` HANDOVER_SAMPLES (R180). -/
abbrev HANDOVER_SAMPLES (s : Nat) : Nat := (0x2407 + 0x10 * s) * 256 + (0x04)
/-- `S7.05` HANDOVER_EN (R180). -/
abbrev HANDOVER_EN (s : Nat) : Nat := (0x2407 + 0x10 * s) * 256 + (0x05)
/-- `S7.06` FAULT_HOLD (R180). -/
abbrev FAULT_HOLD (s : Nat) : Nat := (0x2407 + 0x10 * s) * 256 + (0x06)
end SlotFe

namespace SlotMon
/-- `SA.01` POSITION (R180). -/
abbrev POSITION (s : Nat) : Nat := (0x240A + 0x10 * s) * 256 + (0x01)
/-- `SA.02` VELOCITY (R180). -/
abbrev VELOCITY (s : Nat) : Nat := (0x240A + 0x10 * s) * 256 + (0x02)
/-- `SA.03` ERROR (R180). -/
abbrev ERROR (s : Nat) : Nat := (0x240A + 0x10 * s) * 256 + (0x03)
/-- `SA.04` OUTPUT (R180). -/
abbrev OUTPUT (s : Nat) : Nat := (0x240A + 0x10 * s) * 256 + (0x04)
/-- `SA.05` SETPOINT_EFF (R180). -/
abbrev SETPOINT_EFF (s : Nat) : Nat := (0x240A + 0x10 * s) * 256 + (0x05)
/-- `SA.06` FE_PEAK (R180). -/
abbrev FE_PEAK (s : Nat) : Nat := (0x240A + 0x10 * s) * 256 + (0x06)
/-- `SA.07` RAW (R180). -/
abbrev RAW (s : Nat) : Nat := (0x240A + 0x10 * s) * 256 + (0x07)
/-- `SA.08` FLAGS (R180). -/
abbrev FLAGS (s : Nat) : Nat := (0x240A + 0x10 * s) * 256 + (0x08)
end SlotMon

namespace SlotCnt
/-- `SB.01` SAMPLES (R180). -/
abbrev SAMPLES (s : Nat) : Nat := (0x240B + 0x10 * s) * 256 + (0x01)
/-- `SB.02` OUT_LIMITED (R180). -/
abbrev OUT_LIMITED (s : Nat) : Nat := (0x240B + 0x10 * s) * 256 + (0x02)
/-- `SB.03` SKIPPED (R180). -/
abbrev SKIPPED (s : Nat) : Nat := (0x240B + 0x10 * s) * 256 + (0x03)
/-- `SB.04` FB_PARITY (R180). -/
abbrev FB_PARITY (s : Nat) : Nat := (0x240B + 0x10 * s) * 256 + (0x04)
/-- `SB.05` HANDOVERS (R180). -/
abbrev HANDOVERS (s : Nat) : Nat := (0x240B + 0x10 * s) * 256 + (0x05)
/-- `SB.06` HANDOVER_FAILS (R180). -/
abbrev HANDOVER_FAILS (s : Nat) : Nat := (0x240B + 0x10 * s) * 256 + (0x06)
/-- `SB.07` WAIT_MAX (R180). -/
abbrev WAIT_MAX (s : Nat) : Nat := (0x240B + 0x10 * s) * 256 + (0x07)
end SlotCnt

namespace Mpl
/-- `1c30.01` MPL_MODE (R198). -/
abbrev MPL_MODE (c : Nat) : Nat := (0x1030 + 0x100 * c) * 256 + (0x01)
/-- `1c30.02` SIGNAL_MODE (R198). -/
abbrev SIGNAL_MODE (c : Nat) : Nat := (0x1030 + 0x100 * c) * 256 + (0x02)
/-- `1c30.03` SIGNAL_W (R198). -/
abbrev SIGNAL_W (c : Nat) : Nat := (0x1030 + 0x100 * c) * 256 + (0x03)
/-- `1c30.04` P_MIN (R198). -/
abbrev P_MIN (c : Nat) : Nat := (0x1030 + 0x100 * c) * 256 + (0x04)
/-- `1c30.05` P_MAX (R198). -/
abbrev P_MAX (c : Nat) : Nat := (0x1030 + 0x100 * c) * 256 + (0x05)
/-- `1c30.06` LP_OFFSET (R198). -/
abbrev LP_OFFSET (c : Nat) : Nat := (0x1030 + 0x100 * c) * 256 + (0x06)
/-- `1c30.07` LP_SPAN (R198). -/
abbrev LP_SPAN (c : Nat) : Nat := (0x1030 + 0x100 * c) * 256 + (0x07)
/-- `1c30.08` LP_IDLE (R198). -/
abbrev LP_IDLE (c : Nat) : Nat := (0x1030 + 0x100 * c) * 256 + (0x08)
end Mpl

namespace MplFf
/-- `1c31.01` FF_GAIN (R198). -/
abbrev FF_GAIN (c : Nat) : Nat := (0x1031 + 0x100 * c) * 256 + (0x01)
/-- `1c31.02` FF_MIN (R198). -/
abbrev FF_MIN (c : Nat) : Nat := (0x1031 + 0x100 * c) * 256 + (0x02)
/-- `1c31.03` FF_MAX (R198). -/
abbrev FF_MAX (c : Nat) : Nat := (0x1031 + 0x100 * c) * 256 + (0x03)
/-- `1c31.04` FF_VMIN (R198). -/
abbrev FF_VMIN (c : Nat) : Nat := (0x1031 + 0x100 * c) * 256 + (0x04)
end MplFf

namespace MplCl
/-- `1c32.01` KP (R198). -/
abbrev KP (c : Nat) : Nat := (0x1032 + 0x100 * c) * 256 + (0x01)
/-- `1c32.02` KI (R198). -/
abbrev KI (c : Nat) : Nat := (0x1032 + 0x100 * c) * 256 + (0x02)
/-- `1c32.03` I_LIM (R198). -/
abbrev I_LIM (c : Nat) : Nat := (0x1032 + 0x100 * c) * 256 + (0x03)
/-- `1c32.04` BAND (R198). -/
abbrev BAND (c : Nat) : Nat := (0x1032 + 0x100 * c) * 256 + (0x04)
/-- `1c32.05` SIG_PER_POWER (R198). -/
abbrev SIG_PER_POWER (c : Nat) : Nat := (0x1032 + 0x100 * c) * 256 + (0x05)
/-- `1c32.06` CL_HOLDOFF (R198). -/
abbrev CL_HOLDOFF (c : Nat) : Nat := (0x1032 + 0x100 * c) * 256 + (0x06)
end MplCl

namespace MplAn
/-- `1c33.01` SIG_HIGH (R198). -/
abbrev SIG_HIGH (c : Nat) : Nat := (0x1033 + 0x100 * c) * 256 + (0x01)
/-- `1c33.02` SIG_LOW (R198). -/
abbrev SIG_LOW (c : Nat) : Nat := (0x1033 + 0x100 * c) * 256 + (0x02)
/-- `1c33.03` ANOM_N (R198). -/
abbrev ANOM_N (c : Nat) : Nat := (0x1033 + 0x100 * c) * 256 + (0x03)
/-- `1c33.04` NO_EMISSION_N (R198). -/
abbrev NO_EMISSION_N (c : Nat) : Nat := (0x1033 + 0x100 * c) * 256 + (0x04)
/-- `1c33.05` REC_ADDR (R198). -/
abbrev REC_ADDR (c : Nat) : Nat := (0x1033 + 0x100 * c) * 256 + (0x05)
/-- `1c33.06` REC_LEN (R198). -/
abbrev REC_LEN (c : Nat) : Nat := (0x1033 + 0x100 * c) * 256 + (0x06)
/-- `1c33.07` REC_HEAD (R198). -/
abbrev REC_HEAD (c : Nat) : Nat := (0x1033 + 0x100 * c) * 256 + (0x07)
/-- `1c33.08` REC_TAIL (R198). -/
abbrev REC_TAIL (c : Nat) : Nat := (0x1033 + 0x100 * c) * 256 + (0x08)
/-- `1c33.09` REC_LOST (R198). -/
abbrev REC_LOST (c : Nat) : Nat := (0x1033 + 0x100 * c) * 256 + (0x09)
end MplAn

namespace MplMon
/-- `1c34.01` SIGNAL (R198). -/
abbrev SIGNAL (c : Nat) : Nat := (0x1034 + 0x100 * c) * 256 + (0x01)
/-- `1c34.02` POWER (R198). -/
abbrev POWER (c : Nat) : Nat := (0x1034 + 0x100 * c) * 256 + (0x02)
/-- `1c34.03` CORRECTION (R198). -/
abbrev CORRECTION (c : Nat) : Nat := (0x1034 + 0x100 * c) * 256 + (0x03)
/-- `1c34.04` SPEED_RATIO (R198). -/
abbrev SPEED_RATIO (c : Nat) : Nat := (0x1034 + 0x100 * c) * 256 + (0x04)
/-- `1c34.05` GATE (R198). -/
abbrev GATE (c : Nat) : Nat := (0x1034 + 0x100 * c) * 256 + (0x05)
/-- `1c34.06` GATE_CAUSES (R198). -/
abbrev GATE_CAUSES (c : Nat) : Nat := (0x1034 + 0x100 * c) * 256 + (0x06)
/-- `1c34.07` FLAGS (R198). -/
abbrev FLAGS (c : Nat) : Nat := (0x1034 + 0x100 * c) * 256 + (0x07)
/-- `1c34.08` LP_CODE (R198). -/
abbrev LP_CODE (c : Nat) : Nat := (0x1034 + 0x100 * c) * 256 + (0x08)
end MplMon

namespace MplCnt
/-- `1c35.01` CLOSED_UPDATES (R198). -/
abbrev CLOSED_UPDATES (c : Nat) : Nat := (0x1035 + 0x100 * c) * 256 + (0x01)
/-- `1c35.02` BAND_HITS (R198). -/
abbrev BAND_HITS (c : Nat) : Nat := (0x1035 + 0x100 * c) * 256 + (0x02)
/-- `1c35.03` ANOMALIES (R198). -/
abbrev ANOMALIES (c : Nat) : Nat := (0x1035 + 0x100 * c) * 256 + (0x03)
/-- `1c35.04` MP_PARITY_ERRORS (R198). -/
abbrev MP_PARITY_ERRORS (c : Nat) : Nat := (0x1035 + 0x100 * c) * 256 + (0x04)
/-- `1c35.05` GATE_MISMATCHES (R198). -/
abbrev GATE_MISMATCHES (c : Nat) : Nat := (0x1035 + 0x100 * c) * 256 + (0x05)
end MplCnt

namespace Stitch
/-- `1c40.01` STITCH_ENABLE (R215). -/
abbrev STITCH_ENABLE (c : Nat) : Nat := (0x1040 + 0x100 * c) * 256 + (0x01)
/-- `1c40.02` TAKEOVER_ON (R215). -/
abbrev TAKEOVER_ON (c : Nat) : Nat := (0x1040 + 0x100 * c) * 256 + (0x02)
end Stitch

namespace Zone
/-- `1c4z.01` ENABLE (R215). -/
abbrev ENABLE (c : Nat) (z : Nat) : Nat := (0x1041 + 0x100 * c + z) * 256 + (0x01)
/-- `1c4z.02` PARTNER_ADDR (R215). -/
abbrev PARTNER_ADDR (c : Nat) (z : Nat) : Nat := (0x1041 + 0x100 * c + z) * 256 + (0x02)
/-- `1c4z.03` PARTNER_CH (R215). -/
abbrev PARTNER_CH (c : Nat) (z : Nat) : Nat := (0x1041 + 0x100 * c + z) * 256 + (0x03)
/-- `1c4z.04` ROLE (R215). -/
abbrev ROLE (c : Nat) (z : Nat) : Nat := (0x1041 + 0x100 * c + z) * 256 + (0x04)
/-- `1c4z.05` SPLIT_AXIS (R215). -/
abbrev SPLIT_AXIS (c : Nat) (z : Nat) : Nat := (0x1041 + 0x100 * c + z) * 256 + (0x05)
/-- `1c4z.06` X0 (R215). -/
abbrev X0 (c : Nat) (z : Nat) : Nat := (0x1041 + 0x100 * c + z) * 256 + (0x06)
/-- `1c4z.07` Y0 (R215). -/
abbrev Y0 (c : Nat) (z : Nat) : Nat := (0x1041 + 0x100 * c + z) * 256 + (0x07)
/-- `1c4z.08` X1 (R215). -/
abbrev X1 (c : Nat) (z : Nat) : Nat := (0x1041 + 0x100 * c + z) * 256 + (0x08)
/-- `1c4z.09` Y1 (R215). -/
abbrev Y1 (c : Nat) (z : Nat) : Nat := (0x1041 + 0x100 * c + z) * 256 + (0x09)
/-- `1c4z.0A` SEAM_BASE (R215). -/
abbrev SEAM_BASE (c : Nat) (z : Nat) : Nat := (0x1041 + 0x100 * c + z) * 256 + (0x0A)
/-- `1c4z.0B` SEAM_AMPL (R215). -/
abbrev SEAM_AMPL (c : Nat) (z : Nat) : Nat := (0x1041 + 0x100 * c + z) * 256 + (0x0B)
/-- `1c4z.0C` SEAM_PERIOD (R215). -/
abbrev SEAM_PERIOD (c : Nat) (z : Nat) : Nat := (0x1041 + 0x100 * c + z) * 256 + (0x0C)
/-- `1c4z.0D` SEAM_STEP (R215). -/
abbrev SEAM_STEP (c : Nat) (z : Nat) : Nat := (0x1041 + 0x100 * c + z) * 256 + (0x0D)
/-- `1c4z.0E` SEAM_SHIFTS (R215). -/
abbrev SEAM_SHIFTS (c : Nat) (z : Nat) : Nat := (0x1041 + 0x100 * c + z) * 256 + (0x0E)
/-- `1c4z.0F` TAKEOVER_ARM (R215). -/
abbrev TAKEOVER_ARM (c : Nat) (z : Nat) : Nat := (0x1041 + 0x100 * c + z) * 256 + (0x0F)
/-- `1c4z.10` STATE (R215). -/
abbrev STATE (c : Nat) (z : Nat) : Nat := (0x1041 + 0x100 * c + z) * 256 + (0x10)
/-- `1c4z.11` EVENT_TIME (R215). -/
abbrev EVENT_TIME (c : Nat) (z : Nat) : Nat := (0x1041 + 0x100 * c + z) * 256 + (0x11)
/-- `1c4z.12` COMMAND (R215). -/
abbrev COMMAND (c : Nat) (z : Nat) : Nat := (0x1041 + 0x100 * c + z) * 256 + (0x12)
/-- `1c4z.13` JOIN_TIME (R215). -/
abbrev JOIN_TIME (c : Nat) (z : Nat) : Nat := (0x1041 + 0x100 * c + z) * 256 + (0x13)
/-- `1c4z.14` DIGEST (R215). -/
abbrev DIGEST (c : Nat) (z : Nat) : Nat := (0x1041 + 0x100 * c + z) * 256 + (0x14)
/-- `1c4z.15` TAKEOVERS (R215). -/
abbrev TAKEOVERS (c : Nat) (z : Nat) : Nat := (0x1041 + 0x100 * c + z) * 256 + (0x15)
end Zone

namespace Take
/-- `10F0.01` TAKEOVER_LEAD (R216). -/
abbrev TAKEOVER_LEAD : Nat := (0x10F0) * 256 + (0x01)
/-- `10F0.02` ALARMS_SENT (R216). -/
abbrev ALARMS_SENT : Nat := (0x10F0) * 256 + (0x02)
/-- `10F0.03` ZONE_EVENTS (R216). -/
abbrev ZONE_EVENTS : Nat := (0x10F0) * 256 + (0x03)
/-- `10F0.04` ALARMS_IGNORED (R216). -/
abbrev ALARMS_IGNORED : Nat := (0x10F0) * 256 + (0x04)
end Take

namespace Rep
/-- `10F1.01` REC_W (R216). -/
abbrev REC_W (i : Nat) : Nat := (0x10F1) * 256 + (0x01 + i)
/-- `10F1.09` POP (R216). -/
abbrev POP : Nat := (0x10F1) * 256 + (0x09)
/-- `10F1.0A` COUNT (R216). -/
abbrev COUNT : Nat := (0x10F1) * 256 + (0x0A)
/-- `10F1.0B` LOST (R216). -/
abbrev LOST : Nat := (0x10F1) * 256 + (0x0B)
/-- `10F1.0C` OVERFLOW (R216). -/
abbrev OVERFLOW : Nat := (0x10F1) * 256 + (0x0C)
end Rep

namespace Upd
/-- `1c11.01` TARGET_ADDR (R244). -/
abbrev TARGET_ADDR (c : Nat) : Nat := (0x1011 + 0x100 * c) * 256 + (0x01)
/-- `1c11.02` TARGET_LEN (R244). -/
abbrev TARGET_LEN (c : Nat) : Nat := (0x1011 + 0x100 * c) * 256 + (0x02)
/-- `1c11.03` STEPS (R244). -/
abbrev STEPS (c : Nat) : Nat := (0x1011 + 0x100 * c) * 256 + (0x03)
/-- `1c11.04` START_TIME (R244). -/
abbrev START_TIME (c : Nat) : Nat := (0x1011 + 0x100 * c) * 256 + (0x04)
/-- `1c11.05` INTERVAL (R244). -/
abbrev INTERVAL (c : Nat) : Nat := (0x1011 + 0x100 * c) * 256 + (0x05)
/-- `1c11.06` WINDOW (R244). -/
abbrev WINDOW (c : Nat) : Nat := (0x1011 + 0x100 * c) * 256 + (0x06)
/-- `1c11.07` LIMIT_XY (R244). -/
abbrev LIMIT_XY (c : Nat) : Nat := (0x1011 + 0x100 * c) * 256 + (0x07)
/-- `1c11.08` LIMIT_Z (R244). -/
abbrev LIMIT_Z (c : Nat) : Nat := (0x1011 + 0x100 * c) * 256 + (0x08)
/-- `1c11.09` COMMAND (R244). -/
abbrev COMMAND (c : Nat) : Nat := (0x1011 + 0x100 * c) * 256 + (0x09)
/-- `1c11.0A` STATE (R244). -/
abbrev STATE (c : Nat) : Nat := (0x1011 + 0x100 * c) * 256 + (0x0A)
/-- `1c11.0B` STEP (R244). -/
abbrev STEP (c : Nat) : Nat := (0x1011 + 0x100 * c) * 256 + (0x0B)
/-- `1c11.0C` CAUSE (R244). -/
abbrev CAUSE (c : Nat) : Nat := (0x1011 + 0x100 * c) * 256 + (0x0C)
/-- `1c11.0D` DETAIL (R244). -/
abbrev DETAIL (c : Nat) : Nat := (0x1011 + 0x100 * c) * 256 + (0x0D)
/-- `1c11.0E` DUE_TIME (R244). -/
abbrev DUE_TIME (c : Nat) : Nat := (0x1011 + 0x100 * c) * 256 + (0x0E)
/-- `1c11.0F` SWAP_TIME (R244). -/
abbrev SWAP_TIME (c : Nat) : Nat := (0x1011 + 0x100 * c) * 256 + (0x0F)
/-- `1c11.10` TARGET_OK (R244). -/
abbrev TARGET_OK (c : Nat) : Nat := (0x1011 + 0x100 * c) * 256 + (0x10)
/-- `1c11.11` COPY_OK (R244). -/
abbrev COPY_OK (c : Nat) : Nat := (0x1011 + 0x100 * c) * 256 + (0x11)
/-- `1c11.12` COPY_GEN (R244). -/
abbrev COPY_GEN (c : Nat) : Nat := (0x1011 + 0x100 * c) * 256 + (0x12)
/-- `1c11.13` SWAPS (R244). -/
abbrev SWAPS (c : Nat) : Nat := (0x1011 + 0x100 * c) * 256 + (0x13)
end Upd

namespace Ins
/-- `1c50.01` INSERT_ENABLE (R245). -/
abbrev INSERT_ENABLE (c : Nat) : Nat := (0x1050 + 0x100 * c) * 256 + (0x01)
/-- `1c50.02` INS_ADDR (R245). -/
abbrev INS_ADDR (c : Nat) : Nat := (0x1050 + 0x100 * c) * 256 + (0x02)
/-- `1c50.03` INS_LEN (R245). -/
abbrev INS_LEN (c : Nat) : Nat := (0x1050 + 0x100 * c) * 256 + (0x03)
/-- `1c50.04` INS_HEAD (R245). -/
abbrev INS_HEAD (c : Nat) : Nat := (0x1050 + 0x100 * c) * 256 + (0x04)
/-- `1c50.05` INS_TAIL (R245). -/
abbrev INS_TAIL (c : Nat) : Nat := (0x1050 + 0x100 * c) * 256 + (0x05)
/-- `1c50.06` INSERT_MAX (R245). -/
abbrev INSERT_MAX (c : Nat) : Nat := (0x1050 + 0x100 * c) * 256 + (0x06)
/-- `1c50.07` CAL_SPEED (R245). -/
abbrev CAL_SPEED (c : Nat) : Nat := (0x1050 + 0x100 * c) * 256 + (0x07)
/-- `1c50.08` MARKS_DONE (R245). -/
abbrev MARKS_DONE (c : Nat) : Nat := (0x1050 + 0x100 * c) * 256 + (0x08)
/-- `1c50.09` MARKS_REJECTED (R245). -/
abbrev MARKS_REJECTED (c : Nat) : Nat := (0x1050 + 0x100 * c) * 256 + (0x09)
end Ins

namespace Selv
/-- `1c51.01` SEL0_X0 (R245). -/
abbrev SEL0_X0 (c : Nat) : Nat := (0x1051 + 0x100 * c) * 256 + (0x01)
/-- `1c51.02` SEL0_Y0 (R245). -/
abbrev SEL0_Y0 (c : Nat) : Nat := (0x1051 + 0x100 * c) * 256 + (0x02)
/-- `1c51.03` SEL0_X1 (R245). -/
abbrev SEL0_X1 (c : Nat) : Nat := (0x1051 + 0x100 * c) * 256 + (0x03)
/-- `1c51.04` SEL0_Y1 (R245). -/
abbrev SEL0_Y1 (c : Nat) : Nat := (0x1051 + 0x100 * c) * 256 + (0x04)
/-- `1c51.05` SEL1_X0 (R245). -/
abbrev SEL1_X0 (c : Nat) : Nat := (0x1051 + 0x100 * c) * 256 + (0x05)
/-- `1c51.06` SEL1_Y0 (R245). -/
abbrev SEL1_Y0 (c : Nat) : Nat := (0x1051 + 0x100 * c) * 256 + (0x06)
/-- `1c51.07` SEL1_X1 (R245). -/
abbrev SEL1_X1 (c : Nat) : Nat := (0x1051 + 0x100 * c) * 256 + (0x07)
/-- `1c51.08` SEL1_Y1 (R245). -/
abbrev SEL1_Y1 (c : Nat) : Nat := (0x1051 + 0x100 * c) * 256 + (0x08)
/-- `1c51.09` SEL2_X0 (R245). -/
abbrev SEL2_X0 (c : Nat) : Nat := (0x1051 + 0x100 * c) * 256 + (0x09)
/-- `1c51.0A` SEL2_Y0 (R245). -/
abbrev SEL2_Y0 (c : Nat) : Nat := (0x1051 + 0x100 * c) * 256 + (0x0A)
/-- `1c51.0B` SEL2_X1 (R245). -/
abbrev SEL2_X1 (c : Nat) : Nat := (0x1051 + 0x100 * c) * 256 + (0x0B)
/-- `1c51.0C` SEL2_Y1 (R245). -/
abbrev SEL2_Y1 (c : Nat) : Nat := (0x1051 + 0x100 * c) * 256 + (0x0C)
/-- `1c51.0D` SEL3_X0 (R245). -/
abbrev SEL3_X0 (c : Nat) : Nat := (0x1051 + 0x100 * c) * 256 + (0x0D)
/-- `1c51.0E` SEL3_Y0 (R245). -/
abbrev SEL3_Y0 (c : Nat) : Nat := (0x1051 + 0x100 * c) * 256 + (0x0E)
/-- `1c51.0F` SEL3_X1 (R245). -/
abbrev SEL3_X1 (c : Nat) : Nat := (0x1051 + 0x100 * c) * 256 + (0x0F)
/-- `1c51.10` SEL3_Y1 (R245). -/
abbrev SEL3_Y1 (c : Nat) : Nat := (0x1051 + 0x100 * c) * 256 + (0x10)
end Selv

namespace Cal
/-- `4800.01` LOG_ADDR (R246). -/
abbrev LOG_ADDR : Nat := (0x4800) * 256 + (0x01)
/-- `4800.02` LOG_LEN (R246). -/
abbrev LOG_LEN : Nat := (0x4800) * 256 + (0x02)
/-- `4800.03` LOG_HEAD (R246). -/
abbrev LOG_HEAD : Nat := (0x4800) * 256 + (0x03)
/-- `4800.04` LOG_TAIL (R246). -/
abbrev LOG_TAIL : Nat := (0x4800) * 256 + (0x04)
/-- `4800.05` LOG_LOST (R246). -/
abbrev LOG_LOST : Nat := (0x4800) * 256 + (0x05)
/-- `4800.06` COPY_QUEUE (R246). -/
abbrev COPY_QUEUE : Nat := (0x4800) * 256 + (0x06)
/-- `4800.07` COPY_WRITES (R246). -/
abbrev COPY_WRITES : Nat := (0x4800) * 256 + (0x07)
/-- `4800.08` COPY_FAILS (R246). -/
abbrev COPY_FAILS : Nat := (0x4800) * 256 + (0x08)
/-- `4800.09` LOAD_STATE (R246). -/
abbrev LOAD_STATE : Nat := (0x4800) * 256 + (0x09)
/-- `4800.0A` LOADS (R246). -/
abbrev LOADS : Nat := (0x4800) * 256 + (0x0A)
end Cal

namespace Pat
/-- `481g.01` BAND0_FIRST (R246). -/
abbrev BAND0_FIRST (g : Nat) : Nat := (0x4810 + g) * 256 + (0x01)
/-- `481g.02` BAND0_WIDTH (R246). -/
abbrev BAND0_WIDTH (g : Nat) : Nat := (0x4810 + g) * 256 + (0x02)
/-- `481g.03` BAND1_FIRST (R246). -/
abbrev BAND1_FIRST (g : Nat) : Nat := (0x4810 + g) * 256 + (0x03)
/-- `481g.04` BAND1_WIDTH (R246). -/
abbrev BAND1_WIDTH (g : Nat) : Nat := (0x4810 + g) * 256 + (0x04)
/-- `481g.05` PAT_HEADS (R246). -/
abbrev PAT_HEADS (g : Nat) : Nat := (0x4810 + g) * 256 + (0x05)
/-- `481g.06` PAT_KIND (R246). -/
abbrev PAT_KIND (g : Nat) : Nat := (0x4810 + g) * 256 + (0x06)
/-- `481g.07` PAT_BAND (R246). -/
abbrev PAT_BAND (g : Nat) : Nat := (0x4810 + g) * 256 + (0x07)
/-- `481g.08` PAT_LEVEL (R246). -/
abbrev PAT_LEVEL (g : Nat) : Nat := (0x4810 + g) * 256 + (0x08)
/-- `481g.09` PAT_RUN (R246). -/
abbrev PAT_RUN (g : Nat) : Nat := (0x4810 + g) * 256 + (0x09)
/-- `481g.0A` PAT_GAP (R246). -/
abbrev PAT_GAP (g : Nat) : Nat := (0x4810 + g) * 256 + (0x0A)
/-- `481g.0B` PAT_STAGGER (R246). -/
abbrev PAT_STAGGER (g : Nat) : Nat := (0x4810 + g) * 256 + (0x0B)
/-- `481g.0C` PAT_ID (R246). -/
abbrev PAT_ID (g : Nat) : Nat := (0x4810 + g) * 256 + (0x0C)
/-- `481g.0D` PAT_COMMAND (R246). -/
abbrev PAT_COMMAND (g : Nat) : Nat := (0x4810 + g) * 256 + (0x0D)
/-- `481g.0E` PAT_QUEUED (R246). -/
abbrev PAT_QUEUED (g : Nat) : Nat := (0x4810 + g) * 256 + (0x0E)
/-- `481g.0F` PATTERNS_PLACED (R246). -/
abbrev PATTERNS_PLACED (g : Nat) : Nat := (0x4810 + g) * 256 + (0x0F)
end Pat

namespace Map
/-- `484h.01` ACTIVE_ADDR (R246). -/
abbrev ACTIVE_ADDR (h : Nat) : Nat := (0x4840 + h) * 256 + (0x01)
/-- `484h.02` ACTIVE_LEN (R246). -/
abbrev ACTIVE_LEN (h : Nat) : Nat := (0x4840 + h) * 256 + (0x02)
/-- `484h.03` PENDING_ADDR (R246). -/
abbrev PENDING_ADDR (h : Nat) : Nat := (0x4840 + h) * 256 + (0x03)
/-- `484h.04` PENDING_LEN (R246). -/
abbrev PENDING_LEN (h : Nat) : Nat := (0x4840 + h) * 256 + (0x04)
/-- `484h.05` MAP_ENABLE (R246). -/
abbrev MAP_ENABLE (h : Nat) : Nat := (0x4840 + h) * 256 + (0x05)
/-- `484h.06` MAP_OK (R246). -/
abbrev MAP_OK (h : Nat) : Nat := (0x4840 + h) * 256 + (0x06)
/-- `484h.07` ACTIVE_GEN (R246). -/
abbrev ACTIVE_GEN (h : Nat) : Nat := (0x4840 + h) * 256 + (0x07)
end Map

namespace Enc
/-- `301e.01` INVERT (R250). -/
abbrev INVERT (e : Nat) : Nat := (0x3010 + e) * 256 + (0x01)
/-- `301e.02` FILTER (R250). -/
abbrev FILTER (e : Nat) : Nat := (0x3010 + e) * 256 + (0x02)
/-- `301e.03` Z_RESET (R250). -/
abbrev Z_RESET (e : Nat) : Nat := (0x3010 + e) * 256 + (0x03)
/-- `301e.04` ERR_LIMIT (R250). -/
abbrev ERR_LIMIT (e : Nat) : Nat := (0x3010 + e) * 256 + (0x04)
/-- `301e.05` COUNT (R250). -/
abbrev COUNT (e : Nat) : Nat := (0x3010 + e) * 256 + (0x05)
/-- `301e.06` Z_COUNT (R250). -/
abbrev Z_COUNT (e : Nat) : Nat := (0x3010 + e) * 256 + (0x06)
/-- `301e.07` Z_TIME (R250). -/
abbrev Z_TIME (e : Nat) : Nat := (0x3010 + e) * 256 + (0x07)
/-- `301e.08` ERRORS (R250). -/
abbrev ERRORS (e : Nat) : Nat := (0x3010 + e) * 256 + (0x08)
/-- `301e.09` STATUS (R250). -/
abbrev STATUS (e : Nat) : Nat := (0x3010 + e) * 256 + (0x09)
/-- `301e.0A` COMMAND (R250). -/
abbrev COMMAND (e : Nat) : Nat := (0x3010 + e) * 256 + (0x0A)
/-- `301e.0B` Z_USED (R250). -/
abbrev Z_USED (e : Nat) : Nat := (0x3010 + e) * 256 + (0x0B)
end Enc

namespace Mtu
/-- `M0.01` MODE (R258). -/
abbrev MODE (m : Nat) : Nat := (0x3200 + 0x40 * m) * 256 + (0x01)
/-- `M0.02` ENCODER (R258). -/
abbrev ENCODER (m : Nat) : Nat := (0x3200 + 0x40 * m) * 256 + (0x02)
/-- `M0.03` HYST (R258). -/
abbrev HYST (m : Nat) : Nat := (0x3200 + 0x40 * m) * 256 + (0x03)
/-- `M0.04` AVG (R258). -/
abbrev AVG (m : Nat) : Nat := (0x3200 + 0x40 * m) * 256 + (0x04)
/-- `M0.05` SOS (R258). -/
abbrev SOS (m : Nat) : Nat := (0x3200 + 0x40 * m) * 256 + (0x05)
/-- `M0.06` SOS_EDGE (R258). -/
abbrev SOS_EDGE (m : Nat) : Nat := (0x3200 + 0x40 * m) * 256 + (0x06)
/-- `M0.07` SOS_DELAY (R258). -/
abbrev SOS_DELAY (m : Nat) : Nat := (0x3200 + 0x40 * m) * 256 + (0x07)
/-- `M0.08` PIX_PERIOD (R258). -/
abbrev PIX_PERIOD (m : Nat) : Nat := (0x3200 + 0x40 * m) * 256 + (0x08)
/-- `M0.09` BOUND (R258). -/
abbrev BOUND (m : Nat) : Nat := (0x3200 + 0x40 * m) * 256 + (0x09)
/-- `M0.0A` BOUND_INDEX (R258). -/
abbrev BOUND_INDEX (m : Nat) : Nat := (0x3200 + 0x40 * m) * 256 + (0x0A)
end Mtu

namespace MtuSt
/-- `M1.01` POSITION (R258). -/
abbrev POSITION (m : Nat) : Nat := (0x3201 + 0x40 * m) * 256 + (0x01)
/-- `M1.02` HWM (R258). -/
abbrev HWM (m : Nat) : Nat := (0x3201 + 0x40 * m) * 256 + (0x02)
/-- `M1.03` DIR (R258). -/
abbrev DIR (m : Nat) : Nat := (0x3201 + 0x40 * m) * 256 + (0x03)
/-- `M1.04` PERIOD_EST (R258). -/
abbrev PERIOD_EST (m : Nat) : Nat := (0x3201 + 0x40 * m) * 256 + (0x04)
/-- `M1.05` SOS_PERIOD (R258). -/
abbrev SOS_PERIOD (m : Nat) : Nat := (0x3201 + 0x40 * m) * 256 + (0x05)
/-- `M1.06` SOS_LATCH (R258). -/
abbrev SOS_LATCH (m : Nat) : Nat := (0x3201 + 0x40 * m) * 256 + (0x06)
/-- `M1.07` REVERSALS (R258). -/
abbrev REVERSALS (m : Nat) : Nat := (0x3201 + 0x40 * m) * 256 + (0x07)
end MtuSt

namespace Fire
/-- `306f.01` OFS_FWD (R258). -/
abbrev OFS_FWD (f : Nat) : Nat := (0x3060 + f) * 256 + (0x01)
/-- `306f.02` OFS_REV (R258). -/
abbrev OFS_REV (f : Nat) : Nat := (0x3060 + f) * 256 + (0x02)
/-- `306f.03` DELAY (R258). -/
abbrev DELAY (f : Nat) : Nat := (0x3060 + f) * 256 + (0x03)
/-- `306f.04` WIDTH (R258). -/
abbrev WIDTH (f : Nat) : Nat := (0x3060 + f) * 256 + (0x04)
/-- `306f.05` STROBES (R258). -/
abbrev STROBES (f : Nat) : Nat := (0x3060 + f) * 256 + (0x05)
end Fire

namespace Pass
/-- `Pr.01` MASK (R265). -/
abbrev MASK (g : Nat) (r : Nat) : Nat := (0x3900 + 0x40 * g + r) * 256 + (0x01)
/-- `Pr.02` DIR (R265). -/
abbrev DIR (g : Nat) (r : Nat) : Nat := (0x3900 + 0x40 * g + r) * 256 + (0x02)
/-- `Pr.03` FEED (R265). -/
abbrev FEED (g : Nat) (r : Nat) : Nat := (0x3900 + 0x40 * g + r) * 256 + (0x03)
/-- `Pr.04` MASK_DX (R265). -/
abbrev MASK_DX (g : Nat) (r : Nat) : Nat := (0x3900 + 0x40 * g + r) * 256 + (0x04)
/-- `Pr.05` MASK_DY (R265). -/
abbrev MASK_DY (g : Nat) (r : Nat) : Nat := (0x3900 + 0x40 * g + r) * 256 + (0x05)
end Pass

namespace Picot
/-- `3800.01` SETS_ADDR (R267). -/
abbrev SETS_ADDR : Nat := (0x3800) * 256 + (0x01)
/-- `3800.02` SETS_LEN (R267). -/
abbrev SETS_LEN : Nat := (0x3800) * 256 + (0x02)
/-- `3800.03` SEL (R267). -/
abbrev SEL : Nat := (0x3800) * 256 + (0x03)
/-- `3800.04` COMMAND (R267). -/
abbrev COMMAND : Nat := (0x3800) * 256 + (0x04)
/-- `3800.05` SET_OK (R267). -/
abbrev SET_OK : Nat := (0x3800) * 256 + (0x05)
/-- `3800.06` COPY_OK (R267). -/
abbrev COPY_OK : Nat := (0x3800) * 256 + (0x06)
/-- `3800.07` SEL_GEN (R267). -/
abbrev SEL_GEN : Nat := (0x3800) * 256 + (0x07)
end Picot

namespace Link
/-- `3Al0.01` ENABLE (R273). -/
abbrev ENABLE (l : Nat) : Nat := (0x3A00 + 0x10 * l) * 256 + (0x01)
/-- `3Al0.02` LANE (R273). -/
abbrev LANE (l : Nat) : Nat := (0x3A00 + 0x10 * l) * 256 + (0x02)
/-- `3Al0.03` RATE (R273). -/
abbrev RATE (l : Nat) : Nat := (0x3A00 + 0x10 * l) * 256 + (0x03)
/-- `3Al0.04` STATE (R273). -/
abbrev STATE (l : Nat) : Nat := (0x3A00 + 0x10 * l) * 256 + (0x04)
/-- `3Al0.05` DEPTH (R273). -/
abbrev DEPTH (l : Nat) : Nat := (0x3A00 + 0x10 * l) * 256 + (0x05)
/-- `3Al0.06` PORTS (R273). -/
abbrev PORTS (l : Nat) : Nat := (0x3A00 + 0x10 * l) * 256 + (0x06)
/-- `3Al0.07` ACK_TIMEOUT (R273). -/
abbrev ACK_TIMEOUT (l : Nat) : Nat := (0x3A00 + 0x10 * l) * 256 + (0x07)
/-- `3Al0.08` RETRIES (R273). -/
abbrev RETRIES (l : Nat) : Nat := (0x3A00 + 0x10 * l) * 256 + (0x08)
/-- `3Al0.09` LOAD (R273). -/
abbrev LOAD (l : Nat) : Nat := (0x3A00 + 0x10 * l) * 256 + (0x09)
end Link

namespace LinkSt
/-- `3Al1.01` FRAMES_TX (R273). -/
abbrev FRAMES_TX (l : Nat) : Nat := (0x3A01 + 0x10 * l) * 256 + (0x01)
/-- `3Al1.02` FRAMES_RX (R273). -/
abbrev FRAMES_RX (l : Nat) : Nat := (0x3A01 + 0x10 * l) * 256 + (0x02)
/-- `3Al1.03` CRC_ERRORS (R273). -/
abbrev CRC_ERRORS (l : Nat) : Nat := (0x3A01 + 0x10 * l) * 256 + (0x03)
/-- `3Al1.04` RETRANSMITS (R273). -/
abbrev RETRANSMITS (l : Nat) : Nat := (0x3A01 + 0x10 * l) * 256 + (0x04)
/-- `3Al1.05` DOWN_EVENTS (R273). -/
abbrev DOWN_EVENTS (l : Nat) : Nat := (0x3A01 + 0x10 * l) * 256 + (0x05)
/-- `3Al1.06` CTRL_PORT (R273). -/
abbrev CTRL_PORT (l : Nat) : Nat := (0x3A01 + 0x10 * l) * 256 + (0x06)
/-- `3Al1.07` CTRL_REG (R273). -/
abbrev CTRL_REG (l : Nat) : Nat := (0x3A01 + 0x10 * l) * 256 + (0x07)
/-- `3Al1.08` CTRL_VALUE (R273). -/
abbrev CTRL_VALUE (l : Nat) : Nat := (0x3A01 + 0x10 * l) * 256 + (0x08)
/-- `3Al1.09` CTRL_COMMAND (R273). -/
abbrev CTRL_COMMAND (l : Nat) : Nat := (0x3A01 + 0x10 * l) * 256 + (0x09)
/-- `3Al1.0A` CTRL_STATUS (R273). -/
abbrev CTRL_STATUS (l : Nat) : Nat := (0x3A01 + 0x10 * l) * 256 + (0x0A)
end LinkSt

namespace Span
/-- `3040.01` SPAN_ADDR (R280). -/
abbrev SPAN_ADDR : Nat := (0x3040) * 256 + (0x01)
/-- `3040.02` SPAN_LEN (R280). -/
abbrev SPAN_LEN : Nat := (0x3040) * 256 + (0x02)
/-- `3040.03` SPAN_HEAD (R280). -/
abbrev SPAN_HEAD : Nat := (0x3040) * 256 + (0x03)
/-- `3040.04` SPAN_TAIL (R280). -/
abbrev SPAN_TAIL : Nat := (0x3040) * 256 + (0x04)
/-- `3040.05` SPAN_LOST (R280). -/
abbrev SPAN_LOST : Nat := (0x3040) * 256 + (0x05)
end Span

namespace Nz
/-- `3050.01` NZ_ADDR (R280). -/
abbrev NZ_ADDR : Nat := (0x3050) * 256 + (0x01)
/-- `3050.02` NZ_LEN (R280). -/
abbrev NZ_LEN : Nat := (0x3050) * 256 + (0x02)
/-- `3050.03` NZ_HEAD (R280). -/
abbrev NZ_HEAD : Nat := (0x3050) * 256 + (0x03)
/-- `3050.04` NZ_TAIL (R280). -/
abbrev NZ_TAIL : Nat := (0x3050) * 256 + (0x04)
/-- `3050.05` NZ_LOST (R280). -/
abbrev NZ_LOST : Nat := (0x3050) * 256 + (0x05)
end Nz

namespace GateIn
/-- `3020.01` GATE (R280). -/
abbrev GATE (i : Nat) : Nat := (0x3020) * 256 + (0x01 + i)
/-- `3020.0D` GATE_ACTIVE (R280). -/
abbrev GATE_ACTIVE : Nat := (0x3020) * 256 + (0x0D)
end GateIn

namespace Th
/-- `303n.01` PULLUP (R280). -/
abbrev PULLUP (n : Nat) : Nat := (0x3030 + n) * 256 + (0x01)
/-- `303n.02` NTC_25 (R280). -/
abbrev NTC_25 (n : Nat) : Nat := (0x3030 + n) * 256 + (0x02)
/-- `303n.03` BETA (R280). -/
abbrev BETA (n : Nat) : Nat := (0x3030 + n) * 256 + (0x03)
/-- `303n.04` TEMP (R280). -/
abbrev TEMP (n : Nat) : Nat := (0x3030 + n) * 256 + (0x04)
end Th

namespace Pen
/-- `3001.01` NOZZLE_LOAD (R284). -/
abbrev NOZZLE_LOAD : Nat := (0x3001) * 256 + (0x01)
end Pen

namespace Grp
/-- `G0.01` COMMAND (R284). -/
abbrev COMMAND (g : Nat) : Nat := (0x3100 + 0x40 * g) * 256 + (0x01)
/-- `G0.02` STATE (R284). -/
abbrev STATE (g : Nat) : Nat := (0x3100 + 0x40 * g) * 256 + (0x02)
/-- `G0.03` CAUSE (R284). -/
abbrev CAUSE (g : Nat) : Nat := (0x3100 + 0x40 * g) * 256 + (0x03)
/-- `G0.04` MTU (R284). -/
abbrev MTU (g : Nat) : Nat := (0x3100 + 0x40 * g) * 256 + (0x04)
/-- `G0.05` FIRE_MASK (R284). -/
abbrev FIRE_MASK (g : Nat) : Nat := (0x3100 + 0x40 * g) * 256 + (0x05)
/-- `G0.06` FIRST_SWATH (R284). -/
abbrev FIRST_SWATH (g : Nat) : Nat := (0x3100 + 0x40 * g) * 256 + (0x06)
/-- `G0.07` EXPECTED_SWATH (R284). -/
abbrev EXPECTED_SWATH (g : Nat) : Nat := (0x3100 + 0x40 * g) * 256 + (0x07)
/-- `G0.08` RESYNC (R284). -/
abbrev RESYNC (g : Nat) : Nat := (0x3100 + 0x40 * g) * 256 + (0x08)
/-- `G0.09` CAUSE_TIME (R284). -/
abbrev CAUSE_TIME (g : Nat) : Nat := (0x3100 + 0x40 * g) * 256 + (0x09)
end Grp

namespace GrpCfg
/-- `G1.01` MIN_PERIOD (R284). -/
abbrev MIN_PERIOD (g : Nat) : Nat := (0x3101 + 0x40 * g) * 256 + (0x01)
/-- `G1.02` PITCH (R284). -/
abbrev PITCH (g : Nat) : Nat := (0x3101 + 0x40 * g) * 256 + (0x02)
/-- `G1.04` START_FWD (R284). -/
abbrev START_FWD (g : Nat) : Nat := (0x3101 + 0x40 * g) * 256 + (0x04)
/-- `G1.05` START_REV (R284). -/
abbrev START_REV (g : Nat) : Nat := (0x3101 + 0x40 * g) * 256 + (0x05)
/-- `G1.06` PRIME_COLS (R284). -/
abbrev PRIME_COLS (g : Nat) : Nat := (0x3101 + 0x40 * g) * 256 + (0x06)
/-- `G1.07` READY_TRIGGER (R284). -/
abbrev READY_TRIGGER (g : Nat) : Nat := (0x3101 + 0x40 * g) * 256 + (0x07)
/-- `G1.08` LINE_BUF_ADDR (R284). -/
abbrev LINE_BUF_ADDR (g : Nat) : Nat := (0x3101 + 0x40 * g) * 256 + (0x08)
/-- `G1.09` LINE_BUF_LEN (R284). -/
abbrev LINE_BUF_LEN (g : Nat) : Nat := (0x3101 + 0x40 * g) * 256 + (0x09)
end GrpCfg

namespace GrpMask
/-- `G2.01` MASK_ADDR (R284). -/
abbrev MASK_ADDR (g : Nat) : Nat := (0x3102 + 0x40 * g) * 256 + (0x01)
/-- `G2.02` MASK_LEN (R284). -/
abbrev MASK_LEN (g : Nat) : Nat := (0x3102 + 0x40 * g) * 256 + (0x02)
/-- `G2.03` FEED_AXIS (R284). -/
abbrev FEED_AXIS (g : Nat) : Nat := (0x3102 + 0x40 * g) * 256 + (0x03)
/-- `G2.04` FEED_SETTLE (R284). -/
abbrev FEED_SETTLE (g : Nat) : Nat := (0x3102 + 0x40 * g) * 256 + (0x04)
/-- `G2.05` SUPPRESS_HOLD (R284). -/
abbrev SUPPRESS_HOLD (g : Nat) : Nat := (0x3102 + 0x40 * g) * 256 + (0x05)
/-- `G2.06` PASS (R284). -/
abbrev PASS (g : Nat) : Nat := (0x3102 + 0x40 * g) * 256 + (0x06)
/-- `G2.07` SWATH (R284). -/
abbrev SWATH (g : Nat) : Nat := (0x3102 + 0x40 * g) * 256 + (0x07)
/-- `G2.08` COLUMN (R284). -/
abbrev COLUMN (g : Nat) : Nat := (0x3102 + 0x40 * g) * 256 + (0x08)
end GrpMask

namespace GrpCnt
/-- `G3.01` SWATHS (R284). -/
abbrev SWATHS (g : Nat) : Nat := (0x3103 + 0x40 * g) * 256 + (0x01)
/-- `G3.02` COLUMNS (R284). -/
abbrev COLUMNS (g : Nat) : Nat := (0x3103 + 0x40 * g) * 256 + (0x02)
/-- `G3.03` SPANS (R284). -/
abbrev SPANS (g : Nat) : Nat := (0x3103 + 0x40 * g) * 256 + (0x03)
/-- `G3.04` REFETCHES (R284). -/
abbrev REFETCHES (g : Nat) : Nat := (0x3103 + 0x40 * g) * 256 + (0x04)
/-- `G3.05` OVERSPEEDS (R284). -/
abbrev OVERSPEEDS (g : Nat) : Nat := (0x3103 + 0x40 * g) * 256 + (0x05)
/-- `G3.06` DISCARDED_SLICES (R284). -/
abbrev DISCARDED_SLICES (g : Nat) : Nat := (0x3103 + 0x40 * g) * 256 + (0x06)
end GrpCnt

namespace Head
/-- `H0.01` ENABLE (R284). -/
abbrev ENABLE (h : Nat) : Nat := (0x3400 + 0x20 * h) * 256 + (0x01)
/-- `H0.02` GROUP (R284). -/
abbrev GROUP (h : Nat) : Nat := (0x3400 + 0x20 * h) * 256 + (0x02)
/-- `H0.03` FIRE (R284). -/
abbrev FIRE (h : Nat) : Nat := (0x3400 + 0x20 * h) * 256 + (0x03)
/-- `H0.04` LINK (R284). -/
abbrev LINK (h : Nat) : Nat := (0x3400 + 0x20 * h) * 256 + (0x04)
/-- `H0.05` PORT (R284). -/
abbrev PORT (h : Nat) : Nat := (0x3400 + 0x20 * h) * 256 + (0x05)
/-- `H0.06` NOZZLES (R284). -/
abbrev NOZZLES (h : Nat) : Nat := (0x3400 + 0x20 * h) * 256 + (0x06)
/-- `H0.07` DEPTH (R284). -/
abbrev DEPTH (h : Nat) : Nat := (0x3400 + 0x20 * h) * 256 + (0x07)
/-- `H0.08` WAVESET (R284). -/
abbrev WAVESET (h : Nat) : Nat := (0x3400 + 0x20 * h) * 256 + (0x08)
/-- `H0.09` ROW (R284). -/
abbrev ROW (h : Nat) : Nat := (0x3400 + 0x20 * h) * 256 + (0x09)
/-- `H0.0A` TICKLE (R284). -/
abbrev TICKLE (h : Nat) : Nat := (0x3400 + 0x20 * h) * 256 + (0x0A)
/-- `H0.0B` TAKEOVER_ON (R284). -/
abbrev TAKEOVER_ON (h : Nat) : Nat := (0x3400 + 0x20 * h) * 256 + (0x0B)
end Head

namespace HeadTemp
/-- `H1.01` TEMP_SRC (R284). -/
abbrev TEMP_SRC (h : Nat) : Nat := (0x3401 + 0x20 * h) * 256 + (0x01)
/-- `H1.02` WARN (R284). -/
abbrev WARN (h : Nat) : Nat := (0x3401 + 0x20 * h) * 256 + (0x02)
/-- `H1.03` HARD (R284). -/
abbrev HARD (h : Nat) : Nat := (0x3401 + 0x20 * h) * 256 + (0x03)
/-- `H1.04` HYST (R284). -/
abbrev HYST (h : Nat) : Nat := (0x3401 + 0x20 * h) * 256 + (0x04)
/-- `H1.05` TEMP (R284). -/
abbrev TEMP (h : Nat) : Nat := (0x3401 + 0x20 * h) * 256 + (0x05)
/-- `H1.06` TSTATE (R284). -/
abbrev TSTATE (h : Nat) : Nat := (0x3401 + 0x20 * h) * 256 + (0x06)
end HeadTemp

namespace HeadSt
/-- `H4.01` FLAGS (R284). -/
abbrev FLAGS (h : Nat) : Nat := (0x3404 + 0x20 * h) * 256 + (0x01)
/-- `H4.02` FIRED (R284). -/
abbrev FIRED (h : Nat) : Nat := (0x3404 + 0x20 * h) * 256 + (0x02)
/-- `H4.03` SUPPRESSED (R284). -/
abbrev SUPPRESSED (h : Nat) : Nat := (0x3404 + 0x20 * h) * 256 + (0x03)
/-- `H4.04` RETRIES (R284). -/
abbrev RETRIES (h : Nat) : Nat := (0x3404 + 0x20 * h) * 256 + (0x04)
/-- `H4.05` FAILED_NOZZLES (R284). -/
abbrev FAILED_NOZZLES (h : Nat) : Nat := (0x3404 + 0x20 * h) * 256 + (0x05)
/-- `H4.06` COMMIT_MISSES (R284). -/
abbrev COMMIT_MISSES (h : Nat) : Nat := (0x3404 + 0x20 * h) * 256 + (0x06)
end HeadSt

namespace HeadEnd
/-- `H2.01` ENABLE (R284). -/
abbrev ENABLE (h : Nat) (e : Nat) : Nat := (0x3402 + 0x20 * h + e) * 256 + (0x01)
/-- `H2.02` PARTNER_ADDR (R284). -/
abbrev PARTNER_ADDR (h : Nat) (e : Nat) : Nat := (0x3402 + 0x20 * h + e) * 256 + (0x02)
/-- `H2.03` PARTNER_HEAD (R284). -/
abbrev PARTNER_HEAD (h : Nat) (e : Nat) : Nat := (0x3402 + 0x20 * h + e) * 256 + (0x03)
/-- `H2.04` WIDTH (R284). -/
abbrev WIDTH (h : Nat) (e : Nat) : Nat := (0x3402 + 0x20 * h + e) * 256 + (0x04)
/-- `H2.05` SEAM_BASE (R284). -/
abbrev SEAM_BASE (h : Nat) (e : Nat) : Nat := (0x3402 + 0x20 * h + e) * 256 + (0x05)
/-- `H2.06` SEAM_STEP (R284). -/
abbrev SEAM_STEP (h : Nat) (e : Nat) : Nat := (0x3402 + 0x20 * h + e) * 256 + (0x06)
/-- `H2.07` SEAM_SHIFTS (R284). -/
abbrev SEAM_SHIFTS (h : Nat) (e : Nat) : Nat := (0x3402 + 0x20 * h + e) * 256 + (0x07)
/-- `H2.08` SEAM_AMPL (R284). -/
abbrev SEAM_AMPL (h : Nat) (e : Nat) : Nat := (0x3402 + 0x20 * h + e) * 256 + (0x08)
/-- `H2.09` SEAM_PERIOD (R284). -/
abbrev SEAM_PERIOD (h : Nat) (e : Nat) : Nat := (0x3402 + 0x20 * h + e) * 256 + (0x09)
/-- `H2.0A` TAKEOVER_ARM (R284). -/
abbrev TAKEOVER_ARM (h : Nat) (e : Nat) : Nat := (0x3402 + 0x20 * h + e) * 256 + (0x0A)
/-- `H2.0B` STATE (R284). -/
abbrev STATE (h : Nat) (e : Nat) : Nat := (0x3402 + 0x20 * h + e) * 256 + (0x0B)
/-- `H2.0C` EVENT_TIME (R284). -/
abbrev EVENT_TIME (h : Nat) (e : Nat) : Nat := (0x3402 + 0x20 * h + e) * 256 + (0x0C)
/-- `H2.0D` COMMAND (R284). -/
abbrev COMMAND (h : Nat) (e : Nat) : Nat := (0x3402 + 0x20 * h + e) * 256 + (0x0D)
/-- `H2.0E` JOIN_TIME (R284). -/
abbrev JOIN_TIME (h : Nat) (e : Nat) : Nat := (0x3402 + 0x20 * h + e) * 256 + (0x0E)
/-- `H2.0F` DIGEST (R284). -/
abbrev DIGEST (h : Nat) (e : Nat) : Nat := (0x3402 + 0x20 * h + e) * 256 + (0x0F)
/-- `H2.10` TAKEOVERS (R284). -/
abbrev TAKEOVERS (h : Nat) (e : Nat) : Nat := (0x3402 + 0x20 * h + e) * 256 + (0x10)
end HeadEnd

namespace Axis
/-- `A0.01` COMMAND (R312). -/
abbrev COMMAND (a : Nat) : Nat := (0x4000 + 0x100 * a) * 256 + (0x01)
/-- `A0.02` STATE (R312). -/
abbrev STATE (a : Nat) : Nat := (0x4000 + 0x100 * a) * 256 + (0x02)
/-- `A0.03` CAUSE (R312). -/
abbrev CAUSE (a : Nat) : Nat := (0x4000 + 0x100 * a) * 256 + (0x03)
/-- `A0.04` DRIVE (R312). -/
abbrev DRIVE (a : Nat) : Nat := (0x4000 + 0x100 * a) * 256 + (0x04)
/-- `A0.05` LOOP (R312). -/
abbrev LOOP (a : Nat) : Nat := (0x4000 + 0x100 * a) * 256 + (0x05)
/-- `A0.06` TRIGGER (R312). -/
abbrev TRIGGER (a : Nat) : Nat := (0x4000 + 0x100 * a) * 256 + (0x06)
/-- `A0.07` UPDATE_PERIOD (R312). -/
abbrev UPDATE_PERIOD (a : Nat) : Nat := (0x4000 + 0x100 * a) * 256 + (0x07)
/-- `A0.08` FLAGS (R312). -/
abbrev FLAGS (a : Nat) : Nat := (0x4000 + 0x100 * a) * 256 + (0x08)
/-- `A0.09` CAUSE_TIME (R312). -/
abbrev CAUSE_TIME (a : Nat) : Nat := (0x4000 + 0x100 * a) * 256 + (0x09)
end Axis

namespace AxMove
/-- `A1.01` TARGET (R312). -/
abbrev TARGET (a : Nat) : Nat := (0x4001 + 0x100 * a) * 256 + (0x01)
/-- `A1.02` DISTANCE (R312). -/
abbrev DISTANCE (a : Nat) : Nat := (0x4001 + 0x100 * a) * 256 + (0x02)
/-- `A1.03` VMAX (R312). -/
abbrev VMAX (a : Nat) : Nat := (0x4001 + 0x100 * a) * 256 + (0x03)
/-- `A1.04` ACCEL (R312). -/
abbrev ACCEL (a : Nat) : Nat := (0x4001 + 0x100 * a) * 256 + (0x04)
/-- `A1.05` DECEL (R312). -/
abbrev DECEL (a : Nat) : Nat := (0x4001 + 0x100 * a) * 256 + (0x05)
/-- `A1.06` POS_MIN (R312). -/
abbrev POS_MIN (a : Nat) : Nat := (0x4001 + 0x100 * a) * 256 + (0x06)
/-- `A1.07` POS_MAX (R312). -/
abbrev POS_MAX (a : Nat) : Nat := (0x4001 + 0x100 * a) * 256 + (0x07)
/-- `A1.08` LIMIT_EN (R312). -/
abbrev LIMIT_EN (a : Nat) : Nat := (0x4001 + 0x100 * a) * 256 + (0x08)
/-- `A1.09` INPOS_WINDOW (R312). -/
abbrev INPOS_WINDOW (a : Nat) : Nat := (0x4001 + 0x100 * a) * 256 + (0x09)
/-- `A1.0A` INPOS_N (R312). -/
abbrev INPOS_N (a : Nat) : Nat := (0x4001 + 0x100 * a) * 256 + (0x0A)
/-- `A1.0B` INPOS_TIMEOUT (R312). -/
abbrev INPOS_TIMEOUT (a : Nat) : Nat := (0x4001 + 0x100 * a) * 256 + (0x0B)
end AxMove

namespace AxStop
/-- `A2.01` STOP_DECEL (R312). -/
abbrev STOP_DECEL (a : Nat) : Nat := (0x4002 + 0x100 * a) * 256 + (0x01)
/-- `A2.02` ESTOP_DECEL (R312). -/
abbrev ESTOP_DECEL (a : Nat) : Nat := (0x4002 + 0x100 * a) * 256 + (0x02)
end AxStop

namespace AxTab
/-- `A3.01` TABLE0_ADDR (R312). -/
abbrev TABLE0_ADDR (a : Nat) : Nat := (0x4003 + 0x100 * a) * 256 + (0x01)
/-- `A3.02` TABLE0_LEN (R312). -/
abbrev TABLE0_LEN (a : Nat) : Nat := (0x4003 + 0x100 * a) * 256 + (0x02)
/-- `A3.03` TABLE1_ADDR (R312). -/
abbrev TABLE1_ADDR (a : Nat) : Nat := (0x4003 + 0x100 * a) * 256 + (0x03)
/-- `A3.04` TABLE1_LEN (R312). -/
abbrev TABLE1_LEN (a : Nat) : Nat := (0x4003 + 0x100 * a) * 256 + (0x04)
/-- `A3.05` TABLE_SEL (R312). -/
abbrev TABLE_SEL (a : Nat) : Nat := (0x4003 + 0x100 * a) * 256 + (0x05)
/-- `A3.06` TABLE_RUNNING (R312). -/
abbrev TABLE_RUNNING (a : Nat) : Nat := (0x4003 + 0x100 * a) * 256 + (0x06)
/-- `A3.07` SEGMENT_ID (R312). -/
abbrev SEGMENT_ID (a : Nat) : Nat := (0x4003 + 0x100 * a) * 256 + (0x07)
/-- `A3.08` SEGMENT (R312). -/
abbrev SEGMENT (a : Nat) : Nat := (0x4003 + 0x100 * a) * 256 + (0x08)
end AxTab

namespace AxPwm
/-- `A4.01` PWM_FREQ (R312). -/
abbrev PWM_FREQ (a : Nat) : Nat := (0x4004 + 0x100 * a) * 256 + (0x01)
/-- `A4.02` BUS (R312). -/
abbrev BUS (a : Nat) : Nat := (0x4004 + 0x100 * a) * 256 + (0x02)
/-- `A4.03` MAX_MOD (R312). -/
abbrev MAX_MOD (a : Nat) : Nat := (0x4004 + 0x100 * a) * 256 + (0x03)
/-- `A4.04` MIN_PULSE (R312). -/
abbrev MIN_PULSE (a : Nat) : Nat := (0x4004 + 0x100 * a) * 256 + (0x04)
/-- `A4.05` V_FULL (R312). -/
abbrev V_FULL (a : Nat) : Nat := (0x4004 + 0x100 * a) * 256 + (0x05)
/-- `A4.06` KE (R312). -/
abbrev KE (a : Nat) : Nat := (0x4004 + 0x100 * a) * 256 + (0x06)
/-- `A4.07` MICROSTEPS (R312). -/
abbrev MICROSTEPS (a : Nat) : Nat := (0x4004 + 0x100 * a) * 256 + (0x07)
/-- `A4.08` V_RUN (R312). -/
abbrev V_RUN (a : Nat) : Nat := (0x4004 + 0x100 * a) * 256 + (0x08)
/-- `A4.09` V_HOLD (R312). -/
abbrev V_HOLD (a : Nat) : Nat := (0x4004 + 0x100 * a) * 256 + (0x09)
/-- `A4.0A` HOLD_DELAY (R312). -/
abbrev HOLD_DELAY (a : Nat) : Nat := (0x4004 + 0x100 * a) * 256 + (0x0A)
/-- `A4.0B` V_MAX (R312). -/
abbrev V_MAX (a : Nat) : Nat := (0x4004 + 0x100 * a) * 256 + (0x0B)
/-- `A4.0C` LEAD_K (R312). -/
abbrev LEAD_K (a : Nat) : Nat := (0x4004 + 0x100 * a) * 256 + (0x0C)
/-- `A4.0D` VOLTS_A (R312). -/
abbrev VOLTS_A (a : Nat) : Nat := (0x4004 + 0x100 * a) * 256 + (0x0D)
/-- `A4.0E` VOLTS_B (R312). -/
abbrev VOLTS_B (a : Nat) : Nat := (0x4004 + 0x100 * a) * 256 + (0x0E)
end AxPwm

namespace AxEnc
/-- `A5.01` SLOT (R312). -/
abbrev SLOT (a : Nat) : Nat := (0x4005 + 0x100 * a) * 256 + (0x01)
/-- `A5.02` ENC_MON (R312). -/
abbrev ENC_MON (a : Nat) : Nat := (0x4005 + 0x100 * a) * 256 + (0x02)
/-- `A5.03` ENC_PER_COUNT (R312). -/
abbrev ENC_PER_COUNT (a : Nat) : Nat := (0x4005 + 0x100 * a) * 256 + (0x03)
/-- `A5.04` STALL_LIMIT (R312). -/
abbrev STALL_LIMIT (a : Nat) : Nat := (0x4005 + 0x100 * a) * 256 + (0x04)
/-- `A5.05` ENC_DEV (R312). -/
abbrev ENC_DEV (a : Nat) : Nat := (0x4005 + 0x100 * a) * 256 + (0x05)
end AxEnc

namespace AxMon
/-- `A6.01` POSITION (R312). -/
abbrev POSITION (a : Nat) : Nat := (0x4006 + 0x100 * a) * 256 + (0x01)
/-- `A6.02` VELOCITY (R312). -/
abbrev VELOCITY (a : Nat) : Nat := (0x4006 + 0x100 * a) * 256 + (0x02)
/-- `A6.03` MEASURED (R312). -/
abbrev MEASURED (a : Nat) : Nat := (0x4006 + 0x100 * a) * 256 + (0x03)
/-- `A6.04` MOVE_END (R312). -/
abbrev MOVE_END (a : Nat) : Nat := (0x4006 + 0x100 * a) * 256 + (0x04)
/-- `A6.05` LATCHED_ACCEL (R312). -/
abbrev LATCHED_ACCEL (a : Nat) : Nat := (0x4006 + 0x100 * a) * 256 + (0x05)
/-- `A6.06` LATCHED_DECEL (R312). -/
abbrev LATCHED_DECEL (a : Nat) : Nat := (0x4006 + 0x100 * a) * 256 + (0x06)
/-- `A6.07` LATCHED_STOP (R312). -/
abbrev LATCHED_STOP (a : Nat) : Nat := (0x4006 + 0x100 * a) * 256 + (0x07)
/-- `A6.08` LATCHED_ESTOP (R312). -/
abbrev LATCHED_ESTOP (a : Nat) : Nat := (0x4006 + 0x100 * a) * 256 + (0x08)
end AxMon

namespace AxCnt
/-- `A7.01` MOVES (R312). -/
abbrev MOVES (a : Nat) : Nat := (0x4007 + 0x100 * a) * 256 + (0x01)
/-- `A7.02` RETARGETS (R312). -/
abbrev RETARGETS (a : Nat) : Nat := (0x4007 + 0x100 * a) * 256 + (0x02)
/-- `A7.03` REVERSALS (R312). -/
abbrev REVERSALS (a : Nat) : Nat := (0x4007 + 0x100 * a) * 256 + (0x03)
/-- `A7.04` STOPS (R312). -/
abbrev STOPS (a : Nat) : Nat := (0x4007 + 0x100 * a) * 256 + (0x04)
/-- `A7.05` PWM_SAT_PERIODS (R312). -/
abbrev PWM_SAT_PERIODS (a : Nat) : Nat := (0x4007 + 0x100 * a) * 256 + (0x05)
/-- `A7.06` SEGMENTS (R312). -/
abbrev SEGMENTS (a : Nat) : Nat := (0x4007 + 0x100 * a) * 256 + (0x06)
end AxCnt

namespace Bus
/-- `4bF0.01` VBUS (R312). -/
abbrev VBUS (b : Nat) : Nat := (0x40F0 + 0x100 * b) * 256 + (0x01)
/-- `4bF0.02` SCALE (R312). -/
abbrev SCALE (b : Nat) : Nat := (0x40F0 + 0x100 * b) * 256 + (0x02)
/-- `4bF0.03` VBUS_MIN (R312). -/
abbrev VBUS_MIN (b : Nat) : Nat := (0x40F0 + 0x100 * b) * 256 + (0x03)
/-- `4bF0.04` VBUS_MAX (R312). -/
abbrev VBUS_MAX (b : Nat) : Nat := (0x40F0 + 0x100 * b) * 256 + (0x04)
/-- `4bF0.05` VBUS_LOWEST (R312). -/
abbrev VBUS_LOWEST (b : Nat) : Nat := (0x40F0 + 0x100 * b) * 256 + (0x05)
/-- `4bF0.06` VBUS_HIGHEST (R312). -/
abbrev VBUS_HIGHEST (b : Nat) : Nat := (0x40F0 + 0x100 * b) * 256 + (0x06)
end Bus

namespace Csi
/-- `P0.01` ENABLE (R316). -/
abbrev ENABLE (p : Nat) : Nat := (0x5001 + p) * 256 + (0x01)
/-- `P0.02` LANES (R316). -/
abbrev LANES (p : Nat) : Nat := (0x5001 + p) * 256 + (0x02)
/-- `P0.03` LANE_MAP (R316). -/
abbrev LANE_MAP (p : Nat) : Nat := (0x5001 + p) * 256 + (0x03)
/-- `P0.04` POLARITY (R316). -/
abbrev POLARITY (p : Nat) : Nat := (0x5001 + p) * 256 + (0x04)
/-- `P0.05` HS_SETTLE (R316). -/
abbrev HS_SETTLE (p : Nat) : Nat := (0x5001 + p) * 256 + (0x05)
/-- `P0.06` STATE (R316). -/
abbrev STATE (p : Nat) : Nat := (0x5001 + p) * 256 + (0x06)
/-- `P0.07` ECC_CORRECTED (R316). -/
abbrev ECC_CORRECTED (p : Nat) : Nat := (0x5001 + p) * 256 + (0x07)
/-- `P0.08` ECC_UNCORRECTABLE (R316). -/
abbrev ECC_UNCORRECTABLE (p : Nat) : Nat := (0x5001 + p) * 256 + (0x08)
/-- `P0.09` CRC_ERRORS (R316). -/
abbrev CRC_ERRORS (p : Nat) : Nat := (0x5001 + p) * 256 + (0x09)
/-- `P0.0A` UNMATCHED (R316). -/
abbrev UNMATCHED (p : Nat) : Nat := (0x5001 + p) * 256 + (0x0A)
/-- `P0.0B` SOT_ERRORS (R316). -/
abbrev SOT_ERRORS (p : Nat) : Nat := (0x5001 + p) * 256 + (0x0B)
/-- `P0.0C` DESKEWS (R316). -/
abbrev DESKEWS (p : Nat) : Nat := (0x5001 + p) * 256 + (0x0C)
end Csi

namespace Ctx
/-- `C0.01` ENABLE (R334). -/
abbrev ENABLE (k : Nat) : Nat := (0x5100 + 0x10 * k) * 256 + (0x01)
/-- `C0.02` PORT (R334). -/
abbrev PORT (k : Nat) : Nat := (0x5100 + 0x10 * k) * 256 + (0x02)
/-- `C0.03` VC (R334). -/
abbrev VC (k : Nat) : Nat := (0x5100 + 0x10 * k) * 256 + (0x03)
/-- `C0.04` DATA_TYPE (R334). -/
abbrev DATA_TYPE (k : Nat) : Nat := (0x5100 + 0x10 * k) * 256 + (0x04)
/-- `C0.05` WIDTH (R334). -/
abbrev WIDTH (k : Nat) : Nat := (0x5100 + 0x10 * k) * 256 + (0x05)
/-- `C0.06` HEIGHT (R334). -/
abbrev HEIGHT (k : Nat) : Nat := (0x5100 + 0x10 * k) * 256 + (0x06)
/-- `C0.07` PRIORITY (R334). -/
abbrev PRIORITY (k : Nat) : Nat := (0x5100 + 0x10 * k) * 256 + (0x07)
/-- `C0.08` CFA (R334). -/
abbrev CFA (k : Nat) : Nat := (0x5100 + 0x10 * k) * 256 + (0x08)
/-- `C0.09` CAPTURE_OFFSET (R334). -/
abbrev CAPTURE_OFFSET (k : Nat) : Nat := (0x5100 + 0x10 * k) * 256 + (0x09)
/-- `C0.0A` FRAME_TIMEOUT (R334). -/
abbrev FRAME_TIMEOUT (k : Nat) : Nat := (0x5100 + 0x10 * k) * 256 + (0x0A)
end Ctx

namespace CtxCol
/-- `C1.01` BLACK (R334). -/
abbrev BLACK (k : Nat) : Nat := (0x5101 + 0x10 * k) * 256 + (0x01)
/-- `C1.02` GAIN_R (R334). -/
abbrev GAIN_R (k : Nat) : Nat := (0x5101 + 0x10 * k) * 256 + (0x02)
/-- `C1.03` GAIN_G (R334). -/
abbrev GAIN_G (k : Nat) : Nat := (0x5101 + 0x10 * k) * 256 + (0x03)
/-- `C1.04` GAIN_B (R334). -/
abbrev GAIN_B (k : Nat) : Nat := (0x5101 + 0x10 * k) * 256 + (0x04)
/-- `C1.05` CCM (R334). -/
abbrev CCM (k : Nat) (i : Nat) : Nat := (0x5101 + 0x10 * k) * 256 + (0x05 + i)
end CtxCol

namespace CtxSt
/-- `C2.01` STATE (R334). -/
abbrev STATE (k : Nat) : Nat := (0x5102 + 0x10 * k) * 256 + (0x01)
/-- `C2.02` FRAMES (R334). -/
abbrev FRAMES (k : Nat) : Nat := (0x5102 + 0x10 * k) * 256 + (0x02)
/-- `C2.03` TRUNCATED (R334). -/
abbrev TRUNCATED (k : Nat) : Nat := (0x5102 + 0x10 * k) * 256 + (0x03)
/-- `C2.04` SHORT (R334). -/
abbrev SHORT (k : Nat) : Nat := (0x5102 + 0x10 * k) * 256 + (0x04)
/-- `C2.05` LONG (R334). -/
abbrev LONG (k : Nat) : Nat := (0x5102 + 0x10 * k) * 256 + (0x05)
/-- `C2.06` ORPHAN_LINES (R334). -/
abbrev ORPHAN_LINES (k : Nat) : Nat := (0x5102 + 0x10 * k) * 256 + (0x06)
/-- `C2.07` FIFO_PEAK (R334). -/
abbrev FIFO_PEAK (k : Nat) : Nat := (0x5102 + 0x10 * k) * 256 + (0x07)
end CtxSt

namespace Out
/-- `On.01` ENABLE (R334). -/
abbrev ENABLE (k : Nat) (n : Nat) : Nat := (0x5200 + 0x10 * k + n) * 256 + (0x01)
/-- `On.02` ADDR (R334). -/
abbrev ADDR (k : Nat) (n : Nat) : Nat := (0x5200 + 0x10 * k + n) * 256 + (0x02)
/-- `On.03` LEN (R334). -/
abbrev LEN (k : Nat) (n : Nat) : Nat := (0x5200 + 0x10 * k + n) * 256 + (0x03)
/-- `On.04` COUNT (R334). -/
abbrev COUNT (k : Nat) (n : Nat) : Nat := (0x5200 + 0x10 * k + n) * 256 + (0x04)
/-- `On.05` HEAD (R334). -/
abbrev HEAD (k : Nat) (n : Nat) : Nat := (0x5200 + 0x10 * k + n) * 256 + (0x05)
/-- `On.06` TAIL (R334). -/
abbrev TAIL (k : Nat) (n : Nat) : Nat := (0x5200 + 0x10 * k + n) * 256 + (0x06)
/-- `On.07` FORMAT (R334). -/
abbrev FORMAT (k : Nat) (n : Nat) : Nat := (0x5200 + 0x10 * k + n) * 256 + (0x07)
/-- `On.09` STRIDE (R334). -/
abbrev STRIDE (k : Nat) (n : Nat) : Nat := (0x5200 + 0x10 * k + n) * 256 + (0x09)
end Out

namespace Disp
/-- `O0.08` DECIMATE (R334). -/
abbrev DECIMATE (k : Nat) : Nat := (0x5200 + 0x10 * k) * 256 + (0x08)
/-- `O0.0A` GAMMA (R334). -/
abbrev GAMMA (k : Nat) : Nat := (0x5200 + 0x10 * k) * 256 + (0x0A)
end Disp

namespace Vis
/-- `O2.0A` ROI_X (R334). -/
abbrev ROI_X (k : Nat) : Nat := (0x5202 + 0x10 * k) * 256 + (0x0A)
/-- `O2.0B` ROI_Y (R334). -/
abbrev ROI_Y (k : Nat) : Nat := (0x5202 + 0x10 * k) * 256 + (0x0B)
/-- `O2.0C` ROI_W (R334). -/
abbrev ROI_W (k : Nat) : Nat := (0x5202 + 0x10 * k) * 256 + (0x0C)
/-- `O2.0D` ROI_H (R334). -/
abbrev ROI_H (k : Nat) : Nat := (0x5202 + 0x10 * k) * 256 + (0x0D)
end Vis

namespace CamRec
/-- `O3.01` REC_ADDR (R334). -/
abbrev REC_ADDR (k : Nat) : Nat := (0x5203 + 0x10 * k) * 256 + (0x01)
/-- `O3.02` REC_LEN (R334). -/
abbrev REC_LEN (k : Nat) : Nat := (0x5203 + 0x10 * k) * 256 + (0x02)
/-- `O3.03` REC_HEAD (R334). -/
abbrev REC_HEAD (k : Nat) : Nat := (0x5203 + 0x10 * k) * 256 + (0x03)
/-- `O3.04` REC_TAIL (R334). -/
abbrev REC_TAIL (k : Nat) : Nat := (0x5203 + 0x10 * k) * 256 + (0x04)
/-- `O3.05` REC_LOST (R334). -/
abbrev REC_LOST (k : Nat) : Nat := (0x5203 + 0x10 * k) * 256 + (0x05)
end CamRec

namespace Blob
/-- `F0.01` BLOB_ENABLE (R334). -/
abbrev BLOB_ENABLE (k : Nat) : Nat := (0x5300 + 0x10 * k) * 256 + (0x01)
/-- `F0.02` THRESH (R334). -/
abbrev THRESH (k : Nat) : Nat := (0x5300 + 0x10 * k) * 256 + (0x02)
/-- `F0.03` POLARITY (R334). -/
abbrev POLARITY (k : Nat) : Nat := (0x5300 + 0x10 * k) * 256 + (0x03)
/-- `F0.04` MIN_AREA (R334). -/
abbrev MIN_AREA (k : Nat) : Nat := (0x5300 + 0x10 * k) * 256 + (0x04)
/-- `F0.05` MAX_AREA (R334). -/
abbrev MAX_AREA (k : Nat) : Nat := (0x5300 + 0x10 * k) * 256 + (0x05)
/-- `F0.06` MAX_BLOBS (R334). -/
abbrev MAX_BLOBS (k : Nat) : Nat := (0x5300 + 0x10 * k) * 256 + (0x06)
end Blob

namespace Profl
/-- `F1.01` PROF_ENABLE (R334). -/
abbrev PROF_ENABLE (k : Nat) : Nat := (0x5301 + 0x10 * k) * 256 + (0x01)
/-- `F1.02` AXIS (R334). -/
abbrev AXIS (k : Nat) : Nat := (0x5301 + 0x10 * k) * 256 + (0x02)
/-- `F1.03` BANDS (R334). -/
abbrev BANDS (k : Nat) : Nat := (0x5301 + 0x10 * k) * 256 + (0x03)
end Profl

namespace Feat
/-- `F2.01` FEAT_ADDR (R334). -/
abbrev FEAT_ADDR (k : Nat) : Nat := (0x5302 + 0x10 * k) * 256 + (0x01)
/-- `F2.02` FEAT_LEN (R334). -/
abbrev FEAT_LEN (k : Nat) : Nat := (0x5302 + 0x10 * k) * 256 + (0x02)
/-- `F2.03` FEAT_HEAD (R334). -/
abbrev FEAT_HEAD (k : Nat) : Nat := (0x5302 + 0x10 * k) * 256 + (0x03)
/-- `F2.04` FEAT_TAIL (R334). -/
abbrev FEAT_TAIL (k : Nat) : Nat := (0x5302 + 0x10 * k) * 256 + (0x04)
/-- `F2.05` LOST (R334). -/
abbrev LOST (k : Nat) : Nat := (0x5302 + 0x10 * k) * 256 + (0x05)
end Feat

namespace Lane
/-- `X0.01` FUNCTION (R356). -/
abbrev FUNCTION (l : Nat) : Nat := (0xC00 + 0x8 * l) * 256 + (0x01)
/-- `X0.02` USER (R356). -/
abbrev USER (l : Nat) : Nat := (0xC00 + 0x8 * l) * 256 + (0x02)
/-- `X0.03` RATE (R356). -/
abbrev RATE (l : Nat) : Nat := (0xC00 + 0x8 * l) * 256 + (0x03)
/-- `X0.04` STAGE (R356). -/
abbrev STAGE (l : Nat) : Nat := (0xC00 + 0x8 * l) * 256 + (0x04)
/-- `X0.05` COMMAND (R356). -/
abbrev COMMAND (l : Nat) : Nat := (0xC00 + 0x8 * l) * 256 + (0x05)
/-- `X0.06` IN_USE (R356). -/
abbrev IN_USE (l : Nat) : Nat := (0xC00 + 0x8 * l) * 256 + (0x06)
/-- `X0.07` EQ_SOURCE (R356). -/
abbrev EQ_SOURCE (l : Nat) : Nat := (0xC00 + 0x8 * l) * 256 + (0x07)
end Lane

namespace LaneEq
/-- `X1.01` PRE (R356). -/
abbrev PRE (l : Nat) : Nat := (0xC01 + 0x8 * l) * 256 + (0x01)
/-- `X1.02` MAIN (R356). -/
abbrev MAIN (l : Nat) : Nat := (0xC01 + 0x8 * l) * 256 + (0x02)
/-- `X1.03` POST (R356). -/
abbrev POST (l : Nat) : Nat := (0xC01 + 0x8 * l) * 256 + (0x03)
/-- `X1.04` CTLE (R356). -/
abbrev CTLE (l : Nat) : Nat := (0xC01 + 0x8 * l) * 256 + (0x04)
/-- `X1.05` DFE (R356). -/
abbrev DFE (l : Nat) (i : Nat) : Nat := (0xC01 + 0x8 * l) * 256 + (0x05 + i)
/-- `X1.0A` POLARITY (R356). -/
abbrev POLARITY (l : Nat) : Nat := (0xC01 + 0x8 * l) * 256 + (0x0A)
end LaneEq

namespace LaneCnt
/-- `X2.01` LOCK_LOSSES (R356). -/
abbrev LOCK_LOSSES (l : Nat) : Nat := (0xC02 + 0x8 * l) * 256 + (0x01)
/-- `X2.02` CODE_ERRORS (R356). -/
abbrev CODE_ERRORS (l : Nat) : Nat := (0xC02 + 0x8 * l) * 256 + (0x02)
/-- `X2.03` TRAIN_FAILS (R356). -/
abbrev TRAIN_FAILS (l : Nat) : Nat := (0xC02 + 0x8 * l) * 256 + (0x03)
/-- `X2.04` CAP_MISMATCHES (R356). -/
abbrev CAP_MISMATCHES (l : Nat) : Nat := (0xC02 + 0x8 * l) * 256 + (0x04)
/-- `X2.05` SKEW_FAILS (R356). -/
abbrev SKEW_FAILS (l : Nat) : Nat := (0xC02 + 0x8 * l) * 256 + (0x05)
/-- `X2.06` DEGRADE_EVENTS (R356). -/
abbrev DEGRADE_EVENTS (l : Nat) : Nat := (0xC02 + 0x8 * l) * 256 + (0x06)
end LaneCnt

namespace LaneTest
/-- `X3.01` PATTERN (R356). -/
abbrev PATTERN (l : Nat) : Nat := (0xC03 + 0x8 * l) * 256 + (0x01)
/-- `X3.02` LOOPBACK (R356). -/
abbrev LOOPBACK (l : Nat) : Nat := (0xC03 + 0x8 * l) * 256 + (0x02)
/-- `X3.03` TEST_RATE (R356). -/
abbrev TEST_RATE (l : Nat) : Nat := (0xC03 + 0x8 * l) * 256 + (0x03)
/-- `X3.04` TEST_LOCK (R356). -/
abbrev TEST_LOCK (l : Nat) : Nat := (0xC03 + 0x8 * l) * 256 + (0x04)
/-- `X3.05` BITS (R356). -/
abbrev BITS (l : Nat) : Nat := (0xC03 + 0x8 * l) * 256 + (0x05)
/-- `X3.06` BIT_ERRORS (R356). -/
abbrev BIT_ERRORS (l : Nat) : Nat := (0xC03 + 0x8 * l) * 256 + (0x06)
end LaneTest

namespace Mac
/-- `0Dm0.01` ENABLE (R357). -/
abbrev ENABLE (m : Nat) : Nat := (0xD00 + 0x10 * m) * 256 + (0x01)
/-- `0Dm0.02` LANE (R357). -/
abbrev LANE (m : Nat) : Nat := (0xD00 + 0x10 * m) * 256 + (0x02)
/-- `0Dm0.03` SPEED (R357). -/
abbrev SPEED (m : Nat) : Nat := (0xD00 + 0x10 * m) * 256 + (0x03)
/-- `0Dm0.04` RS_FEC (R357). -/
abbrev RS_FEC (m : Nat) : Nat := (0xD00 + 0x10 * m) * 256 + (0x04)
/-- `0Dm0.05` MAX_FRAME (R357). -/
abbrev MAX_FRAME (m : Nat) : Nat := (0xD00 + 0x10 * m) * 256 + (0x05)
/-- `0Dm0.06` MAC_ADDR (R357). -/
abbrev MAC_ADDR (m : Nat) : Nat := (0xD00 + 0x10 * m) * 256 + (0x06)
/-- `0Dm0.07` MCAST_HASH (R357). -/
abbrev MCAST_HASH (m : Nat) : Nat := (0xD00 + 0x10 * m) * 256 + (0x07)
/-- `0Dm0.08` LINK (R357). -/
abbrev LINK (m : Nat) : Nat := (0xD00 + 0x10 * m) * 256 + (0x08)
end Mac

namespace MacRing
/-- `0Dm1.01` RX_ADDR (R357). -/
abbrev RX_ADDR (m : Nat) : Nat := (0xD01 + 0x10 * m) * 256 + (0x01)
/-- `0Dm1.02` RX_LEN (R357). -/
abbrev RX_LEN (m : Nat) : Nat := (0xD01 + 0x10 * m) * 256 + (0x02)
/-- `0Dm1.03` RX_HEAD (R357). -/
abbrev RX_HEAD (m : Nat) : Nat := (0xD01 + 0x10 * m) * 256 + (0x03)
/-- `0Dm1.04` RX_TAIL (R357). -/
abbrev RX_TAIL (m : Nat) : Nat := (0xD01 + 0x10 * m) * 256 + (0x04)
/-- `0Dm1.05` TX_ADDR (R357). -/
abbrev TX_ADDR (m : Nat) : Nat := (0xD01 + 0x10 * m) * 256 + (0x05)
/-- `0Dm1.06` TX_LEN (R357). -/
abbrev TX_LEN (m : Nat) : Nat := (0xD01 + 0x10 * m) * 256 + (0x06)
/-- `0Dm1.07` TX_HEAD (R357). -/
abbrev TX_HEAD (m : Nat) : Nat := (0xD01 + 0x10 * m) * 256 + (0x07)
/-- `0Dm1.08` TX_TAIL (R357). -/
abbrev TX_TAIL (m : Nat) : Nat := (0xD01 + 0x10 * m) * 256 + (0x08)
/-- `0Dm1.09` SLOT_SIZE (R357). -/
abbrev SLOT_SIZE (m : Nat) : Nat := (0xD01 + 0x10 * m) * 256 + (0x09)
end MacRing

namespace MacCnt
/-- `0Dm2.01` RX_FRAMES (R357). -/
abbrev RX_FRAMES (m : Nat) : Nat := (0xD02 + 0x10 * m) * 256 + (0x01)
/-- `0Dm2.02` TX_FRAMES (R357). -/
abbrev TX_FRAMES (m : Nat) : Nat := (0xD02 + 0x10 * m) * 256 + (0x02)
/-- `0Dm2.03` FCS_ERRORS (R357). -/
abbrev FCS_ERRORS (m : Nat) : Nat := (0xD02 + 0x10 * m) * 256 + (0x03)
/-- `0Dm2.04` LENGTH_ERRORS (R357). -/
abbrev LENGTH_ERRORS (m : Nat) : Nat := (0xD02 + 0x10 * m) * 256 + (0x04)
/-- `0Dm2.05` RX_DROPPED (R357). -/
abbrev RX_DROPPED (m : Nat) : Nat := (0xD02 + 0x10 * m) * 256 + (0x05)
/-- `0Dm2.06` PAUSE_FRAMES (R357). -/
abbrev PAUSE_FRAMES (m : Nat) : Nat := (0xD02 + 0x10 * m) * 256 + (0x06)
/-- `0Dm2.07` LOCK_LOSSES (R357). -/
abbrev LOCK_LOSSES (m : Nat) : Nat := (0xD02 + 0x10 * m) * 256 + (0x07)
/-- `0Dm2.08` HI_BER_EVENTS (R357). -/
abbrev HI_BER_EVENTS (m : Nat) : Nat := (0xD02 + 0x10 * m) * 256 + (0x08)
/-- `0Dm2.09` FEC_CORRECTED (R357). -/
abbrev FEC_CORRECTED (m : Nat) : Nat := (0xD02 + 0x10 * m) * 256 + (0x09)
/-- `0Dm2.0A` FEC_UNCORRECTED (R357). -/
abbrev FEC_UNCORRECTED (m : Nat) : Nat := (0xD02 + 0x10 * m) * 256 + (0x0A)
/-- `0Dm2.0B` TX_BAD (R357). -/
abbrev TX_BAD (m : Nat) : Nat := (0xD02 + 0x10 * m) * 256 + (0x0B)
/-- `0Dm2.0C` TX_DISCARDED (R357). -/
abbrev TX_DISCARDED (m : Nat) : Nat := (0xD02 + 0x10 * m) * 256 + (0x0C)
end MacCnt

namespace Time
/-- `0E00.00` TIME_NOW (R376). -/
abbrev TIME_NOW : Nat := (0xE00) * 256 + (0x00)
end Time

namespace Inc
/-- `0E01.01` INCREMENT (R376). -/
abbrev INCREMENT : Nat := (0xE01) * 256 + (0x01)
/-- `0E01.02` ADJ_INCREMENT (R376). -/
abbrev ADJ_INCREMENT : Nat := (0xE01) * 256 + (0x02)
/-- `0E01.03` ADJ_TICKS (R376). -/
abbrev ADJ_TICKS : Nat := (0xE01) * 256 + (0x03)
end Inc

namespace Step
/-- `0E02.00` TIME_STEP (R376). -/
abbrev TIME_STEP : Nat := (0xE02) * 256 + (0x00)
end Step

namespace TimeSt
/-- `0E03.01` TIME_STATUS (R376). -/
abbrev TIME_STATUS : Nat := (0xE03) * 256 + (0x01)
end TimeSt

namespace Sync
/-- `0E04.01` SYNC_MASTER (R376). -/
abbrev SYNC_MASTER : Nat := (0xE04) * 256 + (0x01)
/-- `0E04.02` SYNC_SRC (R376). -/
abbrev SYNC_SRC : Nat := (0xE04) * 256 + (0x02)
/-- `0E04.03` SYNC_INTERVAL (R376). -/
abbrev SYNC_INTERVAL : Nat := (0xE04) * 256 + (0x03)
/-- `0E04.04` DELAY_INTERVAL (R376). -/
abbrev DELAY_INTERVAL : Nat := (0xE04) * 256 + (0x04)
/-- `0E04.05` OFFSET (R376). -/
abbrev OFFSET : Nat := (0xE04) * 256 + (0x05)
/-- `0E04.06` SYNC_RX_TIME (R376). -/
abbrev SYNC_RX_TIME : Nat := (0xE04) * 256 + (0x06)
/-- `0E04.07` SYNC_SEQ (R376). -/
abbrev SYNC_SEQ : Nat := (0xE04) * 256 + (0x07)
/-- `0E04.08` SYNCS (R376). -/
abbrev SYNCS : Nat := (0xE04) * 256 + (0x08)
/-- `0E04.09` SYNC_IGNORED (R376). -/
abbrev SYNC_IGNORED : Nat := (0xE04) * 256 + (0x09)
end Sync

namespace Delay
/-- `0E05.01` DELAY_A (R376). -/
abbrev DELAY_A : Nat := (0xE05) * 256 + (0x01)
/-- `0E05.02` DELAY_B (R376). -/
abbrev DELAY_B : Nat := (0xE05) * 256 + (0x02)
/-- `0E05.03` DELAY_FAILS (R376). -/
abbrev DELAY_FAILS : Nat := (0xE05) * 256 + (0x03)
end Delay

namespace Trig
/-- `0E1n.01` MODE (R376). -/
abbrev MODE (n : Nat) : Nat := (0xE10 + n) * 256 + (0x01)
/-- `0E1n.02` START (R376). -/
abbrev START (n : Nat) : Nat := (0xE10 + n) * 256 + (0x02)
/-- `0E1n.03` PERIOD (R376). -/
abbrev PERIOD (n : Nat) : Nat := (0xE10 + n) * 256 + (0x03)
/-- `0E1n.04` AT (R376). -/
abbrev AT (n : Nat) : Nat := (0xE10 + n) * 256 + (0x04)
/-- `0E1n.05` COMMAND (R376). -/
abbrev COMMAND (n : Nat) : Nat := (0xE10 + n) * 256 + (0x05)
/-- `0E1n.06` OUT_EN (R376). -/
abbrev OUT_EN (n : Nat) : Nat := (0xE10 + n) * 256 + (0x06)
/-- `0E1n.07` OUT_WIDTH (R376). -/
abbrev OUT_WIDTH (n : Nat) : Nat := (0xE10 + n) * 256 + (0x07)
/-- `0E1n.08` LAST_TIME (R376). -/
abbrev LAST_TIME (n : Nat) : Nat := (0xE10 + n) * 256 + (0x08)
/-- `0E1n.09` EDGES (R376). -/
abbrev EDGES (n : Nat) : Nat := (0xE10 + n) * 256 + (0x09)
/-- `0E1n.0A` FLAGS (R376). -/
abbrev FLAGS (n : Nat) : Nat := (0xE10 + n) * 256 + (0x0A)
end Trig

namespace Cap
/-- `0E4n.01` SOURCE (R376). -/
abbrev SOURCE (n : Nat) : Nat := (0xE40 + n) * 256 + (0x01)
/-- `0E4n.02` EDGE (R376). -/
abbrev EDGE (n : Nat) : Nat := (0xE40 + n) * 256 + (0x02)
/-- `0E4n.03` FILTER (R376). -/
abbrev FILTER (n : Nat) : Nat := (0xE40 + n) * 256 + (0x03)
/-- `0E4n.04` LAST_TIME (R376). -/
abbrev LAST_TIME (n : Nat) : Nat := (0xE40 + n) * 256 + (0x04)
/-- `0E4n.05` COUNT (R376). -/
abbrev COUNT (n : Nat) : Nat := (0xE40 + n) * 256 + (0x05)
/-- `0E4n.06` OLDEST (R376). -/
abbrev OLDEST (n : Nat) : Nat := (0xE40 + n) * 256 + (0x06)
/-- `0E4n.07` LEVEL (R376). -/
abbrev LEVEL (n : Nat) : Nat := (0xE40 + n) * 256 + (0x07)
/-- `0E4n.08` POP (R376). -/
abbrev POP (n : Nat) : Nat := (0xE40 + n) * 256 + (0x08)
/-- `0E4n.09` LOST (R376). -/
abbrev LOST (n : Nat) : Nat := (0xE40 + n) * 256 + (0x09)
end Cap

namespace MacCorr
/-- `0D8m.01` TX_CORR (R376). -/
abbrev TX_CORR (m : Nat) : Nat := (0xD80 + m) * 256 + (0x01)
/-- `0D8m.02` RX_CORR (R376). -/
abbrev RX_CORR (m : Nat) : Nat := (0xD80 + m) * 256 + (0x02)
end MacCorr

namespace Dmc
/-- `0800.01` CHANNELS (R400). -/
abbrev CHANNELS : Nat := (0x800) * 256 + (0x01)
/-- `0800.02` DENSITY (R400). -/
abbrev DENSITY : Nat := (0x800) * 256 + (0x02)
/-- `0800.03` RANKS (R400). -/
abbrev RANKS : Nat := (0x800) * 256 + (0x03)
/-- `0800.04` RATE (R400). -/
abbrev RATE : Nat := (0x800) * 256 + (0x04)
/-- `0800.05` CL (R400). -/
abbrev CL : Nat := (0x800) * 256 + (0x05)
/-- `0800.06` REFRESH_MODE (R400). -/
abbrev REFRESH_MODE : Nat := (0x800) * 256 + (0x06)
/-- `0800.07` OSC_INTERVAL (R400). -/
abbrev OSC_INTERVAL : Nat := (0x800) * 256 + (0x07)
/-- `0800.08` TRACK_LIMIT (R400). -/
abbrev TRACK_LIMIT : Nat := (0x800) * 256 + (0x08)
/-- `0800.09` SIZE (R400). -/
abbrev SIZE : Nat := (0x800) * 256 + (0x09)
end Dmc

namespace DmcSt
/-- `0801.01` COMMAND (R400). -/
abbrev COMMAND : Nat := (0x801) * 256 + (0x01)
/-- `0801.02` STATE (R400). -/
abbrev STATE : Nat := (0x801) * 256 + (0x02)
/-- `0801.03` TRAIN_VALID (R400). -/
abbrev TRAIN_VALID : Nat := (0x801) * 256 + (0x03)
end DmcSt

namespace DmcErr
/-- `0802.01` ADDRESS (R400). -/
abbrev ADDRESS : Nat := (0x802) * 256 + (0x01)
/-- `0802.02` KIND (R400). -/
abbrev KIND : Nat := (0x802) * 256 + (0x02)
/-- `0802.03` LOCATION (R400). -/
abbrev LOCATION : Nat := (0x802) * 256 + (0x03)
/-- `0802.04` ROW (R400). -/
abbrev ROW : Nat := (0x802) * 256 + (0x04)
/-- `0802.05` LANES (R400). -/
abbrev LANES : Nat := (0x802) * 256 + (0x05)
/-- `0802.06` COMMAND (R400). -/
abbrev COMMAND : Nat := (0x802) * 256 + (0x06)
/-- `0802.07` MASTER (R400). -/
abbrev MASTER : Nat := (0x802) * 256 + (0x07)
/-- `0802.08` TIME (R400). -/
abbrev TIME : Nat := (0x802) * 256 + (0x08)
/-- `0802.09` FURTHER (R400). -/
abbrev FURTHER : Nat := (0x802) * 256 + (0x09)
/-- `0802.0A` FREEZES (R400). -/
abbrev FREEZES : Nat := (0x802) * 256 + (0x0A)
/-- `0802.0B` DROPPED_WRITES (R400). -/
abbrev DROPPED_WRITES : Nat := (0x802) * 256 + (0x0B)
end DmcErr

namespace DmcDbg
/-- `0803.01` DEBUG_ADDR (R400). -/
abbrev DEBUG_ADDR : Nat := (0x803) * 256 + (0x01)
/-- `0803.02` DEBUG_COMMAND (R400). -/
abbrev DEBUG_COMMAND : Nat := (0x803) * 256 + (0x02)
/-- `0803.03` DATA (R400). -/
abbrev DATA (i : Nat) : Nat := (0x803) * 256 + (0x03 + i)
/-- `0803.0B` PARITY (R400). -/
abbrev PARITY : Nat := (0x803) * 256 + (0x0B)
/-- `0803.0C` BAD_BYTES (R400). -/
abbrev BAD_BYTES : Nat := (0x803) * 256 + (0x0C)
end DmcDbg

namespace DmcRef
/-- `0804.01` TREFI (R400). -/
abbrev TREFI : Nat := (0x804) * 256 + (0x01)
/-- `0804.02` REFRESHES (R400). -/
abbrev REFRESHES : Nat := (0x804) * 256 + (0x02)
/-- `0804.03` POSTPONED_MAX (R400). -/
abbrev POSTPONED_MAX : Nat := (0x804) * 256 + (0x03)
end DmcRef

namespace DmcCnt
/-- `0805.01` READS (R400). -/
abbrev READS : Nat := (0x805) * 256 + (0x01)
/-- `0805.02` WRITES (R400). -/
abbrev WRITES : Nat := (0x805) * 256 + (0x02)
/-- `0805.03` RMW (R400). -/
abbrev RMW : Nat := (0x805) * 256 + (0x03)
/-- `0805.04` IN_ORDER (R400). -/
abbrev IN_ORDER : Nat := (0x805) * 256 + (0x04)
/-- `0805.05` OSC_ADJUSTS (R400). -/
abbrev OSC_ADJUSTS : Nat := (0x805) * 256 + (0x05)
end DmcCnt

namespace Ppr
/-- `0810.01` PPR_CHANNEL (R400). -/
abbrev PPR_CHANNEL : Nat := (0x810) * 256 + (0x01)
/-- `0810.02` PPR_RANK (R400). -/
abbrev PPR_RANK : Nat := (0x810) * 256 + (0x02)
/-- `0810.03` PPR_DEVICE (R400). -/
abbrev PPR_DEVICE : Nat := (0x810) * 256 + (0x03)
/-- `0810.04` PPR_BG (R400). -/
abbrev PPR_BG : Nat := (0x810) * 256 + (0x04)
/-- `0810.05` PPR_BA (R400). -/
abbrev PPR_BA : Nat := (0x810) * 256 + (0x05)
/-- `0810.06` PPR_ROW (R400). -/
abbrev PPR_ROW : Nat := (0x810) * 256 + (0x06)
/-- `0810.07` PPR_COMMAND (R400). -/
abbrev PPR_COMMAND : Nat := (0x810) * 256 + (0x07)
/-- `0810.08` PPR_RESULT (R400). -/
abbrev PPR_RESULT : Nat := (0x810) * 256 + (0x08)
end Ppr

namespace Soft
/-- `0811.01` SOFT_REPAIRS (R400). -/
abbrev SOFT_REPAIRS (i : Nat) : Nat := (0x811) * 256 + (0x01 + i)
end Soft

namespace Train
/-- `0820.01` TRAIN_COMMAND (R400). -/
abbrev TRAIN_COMMAND : Nat := (0x820) * 256 + (0x01)
/-- `0820.02` SEL_CHANNEL (R400). -/
abbrev SEL_CHANNEL : Nat := (0x820) * 256 + (0x02)
/-- `0820.03` SEL_RANK (R400). -/
abbrev SEL_RANK : Nat := (0x820) * 256 + (0x03)
/-- `0820.04` SEL_LANE (R400). -/
abbrev SEL_LANE : Nat := (0x820) * 256 + (0x04)
/-- `0820.05` MODE (R400). -/
abbrev MODE : Nat := (0x820) * 256 + (0x05)
end Train

namespace TrainDly
/-- `0821.01` CS_DELAY (R400). -/
abbrev CS_DELAY : Nat := (0x821) * 256 + (0x01)
/-- `0821.02` CA_DELAY (R400). -/
abbrev CA_DELAY : Nat := (0x821) * 256 + (0x02)
/-- `0821.03` WL_DELAY (R400). -/
abbrev WL_DELAY : Nat := (0x821) * 256 + (0x03)
/-- `0821.04` RD_GATE (R400). -/
abbrev RD_GATE : Nat := (0x821) * 256 + (0x04)
/-- `0821.05` RD_DQ_DELAY (R400). -/
abbrev RD_DQ_DELAY : Nat := (0x821) * 256 + (0x05)
/-- `0821.06` WR_DQ_DELAY (R400). -/
abbrev WR_DQ_DELAY : Nat := (0x821) * 256 + (0x06)
/-- `0821.07` RD_VREF (R400). -/
abbrev RD_VREF : Nat := (0x821) * 256 + (0x07)
end TrainDly

namespace Mr
/-- `0822.01` MR_ADDR (R400). -/
abbrev MR_ADDR : Nat := (0x822) * 256 + (0x01)
/-- `0822.02` MR_DATA (R400). -/
abbrev MR_DATA : Nat := (0x822) * 256 + (0x02)
/-- `0822.03` MR_COMMAND (R400). -/
abbrev MR_COMMAND : Nat := (0x822) * 256 + (0x03)
/-- `0822.04` MR_READ (R400). -/
abbrev MR_READ : Nat := (0x822) * 256 + (0x04)
end Mr

namespace TPat
/-- `0823.01` PAT_KIND (R400). -/
abbrev PAT_KIND : Nat := (0x823) * 256 + (0x01)
/-- `0823.02` PAT_SEED (R400). -/
abbrev PAT_SEED : Nat := (0x823) * 256 + (0x02)
/-- `0823.03` PAT_OFFSET (R400). -/
abbrev PAT_OFFSET : Nat := (0x823) * 256 + (0x03)
/-- `0823.04` PAT_BURSTS (R400). -/
abbrev PAT_BURSTS : Nat := (0x823) * 256 + (0x04)
/-- `0823.05` PAT_COMMAND (R400). -/
abbrev PAT_COMMAND : Nat := (0x823) * 256 + (0x05)
/-- `0823.06` PAT_BUSY (R400). -/
abbrev PAT_BUSY : Nat := (0x823) * 256 + (0x06)
/-- `0823.07` PAT_BITS (R400). -/
abbrev PAT_BITS : Nat := (0x823) * 256 + (0x07)
/-- `0823.08` PAT_ERRORS (R400). -/
abbrev PAT_ERRORS : Nat := (0x823) * 256 + (0x08)
end TPat

namespace Dma
/-- `D0.01` ENABLE (R421). -/
abbrev ENABLE (d : Nat) : Nat := (0x900 + 0x4 * d) * 256 + (0x01)
/-- `D0.02` MODE (R421). -/
abbrev MODE (d : Nat) : Nat := (0x900 + 0x4 * d) * 256 + (0x02)
/-- `D0.03` COMMAND (R421). -/
abbrev COMMAND (d : Nat) : Nat := (0x900 + 0x4 * d) * 256 + (0x03)
/-- `D0.04` STATE (R421). -/
abbrev STATE (d : Nat) : Nat := (0x900 + 0x4 * d) * 256 + (0x04)
/-- `D0.05` CQ (R421). -/
abbrev CQ (d : Nat) : Nat := (0x900 + 0x4 * d) * 256 + (0x05)
/-- `D0.06` PRIORITY (R421). -/
abbrev PRIORITY (d : Nat) : Nat := (0x900 + 0x4 * d) * 256 + (0x06)
/-- `D0.07` PACE (R421). -/
abbrev PACE (d : Nat) : Nat := (0x900 + 0x4 * d) * 256 + (0x07)
/-- `D0.08` FLAGS (R421). -/
abbrev FLAGS (d : Nat) : Nat := (0x900 + 0x4 * d) * 256 + (0x08)
/-- `D0.09` CLASS (R421). -/
abbrev CLASS (d : Nat) : Nat := (0x900 + 0x4 * d) * 256 + (0x09)
/-- `D0.0A` CAUSE (R421). -/
abbrev CAUSE (d : Nat) : Nat := (0x900 + 0x4 * d) * 256 + (0x0A)
end Dma

namespace DmaAct
/-- `D1.01` SRC (R421). -/
abbrev SRC (d : Nat) : Nat := (0x901 + 0x4 * d) * 256 + (0x01)
/-- `D1.02` DST (R421). -/
abbrev DST (d : Nat) : Nat := (0x901 + 0x4 * d) * 256 + (0x02)
/-- `D1.03` REMAIN (R421). -/
abbrev REMAIN (d : Nat) : Nat := (0x901 + 0x4 * d) * 256 + (0x03)
/-- `D1.04` ROWS_LEFT (R421). -/
abbrev ROWS_LEFT (d : Nat) : Nat := (0x901 + 0x4 * d) * 256 + (0x04)
/-- `D1.05` SEQ (R421). -/
abbrev SEQ (d : Nat) : Nat := (0x901 + 0x4 * d) * 256 + (0x05)
/-- `D1.06` BYTES (R421). -/
abbrev BYTES (d : Nat) : Nat := (0x901 + 0x4 * d) * 256 + (0x06)
end DmaAct

namespace DmaSh
/-- `D2.01` SRC (R421). -/
abbrev SRC (d : Nat) : Nat := (0x902 + 0x4 * d) * 256 + (0x01)
/-- `D2.02` DST (R421). -/
abbrev DST (d : Nat) : Nat := (0x902 + 0x4 * d) * 256 + (0x02)
/-- `D2.03` COUNT (R421). -/
abbrev COUNT (d : Nat) : Nat := (0x902 + 0x4 * d) * 256 + (0x03)
/-- `D2.04` ROWS (R421). -/
abbrev ROWS (d : Nat) : Nat := (0x902 + 0x4 * d) * 256 + (0x04)
/-- `D2.05` FORMAT (R421). -/
abbrev FORMAT (d : Nat) : Nat := (0x902 + 0x4 * d) * 256 + (0x05)
/-- `D2.06` SRC_INC (R421). -/
abbrev SRC_INC (d : Nat) : Nat := (0x902 + 0x4 * d) * 256 + (0x06)
/-- `D2.07` DST_INC (R421). -/
abbrev DST_INC (d : Nat) : Nat := (0x902 + 0x4 * d) * 256 + (0x07)
/-- `D2.08` SRC_ROW_STRIDE (R421). -/
abbrev SRC_ROW_STRIDE (d : Nat) : Nat := (0x902 + 0x4 * d) * 256 + (0x08)
/-- `D2.09` DST_ROW_STRIDE (R421). -/
abbrev DST_ROW_STRIDE (d : Nat) : Nat := (0x902 + 0x4 * d) * 256 + (0x09)
/-- `D2.0A` SEQ (R421). -/
abbrev SEQ (d : Nat) : Nat := (0x902 + 0x4 * d) * 256 + (0x0A)
/-- `D2.0B` ARM (R421). -/
abbrev ARM (d : Nat) : Nat := (0x902 + 0x4 * d) * 256 + (0x0B)
end DmaSh

namespace DmaRing
/-- `D3.01` RING_ADDR (R421). -/
abbrev RING_ADDR (d : Nat) : Nat := (0x903 + 0x4 * d) * 256 + (0x01)
/-- `D3.02` RING_LEN (R421). -/
abbrev RING_LEN (d : Nat) : Nat := (0x903 + 0x4 * d) * 256 + (0x02)
/-- `D3.03` HEAD (R421). -/
abbrev HEAD (d : Nat) : Nat := (0x903 + 0x4 * d) * 256 + (0x03)
/-- `D3.04` TAIL (R421). -/
abbrev TAIL (d : Nat) : Nat := (0x903 + 0x4 * d) * 256 + (0x04)
/-- `D3.05` DESCRIPTORS (R421). -/
abbrev DESCRIPTORS (d : Nat) : Nat := (0x903 + 0x4 * d) * 256 + (0x05)
/-- `D3.06` BAD (R421). -/
abbrev BAD (d : Nat) : Nat := (0x903 + 0x4 * d) * 256 + (0x06)
/-- `D3.07` BUS_ERRORS (R421). -/
abbrev BUS_ERRORS (d : Nat) : Nat := (0x903 + 0x4 * d) * 256 + (0x07)
/-- `D3.08` PARITY_ERRORS (R421). -/
abbrev PARITY_ERRORS (d : Nat) : Nat := (0x903 + 0x4 * d) * 256 + (0x08)
/-- `D3.09` GAPS (R421). -/
abbrev GAPS (d : Nat) : Nat := (0x903 + 0x4 * d) * 256 + (0x09)
end DmaRing

namespace Cq
/-- `098q.01` ADDR (R421). -/
abbrev ADDR (q : Nat) : Nat := (0x980 + q) * 256 + (0x01)
/-- `098q.02` LEN (R421). -/
abbrev LEN (q : Nat) : Nat := (0x980 + q) * 256 + (0x02)
/-- `098q.03` HEAD (R421). -/
abbrev HEAD (q : Nat) : Nat := (0x980 + q) * 256 + (0x03)
/-- `098q.04` TAIL (R421). -/
abbrev TAIL (q : Nat) : Nat := (0x980 + q) * 256 + (0x04)
/-- `098q.05` POLICY (R421). -/
abbrev POLICY (q : Nat) : Nat := (0x980 + q) * 256 + (0x05)
/-- `098q.06` LOST (R421). -/
abbrev LOST (q : Nat) : Nat := (0x980 + q) * 256 + (0x06)
/-- `098q.07` WAITS (R421). -/
abbrev WAITS (q : Nat) : Nat := (0x980 + q) * 256 + (0x07)
/-- `098q.08` RECORDS (R421). -/
abbrev RECORDS (q : Nat) : Nat := (0x980 + q) * 256 + (0x08)
end Cq

namespace DmaTot
/-- `0988.01` BYTES_MOVED (R421). -/
abbrev BYTES_MOVED : Nat := (0x988) * 256 + (0x01)
/-- `0988.02` ACTIVE (R421). -/
abbrev ACTIVE : Nat := (0x988) * 256 + (0x02)
end DmaTot

namespace Prot
/-- `0300.01` ENABLE (R451). -/
abbrev ENABLE : Nat := (0x300) * 256 + (0x01)
/-- `0300.02` FW_DEFAULT (R451). -/
abbrev FW_DEFAULT : Nat := (0x300) * 256 + (0x02)
/-- `0300.03` CHANGES (R451). -/
abbrev CHANGES : Nat := (0x300) * 256 + (0x03)
/-- `0300.04` FW_DENIALS (R451). -/
abbrev FW_DENIALS : Nat := (0x300) * 256 + (0x04)
/-- `0300.05` FW_LAST_ADDR (R451). -/
abbrev FW_LAST_ADDR : Nat := (0x300) * 256 + (0x05)
/-- `0300.06` FW_LAST_MASTER (R451). -/
abbrev FW_LAST_MASTER : Nat := (0x300) * 256 + (0x06)
/-- `0300.07` FW_LAST_CLASS (R451). -/
abbrev FW_LAST_CLASS : Nat := (0x300) * 256 + (0x07)
end Prot

namespace Rights
/-- `0301.01` ROW (R451). -/
abbrev ROW (i : Nat) : Nat := (0x301) * 256 + (0x01 + i)
end Rights

namespace Wall
/-- `Wr.01` ENABLE (R451). -/
abbrev ENABLE (r : Nat) : Nat := (0x310 + r) * 256 + (0x01)
/-- `Wr.02` BASE (R451). -/
abbrev BASE (r : Nat) : Nat := (0x310 + r) * 256 + (0x02)
/-- `Wr.03` SIZE (R451). -/
abbrev SIZE (r : Nat) : Nat := (0x310 + r) * 256 + (0x03)
/-- `Wr.04` READ (R451). -/
abbrev READ (r : Nat) : Nat := (0x310 + r) * 256 + (0x04)
/-- `Wr.05` WRITE (R451). -/
abbrev WRITE (r : Nat) : Nat := (0x310 + r) * 256 + (0x05)
/-- `Wr.06` DENIALS (R451). -/
abbrev DENIALS (r : Nat) : Nat := (0x310 + r) * 256 + (0x06)
end Wall

namespace Mram
/-- `0A10.01` SRC_ADDR (R452). -/
abbrev SRC_ADDR : Nat := (0xA10) * 256 + (0x01)
/-- `0A10.02` SRC_LEN (R452). -/
abbrev SRC_LEN : Nat := (0xA10) * 256 + (0x02)
/-- `0A10.03` DST_OFFSET (R452). -/
abbrev DST_OFFSET : Nat := (0xA10) * 256 + (0x03)
/-- `0A10.04` COMMAND (R452). -/
abbrev COMMAND : Nat := (0xA10) * 256 + (0x04)
/-- `0A10.05` PROGRESS (R452). -/
abbrev PROGRESS : Nat := (0xA10) * 256 + (0x05)
/-- `0A10.06` RESULT (R452). -/
abbrev RESULT : Nat := (0xA10) * 256 + (0x06)
/-- `0A10.07` MISMATCH_OFFSET (R452). -/
abbrev MISMATCH_OFFSET : Nat := (0xA10) * 256 + (0x07)
end Mram

namespace Image
/-- `0A20.01` COMMAND (R452). -/
abbrev COMMAND : Nat := (0xA20) * 256 + (0x01)
/-- `0A20.02` RESULT_A (R452). -/
abbrev RESULT_A : Nat := (0xA20) * 256 + (0x02)
/-- `0A20.03` RESULT_B (R452). -/
abbrev RESULT_B : Nat := (0xA20) * 256 + (0x03)
/-- `0A20.04` RUNNING (R452). -/
abbrev RUNNING : Nat := (0xA20) * 256 + (0x04)
/-- `0A20.05` BOOT_STATE (R452). -/
abbrev BOOT_STATE : Nat := (0xA20) * 256 + (0x05)
/-- `0A20.06` SEQ_A (R452). -/
abbrev SEQ_A : Nat := (0xA20) * 256 + (0x06)
/-- `0A20.07` SEQ_B (R452). -/
abbrev SEQ_B : Nat := (0xA20) * 256 + (0x07)
/-- `0A20.08` VERSION_A (R452). -/
abbrev VERSION_A : Nat := (0xA20) * 256 + (0x08)
/-- `0A20.09` VERSION_B (R452). -/
abbrev VERSION_B : Nat := (0xA20) * 256 + (0x09)
/-- `0A20.0A` TRIAL_LEFT (R452). -/
abbrev TRIAL_LEFT : Nat := (0xA20) * 256 + (0x0A)
end Image

namespace Otp
/-- `0A30.01` LIFECYCLE (R452). -/
abbrev LIFECYCLE : Nat := (0xA30) * 256 + (0x01)
/-- `0A30.02` OTP_ADDR (R452). -/
abbrev OTP_ADDR : Nat := (0xA30) * 256 + (0x02)
/-- `0A30.03` OTP_DATA (R452). -/
abbrev OTP_DATA : Nat := (0xA30) * 256 + (0x03)
/-- `0A30.04` OTP_COMMAND (R452). -/
abbrev OTP_COMMAND : Nat := (0xA30) * 256 + (0x04)
/-- `0A30.05` OTP_RESULT (R452). -/
abbrev OTP_RESULT : Nat := (0xA30) * 256 + (0x05)
/-- `0A30.06` ROLLBACK_MIN (R452). -/
abbrev ROLLBACK_MIN : Nat := (0xA30) * 256 + (0x06)
/-- `0A30.07` KEYS (R452). -/
abbrev KEYS : Nat := (0xA30) * 256 + (0x07)
end Otp

namespace Dbg
/-- `0A31.01` DEBUG_ENABLE (R452). -/
abbrev DEBUG_ENABLE : Nat := (0xA31) * 256 + (0x01)
/-- `0A31.02` DEBUG_ACTIVE (R452). -/
abbrev DEBUG_ACTIVE : Nat := (0xA31) * 256 + (0x02)
end Dbg

namespace Pwr
/-- `0400.01` COMMAND (R482). -/
abbrev COMMAND : Nat := (0x400) * 256 + (0x01)
/-- `0400.02` NAP_DOMAINS (R482). -/
abbrev NAP_DOMAINS : Nat := (0x400) * 256 + (0x02)
/-- `0400.03` SAVE_ADDR (R482). -/
abbrev SAVE_ADDR : Nat := (0x400) * 256 + (0x03)
/-- `0400.04` SAVE_LEN (R482). -/
abbrev SAVE_LEN : Nat := (0x400) * 256 + (0x04)
/-- `0400.05` SAVE_ENABLE (R482). -/
abbrev SAVE_ENABLE : Nat := (0x400) * 256 + (0x05)
/-- `0400.06` KEEP_IO (R482). -/
abbrev KEEP_IO : Nat := (0x400) * 256 + (0x06)
/-- `0400.07` RAIL_STEP (R482). -/
abbrev RAIL_STEP : Nat := (0x400) * 256 + (0x07)
end Pwr

namespace PwrSt
/-- `0401.01` STATE (R482). -/
abbrev STATE : Nat := (0x401) * 256 + (0x01)
/-- `0401.02` RESULT (R482). -/
abbrev RESULT : Nat := (0x401) * 256 + (0x02)
/-- `0401.03` BLOCKER (R482). -/
abbrev BLOCKER : Nat := (0x401) * 256 + (0x03)
/-- `0401.04` NAPS (R482). -/
abbrev NAPS : Nat := (0x401) * 256 + (0x04)
/-- `0401.05` HOLDS (R482). -/
abbrev HOLDS : Nat := (0x401) * 256 + (0x05)
/-- `0401.06` LAST_NAP (R482). -/
abbrev LAST_NAP : Nat := (0x401) * 256 + (0x06)
end PwrSt

namespace Dom
/-- `0402.01` ENABLE (R482). -/
abbrev ENABLE : Nat := (0x402) * 256 + (0x01)
/-- `0402.02` POWERED (R482). -/
abbrev POWERED : Nat := (0x402) * 256 + (0x02)
/-- `0402.03` CLOCKED (R482). -/
abbrev CLOCKED : Nat := (0x402) * 256 + (0x03)
end Dom

namespace Wake
/-- `0403.01` ENABLE (R482). -/
abbrev ENABLE : Nat := (0x403) * 256 + (0x01)
/-- `0403.02` PIN_MODE (R482). -/
abbrev PIN_MODE : Nat := (0x403) * 256 + (0x02)
/-- `0403.03` TIMER_MS (R482). -/
abbrev TIMER_MS : Nat := (0x403) * 256 + (0x03)
/-- `0403.04` WAKE_TRIGGER (R482). -/
abbrev WAKE_TRIGGER : Nat := (0x403) * 256 + (0x04)
/-- `0403.05` SLOW_SOURCE (R482). -/
abbrev SLOW_SOURCE : Nat := (0x403) * 256 + (0x05)
end Wake

namespace WakeSt
/-- `0404.01` CAUSE (R482). -/
abbrev CAUSE : Nat := (0x404) * 256 + (0x01)
/-- `0404.02` FAILED_BANKS (R482). -/
abbrev FAILED_BANKS : Nat := (0x404) * 256 + (0x02)
/-- `0404.03` COLD_DOMAINS (R482). -/
abbrev COLD_DOMAINS : Nat := (0x404) * 256 + (0x03)
/-- `0404.04` WAKE_TIME (R482). -/
abbrev WAKE_TIME : Nat := (0x404) * 256 + (0x04)
/-- `0404.05` NAP_GEN (R482). -/
abbrev NAP_GEN : Nat := (0x404) * 256 + (0x05)
/-- `0404.06` HOLD_GEN (R482). -/
abbrev HOLD_GEN : Nat := (0x404) * 256 + (0x06)
end WakeSt

namespace Pad
/-- `0405.01` RELEASE (R482). -/
abbrev RELEASE : Nat := (0x405) * 256 + (0x01)
/-- `0405.02` HELD (R482). -/
abbrev HELD : Nat := (0x405) * 256 + (0x02)
end Pad

namespace Pll
/-- `0410.01` PLL_ENABLE (R482). -/
abbrev PLL_ENABLE : Nat := (0x410) * 256 + (0x01)
/-- `0410.02` PLL_LOCKED (R482). -/
abbrev PLL_LOCKED : Nat := (0x410) * 256 + (0x02)
/-- `0410.03` DR_VCO (R482). -/
abbrev DR_VCO : Nat := (0x410) * 256 + (0x03)
/-- `0410.04` SOURCE (R482). -/
abbrev SOURCE : Nat := (0x410) * 256 + (0x04)
/-- `0410.05` SRC_HZ (R482). -/
abbrev SRC_HZ : Nat := (0x410) * 256 + (0x05)
end Pll

namespace Gath
/-- `0500.01` ACTIVE (R497). -/
abbrev ACTIVE (i : Nat) : Nat := (0x500) * 256 + (0x01 + i)
/-- `0500.05` FREEZE_ACTIVE (R497). -/
abbrev FREEZE_ACTIVE : Nat := (0x500) * 256 + (0x05)
/-- `0500.06` FIRST_FREEZE (R497). -/
abbrev FIRST_FREEZE : Nat := (0x500) * 256 + (0x06)
/-- `0500.07` RECORDED (R497). -/
abbrev RECORDED : Nat := (0x500) * 256 + (0x07)
/-- `0500.08` ERR_ADDR (R497). -/
abbrev ERR_ADDR : Nat := (0x500) * 256 + (0x08)
/-- `0500.09` ERR_MASTER (R497). -/
abbrev ERR_MASTER : Nat := (0x500) * 256 + (0x09)
end Gath

namespace FLog
/-- `0501.01` ENTRY_W0 (R497). -/
abbrev ENTRY_W0 : Nat := (0x501) * 256 + (0x01)
/-- `0501.02` ENTRY_W1 (R497). -/
abbrev ENTRY_W1 : Nat := (0x501) * 256 + (0x02)
/-- `0501.03` POP (R497). -/
abbrev POP : Nat := (0x501) * 256 + (0x03)
/-- `0501.04` COUNT (R497). -/
abbrev COUNT : Nat := (0x501) * 256 + (0x04)
/-- `0501.05` LOST (R497). -/
abbrev LOST : Nat := (0x501) * 256 + (0x05)
end FLog

namespace FCount
/-- `0502.nn` COUNT (R497). -/
abbrev COUNT (nn : Nat) : Nat := (0x502) * 256 + (nn)
end FCount

namespace React
/-- `0510.nn` REACTION (R497). -/
abbrev REACTION (nn : Nat) : Nat := (0x510) * 256 + (nn)
end React

namespace Smp
/-- `0580.01` INTERVAL (R507). -/
abbrev INTERVAL : Nat := (0x580) * 256 + (0x01)
/-- `0580.02` COMMAND (R507). -/
abbrev COMMAND : Nat := (0x580) * 256 + (0x02)
/-- `0580.03` PERMANENT_COUNT (R507). -/
abbrev PERMANENT_COUNT : Nat := (0x580) * 256 + (0x03)
/-- `0580.04` CIRCULATING_COUNT (R507). -/
abbrev CIRCULATING_COUNT : Nat := (0x580) * 256 + (0x04)
/-- `0580.05` NEXT_SEQ (R507). -/
abbrev NEXT_SEQ : Nat := (0x580) * 256 + (0x05)
/-- `0580.06` TICKS (R507). -/
abbrev TICKS : Nat := (0x580) * 256 + (0x06)
end Smp

namespace SmpSel
/-- `0581.01` AREA (R507). -/
abbrev AREA : Nat := (0x581) * 256 + (0x01)
/-- `0581.02` INDEX (R507). -/
abbrev INDEX : Nat := (0x581) * 256 + (0x02)
/-- `0581.03` VALID (R507). -/
abbrev VALID : Nat := (0x581) * 256 + (0x03)
end SmpSel

namespace SmpRec
/-- `0582.01` WORD (R507). -/
abbrev WORD (i : Nat) : Nat := (0x582) * 256 + (0x01 + i)
end SmpRec

namespace Cam
/-- `5000.01` LOAD (R334). -/
abbrev LOAD : Nat := (0x5000) * 256 + (0x01)
/-- `5000.02` OVERFLOWS (R334). -/
abbrev OVERFLOWS : Nat := (0x5000) * 256 + (0x02)
end Cam

namespace Directory
/-- `0010.01` RANGE (R40). -/
abbrev RANGE (i : Nat) : Nat := (0x10) * 256 + (0x01 + i)
end Directory

namespace MapUpd
/-- `486h.01` TARGET_ADDR (R246). -/
abbrev TARGET_ADDR (h : Nat) : Nat := (0x4860 + h) * 256 + (0x01)
/-- `486h.02` TARGET_LEN (R246). -/
abbrev TARGET_LEN (h : Nat) : Nat := (0x4860 + h) * 256 + (0x02)
/-- `486h.03` STEPS (R246). -/
abbrev STEPS (h : Nat) : Nat := (0x4860 + h) * 256 + (0x03)
/-- `486h.04` START_TIME (R246). -/
abbrev START_TIME (h : Nat) : Nat := (0x4860 + h) * 256 + (0x04)
/-- `486h.05` INTERVAL (R246). -/
abbrev INTERVAL (h : Nat) : Nat := (0x4860 + h) * 256 + (0x05)
/-- `486h.06` WINDOW (R246). -/
abbrev WINDOW (h : Nat) : Nat := (0x4860 + h) * 256 + (0x06)
/-- `486h.07` MAP_LIMIT (R246). -/
abbrev MAP_LIMIT (h : Nat) : Nat := (0x4860 + h) * 256 + (0x07)
/-- `486h.09` COMMAND (R246). -/
abbrev COMMAND (h : Nat) : Nat := (0x4860 + h) * 256 + (0x09)
/-- `486h.0A` STATE (R246). -/
abbrev STATE (h : Nat) : Nat := (0x4860 + h) * 256 + (0x0A)
/-- `486h.0B` STEP (R246). -/
abbrev STEP (h : Nat) : Nat := (0x4860 + h) * 256 + (0x0B)
/-- `486h.0C` CAUSE (R246). -/
abbrev CAUSE (h : Nat) : Nat := (0x4860 + h) * 256 + (0x0C)
/-- `486h.0D` DETAIL (R246). -/
abbrev DETAIL (h : Nat) : Nat := (0x4860 + h) * 256 + (0x0D)
/-- `486h.0E` DUE_TIME (R246). -/
abbrev DUE_TIME (h : Nat) : Nat := (0x4860 + h) * 256 + (0x0E)
/-- `486h.0F` SWAP_TIME (R246). -/
abbrev SWAP_TIME (h : Nat) : Nat := (0x4860 + h) * 256 + (0x0F)
/-- `486h.10` TARGET_OK (R246). -/
abbrev TARGET_OK (h : Nat) : Nat := (0x4860 + h) * 256 + (0x10)
/-- `486h.11` COPY_OK (R246). -/
abbrev COPY_OK (h : Nat) : Nat := (0x4860 + h) * 256 + (0x11)
/-- `486h.12` COPY_GEN (R246). -/
abbrev COPY_GEN (h : Nat) : Nat := (0x4860 + h) * 256 + (0x12)
/-- `486h.13` SWAPS (R246). -/
abbrev SWAPS (h : Nat) : Nat := (0x4860 + h) * 256 + (0x13)
end MapUpd

end Sys2Proof.Machine.Key
end

