-- ==== Sys2Proof/Machine/Num.lean ====
section
/-! DEFINITION. Num: byte order, sign extension, rounding, clamping and the check codes (R6, R76) that the other files use. -/

namespace Sys2Proof.Machine

/-- Apply `f` n times. -/
def iter {α : Type} (f : α → α) : Nat → α → α
  | 0, x => x
  | n + 1, x => iter f n (f x)

/-- The `n` low bytes of a value, least significant first (R6). -/
def le : Nat → Nat → List Nat
  | 0, _ => []
  | n + 1, v => v % 256 :: le n (v / 256)

/-- The value of bytes given least significant first (R6). -/
def unle : List Nat → Nat
  | [] => 0
  | b :: t => b % 256 + 256 * unle t

/-- Byte `i` of a payload, 0 beyond its end. -/
def u8At (l : List Nat) (i : Nat) : Nat := l.getD i 0 % 256

/-- The 16-bit little-endian value at offset `i`. -/
def u16At (l : List Nat) (i : Nat) : Nat := unle ((l.drop i).take 2)

/-- The 32-bit little-endian value at offset `i`. -/
def u32At (l : List Nat) (i : Nat) : Nat := unle ((l.drop i).take 4)

/-- The 64-bit little-endian value at offset `i`. -/
def u64At (l : List Nat) (i : Nat) : Nat := unle ((l.drop i).take 8)

/-- A `bits`-wide two's complement value as an integer. -/
def sext (bits v : Nat) : Int :=
  let m := v % 2 ^ bits
  if 2 * m < 2 ^ bits then (m : Int) else (m : Int) - 2 ^ bits

/-- An integer as a `bits`-wide two's complement value. -/
def trunc (bits : Nat) (v : Int) : Nat := (v % (2 ^ bits : Int)).toNat

/-- Limit a value to the range from `lo` to `hi`. -/
def clamp (v lo hi : Int) : Int := if v < lo then lo else if hi < v then hi else v

/-- Bit `i` of a value. -/
def bitOf (v i : Nat) : Bool := v.testBit i

/-- Set or clear bit `i` of a value. -/
def putBit (v i : Nat) (b : Bool) : Nat :=
  let c := v - (if v.testBit i then 2 ^ i else 0)
  if b then c + 2 ^ i else c

/-- A Bool as 0 or 1. -/
def b2n (b : Bool) : Nat := if b then 1 else 0

/-- One bit of the CRC-16 of R76: polynomial 0x1021, not reflected. -/
def crc16Bit (c : Nat) : Nat :=
  if c.testBit 15 then ((2 * c) % 65536).xor 0x1021 else (2 * c) % 65536

/-- CRC-16 over bytes: initial value 0xFFFF, no final inversion (R76). -/
def crc16 (l : List Nat) : Nat :=
  l.foldl (fun c b => iter crc16Bit 8 (c.xor ((b % 256) * 256))) 0xFFFF

/-- One bit of the reflected CRC-32 of IEEE 802.3. -/
def crc32Bit (c : Nat) : Nat :=
  if c.testBit 0 then (c / 2).xor 0xEDB88320 else c / 2

/-- CRC-32 over bytes, with the reflection and final inversion of the Ethernet FCS (R76). -/
def crc32 (l : List Nat) : Nat :=
  (l.foldl (fun c b => iter crc32Bit 8 (c.xor (b % 256))) 0xFFFFFFFF).xor 0xFFFFFFFF

/-- Whether `a` is at or after `b` modulo 2^32 (the rule `newer` of R64, which R94 uses for offsets). -/
def newer32 (a b : Nat) : Bool := decide ((a + 2 ^ 32 - b % 2 ^ 32) % 2 ^ 32 < 2 ^ 31)

/-- `n / d` rounded to the nearest integer, ties away from zero (R158, R186). -/
def rdiv (n : Int) (d : Nat) : Int :=
  if n < 0 then -(((2 * n.natAbs + d) / (2 * d) : Nat) : Int) else ((2 * n.natAbs + d) / (2 * d) : Nat)

/-- Saturate to an `n`-bit signed range (R158). -/
def sat (n : Nat) (v : Int) : Int := clamp v (-(2 ^ (n - 1))) (2 ^ (n - 1) - 1)

/-- Limit `v` to plus or minus `l` (the two-argument clamp of R158). -/
def lim (v : Int) (l : Int) : Int := clamp v (-l) l

/-- The sign of an integer: -1, 0 or 1. -/
def sgn (v : Int) : Int := if v < 0 then -1 else if v = 0 then 0 else 1

/-- Floor of the square root, by bisection on `fuel` bits. -/
def isqrtAux (n : Nat) : Nat → Nat → Nat
  | 0, r => r
  | f + 1, r =>
    let c := r + 2 ^ f
    if c * c ≤ n then isqrtAux n f c else isqrtAux n f r

/-- Floor of the square root of a value below 2^128. -/
def isqrt (n : Nat) : Nat := isqrtAux n 64 0

/-- A counts value as the I32 that wraps (R285). -/
def wrap32 (v : Int) : Int := sext 32 (trunc 32 v)

end Sys2Proof.Machine
end

