-- ==== Sys2Proof/Machine/State.lean ====
section
/-! DEFINITION. State: everything the spec gives the block, as plain data, and its value at reset. An entry of the
object dictionary has its home in `od`; the structures hold what no entry shows. A reset value that the spec does not
give is zero, empty or OFF (DESIGN CHOICE, log entry 3). -/

namespace Sys2Proof.Machine

open Sys2Proof

/-- The six device states of R56. -/
inductive DevState
  | start | config | ready | armed | fault | service
  deriving DecidableEq, Repr

/-- Reasons a step could stop with a fault. No command of this block raises one: every fault of the manual has an
effect in the state (R487). Safe. -/
inductive Fault
  /-- Nobody raises it; it stands so that the type has a value. Safe. -/
  | none
  deriving DecidableEq, Repr

/-- Reasons a command could be refused by the model. -/
inductive Refusal
  /-- Raised by an arm of exec whose command has no meaning yet. Safe. -/
  | notModelled (mnemonic : String)
  deriving DecidableEq, Repr

/-- A count for each of the three traffic classes of R79. -/
structure Trip where
  indigo : Nat := 0
  ochre : Nat := 0
  slate : Nat := 0
  deriving DecidableEq, Repr

/-- What the block sends to the outside, in the model's own record of it. -/
inductive Out
  /-- A chain frame leaves port p (R70). -/
  | frame (p : Nat) (f : Frame)
  /-- A Credit symbol leaves port p (R83). -/
  | credit (p cls cells : Nat)
  /-- A Heartbeat leaves port p (R84). -/
  | heartbeat (p addr st : Nat) (gateway : Bool)
  /-- An Ethernet frame leaves MAC m; `bad` is an inverted FCS (R99, R100, R353, R484). -/
  | eth (m : Nat) (bytes : List Nat) (bad : Bool)
  /-- MAC m sends remote fault, or idle, in place of frames (R350). -/
  | ethFault (m : Nat) (remote : Bool)
  /-- A head-link frame leaves link l (R269). -/
  | link (l typ : Nat) (body : List Nat)
  /-- A capability block leaves a lane (R343, R344). -/
  | cap (l : Nat) (body : List Nat)
  /-- A value read by a window master (R50). -/
  | window (m : Master) (value : Nat)
  /-- A bus error to a master, by its code of `0300.06`, at an address (R15, R53). -/
  | busError (master addr : Nat)
  /-- The value a fabric read returns to its master, by its code. -/
  | data (master value : Nat)
  /-- An exception a hart takes on its own access: its cause and address (R424, R446). -/
  | trap (hart cause addr : Nat)
  /-- A DRAM command on channel ch: refresh, a mode register access, a training command or a repair (R386, R394 to R396). -/
  | dram (ch kind arg : Nat)
  /-- A strobe leaves a FIRE output, at its instant (R255). -/
  | fire (output at_ : Nat)
  /-- PMIC_EN[3:0] takes a value, this many ns after its step before (R458, R459, R465). -/
  | rails (ns levels : Nat)
  /-- The level that TDO takes at a falling edge of TCK (R443). -/
  | tdo (level : Bool)
  /-- EXTEST drives the balls with these levels, in the order of the boundary cells (R443). -/
  | balls (levels : List Bool)
  /-- The ROM reads flash in a mode (0 1-1-1, 1 1-4-4, 2 8-8-8) with FL_CK at this many kHz (R435). -/
  | flash (mode khz : Nat)
  deriving DecidableEq, Repr

/-! ### The chain (R67 to R101) -/

/-- A frame waiting in an output queue: the port it arrived on (a forwarded frame), the port whose receive cells it holds, which is
the looped port once a frame has turned back there (R82), its arrival stamp in units of 2^-16 ns, for the hop time of R78, and whether
a copy of it has gone to the other port as well (R70). -/
structure TxItem where
  f : Frame
  from_ : Option Nat := none
  held : Option Nat := none
  arrived : Int := 0
  twin : Bool := false
  deriving DecidableEq, Repr

/-- The output queue of one class of one port (R73): forwarded frames, local frames, and how many forwarded frames
the local one at the front has let pass. At a port that is looped back the forwarded frames wait for cells of the loopback (R82). -/
structure TxQ where
  fwd : List TxItem := []
  loc : List TxItem := []
  passed : Nat := 0
  deriving DecidableEq, Repr

/-- What no entry shows of one chain port. -/
structure Port where
  txIndigo : TxQ := {}
  txOchre : TxQ := {}
  txSlate : TxQ := {}
  /-- Ochre frames sent since the last Slate frame while one waited (R73). -/
  ochreRun : Nat := 0
  /-- Cells the neighbour has granted and not yet used (R82). -/
  credit : Trip := {}
  /-- Receive cells in use (R82). -/
  held : Trip := {}
  /-- Receive cells freed and not yet returned (R83). -/
  freed : Trip := {}
  /-- Training and capability exchange are over; the port waits for its first heartbeat (R74). -/
  trained : Bool := false
  /-- The device state the neighbour's last heartbeat carried (R84, R208). -/
  nbState : Nat := 0
  nbGateway : Bool := false
  /-- When the last heartbeat came, and when the port last reached UP, for the 10 us of R86 and R370 (times of `clk`). -/
  heardAt : Nat := 0
  upAt : Nat := 0
  /-- The times of the CRC errors of the last millisecond (R81). -/
  crcTimes : List Nat := []
  /-- Link delays kept, newest first, at most 16, in 2^-16 ns (R370). -/
  delays : List Nat := []
  /-- The DELAY_REQ that waits for its answer: REQ_SEQ and t1, and when it left by `clk` (R370). -/
  asked : Option (Nat × Int) := none
  askedAt : Nat := 0
  reqSeq : Nat := 0
  /-- The rate code that OTP gives the port (R337). -/
  rate : Nat := 7
  /-- Lanes that carry traffic, and the MASK of the partner's last CAP (R346). -/
  mask : Nat := 0
  partner : Nat := 0
  /-- MASK as the unit sends it once the port carries traffic (R347, R348). -/
  offer : Nat := 0
  /-- When the first lane of a two-lane port succeeded alone (R346). -/
  firstAt : Option Nat := none
  /-- The port starts no frame until the partner confirms the new MASK (R347). -/
  hold : Bool := false
  deriving DecidableEq, Repr

/-- A chain request: operation, entry, tag and write data (R92), with the address it came from. -/
structure OdReq where
  op : Nat
  idx : Nat
  sub : Nat
  tag : Nat
  src : Nat := 0xFE
  data : List Nat := []
  deriving DecidableEq, Repr

/-- A firmware-served request that waits for its response (R55), with when it came. -/
structure SvcReq where
  req : OdReq
  at_ : Nat
  deriving DecidableEq, Repr

/-- What no entry shows of one stream endpoint (R94 to R96). -/
structure Endpoint where
  /-- The ring write position (R94). -/
  wpos : Nat := 0
  /-- The released offset that the last CREDIT carried. -/
  lastCredit : Nat := 0
  /-- CREDIT_PERIOD has not run out since the last CREDIT. -/
  periodRuns : Bool := false
  /-- When the last CREDIT with reason 1 left, and whether one more is owed. -/
  resyncAt : Option Nat := none
  resyncDue : Bool := false
  /-- When the last CREDIT left. -/
  creditAt : Nat := 0
  deriving DecidableEq, Repr

/-- The chain boot of the boot ROM (R101). -/
structure BootLoad where
  /-- The ROM asks for its image. -/
  active : Bool := false
  offset : Nat := 0
  attempt : Nat := 0
  /-- A request waits for its BOOT_DATA since this time. -/
  asked : Option Nat := none
  /-- The ROM waits 1 s from this time before it starts again. -/
  pause : Option Nat := none
  deriving DecidableEq, Repr

/-- What no entry shows of the transmitter of one MAC (R353): ARP replies and datagrams of the gateway that wait, and how many have gone
before the ring frame that waits. -/
structure MacRun where
  gw : List (List Nat) := []
  passed : Nat := 0
  deriving DecidableEq, Repr

/-- The chain controller as a whole. -/
structure Chain where
  ports : Vector Port 2 := Vector.replicate 2 {}
  eps : Vector Endpoint 8 := Vector.replicate 8 {}
  /-- The SEQ of the next frame the unit originates (R77). -/
  seq : Nat := 0
  svcq : List SvcReq := []
  macs : Vector MacRun 2 := Vector.replicate 2 {}
  /-- The identification of the next gateway datagram (R100). -/
  ident : Nat := 0
  boot : BootLoad := {}
  /-- The last SYNC_SEQ used (R373) or sent (R371), if any. -/
  syncSeq : Option Nat := none
  /-- When a SYNC was last used, by `clk` (`0E03.01` bit 3). -/
  syncAt : Option Nat := none
  deriving DecidableEq, Repr

/-! ### The object dictionary engine and the store (R35 to R66, R551 to R554) -/

/-- What a master has read of a 64-bit slot (R52). -/
structure Snap where
  m : Master
  key : Nat
  val : Nat
  deriving DecidableEq, Repr

/-- The low word a master has written of a 64-bit slot (R52). -/
structure Staged where
  m : Master
  key : Nat
  low : Nat
  deriving DecidableEq, Repr

/-- The staged address of a DOMAIN pair (R38). -/
structure DomStage where
  cls : Cls
  key : Nat
  addr : Nat
  deriving DecidableEq, Repr

/-- A request that waits for the object dictionary engine (R47, R62, R93, R464): from the chain or the window, a write or
a read, with the value of a write. -/
structure WaitReq where
  acc : Access
  write : Bool
  idx : Nat
  sub : Nat
  size : Nat := 0
  val : Nat := 0
  /-- The high word of a slot (R52). -/
  high : Bool := false
  /-- A read that a later `fence i,r` of its hart waits for (R428). -/
  fenced : Bool := false
  deriving DecidableEq, Repr

/-- One bank pair of the retained store (R61): whether each copy is good, its generation and contents, and whether a rebuild runs. The
contents are stored entries by key, those at their defaults not listed; in P14 and P15 the bytes of the firmware store that are not 0, by
their place in `fws`. -/
structure Pair where
  okA : Bool := true
  okB : Bool := true
  /-- The ROM has zeroed both banks, and neither has been written since (R442). -/
  blank : Bool := false
  genA : Nat := 0
  genB : Nat := 0
  dataA : List (Nat × Word) := []
  dataB : List (Nat × Word) := []
  building : Bool := false
  deriving DecidableEq, Repr

/-- The object dictionary engine and the store engine. -/
structure Engine where
  snaps : List Snap := []
  staged : List Staged := []
  domains : List DomStage := []
  pairs : Vector Pair 16 := Vector.replicate 16 {}
  /-- Requests that wait, in order of arrival; the first one waits for a rebuild, or the engine is stopped. -/
  waits : List WaitReq := []
  /-- The firmware store: offset in P14 (from 0) or P15 (from 65,536) and byte (R61, `0605`). -/
  fws : List (Nat × Byte) := []
  /-- The store command that runs, the units it has finished, and those it has in all (R551). -/
  command : Option Nat := none
  units : Nat := 0
  total : Nat := 1
  /-- WARM_RESET has been answered and has not yet acted (R58). -/
  warmPending : Bool := false
  /-- Who has asked for the transition in progress, as REQUESTER shows it (R58). -/
  pendReq : Nat := 0
  /-- The first freeze fault recorded during START, with its detection time (R59). -/
  freezeInStart : Option (Nat × Nat) := none
  /-- A fuse word that PROGRAM has just accepted, with its bits, before the fuses take them in the same step (R441). -/
  burn : Option (Nat × Nat) := none
  deriving DecidableEq, Repr

/-! ### Faults and the Sampler (R487 to R507) -/

/-- One entry of the fault log (R492). -/
structure LogEntry where
  code : Nat
  kind : Nat
  inst : Nat
  reaction : Nat
  reported : Bool
  repeats : Nat
  at_ : Nat
  deriving DecidableEq, Repr

/-- The millisecond that follows a FAULT_REPORT of a code, and the first occurrence merged into it (R493). -/
structure Merge where
  code : Nat
  since : Nat
  merged : Option Nat := none
  deriving DecidableEq, Repr

/-- The fault gatherer. -/
structure Gatherer where
  /-- Active faults: code, instance kind, instance (R494). -/
  active : List (Nat × Nat × Nat) := []
  log : List LogEntry := []
  merges : List Merge := []
  /-- An address is captured in ERR_ADDR and ERR_MASTER, and which of the two has been read since (R497). -/
  captured : Bool := false
  addrRead : Bool := false
  masterRead : Bool := false
  deriving DecidableEq, Repr

/-- The Sampler (R498 to R507): the interval in progress, the records and the work area. -/
structure Sampler where
  /-- Histogram cells that are not zero: 16 q + bin and count (R501). -/
  bins : List (Nat × Nat) := []
  maxima : List (Option Int) := List.replicate 12 none
  minima : List (Option Int) := List.replicate 4 none
  openMinutes : Nat := 0
  interval : Nat := 60
  ticks : Nat := 0
  armed : Nat := 0
  naps : Nat := 0
  faults : Nat := 0
  entries : Nat := 0
  alarms : Nat := 0
  nextSeq : Nat := 0
  /-- Records in the permanent and the circulating area, the slot of the next circulating one (R503); a clear runs; a record
  has closed in NAP. The records themselves stand in `mem`. -/
  permanent : Nat := 0
  circulating : Nat := 0
  next : Nat := 0
  clearing : Bool := false
  wrote : Bool := false
  /-- Operating time in ns beyond the whole minutes of `0120.00` (R498). -/
  residue : Nat := 0
  /-- The count of minutes and the residue of the last work area write (R498). -/
  workMinutes : Nat := 0
  workResidue : Nat := 0
  workOkA : Bool := true
  workOkB : Bool := true
  /-- Largest values since the last tick: following error, MPL correction, evaluation wait (q 5 to 7), DRAM bytes
  (q 10) and fault occurrences (q 11). -/
  maxFe : Nat := 0
  maxCorr : Nat := 0
  maxWait : Nat := 0
  dramBytes : Nat := 0
  faultsTick : Nat := 0
  /-- CRC_ERRORS and CODE_ERRORS sums at the last tick (q 8 and q 9). -/
  crcBase : Nat := 0
  codeBase : Nat := 0
  deriving DecidableEq, Repr

/-! ### Device time, triggers and captures (R358 to R374) -/

/-- What no entry shows of one trigger: the device time up to which its instants are dealt with, a write that takes effect at the next
tick, a pulse request that waits for it, the device time of the tick that a pulse has reached, and the ticks for which its ball is still
high (R361 to R365). -/
structure Trigger where
  seen : Nat := 0
  fresh : Bool := false
  pulse : Bool := false
  due : Option Nat := none
  highFor : Nat := 0
  deriving DecidableEq, Repr

/-- TMB: the accumulator, the increment of the last tick, the step that waits for the next one, triggers, capture FIFOs and input filters. -/
structure TimeBase where
  t : Nat := 0
  f : Nat := 0
  last : Nat := 0
  step : Option Int := none
  triggers : Vector Trigger 32 := Vector.replicate 32 {}
  fifos : Vector (List Nat) 32 := Vector.replicate 32 []
  /-- An edge at the pin of a capture unit that has not stood for FILTER yet: its kind, its device time, and when it has, by `clk` (R367). -/
  edges : Vector (Option (Bool × Nat × Nat)) 32 := Vector.replicate 32 none
  deriving DecidableEq, Repr

/-! ### Power (R453 to R482) -/

/-- The power states of R453 and the ways between them; `reset` is POR_N or RST_N low. -/
inductive PowerState
  | off | reset | run | napEntry | nap | holdEntry | hold
  deriving DecidableEq, Repr

/-- What the retention banks hold of the domains (R466, R474): entries with their values, DRAM delays and oscillator baselines,
and the reset vectors. -/
structure Bank where
  od : List (Nat × Word) := []
  delays : List (Nat × Nat) := []
  osc : List Nat := []
  vectors : List Nat := [0, 0, 0, 0]
  deriving DecidableEq, Repr

/-- AON and the power sequencer. -/
structure Power where
  state : PowerState := .run
  /-- PMIC_EN[3:0] (R458). -/
  pmic : Nat := 15
  /-- NAP has been commanded and waits for wfi (R460), since this time. -/
  napPending : Bool := false
  napAt : Nat := 0
  /-- HOLD has been commanded and waits to act (R465). -/
  holdPending : Bool := false
  /-- Idle ticks of 4 ns since NAP entry began, or since the wake logic began to arm itself for HOLD (R462, R465, R469). -/
  ticks : Nat := 0
  /-- The strap value that a HOLD wake boots with (R467). -/
  strap : Nat := 0
  /-- Edge sources latched since entry began (R470). -/
  latched : Nat := 0
  /-- Domains gated at the last NAP entry (R471). -/
  gated : Nat := 0
  /-- A fault whose reaction is INTERRUPT or higher was recorded since entry (R468). -/
  faultSeen : Bool := false
  timerDone : Bool := false
  /-- NB0 to NB3, and HB0; a cold start has cleared the generation counters, so that no bank is used (R475). -/
  nap : Bank := {}
  hold : Bank := {}
  napBanks : Bool := false
  holdBanks : Bool := false
  /-- WAKE[3:0] at their balls. -/
  wakePins : Nat := 0
  /-- Domains powered but not yet restored (R457, R471). -/
  waking : Nat := 0
  /-- The limit of DIE_TEMP is passed for the unit; ordinary clock domains whose clock has stopped (R455) stand in `0402.03`. -/
  hot : Bool := false
  deriving DecidableEq, Repr

/-- Balls of the unit that its logic drives or reads, one bit each (R192 to R195, R255, R365, R476). -/
structure Pads where
  /-- LSAFE_N is high. -/
  lsafe : Bool := true
  lpSts : Nat := 0
  lpEn : Nat := 0
  lpMod : Nat := 0
  gate : Nat := 0
  fire : Nat := 0
  ilkOut : Bool := false
  gpio : Nat := 0
  /-- The SV_CMD outputs and the LP_OUT outputs that are high impedance (R479). -/
  svFloat : Nat := 0
  lpFloat : Nat := 0
  /-- The domains whose digital outputs have their output enables off, while they are gated (R456, R477). -/
  outOff : Nat := 0
  /-- Emission balls whose level differs from the driven one: 0 to 15 LP_EN, 16 to 31 LP_MOD, 32 to 47 FIRE, and the level at the
  ball (R486). -/
  balls : List (Nat × Bool) := []
  deriving DecidableEq, Repr

/-! ### Scan channels (R102 to R146) -/

/-- A descriptor or line record as the channel holds it: opcode and fields of R113, and where it stands. -/
structure Desc where
  op : Nat := 0
  flags : Nat := 0
  param : Nat := 0
  a : Nat := 0
  b : Nat := 0
  c : Nat := 0
  d : Nat := 0
  e : Nat := 0
  f : Nat := 0
  /-- SEQ and LAYER of its block, its slot, and whether a LINK brought it in. -/
  seq : Nat := 0
  layer : Nat := 0
  slot : Nat := 0
  linked : Bool := false
  /-- The last descriptor of its Bobbin block. -/
  last : Bool := false
  /-- It entered the look-ahead too late for the joint before it to be passed (R115). -/
  late : Bool := false
  /-- CAL has inserted it (R228). -/
  inserted : Bool := false
  deriving DecidableEq, Repr

/-- A checked block in the Bobbin (R110). -/
structure Block where
  /-- Which block slot of the Bobbin it lies in. -/
  place : Nat
  seq : Nat
  layer : Nat
  count : Nat
  endAfter : Bool
  deriving DecidableEq, Repr

/-- The modulation in force (R130). -/
structure Modulation where
  mode : Nat := 0
  period : Nat := 5000
  width : Nat := 500
  spacing : Nat := 1600
  deriving DecidableEq, Repr

/-- One stretch of the timed path with constant acceleration, on a line or an arc. Lengths are in 2^-16 field LSB,
speeds in 2^-16 LSB/ms, accelerations in LSB/ms^2, times in ns. The stretch begins at length `s0` of its line or arc. -/
structure Seg where
  t0 : Nat
  dur : Nat
  arc : Bool := false
  /-- A line: the point at length 0. An arc: the centre. -/
  x0 : Int
  y0 : Int
  /-- A line: what X and Y gain over `len`. -/
  ux : Int := 0
  uy : Int := 0
  /-- An arc: the radius, the angle at length 0 (2^-32 turn) and the side it turns to. -/
  r : Nat := 0
  th : Int := 0
  turn : Int := 1
  /-- Z at length 0, and what it gains over `len`. -/
  z0 : Int := 0
  dz : Int := 0
  len : Nat := 0
  s0 : Int := 0
  v0 : Int := 0
  acc : Int := 0
  deriving DecidableEq, Repr

/-- One stretch of planned gate opening (R103, R117, R129): its gate instants, the set-point times of its path, its
power, profile and modulation. -/
structure Span where
  openAt : Nat
  closeAt : Nat
  /-- When the gate opened that is open over the whole span, joints passed since then included (R129). -/
  since : Nat
  pathFrom : Nat
  pathTo : Nat
  power : Nat
  prof : Nat
  /-- The gate closes at its end; else a joint passes with the gate open. -/
  final : Bool
  d : Desc
  modn : Modulation := {}
  deriving DecidableEq, Repr

/-- Where the plan stands at an instant: time, path point, logical point of the descriptors, direction and speed. -/
structure PlanEnd where
  t : Nat := 0
  x : Int := 0
  y : Int := 0
  z : Int := 0
  px : Int := 0
  py : Int := 0
  pz : Int := 0
  dir : Int := 0
  v : Int := 0
  /-- The gate is open over this point. -/
  open_ : Bool := false
  /-- The path has come to rest by a run-out (R141). -/
  ranOut : Bool := false
  /-- The path is entered again after a starvation (R139). -/
  reenter : Bool := false
  /-- A segment in delay mode has stopped here, at a joint (R118). -/
  corner : Bool := false
  /-- When the gate that is open over this point opened (R129). -/
  gateAt : Nat := 0
  deriving DecidableEq, Repr

/-- The plan of what the channel executes: path, gate and end. `begun` is when it leaves rest or the segment before it, and `decide_` the
latest instant at which a following descriptor still lets the joint at its end pass without a stop (R115). -/
structure Plan where
  segs : List Seg := []
  spans : List Span := []
  fin : PlanEnd := {}
  begun : Nat := 0
  decide_ : Nat := 0
  deriving DecidableEq, Repr

/-- A linked block in execution (R122). -/
structure LinkRun where
  addr : Nat
  next : Nat
  count : Nat
  layer : Nat
  seq : Nat
  dx : Int
  dy : Int
  /-- The LINK was the last descriptor of its Bobbin block. -/
  last : Bool
  deriving DecidableEq, Repr

/-- The ramp of a stopping channel: velocity per axis in 2^-16 LSB/ms (R137, R144). -/
structure Ramp where
  vx : Int
  vy : Int
  vz : Int
  /-- Each axis on its own (R144), or along the direction of travel (R137). -/
  own : Bool := false
  cause : Nat := 0
  deriving DecidableEq, Repr

/-- A CAL_MARK whose path has ended before its gate (R230, R231): what its log record holds, and when the gate closes. -/
structure CalEnd where
  d : Desc
  partial_ : Bool
  opened : Nat
  gen : Nat
  closeAt : Nat
  deriving DecidableEq, Repr

/-- What no entry shows of one scan channel (R102 to R146). -/
structure Scu where
  blocks : List Block := []
  /-- Stream offset of the next block to fetch, and whether it has been fetched once more (R110). -/
  fetch : Nat := 0
  refetched : Bool := false
  /-- A block fault has ended fetching until a RESET (R111). -/
  fetchEnd : Bool := false
  /-- The next descriptor to enter the look-ahead: how many blocks ahead, and its slot. -/
  rdBlock : Nat := 0
  rdSlot : Nat := 0
  link : Option LinkRun := none
  look : List Desc := []
  cur : Option Desc := none
  /-- A starvation stop waits for the planned closing of the gate (R139). -/
  starved : Bool := false
  /-- Where the plan of the executing descriptor began. -/
  base : PlanEnd := {}
  plan : Plan := {}
  /-- Gate-open spans and path of the descriptors before it that still matter to the gate and to reports. -/
  spans : List Span := []
  past : List Seg := []
  /-- The plan starts anew at the next sample (START, RESUME and the return from starvation). -/
  fresh : Bool := false
  /-- The instants at which seam points have been reached in this sample (R123). -/
  seam : List Nat := []
  modn : Modulation := {}
  /-- The cause of a controlled stop that is pending (R138). -/
  halt : Option Nat := none
  /-- The cause of a controlled stop at the end of the last good descriptor of the Bobbin (R110, R145). -/
  stopAfter : Option Nat := none
  pause : Bool := false
  ramp : Option Ramp := none
  /-- A stop has begun at this device time, and its reports are still to be made (R140, R240). -/
  closed : Option Nat := none
  /-- Owned gate-open spans that a stop has left, planned ahead at the closure, for the GAP records of R214, and
  whether the look-ahead ended with them. -/
  gap : List Span := []
  gapPath : List Seg := []
  gapEnd : Bool := false
  /-- The wait in execution: since when it latches captures, the count of the capture unit then (R121). -/
  waitSince : Option Nat := none
  waitCount : Nat := 0
  /-- Set-point, its velocity in 2^-16 LSB/ms, and the device time of the last sample. -/
  x : Int := 0
  y : Int := 0
  z : Int := 0
  vx : Int := 0
  vy : Int := 0
  vz : Int := 0
  sampled : Nat := 0
  /-- The place of the path point against the stitch zones (R201): 0 outside every enabled zone, 1 + 2 z on the LOW
  side and 2 + 2 z on the HIGH side of zone z. First the place before the first listed change, then each change with its
  set-point time, oldest first. -/
  place : Nat := 0
  edges : List (Nat × Nat) := []
  /-- ns of open gate request beyond the whole microseconds of GATE_OPEN_TIME, and until when it is counted. -/
  openRest : Nat := 0
  counted : Nat := 0
  /-- When LP_EN became active while the source does not yet show ready (R131). -/
  enabledAt : Option Nat := none
  /-- Raster: the LINE, CROSS and Z before the record in execution, that record, its start-of-scan instant and interval (R132 to R135). -/
  rasLine : Option Nat := none
  rasCross : Int := 0
  rasZ : Int := 0
  rasCur : Option Desc := none
  rasSos : Option Nat := none
  rasGap : Nat := 0
  rasPixels : List Nat := []
  /-- The instant of the record's first pixel, and the pixel period, in ps. -/
  rasStart : Nat := 0
  rasPeriod : Nat := 0
  /-- When SOS_TIMEOUT began to run, on the local clock: the last start of scan, START or RESUME (R135). -/
  rasWait : Nat := 0
  /-- The geometry fixed at GO_READY (R199). -/
  cr : Int := 1073741824
  sr : Int := 0
  /-- The executing CAL_MARK: a point not owned was met, and its first gate opening (R229, R231). -/
  calPartial : Bool := false
  calOpened : Option Nat := none
  calGen : Nat := 0
  /-- CAL_MARKs whose path has ended and whose gate has still to close as planned (R230). -/
  calEnds : List CalEnd := []
  /-- Descriptors that CAL has taken from the insert ring at the insertion point that is read next (R228). -/
  inserted : Nat := 0
  deriving DecidableEq, Repr

/-! ### Control loop engines (R147 to R180, R555) -/

/-- The registers of one control law (R158). -/
structure Law where
  ip : Int := 0
  iv : Int := 0
  vOut : Int := 0
  vSat : Bool := false
  ep : Int := 0
  mPrev : Int := 0
  r : Int := 0
  rPrev : Int := 0
  rvPrev : Int := 0
  deriving DecidableEq, Repr

/-- A sample of a slot that has been triggered and not yet evaluated: its instant, the count latched, and its owner's
set-point (R149, R151, R153). -/
structure Due where
  at_ : Nat
  count : Int
  /-- The set-point that its owner has written by its edge (R21). -/
  mail : Option Int := none
  /-- The count of the encoder that gives the phase (R163). -/
  rcCount : Int := 0
  /-- When its feedback word arrives, 250 ns after the edge, on the clock of the slot's engine (R149). -/
  arrives : Nat := 0
  deriving DecidableEq, Repr

/-- A hand-over in progress (R173): the new mode, its registers, the blend value, the samples passed, and whether it
has failed and b returns to 0. -/
structure Blend where
  mode : Nat
  law : Law
  b : Int := 0
  n : Nat := 0
  failed : Bool := false
  /-- The set-point of the new mode, once the owner has written one (R555). -/
  own : Option Int := none
  started : Bool := false
  deriving DecidableEq, Repr

/-- What no entry shows of one slot. -/
structure Slot where
  due : List Due := []
  /-- The last raw code or count. -/
  raw : Int := 0
  /-- The last feedback in PU, and whether an edge has come since ENABLE was set (R167). -/
  y : Int := 0
  seenEdge : Bool := false
  vm : Int := 0
  /-- The feedback as it was last posted to the owner (R162). -/
  postY : Int := 0
  law : Law := {}
  u : Int := 0
  limited : Bool := false
  /-- The next evaluation is the first since CLOSE. -/
  first : Bool := false
  approaching : Bool := false
  k : Nat := 0
  countBase : Int := 0
  /-- The set-point written by the owner, and the one that the last sample evaluated saw (R21). -/
  mail : Option Int := none
  own : Option Int := none
  /-- States of the four biquads and the last input of each (R159). -/
  bq : List (Int × Int × Int) := [(0, 0, 0), (0, 0, 0), (0, 0, 0), (0, 0, 0)]
  /-- The ramp of COAST or RAMP_DOWN: the output it began from, its samples, and those taken. -/
  rampFrom : Int := 0
  rampLen : Nat := 0
  rampPos : Nat := 0
  blend : Option Blend := none
  rangeRun : Nat := 0
  parityRun : Nat := 0
  yRef : Int := 0
  rRef : Int := 0
  staleRun : Nat := 0
  feRun : Nat := 0
  /-- FOLLOWING_ERROR was raised in this run of samples (R175). -/
  feRaised : Bool := false
  lineBreak : Bool := false
  /-- A gate-close cause has been passed (R177, R192). -/
  loss : Bool := false
  /-- Repetitive controller: cells that are not zero, the command state (0 OFF, 1 LEARNING, 2 FROZEN), the
  samples since the event of CAPTURE or GATE, and the captures, or the instant, up to which events were looked for (R163 to R165). -/
  cells : List (Nat × Int) := []
  rc : Nat := 0
  rcSince : Option Nat := none
  rcEvent : Nat := 0
  /-- The device asks for RAMP_DOWN once the owner rests or FAULT_HOLD is over (R170). -/
  leaving : Bool := false
  leaveAt : Nat := 0
  deriving DecidableEq, Repr

/-! ### Melt-pool loop (R181 to R198) -/

/-- One anomaly being watched (R190, R191): consecutive updates that meet its condition, and, once flagged, its start,
TAG, point, LAYER and extreme. -/
structure Anomaly where
  run : Nat := 0
  flagged : Bool := false
  at_ : Nat := 0
  tag : Nat := 0
  x : Int := 0
  y : Int := 0
  layer : Nat := 0
  extreme : Nat := 0
  len : Nat := 0
  deriving DecidableEq, Repr

/-- What no entry shows of one melt-pool loop. -/
structure Mpl where
  i : Int := 0
  c : Int := 0
  q : Int := 65536
  nOpen : Nat := 0
  /-- p was held at P_MIN or P_MAX in the previous output sample; the previous update hit the band (R186). -/
  limited : Bool := false
  banded : Bool := false
  wasOpen : Bool := false
  modHigh : Bool := false
  /-- p_ff of the last output sample. -/
  pff : Int := 0
  /-- Velocities last posted by the X and Y slots, in VU (R162). -/
  vx : Int := 0
  vy : Int := 0
  parityRun : Nat := 0
  /-- Latches of R193 and R196, and the two gate paths. -/
  mismatch : Bool := false
  readback : Bool := false
  pathA : Bool := false
  pathB : Bool := false
  /-- HIGH, LOW, BAND, NO_EMISSION, RANGE in this order. -/
  anomalies : List Anomaly := [{}, {}, {}, {}, {}]
  /-- Consecutive samples of A and of B at an end of the code range (R190). -/
  rangeA : Nat := 0
  rangeB : Nat := 0
  /-- The gate has opened since the last update, and LP_MOD has been high in all of the window (R186, R187). -/
  opened : Bool := false
  modAll : Bool := false
  /-- The start of the last pulse of the modulation, the instant the gate opened, and the sum of planned speeds over the
  CECLK cycles since then (R130). -/
  pulseAt : Option Nat := none
  openedAt : Nat := 0
  speedSum : Nat := 0
  /-- The last output sample on the local clock (R183). -/
  outAt : Nat := 0
  /-- FF_GAIN, P_MIN and P_MAX as the last update took them (R188). -/
  ffGain : Int := 65536
  pMin : Nat := 0
  pMax : Nat := 131071
  deriving DecidableEq, Repr

/-! ### Stitch zones (R199 to R216) -/

/-- One zone or overlap end: the state before JOIN, and the instant of a pending JOIN; the instant at which it enters TAKEN, or UNCOVERED; the instant at
which a takeover of its own channel or head withdraws it; and the instant of an UNCOVERED record that it still owes. -/
structure ZoneRun where
  before : Nat := 0
  joinAt : Option Nat := none
  instant : Option Nat := none
  uncovered : Bool := false
  leave : Option Nat := none
  lost : Option Nat := none
  /-- The last takeover instant that has acted (R240). -/
  tookAt : Option Nat := none
  deriving DecidableEq, Repr

/-- A collection of takeover events (R206, R276): when it began, the first fault code, channels and heads. -/
structure Collect where
  at_ : Nat
  code : Nat
  channels : List Nat
  heads : List Nat
  deriving DecidableEq, Repr

/-- The stitch unit: zones by 8 c + z and, from 128, overlap ends by 2 h + end (R276); the collections still open
(oldest first), and the report queue. -/
structure StitchUnit where
  zones : Vector ZoneRun 192 := Vector.replicate 192 {}
  collects : List Collect := []
  reports : List (List Nat) := []
  nextSeq : Nat := 0
  deriving DecidableEq, Repr

/-! ### Calibration engine (R217 to R246) -/

/-- One table update (R235 to R240): the first step of the run, the state left by RESUME or ROLLBACK, and the target
in force. -/
structure Update where
  k0 : Nat := 1
  left : Nat := 0
  rollback : Bool := false
  deriving DecidableEq, Repr

/-- A pattern request (R233). -/
structure Pattern where
  heads : Nat
  kind : Nat
  band : Nat
  level : Nat
  run : Nat
  gap : Nat
  stagger : Nat
  id : Nat
  deriving DecidableEq, Repr

/-- CAL: updates of the 16 hoop tables and 32 maps, copies that wait to be written, pattern queues and the load
stream. -/
structure CalUnit where
  updates : Vector Update 48 := Vector.replicate 48 {}
  /-- Tables whose retained copy is to be written, by number (0 to 15 channels, 16 to 47 heads), oldest first. -/
  copies : List Nat := []
  patterns : Vector (List Pattern) 4 := Vector.replicate 4 []
  deriving DecidableEq, Repr

/-! ### Print engine (R247 to R284) -/

/-- What no entry shows of one encoder: the levels of A and B, the count at its last Z pulse (0 where Z_RESET made it so; R163), the last edge with its input (true is A), and the
errors of the last millisecond (R249, R250). -/
structure Encoder where
  a : Bool := false
  b : Bool := false
  z : Option Int := none
  edgeAt : Option Nat := none
  edgeA : Bool := false
  /-- The count before the last edge, which an ERROR takes back (R249). -/
  before : Int := 0
  errs : List Nat := []
  deriving DecidableEq, Repr

/-- What no entry shows of one MTU (R252 to R254, R258): armed for a swath, in reverse, the high-water mark, the times
of the edges that advanced it (newest first, ns), the latched count C, and the last start-of-scan edge. -/
structure MtuRun where
  armed : Bool := false
  rev : Bool := false
  h : Int := 0
  edges : List Nat := []
  /-- The mark and the edges before the last count, which an ERROR takes back (R249). -/
  hBefore : Int := 0
  edgesBefore : List Nat := []
  c : Option Int := none
  sosAt : Option Nat := none
  deriving DecidableEq, Repr

/-- What no entry shows of one FIRE output (R255, R256, R271): the next column, its instant, when its Commit was sent,
the heads with GO 1 and the others with the kind that suppresses them, and the last strobe. Instants are in ps. -/
structure FireRun where
  k : Nat := 0
  due : Option Nat := none
  commitAt : Option Nat := none
  go : List Nat := []
  held : List (Nat × Nat) := []
  strobe : Option Nat := none
  /-- When the output rises and falls again, in ps of the model's clock, for each strobe that is not over. -/
  pulses : List (Nat × Nat) := []
  deriving DecidableEq, Repr

/-- A DATA event of a head that is sent and not yet fired or discarded (R270). -/
structure Ev where
  col : Nat
  sentAt : Nat
  tries : Nat := 0
  acked : Bool := false
  /-- PEN sends nothing more for this event, and the kind its column is suppressed with. -/
  dead : Bool := false
  kind : Nat := 2
  body : List Nat := []
  deriving DecidableEq, Repr

/-- A suppressed span that is open (R279): kind, columns and first instant. -/
structure SpanRun where
  kind : Nat
  first : Nat
  last : Nat
  at_ : Nat
  deriving DecidableEq, Repr

/-- What no entry shows of one head. -/
structure HeadRun where
  evs : List Ev := []
  /-- The next column whose DATA is to be sent. -/
  next : Nat := 0
  span : Option SpanRun := none
  /-- The TEMP of the last STATUS, if valid (R269), and when the last valid reading came (R277). -/
  statusTemp : Option Int := none
  validAt : Nat := 0
  sensorLost : Bool := false
  /-- DATA_MISSING for the swath, since WAVE_OK was clear at its fix instant (R273). -/
  noWave : Bool := false
  failed : List Nat := []
  /-- COMMIT_MISSES as the last STATUS gave it. -/
  misses : Nat := 0
  /-- The fix instant before the present one (R240). -/
  fixAt : Nat := 0
  deriving DecidableEq, Repr

/-- A slice in the line buffer (R259): its header fields and where its payload lies. -/
structure Slice where
  col : Nat
  cols : Nat
  heads : Nat
  rowbase : Int
  at_ : Nat
  size : Nat
  lastOne : Bool
  deriving DecidableEq, Repr

/-- What no entry shows of one print group. -/
structure Group where
  /-- Every later column of the swath is suppressed, with this KIND of R279. -/
  suppress : Option Nat := none
  /-- A STOP waits for the end of the feed move, and a PAUSE for the end of the swath or feed (R281). -/
  stopAfterFeed : Bool := false
  pause : Bool := false
  /-- Stream offset of the next slice, whether it has been fetched once more, and whether a fault has ended fetching. -/
  fetch : Nat := 0
  refetched : Bool := false
  fetchEnd : Bool := false
  /-- The slices of the present swath in the line buffer, and the first column after them. -/
  slices : List Slice := []
  bufAt : Nat := 0
  endCol : Nat := 0
  firstCol : Nat := 0
  /-- The first slice and the LAST slice of the swath have been fetched. -/
  begun : Bool := false
  complete : Bool := false
  /-- The MTU has been armed for the swath (R262). -/
  armed : Bool := false
  /-- The pass row as the fix instant has read it (R262): mask, direction, feed, DX and DY. -/
  mask : Nat := 0xFF
  rev : Bool := false
  feed : Int := 0
  dx : Nat := 0
  dy : Nat := 0
  /-- The patterns placed in the swath (R234). -/
  placed : List Pattern := []
  /-- A suppressed-span record has been written in the swath (R265), and the feed that a HELD swath has kept. -/
  spanned : Bool := false
  heldFeed : Option Int := none
  /-- The swath is a REPAIR taken from HELD. -/
  repair : Bool := false
  /-- The feed move has ended, or there was none, and the settle time runs from here (R264). -/
  settleAt : Option Nat := none
  /-- The cause of a halt at the end of the swath. -/
  haltCause : Option Nat := none
  deriving DecidableEq, Repr

/-- What no entry shows of one head link (R268 to R273). -/
structure LinkRun8 where
  /-- The lane has symbol lock, and the link waits for its first heartbeat. -/
  trained : Bool := false
  heardAt : Nat := 0
  crcTimes : List Nat := []
  /-- A CTRL frame waits for its answer since this time. -/
  ctrlAt : Option Nat := none
  deriving DecidableEq, Repr

/-- The print engine. -/
structure Pen where
  encs : Vector Encoder 6 := Vector.replicate 6 {}
  mtus : Vector MtuRun 4 := Vector.replicate 4 {}
  fires : Vector FireRun 16 := Vector.replicate 16 {}
  heads : Vector HeadRun 32 := Vector.replicate 32 {}
  links : Vector LinkRun8 8 := Vector.replicate 8 {}
  deriving DecidableEq, Repr

/-! ### Motion axes (R285 to R312) -/

/-- One stretch of a move or stop with constant acceleration (R288, R290, R296): its length in ps, position in 2^-32
counts and velocity in 2^-16 counts/s at its start, acceleration in counts/s^2, and whether it begins the second leg of
a composite move in the opposite direction. -/
structure Phase where
  dur : Nat
  p0 : Int
  v0 : Int
  acc : Int
  turn : Bool := false
  deriving DecidableEq, Repr

/-- A segment of a table (R292). -/
structure TabSeg where
  dur : Nat
  pEnd : Int
  vEnd : Int
  flags : Nat
  id : Nat
  deriving DecidableEq, Repr

/-- A table in execution (R292 to R295): the running segment with the position (2^-32 counts) and velocity (counts/s)
it began at and the updates done, the segment that follows with its table, index and whether a switch brought it, a
switch armed in the last update of a segment, and whether the following segment is bad. -/
structure TabRun where
  seg : TabSeg
  p0 : Int
  v0 : Int
  j : Nat := 0
  next : Option (Nat × Nat × TabSeg × Bool) := none
  late : Option Nat := none
  bad : Bool := false
  /-- The latched VMAX (R294). -/
  vmax : Nat := 0
  deriving DecidableEq, Repr

/-- What no entry shows of one axis. -/
structure Ax where
  /-- Causes that take effect at the next update, oldest first: an emergency stop or not, and the CAUSE (R308). -/
  causes : List (Bool × Nat) := []
  /-- Commands that take effect at the next update, with TARGET, DISTANCE or TABLE_SEL as accepted; and feed orders, each
  with its group and counts (R308, R309). -/
  cmds : List (Nat × Int) := []
  feeds : List (Nat × Int) := []
  /-- EDGES of the trigger at the last update, and the instant of that update. -/
  seen : Nat := 0
  at_ : Nat := 0
  /-- The set-point computed for the next update: position in 2^-32 counts, velocity in 2^-16 counts/s. -/
  pos : Int := 0
  vel : Int := 0
  /-- The set-point in force. -/
  visP : Int := 0
  visV : Int := 0
  /-- What is left of the move or stop, the ps passed in its first stretch, and where it ends (2^-32 counts). -/
  phases : List Phase := []
  gone : Nat := 0
  goal : Int := 0
  tab : Option TabRun := none
  /-- A stop leads to IDLE (STOP command) and not to HALTED. -/
  toIdle : Bool := false
  /-- The move has landed at this instant; consecutive updates in position since (R291). -/
  landedAt : Option Nat := none
  inRun : Nat := 0
  /-- The group whose feed runs. -/
  feedOf : Option Nat := none
  /-- The velocity is 0 since this instant, and HOLD_DELAY has passed (R299). -/
  restAt : Nat := 0
  holding : Bool := false
  /-- c0 and p0 of the stall check (R305), and whether this update has taken them. -/
  c0 : Int := 0
  p0 : Int := 0
  based : Bool := false
  /-- The slot has entered RAMP_DOWN, so that its OFF takes the axis to OFF (R304). -/
  ramped : Bool := false
  /-- High times of MA_PWM[4a] to [4a+3] in the present period, in ns; 0 is low (R300). -/
  high : List Nat := [0, 0, 0, 0]
  deriving DecidableEq, Repr

/-! ### Camera pipeline (R313 to R334) -/

/-- A frame of a context, open or closed and not yet recorded (R318 to R332): its sequence and CSI-2 number, capture, open
and close times, FLAGS, lines received and through the pipeline, the buffer index and address of each output, the
parameters read at its Frame Start, the last two unpacked lines, and its finished lines as (R, G, B). -/
structure CamFrame where
  seq : Nat
  number : Nat
  capture : Nat
  openAt : Nat
  closeAt : Nat := 0
  closed : Bool := false
  flags : Nat := 0
  got : Nat := 0
  done : Nat := 0
  bufs : List (Option (Nat × Nat)) := [none, none, none]
  par : List Int := []
  raw : List (List (Nat × Nat × Nat)) := []
  rows : List (List (Nat × Nat × Nat)) := []
  deriving DecidableEq, Repr

/-- A context: whole lines in its FIFO with the frame each belongs to, and its frames, oldest first. -/
structure CamCtx where
  fifo : List (Nat × List Nat) := []
  frames : List CamFrame := []
  nextSeq : Nat := 0
  deriving DecidableEq, Repr

/-- CAM: the context granted last at each priority, until when the pipeline is occupied, the lines of the last millisecond
with their pixels, and the times of the port errors of R316. -/
structure CamUnit where
  ctxs : Vector CamCtx 16 := Vector.replicate 16 {}
  granted : List Nat := [15, 15, 15, 15, 15, 15, 15, 15]
  busyUntil : Nat := 0
  loads : List (Nat × Nat) := []
  errs : Vector (List Nat) 2 := Vector.replicate 2 []
  deriving DecidableEq, Repr

/-! ### Serial lanes (R335 to R356) -/

/-- What no entry shows of one lane: when it entered its stage; the consecutive equal CAPs received with the last of them;
SEEN as the lane sends it, CAPs sent with SEEN, and SEEN received (R344); when the last CAP left, whether the skew to the other
lane of the port is over 32 ns, and whether that has been counted (R346); the equalisation table as the controller holds it for the
lane, 10 bytes for each rate, none for the defaults (R340); and when the test checker locked (R354). -/
structure LaneRun where
  since : Nat := 0
  caps : Nat := 0
  last : Nat × Nat × Nat := (0, 0, 0)
  seen : Bool := false
  sent : Nat := 0
  gotSeen : Bool := false
  capAt : Nat := 0
  skewed : Bool := false
  skewFail : Bool := false
  table : List (List Nat) := []
  lockAt : Nat := 0
  deriving DecidableEq, Repr

/-! ### DRAM controller (R377 to R400) -/

/-- A request in a channel queue: a write (of a whole burst or less), or a read with the bytes it is to return; the bytes
a write has replaced and which of them were stored with bad parity, for a freeze that drops it (R385, R388); whether it arrived in the
in-order mode of its bank (R384); and whether a freeze has answered it while its data was still to return (R389). -/
structure DramReq where
  write : Bool
  addr : Nat
  len : Nat
  master : Nat
  at_ : Nat
  during : Bool := false
  old : List Nat := []
  oldBad : List Nat := []
  val : Nat := 0
  void : Bool := false
  deriving DecidableEq, Repr

/-- One DRAM channel: its queue in order of arrival, the reads that are issued and not yet returned, whether the
scheduler is writing, and the refresh intervals that wait for a read-modify-write to end (R383). -/
structure DramChan where
  queue : List DramReq := []
  flight : List DramReq := []
  writing : Bool := false
  owed : Nat := 0
  deriving DecidableEq, Repr

/-- What no entry shows of the DRAM controller: ALERT_n low on A and B; the trained delays by kind, channel, rank and lane
where they differ from their defaults; the oscillator baselines and the write delays as END has left them (R387, R397);
intervals of refresh postponed; the repair that runs (true hard) with its row and device as an entry of SOFT_REPAIRS (R394, R395); the
pattern command that runs (R396); and the addresses of bytes that were stored with bad parity (R380). -/
structure Dram where
  chans : Vector DramChan 2 := Vector.replicate 2 {}
  alertA : Bool := false
  alertB : Bool := false
  delays : List (Nat × Nat) := []
  oscBase : List Nat := []
  trained : List (Nat × Nat) := []
  postponed : Nat := 0
  ppr : Option (Bool × Nat) := none
  pat : Nat := 0
  bad : List Nat := []
  deriving DecidableEq, Repr

/-! ### DMA engine (R401 to R421) -/

/-- A descriptor in the engine, from when it is taken until its completion is dealt with: the ring offset it came from, the
row addresses and shape, the row and element its reads have come to, whether its next row waits for a pace edge, elements not
yet read (the active count), destination bytes converted and not yet written, bytes written, its status code (R416), GAP, and
whether it stands for a descriptor fetch that failed. -/
structure DmaJob where
  slot : Option Nat := none
  src : Nat := 0
  dst : Nat := 0
  count : Nat := 0
  rows : Nat := 0
  fmt : Nat := 0
  srcInc : Int := 0
  dstInc : Int := 0
  srcStride : Int := 0
  dstStride : Int := 0
  seq : Nat := 0
  row : Nat := 0
  i : Nat := 0
  wait : Bool := false
  rest : Nat := 0
  out : List (Nat × Nat) := []
  done : Nat := 0
  status : Nat := 0
  gap : Bool := false
  stop : Bool := false
  deriving DecidableEq, Repr

/-- A DMA channel: its descriptors, oldest first, of which at most one has reads left; the hand-over cycle, with ARM as sampled
on the hand-over edge (R408, R409); where the descriptor in the shadow came from; an unfenced transfer has completed. -/
structure DmaChan where
  jobs : List DmaJob := []
  edge : Option Bool := none
  shSlot : Option Nat := none
  unfenced : Bool := false
  deriving DecidableEq, Repr

/-- The engine: the channel granted last at each of five levels (R415), and the records held under WAIT in order, with their
queue and channel (R418). -/
structure DmaUnit where
  chans : Vector DmaChan 32 := Vector.replicate 32 {}
  last : List Nat := [31, 31, 31, 31, 31]
  held : List (Nat × Nat × List Nat) := []
  deriving DecidableEq, Repr

/-! ### Interrupts (R432) -/

/-- The PLIC: sources pending, sources claimed with the context that holds them, and the registers that firmware
writes: enables by 128 * context + source, thresholds by context, priorities by source. -/
structure Plic where
  pending : List Nat := []
  claimed : List (Nat × Nat) := []
  enables : List (Nat × Nat) := []
  thresholds : List (Nat × Nat) := []
  priorities : List (Nat × Nat) := []
  deriving DecidableEq, Repr

/-! ### Cores, boot and debug (R422 to R446) -/

/-- A 64-byte line in the L1 data caches of the AP harts (R425, R426), which are coherent with one another: its address, its
bytes, and the hart that holds it dirty. -/
structure CacheLine where
  hart : Nat
  at_ : Nat
  data : List Nat
  dirty : Bool := false
  deriving DecidableEq, Repr

/-- An entry of a store buffer or write buffer (R422): its hart, address and bytes, and which of them came with bad parity. -/
structure BufStore where
  hart : Nat
  at_ : Nat
  data : List Nat
  bad : Nat := 0
  deriving DecidableEq, Repr

/-- What a hart has issued and must hold back (R427, R428): an access, a cbo operation or a fence. -/
inductive HeldOp
  | access (m : Nat) (machine : Bool) (use : BusUse) (size addr v : Nat) (reqOk : Bool) (bad : Nat)
  | clean (h addr : Nat)
  | flush (h addr : Nat)
  | inval (h mode addr : Nat)
  | fenceWO (h : Nat)
  | fenceIR (h : Nat)
  | fenceI (h : Nat)
  deriving DecidableEq, Repr

/-- The debug module (R443): dmactive, the selected hart, halted harts, the last command and its automatic execution, the program
buffer, data and system bus registers. -/
structure DebugModule where
  active : Bool := false
  hartsel : Nat := 0
  halted : Nat := 0
  resumed : Nat := 0
  cmderr : Nat := 0
  command : Nat := 0
  auto : Nat := 0
  progbuf : List Nat := [0, 0, 0, 0, 0, 0, 0, 0]
  data0 : Nat := 0
  data1 : Nat := 0
  sbcs : Nat := 0x40000
  sbaddr : Nat := 0
  sbdata : Nat := 0
  /-- Registers of harts that the debugger has written, by hart * 65,536 + register number, and what it wrote. -/
  regs : List (Nat × Nat) := []
  /-- Harts that have been reset since the debugger acknowledged it, and whether ndmreset stands. -/
  haveReset : Nat := 31
  ndmreset : Bool := false
  deriving DecidableEq, Repr

/-- The TAP (R443): its controller state, instruction register and shift register (bit 0 first), the boundary latch, TDO, and
the DTM with the last DMI answer and its sticky status. -/
structure Tap where
  state : Nat := 15
  ir : Nat := 1
  shift : List Bool := []
  bound : List Bool := []
  tdo : Bool := false
  dmiAddr : Nat := 0
  dmiData : Nat := 0
  dmiStat : Nat := 0
  deriving DecidableEq, Repr

/-- The harts as other masters and the entries see them (R422 to R431, R444, R445): harts out of reset, reset vectors, PMP
registers by hart * 32 + register (0 and 1 pmpcfg0 and pmpcfg2, 2 + i pmpaddr i), ACLINT, the CBIE fields, L1 data lines, store
buffers in order, instruction lines by hart, SV in wfi, the image commands that run, and the flash images that the ROM can
read. -/
structure CoreUnit where
  apRun : Nat := 0
  vectors : List Nat := [0, 0, 0, 0]
  pmp : List (Nat × Nat) := []
  msip : Nat := 0
  ssip : Nat := 0
  mtimecmp : List Nat := List.replicate 5 (2 ^ 64 - 1)
  mtime : Nat := 0
  mtimeNs : Nat := 0
  menvCbie : List Nat := [3, 3, 3, 3]
  senvCbie : List Nat := [3, 3, 3, 3]
  lines : List CacheLine := []
  stores : List BufStore := []
  /-- What the harts hold back, in the order it was issued (R427, R428). -/
  held : List HeldOp := []
  /-- Reservations of LR (R422, R424): hart, address and size. -/
  reserved : List (Nat × Nat × Nat) := []
  fetched : List (Nat × Nat × List Nat) := []
  wfi : Nat := 0
  mram : Option Nat := none
  /-- Source, length and destination of the running MRAM command, as they stood at its start (R439). -/
  mramSrc : Nat := 0
  mramLen : Nat := 0
  mramDst : Nat := 0
  check : Option Nat := none
  trialAt : Option Nat := none
  trialMs : Nat := 10000
  flash : List (List Nat) := []
  /-- The mode that the ROM has found the flash part to have (R435): 1 1-4-4, 2 8-8-8, 0 not yet read. -/
  flashMode : Nat := 0
  /-- Bytes of the AON retention SRAM, the MRAM and other memories are in `mem`. -/
  dbg : DebugModule := {}
  tap : Tap := {}
  deriving DecidableEq, Repr

/-! ### The whole -/

/-- The block: every register, buffer, counter, mode and pin. -/
structure Sys where
  /-- The device state of R56, which `0111.00` reads. -/
  dev : DevState := .start
  /-- The target of a transition in progress, which `0111.01` reads (R58). -/
  pendState : Option DevState := none
  /-- The entries that differ from their defaults: key (index * 256 + subindex) and value, in ascending order. -/
  od : List (Nat × Word) := []
  /-- Memory bytes that differ from what an unlisted byte reads as, in ascending order. -/
  mem : List Host.Cell := []
  /-- Nanoseconds that the idle ticks have counted. The model's own clock for times that hardware measures without device time, which
  may stand, step back or start again (log entry 5). -/
  clk : Nat := 0
  /-- How often the contents of the shared SRAM and of the DRAM have been lost (R420, R466). -/
  sramEpoch : Nat := 0
  dramEpoch : Nat := 0
  /-- How often those of the AON retention SRAM have been lost (R459). -/
  aonEpoch : Nat := 0
  /-- What the block has sent, newest first. The model's own record. -/
  sent : List Out := []
  /-- The model's own counter of free values used so far (DESIGN CHOICE, log entry 6). -/
  free : Nat := 0
  chain : Chain := {}
  eng : Engine := {}
  gath : Gatherer := {}
  smp : Sampler := {}
  tb : TimeBase := {}
  pw : Power := {}
  pads : Pads := {}
  scu : Vector Scu 16 := Vector.replicate 16 {}
  slots : Vector Slot 64 := Vector.replicate 64 {}
  mpl : Vector Mpl 16 := Vector.replicate 16 {}
  stitch : StitchUnit := {}
  cal : CalUnit := {}
  groups : Vector Group 4 := Vector.replicate 4 {}
  pen : Pen := {}
  axes : Vector Ax 8 := Vector.replicate 8 {}
  /-- The last 8 codes of the converter of each bus, newest first (R301). -/
  vbus : Vector (List Nat) 2 := Vector.replicate 2 []
  cam : CamUnit := {}
  lanes : Vector LaneRun 16 := Vector.replicate 16 {}
  dram : Dram := {}
  dma : DmaUnit := {}
  plic : Plic := {}
  core : CoreUnit := {}
  deriving DecidableEq, Repr

/-- The machine: the block, the fuses that nothing but programming changes (R441), and the commands that wait, first
in, first out. -/
structure State extends Sys where
  /-- The one-time-programmable words (R441): word number and value, zero where unlisted. -/
  otp : List (Nat × Word) := []
  pending : List Instr := []
  deriving DecidableEq, Repr

/-- The block right after reset: every field at the value the spec states, or that log entries 2 to 4 name. -/
def Sys.reset : Sys := {}

/-- The machine right after reset (R59): START, entries at their defaults, memory with nothing listed, no command
waiting. -/
def State.reset : State := { toSys := Sys.reset }

end Sys2Proof.Machine
end

