-- ==== Sys2Proof/Machine/Ops.lean ====
section
/-! DEFINITION. Ops: the named operations over entries, memory, device time, interrupts and the record of what is sent; every other file reads and changes the block through them. -/

namespace Sys2Proof.Machine

open Sys2Proof

/-! ### Sparse maps in one canonical form -/

/-- What a sparse map holds at `k`, where an unlisted key holds `d k`. -/
def Kv.get {α : Type} (d : Nat → α) : List (Nat × α) → Nat → α
  | [], k => d k
  | (k', v) :: t, k => if k' = k then v else Kv.get d t k

/-- Put a cell at its place among rising keys. -/
def Kv.insert {α : Type} (k : Nat) (v : α) : List (Nat × α) → List (Nat × α)
  | [] => [(k, v)]
  | (k', v') :: t => if k < k' then (k, v) :: (k', v') :: t else (k', v') :: Kv.insert k v t

/-- Take a key out. -/
def Kv.erase {α : Type} (k : Nat) (l : List (Nat × α)) : List (Nat × α) := l.filter (fun c => decide (c.1 ≠ k))

/-- Store `v` at `k`; the default value is not listed. -/
def Kv.put {α : Type} [DecidableEq α] (d : Nat → α) (k : Nat) (v : α) (l : List (Nat × α)) : List (Nat × α) :=
  if v = d k then Kv.erase k l else Kv.insert k v (Kv.erase k l)

/-- Keys rise strictly. -/
def Kv.sorted {α : Type} (l : List (Nat × α)) : Bool := l.Pairwise (fun a b => a.1 < b.1)

/-- The canonical form: keys rise strictly and no cell holds its default. -/
def Kv.wf {α : Type} [DecidableEq α] (d : Nat → α) (l : List (Nat × α)) : Bool :=
  Kv.sorted l && l.all (fun c => decide (c.2 ≠ d c.1))

/-- Key and value lists that hold 0 where unlisted, for counts and tables of the blocks. -/
def Kv.nat (l : List (Nat × Nat)) (k : Nat) : Nat := Kv.get (fun _ => 0) l k

/-- Store a count in such a list. -/
def Kv.setNat (k v : Nat) (l : List (Nat × Nat)) : List (Nat × Nat) := Kv.put (fun _ => 0) k v l

/-! ### Defaults of entries (R61) -/

/-- The index of a key. -/
def keyIdx (k : Nat) : Nat := k / 256

/-- The subindex of a key. -/
def keySub (k : Nat) : Nat := k % 256

/-- The default reaction byte of a fault code: REACTION in bits [2:0], REPORT in bit 3 (R488, R496 and the block
chapters). -/
def reactionDefault (code : Nat) : Nat :=
  if code ∈ [0x05, 0x06, 0x09, 0x0A, 0x0B, 0x10, 0x11, 0x12, 0x13, 0x14, 0x15, 0x16, 0x17, 0x20, 0x21, 0x33, 0x41, 0x42,
      0x44, 0x6D] then 3 + 8
  else if code ∈ [0x58, 0x59, 0x5A, 0x5B] then 4 + 8
  else if code ∈ [0x07, 0x19, 0x1A, 0x22, 0x23, 0x24, 0x2A, 0x32, 0x36, 0x37, 0x3B, 0x3C, 0x45, 0x48, 0x4A, 0x50, 0x53 + 2,
      0x64, 0x6F] then 1
  else 2

/-- The first and last index of the ranges of R40, as `0010` reads them. -/
def directoryRanges : List (Nat × Nat) :=
  [(0x0000, 0x00FF), (0x0100, 0x01FF), (0x0200, 0x02FF), (0x0300, 0x03FF), (0x0400, 0x04FF), (0x0500, 0x05FF),
   (0x0600, 0x06FF), (0x0800, 0x08FF), (0x0900, 0x097F), (0x0980, 0x098F), (0x0A00, 0x0AFF), (0x0C00, 0x0C7F),
   (0x0D00, 0x0DFF), (0x0E00, 0x0EFF), (0x1000, 0x1FFF), (0x2000, 0x20FF), (0x2400, 0x27FF), (0x3000, 0x30FF),
   (0x3100, 0x31FF), (0x3200, 0x32FF), (0x3400, 0x37FF), (0x3800, 0x38FF), (0x3900, 0x39FF), (0x3A00, 0x3A7F),
   (0x4000, 0x47FF), (0x4800, 0x48FF), (0x5000, 0x50FF), (0x5100, 0x51FF), (0x5200, 0x52FF), (0x5300, 0x53FF)]

/-- The sizes in bytes of the types 01 to 0F (R37, R39). -/
def typeSizes : List Nat := [1, 1, 1, 2, 2, 4, 4, 8, 8, 4, 8, 1, 4, 12, 0]

/-- Defaults that depend on the instance (R39, R40, R67, R146, R282, R334, R351, R488), where the dictionary cannot give
one number. -/
def dfltExtra (idx sub : Nat) : Option Int :=
  if idx = 0x10 then (directoryRanges[sub - 1]?).map (fun r => ((r.2 * 65536 + r.1 : Nat) : Int))
  else if 1 ≤ idx ∧ idx ≤ 15 then if sub = 1 then (typeSizes[idx - 1]?).map (fun n => (n : Int)) else none
  else if idx = 0x510 then some (reactionDefault sub)
  else if idx = 0xA20 ∧ sub = 4 then some 4
  else if idx = 0x211 ∧ sub = 1 then some 2
  else if (idx = 0x210 ∨ idx = 0x211) ∧ sub = 2 then some 2
  else if 0x1000 ≤ idx ∧ idx < 0x2000 ∧ idx % 256 = 0 ∧ sub = 6 then some ((idx / 256 - 16 : Nat) : Int)
  else if 0x3A00 ≤ idx ∧ idx < 0x3A80 ∧ idx % 16 = 0 ∧ sub = 2 then some ((8 + (idx - 0x3A00) / 16 : Nat) : Int)
  else if (idx = 0xD00 ∨ idx = 0xD10) ∧ sub = 2 then some ((4 + (idx - 0xD00) / 16 : Nat) : Int)
  else if 0x5100 ≤ idx ∧ idx < 0x5200 ∧ idx % 16 = 1 ∧ (sub = 5 ∨ sub = 9 ∨ sub = 13) then some 65536
  else none

/-- The default of an entry, as the integer its table gives. -/
def odDefault (k : Nat) : Int :=
  match dfltExtra (keyIdx k) (keySub k) with
  | some v => v
  | none =>
    match Dict.find (keyIdx k) (keySub k) with
    | some r => if keySub k = 0 ∧ r = Dict.subZero then ((Dict.maxSub (keyIdx k) : Nat) : Int) else r.dflt
    | none => 0

/-- The default of an entry as the word that holds it. -/
def odDefaultWord (k : Nat) : Word := BitVec.ofInt 64 (odDefault k)

/-- Whether an entry is held in the retained store. -/
def isKept (k : Nat) : Bool := (Dict.find (keyIdx k) (keySub k)).elim false (fun r => r.kept)

/-- Whether an entry counts since cold start (R58). -/
def countsSinceCold (k : Nat) : Bool := (Dict.find (keyIdx k) (keySub k)).elim false (fun r => r.cc)

/-- The domain bit of R454 that an index lies in (R11). -/
def domainOf (idx : Nat) : Nat :=
  if 0x0800 ≤ idx ∧ idx < 0x0900 then 1
  else if 0x0C00 ≤ idx ∧ idx < 0x0C80 then 2 + (idx - 0x0C00) / 32
  else if 0x0E00 ≤ idx ∧ idx < 0x0F00 then 6
  else if 0x1000 ≤ idx ∧ idx < 0x2000 then
    -- the melt-pool indexes of a channel lie in MPL, the others with its SCU
    (if 0x30 ≤ idx % 256 ∧ idx % 256 < 0x40 then 11 else 7 + (idx - 0x1000) / 1024)
  else if 0x2400 ≤ idx ∧ idx < 0x2700 then 7 + (idx - 0x2400) / 192
  else if 0x2700 ≤ idx ∧ idx < 0x2800 then 7 + (idx - 0x2700) / 64
  else if 0x3000 ≤ idx ∧ idx < 0x3B00 then 12
  else if 0x4000 ≤ idx ∧ idx < 0x4800 then 13
  else if 0x5000 ≤ idx ∧ idx < 0x5400 then 14
  else 15

namespace Sys

/-! ### Entries -/

/-- The word an entry holds. -/
def rdW (s : Sys) (k : Nat) : Word := Kv.get odDefaultWord s.od k

/-- The value of an unsigned entry. -/
def rd (s : Sys) (k : Nat) : Nat := (s.rdW k).toNat

/-- The value of a signed entry. -/
def rdI (s : Sys) (k : Nat) : Int := (s.rdW k).toInt

/-- Whether an entry is not zero. -/
def rdB (s : Sys) (k : Nat) : Bool := decide (s.rd k ≠ 0)

/-- Whether bit `i` of an entry is set. -/
def rdBit (s : Sys) (k i : Nat) : Bool := (s.rd k).testBit i

/-- Set the word of an entry. -/
def wrW (s : Sys) (k : Nat) (w : Word) : Sys := { s with od := Kv.put odDefaultWord k w s.od }

/-- Set an unsigned entry. -/
def wr (s : Sys) (k v : Nat) : Sys := s.wrW k (BitVec.ofNat 64 v)

/-- Set a signed entry. -/
def wrI (s : Sys) (k : Nat) (v : Int) : Sys := s.wrW k (BitVec.ofInt 64 v)

/-- Set a Bool entry. -/
def wrB (s : Sys) (k : Nat) (b : Bool) : Sys := s.wr k (b2n b)

/-- Set one bit of an entry. -/
def wrBit (s : Sys) (k i : Nat) (b : Bool) : Sys := s.wr k (putBit (s.rd k) i b)

/-- Give an entry its default. -/
def toDefault (s : Sys) (k : Nat) : Sys := s.wrW k (odDefaultWord k)

/-- Add to a counter of `bits` bits, which wraps. -/
def add (s : Sys) (k bits n : Nat) : Sys := s.wr k ((s.rd k + n) % 2 ^ bits)

/-- Count one more in a 32-bit counter. -/
def inc (s : Sys) (k : Nat) : Sys := s.add k 32 1

/-- Count one more in a 64-bit counter. -/
def inc64 (s : Sys) (k : Nat) : Sys := s.add k 64 1

/-- Every entry for which `p` holds goes back to its default. -/
def clearEntries (s : Sys) (p : Nat → Bool) : Sys := { s with od := s.od.filter (fun c => !p c.1) }

/-- Apply `f` for every number of a list, in its order. -/
def each (s : Sys) (l : List Nat) (f : Sys → Nat → Sys) : Sys := l.foldl f s

/-- Apply `f` where a condition holds. -/
def when (s : Sys) (b : Bool) (f : Sys → Sys) : Sys := if b then f s else s

/-! ### Time, free values, interrupts and the record of what is sent -/

/-- Device time in ns (R358). -/
def now (s : Sys) : Nat := s.tb.t

/-- Device time in units of 2^-16 ns, the resolution of a stamp (R369). -/
def stamp (s : Sys) : Nat := s.tb.t * 65536 + s.tb.f / 65536

/-- Record something sent. -/
def emit (s : Sys) (o : Out) : Sys := { s with sent := o :: s.sent }

/-- The free value of this moment, and the block that has used it (log entry 6). -/
def freeVal (s : Sys) : Word := Config.freeValue s.free

/-- Go on to the next free value. -/
def useFree (s : Sys) : Sys := { s with free := s.free + 1 }

/-- Set the device state. -/
def setDev (s : Sys) (d : DevState) : Sys := { s with dev := d }

/-! ### Memory (R15 to R17) -/

/-- First address of the DRAM (R15). -/
def dramBase : Nat := 0x1000000000

/-- What a memory byte that nothing has written reads as: 0, or an open value where its contents have been lost (R392,
R420, R466; log entry 2). -/
def memDefault (se de ae a : Nat) : Byte :=
  if 0x10000000 ≤ a ∧ a < 0x10800000 then (if se = 0 then 0 else Config.dramByte se a)
  else if dramBase ≤ a then (if de = 0 then 0 else Config.dramByte de a)
  else if 0x30000000 ≤ a ∧ a < 0x30004000 then (if ae = 0 then 0 else Config.dramByte ae a)
  else if a < 0x20000 then Config.romByte a
  else 0

/-- The byte at a physical address. -/
def byte (s : Sys) (a : Nat) : Byte := Kv.get (memDefault s.sramEpoch s.dramEpoch s.aonEpoch) s.mem a

/-- Store a byte at a physical address. -/
def setByte (s : Sys) (a : Nat) (b : Byte) : Sys :=
  { s with mem := Kv.put (memDefault s.sramEpoch s.dramEpoch s.aonEpoch) a b s.mem }

/-- The canonical form of memory: addresses rise strictly, and no byte is listed that reads the same unlisted. -/
def memWf (s : Sys) : Bool := Kv.wf (memDefault s.sramEpoch s.dramEpoch s.aonEpoch) s.mem

/-- The `n` bytes from an address. -/
def bytes (s : Sys) : Nat → Nat → List Nat
  | _, 0 => []
  | a, n + 1 => (s.byte a).toNat :: s.bytes (a + 1) n

/-- Store bytes from an address up. -/
def setBytes (s : Sys) (a : Nat) : List Nat → Sys
  | [] => s
  | b :: t => (s.setByte a (BitVec.ofNat 8 b)).setBytes (a + 1) t

/-- The little-endian value of the `n` bytes from an address (R6). -/
def ld (s : Sys) (a n : Nat) : Nat := unle (s.bytes a n)

/-- The signed little-endian value of the `n` bytes from an address. -/
def ldI (s : Sys) (a n : Nat) : Int := sext (8 * n) (s.ld a n)

/-- Store the `n` low bytes of a value. -/
def st (s : Sys) (a n v : Nat) : Sys := s.setBytes a (le n v)

/-- A buffer lies inside the shared SRAM or inside the DRAM region (R15, R38). -/
def inMemory (a len : Nat) : Bool :=
  (decide (0x10000000 ≤ a) && decide (a + len ≤ 0x10800000)) ||
    (decide (dramBase ≤ a) && decide (a + len ≤ 0x2000000000))

/-- The populated size of the DRAM (R381). -/
def dramSize (s : Sys) : Nat := s.rd Key.Dmc.CHANNELS * s.rd Key.Dmc.RANKS * (if s.rdB Key.Dmc.DENSITY then 2 ^ 34 else 2 ^ 33)

/-- The DRAM controller serves accesses: it is powered and RUNNING, and no repair runs (R388, R392, R394). -/
def dramServes (s : Sys) : Bool :=
  s.rdBit Key.Dom.ENABLE 1 && decide (s.rd Key.DmcSt.STATE = 2) && decide (s.rd Key.Ppr.PPR_RESULT ≠ 3)

/-- An access of `len` bytes to shared SRAM or DRAM gets no bus error (R15, R392). -/
def reaches (s : Sys) (a len : Nat) : Bool :=
  (decide (0x10000000 ≤ a) && decide (a + len ≤ 0x10800000)) ||
    (decide (dramBase ≤ a) && decide (a + len ≤ dramBase + s.dramSize) && s.dramServes)

/-- The full DRAM address of a low-alias address; every other address is unchanged (R17). -/
def fullAddr (a : Nat) : Nat := if 0x80000000 ≤ a ∧ a ≤ 0xFFFFFFFF then a - 0x80000000 + dramBase else a

/-! ### Domains and blocks -/

/-- The domain of bit `d` is powered and its blocks have their clock (R453, R456, R457, R463): in NAP only SYS, the timebase
and the lanes run, unless they are gated; until the restore no domain is gated. -/
def domainOn (s : Sys) (d : Nat) : Bool :=
  match s.pw.state with
  | .off | .reset | .hold | .holdEntry => false
  | .nap | .napEntry => (decide (d = 15) || decide (2 ≤ d ∧ d ≤ 6)) && s.rdBit Key.Dom.ENABLE d && !s.pw.gated.testBit d
  | _ => s.rdBit Key.Dom.ENABLE d || decide (d = 15) || decide (s.rd Key.Restore.RESTORE_STATUS = 0)

/-- The bit of SOURCE that clocks domain `d`, where a PLL does (R11, R13). -/
def clockBit (d : Nat) : Option Nat :=
  if d = 0 then some 3 else if d = 1 then some 4 else if d = 6 then some 1 else if 7 ≤ d ∧ d ≤ 11 then some 2 else if d = 12 ∨ d = 13 then some 0 else if d = 14 then some 5 else none

/-- The clock of domain `d` has been switched to its PLL, or does not come from one that firmware starts (R14). -/
def clockRuns (s : Sys) (d : Nat) : Bool := (clockBit d).elim true (fun b => s.rdBit Key.Pll.SOURCE b)

/-- The blocks of domain `d` work: it is powered, and its clock has been switched (R14). -/
def runs (s : Sys) (d : Nat) : Bool := s.domainOn d && s.clockRuns d

/-- The mark timing units work: their domain runs, and TCLK, which clocks them, has been switched (R11, R14). -/
def mtuRuns (s : Sys) : Bool := s.runs 12 && s.rdBit Key.Pll.SOURCE 1

/-- The domain of channel `c` and of engine CE(c div 4) (R11). -/
def chDomain (c : Nat) : Nat := 7 + c / 4

/-- The domain of slot `n` (R12). -/
def slotDomain (n : Nat) : Nat := 7 + (if n < 48 then n / 12 else (n - 48) / 4)

/-- The core rails are on and no reset pin is low (R453, R459). -/
def powered (s : Sys) : Bool :=
  match s.pw.state with
  | .off | .reset | .hold | .holdEntry => false
  | _ => true

/-- The fabric, the object dictionary engine and DMA stand in NAP (R462, R464). -/
def engineStops (s : Sys) : Bool := decide (s.pw.state = .nap ∨ s.pw.state = .napEntry)

/-- Device time runs (R358): TIME_STATUS bit 0. -/
def timeRuns (s : Sys) : Bool := s.rdBit Key.TimeSt.TIME_STATUS 0

/-- Lasers may emit and heads may fire: ARMED with LSAFE_N high (R23, R56). -/
def mayEmit (s : Sys) : Bool := decide (s.dev = .armed) && s.pads.lsafe

end Sys

/-- What a command that acts on the power island, a pin or the part as a whole answers. -/
def onUnit (f : Sys → Sys) (s : State) : Host.Outcome State Fault Refusal := .next { s with toSys := f s.toSys }

/-- What a command that acts on the block answers: with the core rails off or a reset pin low nothing happens (R453, R459, R465). -/
def onSys (f : Sys → Sys) (s : State) : Host.Outcome State Fault Refusal := onUnit (fun s => if s.powered then f s else s) s

/-- What a command that acts on the blocks of domain `d` answers: without power or with their clock stopped nothing happens (R14). -/
def onBlock (d : Nat) (f : Sys → Sys) (s : State) : Host.Outcome State Fault Refusal := onSys (fun s => if s.runs d then f s else s) s

/-- Word `k` of the fuses, 0 where none is programmed (R441). -/
def State.otpWord (s : State) (k : Nat) : Nat := (Kv.get (fun _ => (0 : Word)) s.otp k).toNat

end Sys2Proof.Machine
end

