-- ==== Sys2Proof/Machine/DramMap.lean ====
section
/-! DEFINITION. DramMap: where a DRAM address lies (R381), the row under repair (R394), and how requests enter the controller's queues (R380, R383 to R385). -/

namespace Sys2Proof.Machine

open Sys2Proof

namespace Sys

/-! ### Addresses (R381) -/

/-- Where a full DRAM address lies: channel, rank, bank group, bank, row and burst. -/
structure DramPlace where
  ch : Nat
  rank : Nat
  bg : Nat
  ba : Nat
  row : Nat
  burst : Nat
  deriving DecidableEq, Repr

/-- Decode a full DRAM address (R381). -/
def dramPlace (s : Sys) (a : Nat) : DramPlace :=
  let o := a - dramBase
  let sh := if s.rd Key.Dmc.CHANNELS = 2 then 1 else 0
  let rowBits := if s.rdB Key.Dmc.DENSITY then 17 else 16
  let row := o / 2 ^ (17 + sh) % 2 ^ rowBits
  { ch := if sh = 1 then o / 64 % 2 else 0
    rank := if s.rd Key.Dmc.RANKS = 2 then o / 2 ^ (17 + sh + rowBits) % 2 else 0
    bg := (o / 2 ^ (6 + sh) % 8).xor (row % 8), ba := o / 2 ^ (9 + sh) % 4, row := row, burst := o / 2 ^ (11 + sh) % 64 }

/-- The address of a burst of a row (the inverse of `dramPlace`). -/
def dramAddr (s : Sys) (p : DramPlace) : Nat :=
  let sh := if s.rd Key.Dmc.CHANNELS = 2 then 1 else 0
  let rowBits := if s.rdB Key.Dmc.DENSITY then 17 else 16
  dramBase + (if sh = 1 then 64 * p.ch else 0) + (p.bg.xor (p.row % 8)) * 2 ^ (6 + sh) + p.ba * 2 ^ (9 + sh) +
    p.burst * 2 ^ (11 + sh) + p.row * 2 ^ (17 + sh) + p.rank * 2 ^ (17 + sh + rowBits)

/-- A repair as an entry of SOFT_REPAIRS (R395): that of the row and device set in `0810`. -/
def pprWord (s : Sys) : Nat :=
  s.rd Key.Ppr.PPR_CHANNEL % 2 + 2 * (s.rd Key.Ppr.PPR_RANK % 2) + 4 * (s.rd Key.Ppr.PPR_DEVICE % 8) + 32 * (s.rd Key.Ppr.PPR_BG % 8) +
    256 * (s.rd Key.Ppr.PPR_BA % 4) + 1024 * (s.rd Key.Ppr.PPR_ROW % 2 ^ 17) + 2 ^ 63

/-- The row of an entry of SOFT_REPAIRS (R395). -/
def pprPlace (w : Nat) : DramPlace :=
  { ch := w % 2, rank := w / 2 % 2, bg := w / 32 % 8, ba := w / 256 % 4, row := w / 1024 % 2 ^ 17, burst := 0 }

/-- The `n` bytes from an address are open: each becomes a free value. -/
def loseBytes (s : Sys) (a n : Nat) : Sys :=
  s.each (List.range n) (fun s i => s.setByte (a + i) (Config.dramByte (s.free + 2 ^ 32) (a + i)))

/-- The contents of a row are undefined after a repair (R394). -/
def loseRow (s : Sys) (w : Nat) : Sys :=
  (s.each (List.range 64) (fun s b => s.loseBytes (s.dramAddr { pprPlace w with burst := b }) 64)).useFree

/-! ### Queues (R380, R383 to R385) -/

/-- A bank as one number, for comparison. -/
def bankOf (p : DramPlace) : Nat := p.rank * 32 + p.bg * 4 + p.ba

/-- Channel `c` of the controller. -/
def dch (s : Sys) (c : Nat) : DramChan := s.dram.chans.getD c {}

/-- Change channel `c`. -/
def modDch (s : Sys) (c : Nat) (f : DramChan → DramChan) : Sys :=
  { s with dram := { s.dram with chans := s.dram.chans.setIfInBounds c (f (s.dch c)) } }

/-- The addresses among the `n` from `a` on whose bytes were stored with bad parity (R380). -/
def badStored (s : Sys) (a n : Nat) : List Nat := s.dram.bad.filter (fun x => decide (a ≤ x ∧ x < a + n))

/-- The parity of `n` stored bytes (R380): the addresses in `l` are those stored with bad parity. -/
def setBad (s : Sys) (a n : Nat) (l : List Nat) : Sys :=
  { s with dram := { s.dram with bad := s.dram.bad.filter (fun x => decide (x < a ∨ a + n ≤ x)) ++ l } }

/-- The addresses from `a` on that a mask of bytes names. -/
def maskAddrs (a n mask : Nat) : List Nat := ((List.range n).filter (fun i => mask.testBit i)).map (fun i => a + i)

/-- A request that does not cross the end of its burst enters the queue of its channel (R384, R385). A write is answered, and its bytes are
visible, from there on, with their parity as delivered (R380): `bad` has a bit for each byte that came with bad parity. A read is to return
what the writes before it left. -/
def dramEnter (s : Sys) (m : Nat) (write : Bool) (a n : Nat) (data : List Nat) (bad : Nat) : Sys :=
  let p := s.dramPlace a
  let q := (s.dch p.ch).queue
  let bank (r : DramReq) : Bool := decide (bankOf (s.dramPlace r.addr) = bankOf p)
  let ordered := q.any (fun r => bank r && r.during)
  let meets := q.any (fun r => bank r && decide ((s.dramPlace r.addr).row = p.row))
  let s := s.when (!ordered && meets) (fun s => s.inc Key.DmcCnt.IN_ORDER)
  let r : DramReq := { write := write, addr := a, len := n, master := m, at_ := s.clk, during := ordered || meets
                       old := if write then s.bytes a n else [], oldBad := if write then s.badStored a n else []
                       val := if write then 0 else s.ld a n }
  let s := s.modDch p.ch (fun d => { d with queue := d.queue ++ [r] })
  if write then (s.setBytes a (data.take n)).setBad a n (maskAddrs a n bad) else s

/-- A master's write to the DRAM, burst by burst (R383, R405). -/
def dramPost (s : Sys) (m a : Nat) (data : List Nat) (bad : Nat) : Sys :=
  let base := a / 64 * 64
  s.each (List.range ((a % 64 + data.length + 63) / 64)) (fun s k =>
    let from_ := max a (base + 64 * k)
    let n := min (a + data.length) (base + 64 * k + 64) - from_
    s.dramEnter m true from_ n (data.drop (from_ - a)) (bad / 2 ^ (from_ - a)))

/-- The lines of these bytes are in an L1 of an AP hart, and so in the L2, which includes the L1s (R425, R426). -/
def inL2 (s : Sys) (a n : Nat) : Bool :=
  (List.range ((a % 64 + n + 63) / 64)).all (fun k => s.core.lines.any (fun l => decide (l.at_ = a / 64 * 64 + 64 * k)))

/-- SV's reservation in the L2 is lost to a write of another master to its bytes (R424, log entry 34). -/
def breakSv (s : Sys) (a n : Nat) : Sys :=
  { s with core := { s.core with reserved := s.core.reserved.filter (fun r => !(decide (r.1 = 4) && decide (r.2.1 < a + n ∧ a < r.2.1 + r.2.2))) } }

/-- A master's write to memory: into the L2 where it holds the lines (R426), else to the DRAM by way of the controller's queues. -/
def busStore (s : Sys) (m a : Nat) (data : List Nat) (bad : Nat) : Sys :=
  let s := s.when (decide (m ≠ 0)) (fun s => s.breakSv a data.length)
  if dramBase ≤ a ∧ !s.inL2 a data.length then s.dramPost m a data bad else s.setBytes a data

/-- A write of these bytes finds a queue of its channels full (R383). -/
def dramFull (s : Sys) (a n : Nat) : Bool :=
  decide (dramBase ≤ a) && !s.inL2 a n && (List.range ((a % 64 + n + 63) / 64)).any (fun k => decide (64 ≤ (s.dch (s.dramPlace (a + 64 * k)).ch).queue.length))

end Sys

end Sys2Proof.Machine
end

