-- ==== Sys2Proof/Machine/Send.lean ====
section
/-! DEFINITION. Send: how frames leave the unit: layout and check codes (R76, R77), the output queues with their priorities and credits (R70, R73, R82, R83), the UDP gateway (R98, R100), and the CREDIT and ALARM frames (R91, R96). -/

namespace Sys2Proof.Machine

open Sys2Proof

/-! ### Layout (R76) -/

/-- Bytes 0 to 13 of a frame. -/
def frameHead (f : Frame) : List Nat :=
  [f.dest % 256, f.src % 256, (f.cls % 4) * 64 + f.typ % 64, b2n f.looped + 2 * b2n f.ts + 4 * (f.flags % 64)] ++ le 2 f.seq ++ le 2 f.len
    ++ le 6 (trunc 48 f.corr)

/-- The header check of a frame. -/
def hcrcOf (f : Frame) : Nat := crc16 (frameHead f)

/-- The CRC-32 of a frame: over all of it, with bytes 3 and 8 to 15 taken as zero. -/
def crcOf (f : Frame) : Nat :=
  crc32 ([f.dest % 256, f.src % 256, (f.cls % 4) * 64 + f.typ % 64, 0] ++ le 2 f.seq ++ le 2 f.len
    ++ List.replicate 8 0 ++ f.payload)

/-- A frame as it lies in a datagram: from DEST to CRC-32 (R99). -/
def frameBytes (f : Frame) : List Nat := frameHead f ++ le 2 f.hcrc ++ f.payload ++ le 4 f.crc

/-- The receive cells a frame takes (R82). -/
def cellsOf (len : Nat) : Nat := (20 + len + 63) / 64

/-- Set the header check anew (R77). -/
def sealFrame (f : Frame) : Frame := { f with hcrc := hcrcOf f }

/-- The fixed class of a listed type (R79), if the type is listed. -/
def classOf (typ : Nat) : Option Nat :=
  if typ = 1 ∨ typ = 2 ∨ typ = 3 ∨ typ = 0x0A ∨ typ = 0x0B then some 2
  else if typ = 4 ∨ typ = 5 then some 1
  else if typ = 6 ∨ typ = 7 ∨ typ = 8 ∨ typ = 9 then some 0
  else none

/-! ### Counts per class -/

/-- The count of a class. -/
def Trip.get (t : Trip) (cls : Nat) : Nat :=
  if cls = 0 then t.indigo else if cls = 1 then t.ochre else t.slate

/-- Set the count of a class. -/
def Trip.set (t : Trip) (cls v : Nat) : Trip :=
  if cls = 0 then { t with indigo := v } else if cls = 1 then { t with ochre := v } else { t with slate := v }

/-- The receive cells of each class (R82). -/
def fullCells : Trip := { indigo := 8, ochre := 408, slate := 96 }

/-- The output queue of a class. -/
def Port.txq (p : Port) (cls : Nat) : TxQ :=
  if cls = 0 then p.txIndigo else if cls = 1 then p.txOchre else p.txSlate

/-- Set the output queue of a class. -/
def Port.setTxq (p : Port) (cls : Nat) (q : TxQ) : Port :=
  if cls = 0 then { p with txIndigo := q } else if cls = 1 then { p with txOchre := q } else { p with txSlate := q }

/-! ### Stamps (R336, R369) -/

/-- A rate in kbit/s (R336). -/
def rateKbit (code : Nat) : Nat := [1250000, 2500000, 3125000, 5000000, 6250000, 10312500, 12500000, 25781250].getD code 0

/-- The corrections of a chain stamp by the rate code of its port, TX and RX, to the nearest 2^-16 ns (R369). -/
def stampCorr (code : Nat) : Int × Int :=
  if code = 7 then (2516582, -3414426)
  else if code = 5 then (5537792, -7654605)
  else if code = 6 then (3040870, -4037018)
  else (5767168, -7759462)

namespace Sys

/-! ### Ports -/

/-- Port `p` (0 for A, 1 for B). -/
def port (s : Sys) (p : Nat) : Port := s.chain.ports.getD p {}

/-- Change port `p`. -/
def modPort (s : Sys) (p : Nat) (f : Port → Port) : Sys :=
  { s with chain := { s.chain with ports := s.chain.ports.setIfInBounds p (f (s.port p)) } }

/-- Port `p` is UP (R74). -/
def portUp (s : Sys) (p : Nat) : Bool := decide (s.rd (Key.Port.STATE p) = 3)

/-- The unit's chain address. -/
def address (s : Sys) : Nat := s.rd Key.Chain.CHAIN_ADDRESS

/-- The stamp of a frame that leaves port `p` now (R369). -/
def stampOut (s : Sys) (p : Nat) : Int := s.stamp + (stampCorr (s.port p).rate).1

/-- The stamp of a frame that has arrived at port `p`, by the device time as it stands (R369): when the first bit of its start symbol was
at the balls. A slip of word alignment means so many bits more before the word (DESIGN CHOICE, log entry 27). A frame from the gateway (2)
has come by no port. -/
def stampIn (s : Sys) (p : Nat) (f : Frame) : Int :=
  if 2 ≤ p then s.stamp
  else (s.stamp : Int) - f.phase + (stampCorr (s.port p).rate).2 - ((f.slip * 1000000 * 65536 / max 1 (rateKbit (s.port p).rate) : Nat) : Int)

/-- The keys of the link delay of a port. -/
def delayKey (p : Nat) : Nat := if p = 0 then Key.Delay.DELAY_A else Key.Delay.DELAY_B

/-- Receive cells of a port become free. At a port that is UP they are returned, in a Credit symbol once 8 cells of the class are free
(R83); at a looped one they are the loopback's own (R82). -/
def freeCells (s : Sys) (p cls n : Nat) : Sys :=
  let s := s.modPort p (fun q => { q with held := q.held.set cls (q.held.get cls - n) })
  if !s.portUp p then s
  else
    let s := s.modPort p (fun q => { q with freed := q.freed.set cls (q.freed.get cls + n) })
    let have_ := (s.port p).freed.get cls
    if 8 ≤ have_ then (s.modPort p (fun q => { q with freed := q.freed.set cls 0 })).emit (.credit p cls have_)
    else s

/-- The class whose frame leaves port `q` next with `credit` cells granted (R73): Indigo first; three Ochre frames to one Slate frame
while both wait; a frame needs credit for all of its cells. -/
def nextClass (q : Port) (credit : Trip) : Option Nat :=
  let ready (cls : Nat) : Bool :=
    match (if (q.txq cls).loc ≠ [] ∧ ((q.txq cls).fwd = [] ∨ 4 ≤ (q.txq cls).passed) then (q.txq cls).loc.head?
      else (q.txq cls).fwd.head?) with
    | some i => decide (cellsOf i.f.len ≤ credit.get cls)
    | none => false
  if ready 0 then some 0
  else if ready 1 && ready 2 then (if 3 ≤ q.ochreRun then some 2 else some 1)
  else if ready 1 then some 1
  else if ready 2 then some 2
  else none

/-- A frame of TS as it leaves port `p` (R77, R78, R371, R372): CORR takes the time from its stamp, or from when the unit made it, to its
departure, less than 0 where device time has stepped back meanwhile, and the LINK_DELAY of the port it arrived on. -/
def departing (s : Sys) (p : Nat) (i : TxItem) : Frame :=
  if i.f.ts then sealFrame { i.f with corr := i.f.corr + (s.stampOut p - i.arrived) + (i.from_.elim 0 (fun h => s.rd (delayKey h)) : Nat) } else i.f

/-- A DELAY_REQ of the unit's own leaves the port it measures: its departure is t1 (R370). -/
def askedNow (s : Sys) (p : Nat) (i : TxItem) : Sys :=
  if i.from_.isNone ∧ i.f.typ = 7 ∧ i.f.src = s.address ∧ i.f.payload[2]? = some p then
    s.modPort p (fun r => { r with asked := some (unle (i.f.payload.take 2), s.stampOut p), askedAt := s.clk })
  else s

/-- Send the next frame of port `p`, if one can leave: its credit is deducted, and the receive cells it held are freed. -/
def sendOne (s : Sys) (p : Nat) : Sys :=
  match nextClass (s.port p) (s.port p).credit with
  | none => s
  | some cls =>
    let q := (s.port p).txq cls
    let local_ := decide (q.loc ≠ [] ∧ (q.fwd = [] ∨ 4 ≤ q.passed))
    match (if local_ then q.loc.head? else q.fwd.head?) with
    | none => s
    | some i =>
      let q' : TxQ := if local_ then { q with loc := q.loc.tail, passed := 0 }
        else { q with fwd := q.fwd.tail, passed := if q.loc = [] then 0 else q.passed + 1 }
      let other := decide (((s.port p).txq (3 - cls)).fwd ≠ [] ∨ ((s.port p).txq (3 - cls)).loc ≠ [])
      let n := cellsOf i.f.len
      let s := s.modPort p (fun r => { r.setTxq cls q' with
        credit := r.credit.set cls (r.credit.get cls - n)
        ochreRun := if cls = 1 ∧ other then r.ochreRun + 1 else if cls = 2 ∨ cls = 1 then 0 else r.ochreRun })
      let s := ((s.askedNow p i).inc64 (Key.Port.FRAMES_TX p)).emit (.frame p (s.departing p i))
      match i.held with
      | some h => s.freeCells h cls n
      | none => s

/-- How many frames wait at port `p`. -/
def waiting (s : Sys) (p : Nat) : Nat :=
  let q := s.port p
  [q.txIndigo, q.txOchre, q.txSlate].foldl (fun n x => n + x.fwd.length + x.loc.length) 0

/-- Put a frame of the unit's own, or one that it forwards, into the queue of port `p`. -/
def queue (s : Sys) (p : Nat) (i : TxItem) : Sys :=
  s.modPort p (fun q =>
    let t := q.txq i.f.cls
    q.setTxq i.f.cls (if i.from_.isSome then { t with fwd := t.fwd ++ [i] } else { t with loc := t.loc ++ [i] }))

/-- The receive cells of a looped port that its loopback can still use (R82). -/
def loopCells (q : Port) : Trip :=
  { indigo := fullCells.indigo - q.held.indigo, ochre := fullCells.ochre - q.held.ochre, slate := fullCells.slate - q.held.slate }

/-- The next frame that waits at a looped port turns back there, with LOOPED set, once the loopback has cells for it: it gives up those
of the port it arrived on, and waits at the other port (R68, R82). -/
def turnBack (s : Sys) (q : Nat) : Sys :=
  if s.portUp q then s
  else
    match nextClass (s.port q) (loopCells (s.port q)) with
    | none => s
    | some cls =>
      match ((s.port q).txq cls).fwd with
      | [] => s
      | i :: rest =>
        let n := cellsOf i.f.len
        let s := s.modPort q (fun r => { r.setTxq cls { r.txq cls with fwd := rest } with held := r.held.set cls (r.held.get cls + n) })
        let s := i.held.elim s (fun h => s.freeCells h cls n)
        s.queue (1 - q) { i with f := sealFrame { i.f with looped := true }, held := some q }

/-- Send what can leave port `p`, with what turns back at the other port. -/
def pump (s : Sys) (p : Nat) : Sys :=
  if s.portUp p then
    iter (fun s => (s.turnBack (1 - p)).when (!(s.port p).hold) (fun s => s.sendOne p)) (s.waiting p + 2 * s.waiting (1 - p)) s
  else s

/-- A frame joins the queue of port `p`, and what can leave the unit leaves. -/
def enqueue (s : Sys) (p : Nat) (i : TxItem) : Sys := (s.queue p i).pump p

/-! ### The gateway (R98, R100) -/

/-- The one's complement sum of 16-bit big-endian words. -/
def ipSum : List Nat → Nat
  | [] => 0
  | [a] => a * 256
  | a :: b :: t => a * 256 + b + ipSum t

/-- The Internet checksum of bytes. -/
def ipCheck (l : List Nat) : Nat :=
  let v := iter (fun x => x % 65536 + x / 65536) 3 (ipSum l)
  65535 - v

/-- A value in `n` bytes, most significant first, as Ethernet and IP carry it. -/
def be (n v : Nat) : List Nat := (le n v).reverse

/-- Change what the transmitter of MAC `m` holds. -/
def modMac (s : Sys) (m : Nat) (f : MacRun → MacRun) : Sys :=
  { s with chain := { s.chain with macs := s.chain.macs.setIfInBounds m (f (s.chain.macs.getD m {})) } }

/-- A frame of the gateway waits for the transmitter of MAC `m` (R353); while its link is not UP it is discarded (R350). -/
def gatewayFrame (s : Sys) (m : Nat) (d : List Nat) : Sys :=
  if s.rd (Key.Mac.LINK m) = 3 then s.modMac m (fun q => { q with gw := q.gw ++ [d] }) else s.inc (Key.MacCnt.TX_DISCARDED m)

/-- The link of MAC `m` leaves UP: the frames of the gateway that wait are discarded (R350). -/
def dropDatagrams (s : Sys) (m : Nat) : Sys :=
  (s.add (Key.MacCnt.TX_DISCARDED m) 32 (s.chain.macs.getD m {}).gw.length).modMac m (fun q => { q with gw := [] })

/-- The gateway sends bytes as a datagram to the host, with the header of R100. -/
def sendDatagram (s : Sys) (data : List Nat) : Sys :=
  let ulen := 8 + data.length
  let ip0 := [0x45, 0] ++ be 2 (20 + ulen) ++ be 2 s.chain.ident ++ be 2 0x4000 ++ [64, 17]
  let addrs := be 4 (s.rd Key.Gw.LOCAL_IP) ++ be 4 (s.rd Key.Gw.HOST_IP)
  let ip := ip0 ++ be 2 (ipCheck (ip0 ++ addrs)) ++ addrs
  let udp0 := be 2 (s.rd Key.Gw.UDP_PORT) ++ be 2 (s.rd Key.Gw.HOST_PORT) ++ be 2 ulen
  let sum := ipCheck (addrs ++ [0, 17] ++ be 2 ulen ++ udp0 ++ data)
  let udp := udp0 ++ be 2 (if sum = 0 then 65535 else sum)
  let eth := be 6 (s.rd Key.Gw.HOST_MAC) ++ be 6 (s.rd Key.Gw.LOCAL_MAC) ++ [0x08, 0x00]
  let m := s.rd Key.Gw.MAC % 2
  let s := { s with chain := { s.chain with ident := (s.chain.ident + 1) % 65536 } }
  (s.when (decide (s.rd (Key.Mac.LINK m) = 3)) (fun s => s.inc Key.Gw.TX_DATAGRAMS)).gatewayFrame m (eth ++ ip ++ udp ++ data)

/-- The unit is a gateway (R98). -/
def isGateway (s : Sys) : Bool := s.rdB Key.Gw.ENABLE

/-! ### Frames of the unit's own (R70) -/

/-- Send one frame out of each of the given ports that is UP, or out of the one that is (R70). A frame of the unit's own that finds its
port not UP leaves by the other with LOOPED clear, since the unit loops back only what it forwards (DEDUCED, log entry 47); with no port
UP it is lost. -/
def sendPorts (s : Sys) (ports : List Nat) (f : Frame) : Sys :=
  let live := ports.filter (fun p => s.portUp p)
  let go := if live = [] then [0, 1].filter (fun p => s.portUp p) else live
  s.each go (fun s p => s.enqueue p { f := f, arrived := s.stamp, twin := decide (2 ≤ go.length) })

/-- The unit originates a frame (R70, R77): to the host out of its host port, everything else out of both ports. A
gateway gives frames for the host, and its own broadcasts, to the host as datagrams (R98). -/
def originate (s : Sys) (dest typ : Nat) (ts : Bool) (corr : Int) (payload : List Nat) : Sys :=
  let f0 : Frame :=
    { dest := dest, src := s.address, cls := (classOf typ).getD 2, typ := typ, ts := ts, seq := s.chain.seq,
      corr := corr, payload := payload, len := payload.length }
  let f := { f0 with hcrc := hcrcOf f0, crc := crcOf f0 }
  let s := { s with chain := { s.chain with seq := (s.chain.seq + 1) % 65536 } }
  if dest = 0xFE then
    if s.isGateway then s.sendDatagram (frameBytes f)
    else if s.rd Key.Pos.HOST_PORT < 2 then s.sendPorts [s.rd Key.Pos.HOST_PORT] f
    else s.sendPorts [0, 1] f
  else
    (s.when (s.isGateway && decide (dest = 0xFF)) (fun s => s.sendDatagram (frameBytes f))).sendPorts [0, 1] f

/-- The unit originates a frame that leaves through port `p` alone, whatever its destination (R86, R370). An
answer to a request that came through the gateway (2) leaves as any frame of the unit (R98). -/
def originateAt (s : Sys) (p dest typ : Nat) (ts : Bool) (corr : Int) (payload : List Nat) : Sys :=
  if 2 ≤ p then s.originate dest typ ts corr payload else
  let f0 : Frame :=
    { dest := dest, src := s.address, cls := (classOf typ).getD 2, typ := typ, ts := ts, seq := s.chain.seq,
      corr := corr, payload := payload, len := payload.length }
  let f := { f0 with hcrc := hcrcOf f0, crc := crcOf f0 }
  { s with chain := { s.chain with seq := (s.chain.seq + 1) % 65536 } }.sendPorts [p] f

/-! ### ALARM and CREDIT -/

/-- Send an ALARM (R91): kind, items, fault code, detection time and takeover instant. -/
def sendAlarm (s : Sys) (kind code detect takeover : Nat) (items : List Nat) : Sys :=
  let s := { s with smp := { s.smp with alarms := s.smp.alarms + 1 } }
  s.originate 0xFF 9 false 0 ([kind, items.length % 256] ++ le 2 code ++ le 8 detect ++ le 8 takeover ++ items)

/-- Endpoint `n`. -/
def endpoint (s : Sys) (n : Nat) : Endpoint := s.chain.eps.getD n {}

/-- Change endpoint `n`. -/
def modEndpoint (s : Sys) (n : Nat) (f : Endpoint → Endpoint) : Sys :=
  { s with chain := { s.chain with eps := s.chain.eps.setIfInBounds n (f (s.endpoint n)) } }

/-- Endpoint `n` sends a CREDIT to 0xFE (R96), with LIMIT the released offset plus the ring length. -/
def sendCredit (s : Sys) (n reason : Nat) : Sys :=
  let rel := s.rd (Key.EpSt.RELEASE_OFFSET n)
  let s := s.originate 0xFE 5 false 0 ([n, reason, 0, 0] ++ le 4 (s.rd (Key.EpSt.NEXT_OFFSET n)) ++
    le 4 ((rel + s.rd (Key.Ep.RING_LEN n)) % 2 ^ 32))
  s.modEndpoint n (fun e => { e with lastCredit := rel, periodRuns := true, creditAt := s.clk })

/-- A consumer has released bytes of endpoint `n` (R19, R96): once CREDIT_STEP bytes are free since the last CREDIT
and CREDIT_PERIOD is over, a CREDIT with reason 0 leaves. -/
def maybeCredit (s : Sys) (n : Nat) : Sys :=
  let rel := s.rd (Key.EpSt.RELEASE_OFFSET n)
  if s.rdB (Key.Ep.ENABLE n) && !(s.endpoint n).periodRuns &&
      decide (s.rd (Key.Ep.CREDIT_STEP n) ≤ (rel + 2 ^ 32 - (s.endpoint n).lastCredit) % 2 ^ 32) then s.sendCredit n 0
  else s

/-- A consumer releases the ring of endpoint `n` up to an offset (R19). -/
def release (s : Sys) (n off : Nat) : Sys := (s.wr (Key.EpSt.RELEASE_OFFSET n) (off % 2 ^ 32)).maybeCredit n

end Sys

end Sys2Proof.Machine
end

