-- ==== Sys2Proof/Machine/Base.lean ====
section
/-! DEFINITION. Base: the small operations on channels, slots, groups, axes and updates that reactions and device state changes use before the blocks' own rules take over. -/

namespace Sys2Proof.Machine

open Sys2Proof

namespace Sys

/-! ### Parts of the state by number -/

/-- Scan channel `c`. -/
def ch (s : Sys) (c : Nat) : Scu := s.scu.getD c {}

/-- Change scan channel `c`. -/
def modCh (s : Sys) (c : Nat) (f : Scu → Scu) : Sys := { s with scu := s.scu.setIfInBounds c (f (s.ch c)) }

/-- Slot `n`. -/
def slot (s : Sys) (n : Nat) : Slot := s.slots.getD n {}

/-- Change slot `n`. -/
def modSlot (s : Sys) (n : Nat) (f : Slot → Slot) : Sys := { s with slots := s.slots.setIfInBounds n (f (s.slot n)) }

/-- Melt-pool loop `c`. -/
def loop (s : Sys) (c : Nat) : Mpl := s.mpl.getD c {}

/-- Change melt-pool loop `c`. -/
def modLoop (s : Sys) (c : Nat) (f : Mpl → Mpl) : Sys := { s with mpl := s.mpl.setIfInBounds c (f (s.loop c)) }

/-- Zone `z` of channel `c`. -/
def zone (s : Sys) (c z : Nat) : ZoneRun := s.stitch.zones.getD (8 * c + z) {}

/-- Change zone `z` of channel `c`. -/
def modZone (s : Sys) (c z : Nat) (f : ZoneRun → ZoneRun) : Sys :=
  { s with stitch := { s.stitch with zones := s.stitch.zones.setIfInBounds (8 * c + z) (f (s.zone c z)) } }

/-- Print group `g`. -/
def group (s : Sys) (g : Nat) : Group := s.groups.getD g {}

/-- Change print group `g`. -/
def modGroup (s : Sys) (g : Nat) (f : Group → Group) : Sys := { s with groups := s.groups.setIfInBounds g (f (s.group g)) }

/-- Axis `a`. -/
def axis (s : Sys) (a : Nat) : Ax := s.axes.getD a {}

/-- Change axis `a`. -/
def modAxis (s : Sys) (a : Nat) (f : Ax → Ax) : Sys := { s with axes := s.axes.setIfInBounds a (f (s.axis a)) }

/-- Table update `u`: 0 to 15 the hoop tables, 16 to 47 the maps of heads 0 to 31. -/
def update (s : Sys) (u : Nat) : Update := s.cal.updates.getD u {}

/-- Change table update `u`. -/
def modUpdate (s : Sys) (u : Nat) (f : Update → Update) : Sys :=
  { s with cal := { s.cal with updates := s.cal.updates.setIfInBounds u (f (s.update u)) } }

/-- Lane `l` as no entry shows it. -/
def lane (s : Sys) (l : Nat) : LaneRun := s.lanes.getD l {}

/-- Change lane `l`. -/
def modLane (s : Sys) (l : Nat) (f : LaneRun → LaneRun) : Sys := { s with lanes := s.lanes.setIfInBounds l (f (s.lane l)) }

/-- A lane enters a stage (R341). -/
def laneStage (s : Sys) (l stage : Nat) : Sys :=
  ((s.wr (Key.Lane.STAGE l) stage).wrB (Key.Lane.IN_USE l) (decide (stage = 4 ∨ stage = 5))).modLane l (fun q =>
    { q with since := s.clk, caps := 0, seen := false, sent := 0, gotSeen := false, capAt := s.clk, skewed := false, skewFail := false })

/-! ### Interrupts -/

/-- Raise an interrupt source; a raise while it is pending or claimed is merged (R432). -/
def raise (s : Sys) (src : Nat) : Sys :=
  if src ∈ s.plic.pending ∨ src ∈ s.plic.claimed.map (fun c => c.1) then s
  else { s with plic := { s.plic with pending := s.plic.pending ++ [src] } }

/-! ### Record rings (R191, R231, R279) -/

/-- Put a record into a ring whose address, length, head, tail and lost count are at the given entries: it is full when
the next record would make HEAD equal TAIL; a length of 0 writes nothing (R191). The write of master `m` passes `check`, the checks of the
fabric (R15, R447); a record that gets a bus error is lost (DEDUCED, log entry 43). -/
def ringPut (s : Sys) (m : Nat) (check : Sys → Nat → Nat → Sys × Bool) (addr len head tail lost : Nat) (rec : List Nat) : Sys :=
  if s.rd len = 0 then s
  else
    let h := s.rd head
    let h' := (h + rec.length) % s.rd len
    if h' = s.rd tail then s.inc lost
    else
      let g := check s (s.rd addr + h) rec.length
      if g.2 then (g.1.busStore m (s.rd addr + h) rec 0).wr head h' else g.1.inc lost

/-! ### Captures (R367, R368) -/

/-- Capture unit `n` takes an event with this stamp (R368). -/
def captureStamp (s : Sys) (n stamp : Nat) : Sys :=
  let q := s.tb.fifos.getD n []
  let s := (s.wr (Key.Cap.LAST_TIME n) stamp).inc (Key.Cap.COUNT n)
  let s := if q.length < 16 then { s with tb := { s.tb with fifos := s.tb.fifos.setIfInBounds n (q ++ [stamp]) } }
    else s.inc (Key.Cap.LOST n)
  s.raise 52

/-- Every capture unit whose SOURCE is the given one takes an event (R367). TMB gated: nothing is stamped (R464). -/
def captureSource (s : Sys) (src stamp : Nat) : Sys :=
  if s.runs 6 then
    s.each (List.range 32) (fun s n => s.when (decide (s.rd (Key.Cap.SOURCE n) = src)) (fun s => s.captureStamp n stamp))
  else s

/-- EDGE of capture unit `n` names edges of this kind (R367). -/
def edgeKind (s : Sys) (n : Nat) (rising : Bool) : Bool :=
  decide (s.rd (Key.Cap.EDGE n) = 2 ∨ s.rd (Key.Cap.EDGE n) = if rising then 0 else 1)

/-- Change what the input filter of capture unit `n` holds. -/
def setEdge (s : Sys) (n : Nat) (v : Option (Bool × Nat × Nat)) : Sys := { s with tb := { s.tb with edges := s.tb.edges.setIfInBounds n v } }

/-- An edge at the pin of capture unit `n` (R367): it counts at once without a filter, else once its level has stood for FILTER ns; a level
that does not stand so long has no edge at either end. -/
def captureEdge (s : Sys) (n : Nat) (rising : Bool) : Sys :=
  if s.rd (Key.Cap.FILTER n) = 0 then (s.setEdge n none).when (s.edgeKind n rising) (fun s => s.captureStamp n s.now)
  else if (s.tb.edges.getD n none).isSome then s.setEdge n none
  else s.setEdge n (some (rising, s.now, s.clk + s.rd (Key.Cap.FILTER n)))

/-- Every capture unit whose SOURCE is the given pin takes an edge (R367). TMB gated: nothing is stamped (R464). -/
def capturePin (s : Sys) (src : Nat) (rising : Bool) : Sys :=
  if s.runs 6 then s.each (List.range 32) (fun s n => s.when (decide (s.rd (Key.Cap.SOURCE n) = src)) (fun s => s.captureEdge n rising)) else s

/-- An edge that has stood for FILTER is stamped with the device time at which it was at the ball (R367). -/
def captureTick (s : Sys) (n : Nat) : Sys :=
  match s.tb.edges.getD n none with
  | some (rising, t, due) => if due ≤ s.clk then (s.setEdge n none).when (s.edgeKind n rising) (fun s => s.captureStamp n t) else s
  | none => s

/-! ### Channels (R136 to R143) -/

/-- The state of channel `c` (R136). -/
def chState (s : Sys) (c : Nat) : Nat := s.rd (Key.Ch.STATE c)

/-- Set the state of a channel; HELD and HALTED raise its interrupt (R146). -/
def setChState (s : Sys) (c st : Nat) : Sys :=
  (s.wr (Key.Ch.STATE c) st).when (decide ((st = 3 ∨ st = 5) ∧ s.chState c ≠ st)) (fun s => s.raise (2 + c))

/-- Record the cause of the last stop, hold or refusal, with its time (R146). -/
def setChCause (s : Sys) (c cause : Nat) : Sys := (s.wr (Key.Ch.CAUSE c) cause).wr (Key.Ch.CAUSE_TIME c) s.now

/-- A safe stop of channel `c` (R137): it acts on a RUNNING or HELD channel. The gate request closes now; the ramp runs
in the samples that follow. A pause or a controlled stop that is pending is overridden (R143). -/
def safeStop (s : Sys) (c cause : Nat) : Sys :=
  if s.chState c = 2 ∨ s.chState c = 3 then
    ((s.setChState c 4).setChCause c cause).modCh c (fun q =>
      { q with ramp := some { vx := q.vx, vy := q.vy, vz := 0, cause := cause }, closed := some s.now, halt := none, pause := false })
  else s

/-- The stop of a channel one of whose slots has lost its feedback (R144): each axis ramps on its own. An IDLE channel stops too, with
nothing to report. Where the channel is STOPPING already, this stop takes its place, with its cause (DESIGN CHOICE, log entry 50). -/
def slotStop (s : Sys) (c : Nat) : Sys :=
  let st := s.chState c
  if 1 ≤ st ∧ st ≤ 4 then
    ((s.setChState c 4).setChCause c 15).modCh c (fun q =>
      { q with ramp := some { vx := q.vx, vy := q.vy, vz := q.vz, own := true, cause := 15 }
               closed := if st = 1 then none else if st = 4 then q.closed else some s.now, halt := none, pause := false })
  else s

/-- Entry to FAULT, for channels (R142): a channel that is stopping already goes on, with cause DEVICE_FAULT. -/
def chFault (s : Sys) (c : Nat) : Sys := if s.chState c = 4 then s.setChCause c 17 else s.safeStop c 17

/-- Consumers of job streams run in READY and ARMED only (R56). -/
def consumersRun (s : Sys) : Bool := decide (s.dev = .ready ∨ s.dev = .armed)

/-! ### Slots (R166, R170) -/

/-- The state of slot `n` (R166). -/
def slotState (s : Sys) (n : Nat) : Nat := s.rd (Key.Slot.STATE n)

/-- Set the state of a slot with the CAUSE of the change. -/
def setSlotState (s : Sys) (n st cause : Nat) : Sys := (s.wr (Key.Slot.STATE n) st).wr (Key.Slot.CAUSE n) cause

/-- Encoder `e`. -/
def enc (s : Sys) (e : Nat) : Encoder := s.pen.encs.getD e {}

/-- Change encoder `e`. -/
def modEnc (s : Sys) (e : Nat) (f : Encoder → Encoder) : Sys := { s with pen := { s.pen with encs := s.pen.encs.setIfInBounds e (f (s.enc e)) } }

/-- The inner period of a slot in ns (R148): of its channel's trigger, or of its own. -/
def slotTrigger (s : Sys) (n : Nat) : Nat := if n < 48 then s.rd (Key.Ch.TRIGGER (n / 3)) else s.rd (Key.Slot.TRIGGER n)

/-- The period of a trigger. -/
def trigPeriod (s : Sys) (t : Nat) : Nat := s.rd (Key.Trig.PERIOD t)

/-- Begin the output ramp of COAST or RAMP_DOWN (R166): ceil(T_COAST / inner period) samples from the present output.
`done_` takes the ramp as complete (OUTPUT_READBACK). -/
def startRamp (s : Sys) (n : Nat) (done_ : Bool) : Sys :=
  let per := max 1 (s.trigPeriod (s.slotTrigger n))
  let len := (s.rd (Key.SlotOut.T_COAST n) * 1000 + per - 1) / per
  s.modSlot n (fun q => { q with rampFrom := if done_ then 0 else q.u, rampLen := if done_ then 0 else max 1 len, rampPos := 0, u := if done_ then 0 else q.u,
                                  blend := none, approaching := false, leaving := false })

/-- A slot goes to OFF: integrators, biquad states and history are zero (R166). Its repetitive memory stays (R165), and so do the readings
of its front end (R167). The code changes where a sample writes it (R170). -/
def slotOff (s : Sys) (n cause : Nat) : Sys :=
  let q := s.slot n
  ((s.setSlotState n 0 cause).wr (Key.SlotMon.FLAGS n) 0).modSlot n (fun _ =>
    { raw := q.raw, y := q.y, vm := q.vm, postY := q.postY, due := q.due, seenEdge := q.seenEdge, rangeRun := q.rangeRun, lineBreak := q.lineBreak
      cells := q.cells, rc := q.rc, rcSince := q.rcSince, rcEvent := q.rcEvent, mail := q.mail, own := q.own })

/-- GO_CONFIG from READY and entry to FAULT ask a closed slot to ramp down once its owner rests or FAULT_HOLD is over
(R170). -/
def slotLeave (s : Sys) (n : Nat) : Sys :=
  if s.slotState n = 1 ∨ s.slotState n = 2 then
    s.modSlot n (fun q => { q with leaving := true, leaveAt := s.clk + s.rd (Key.SlotFe.FAULT_HOLD n) * 1000000 })
  else s

/-! ### Print groups and axes -/

/-- The state of group `g` (R281). -/
def grpState (s : Sys) (g : Nat) : Nat := s.rd (Key.Grp.STATE g)

/-- Set the state of a group, which raises its interrupt (R432). -/
def setGrpState (s : Sys) (g st : Nat) : Sys :=
  if s.grpState g = st then s else (s.wr (Key.Grp.STATE g) st).raise (18 + g)

/-- Record the CAUSE of a group with its time. -/
def setGrpCause (s : Sys) (g cause : Nat) : Sys := (s.wr (Key.Grp.CAUSE g) cause).wr (Key.Grp.CAUSE_TIME g) s.now

/-- A STOP of group `g` (R281, R282): a WAITING or HELD group halts, a PRINTING one halts at once with its remaining
columns STOPPED, a FEEDING one once its feed move ends. -/
def grpStop (s : Sys) (g cause : Nat) : Sys :=
  if s.grpState g = 2 ∨ s.grpState g = 5 then (s.setGrpState g 6).setGrpCause g cause
  else if s.grpState g = 3 then
    ((s.setGrpState g 6).setGrpCause g cause).modGroup g (fun q => { q with suppress := q.suppress.orElse (fun _ => some 9) })
  else if s.grpState g = 4 then
    if (s.group g).settleAt.isSome then (s.setGrpState g 6).setGrpCause g cause
    else (s.setGrpCause g cause).modGroup g (fun q => { q with stopAfterFeed := true })
  else s

/-- The state of axis `a` (R307). -/
def axState (s : Sys) (a : Nat) : Nat := s.rd (Key.Axis.STATE a)

/-- A cause for axis `a`, which takes effect at the next update (R308). -/
def axCause (s : Sys) (a : Nat) (emergency : Bool) (cause : Nat) : Sys :=
  s.modAxis a (fun x => { x with causes := x.causes ++ [(emergency, cause)] })

/-- The axis that owns slot `n`, if one does. -/
def slotAxis (s : Sys) (n : Nat) : Option Nat :=
  if n < 48 then none else if s.rd (Key.Slot.OWNER_AXIS n) < 8 then some (s.rd (Key.Slot.OWNER_AXIS n)) else none

end Sys

end Sys2Proof.Machine
end

