-- ==== Sys2Proof/Machine/Trig.lean ====
section
/-! DEFINITION. Trig: turns, sines and directions in whole numbers, by CORDIC rotation, for the paths of R118, R119, R200 and the stepper phases of R300. Angles are in units of 2^-32 turn, results are scaled by 2^30. DESIGN CHOICE (log entry 8): the spec states no precision for them. -/

namespace Sys2Proof.Machine

/-- The arc tangents of 2^-i, in units of 2^-32 turn. -/
def atanTable : List Nat :=
  [536870912, 316933406, 167458907, 85004756, 42667331, 21354465, 10679838, 5340245, 2670163, 1335087,
   667544, 333772, 166886, 83443, 41722, 20861, 10430, 5215, 2608, 1304, 652, 326, 163, 81, 41, 20, 10, 5, 3, 1, 1]

/-- One rotation step: x, y, the angle left to turn and the step number. -/
def cordicStep (st : Int × Int × Int × Nat) (a : Nat) : Int × Int × Int × Nat :=
  let (x, y, z, i) := st
  if 0 ≤ z then (x - y / 2 ^ i, y + x / 2 ^ i, z - a, i + 1)
  else (x + y / 2 ^ i, y - x / 2 ^ i, z + a, i + 1)

/-- Cosine and sine of an angle between minus and plus a quarter turn, scaled by 2^30. -/
def cordicQuarter (z : Int) : Int × Int :=
  let r := atanTable.foldl cordicStep (652032874, 0, z, 0)
  (r.1, r.2.1)

/-- Cosine and sine of any angle (2^-32 turn), scaled by 2^30. -/
def cosSin (a : Int) : Int × Int :=
  let m := a % 2 ^ 32
  if m ≤ 2 ^ 30 then cordicQuarter m
  else if m < 3 * 2 ^ 30 then
    let (c, sn) := cordicQuarter (m - 2 ^ 31)
    (-c, -sn)
  else cordicQuarter (m - 2 ^ 32)

/-- Two pi, scaled by 2^96. -/
def twoPi96 : Nat := 497805226624462170461043889244

/-- One term of the series of cosine and sine: the term x^k / k!, both sums and k. -/
def seriesStep (x : Int) (st : Int × Int × Int × Nat) : Int × Int × Int × Nat :=
  let (term, c, sn, k) := st
  (term * x / 2 ^ 96 / (k + 1 : Nat), (if k % 2 = 0 then c + (if k % 4 = 0 then term else -term) else c),
    (if k % 2 = 1 then sn + (if k % 4 = 1 then term else -term) else sn), k + 1)

/-- rnd(cos(a) * 2^30) and rnd(sin(a) * 2^30) of an angle in units of 2^-24 turn (R199): the series of a first quarter turn, at 96
fraction bits. -/
def cosSinTurn (a : Int) : Int × Int :=
  let m : Nat := (a % 2 ^ 24).toNat
  let x : Int := (twoPi96 * (m % 2 ^ 22) / 2 ^ 24 : Nat)
  let r := (List.range 40).foldl (fun st _ => seriesStep x st) ((2 ^ 96 : Int), 0, 0, 0)
  let c := rdiv r.2.1 (2 ^ 66)
  let sn := rdiv r.2.2.1 (2 ^ 66)
  match m / 2 ^ 22 with
  | 0 => (c, sn)
  | 1 => (-sn, c)
  | 2 => (-c, -sn)
  | _ => (sn, -c)

/-- One vectoring step: turns the vector towards the x axis and adds up the angle. -/
def cordicVecStep (st : Int × Int × Int × Nat) (a : Nat) : Int × Int × Int × Nat :=
  let (x, y, z, i) := st
  if y < 0 then (x - y / 2 ^ i, y + x / 2 ^ i, z - a, i + 1)
  else (x + y / 2 ^ i, y - x / 2 ^ i, z + a, i + 1)

/-- The direction of a vector, from minus to plus half a turn, in units of 2^-32 turn; 0 for the zero vector. -/
def direction (x y : Int) : Int :=
  if x = 0 ∧ y = 0 then 0
  else
    let k := 2 ^ 40
    if 0 ≤ x then (atanTable.foldl cordicVecStep (x * k, y * k, 0, 0)).2.2.1
    else
      let r := (atanTable.foldl cordicVecStep (-x * k, -y * k, 0, 0)).2.2.1
      if 0 ≤ y then r + 2 ^ 31 else r - 2 ^ 31

/-- The size of the turn between two directions, from 0 to half a turn, in units of 2^-32 turn. -/
def turnBetween (a b : Int) : Nat :=
  let d := ((a - b) % 2 ^ 32).toNat
  if d ≤ 2 ^ 31 then d else 2 ^ 32 - d

/-- A turn of 2^-32 units in hundredths of a degree (R118). -/
def centiDeg (t : Nat) : Nat := (t * 36000 + 2 ^ 31) / 2 ^ 32

end Sys2Proof.Machine
end

