-- ==== Sys2Proof/Machine/Plan.lean ====
section
/-! DEFINITION. Plan: the planner of a scan channel in whole numbers (R114 to R120, R226): descriptors become stretches of timed path and spans of planned gate opening. Lengths are in 2^-16 field LSB, speeds in 2^-16 LSB/ms. DESIGN CHOICE (log entry 8): the spec states no rounding for the path. -/

namespace Sys2Proof.Machine

open Sys2Proof

/-- The trajectory entries of a channel (R124, R226). -/
structure Lims where
  jumpSpeed : Nat
  jumpAccel : Nat
  settleBase : Nat
  settleSlope : Nat
  markSpeed : Nat
  markAccel : Nat
  sky : Bool
  margin : Nat
  onShift : Nat
  offShift : Nat
  cornerDelay : Nat
  angleCont : Nat
  angleSky : Nat
  cornerMin : Nat
  arcAccel : Nat
  calSpeed : Nat
  parkX : Int
  parkY : Int
  parkZ : Int
  deriving DecidableEq, Repr

/-- A coordinate of a descriptor, in 2^-16 LSB (R104). -/
def coord (v : Nat) : Int := sext 32 v * 65536

/-- The length of a vector. -/
def hypot (x y : Int) : Nat := isqrt (x.natAbs * x.natAbs + y.natAbs * y.natAbs)

/-! ### Stretches -/

/-- The length covered `dt` ns into a stretch. -/
def Seg.travel (g : Seg) (dt : Nat) : Int := g.v0 * dt / 1000000 + g.acc * 65536 * dt * dt / 2000000000000

/-- The speed `dt` ns into a stretch. -/
def Seg.speed (g : Seg) (dt : Nat) : Int := g.v0 + g.acc * 65536 * dt / 1000000

/-- Two pi, scaled by 2^30. -/
def twoPi : Nat := 6746518852

/-- The point at length `s` of the line or arc of a stretch. -/
def Seg.point (g : Seg) (s : Int) : Int × Int × Int :=
  let z := if g.len = 0 then g.z0 + g.dz else g.z0 + g.dz * clamp s 0 g.len / g.len
  if g.arc then
    let (c, sn) := cosSin (g.th + g.turn * (s * 2 ^ 62 / (twoPi * max 1 g.r)))
    (g.x0 + (g.r : Int) * c / 2 ^ 30, g.y0 + (g.r : Int) * sn / 2 ^ 30, z)
  else if g.len = 0 then (g.x0 + g.ux, g.y0 + g.uy, z)
  else (g.x0 + g.ux * s / g.len, g.y0 + g.uy * s / g.len, z)

/-- The direction of travel at length `s`, scaled by 2^30. -/
def Seg.heading (g : Seg) (s : Int) : Int × Int :=
  if g.arc then cosSin (g.th + g.turn * (s * 2 ^ 62 / (twoPi * max 1 g.r)) + g.turn * 2 ^ 30)
  else if g.len = 0 then (0, 0)
  else (g.ux * 2 ^ 30 / g.len, g.uy * 2 ^ 30 / g.len)

/-- How far along its line or arc a stretch is at an instant; before its start and after its end it stands there. -/
def Seg.along (g : Seg) (t : Nat) : Int := g.s0 + g.travel (min g.dur (t - g.t0))

/-- The stretch of a path that holds an instant: the last one that has begun, else the first. -/
def segAt (path : List Seg) (t : Nat) : Option Seg :=
  match (path.filter (fun g => decide (g.t0 ≤ t))).getLast? with
  | some g => some g
  | none => path.head?

/-- A quotient rounded to the nearest whole number; 0 for a divisor of 0. -/
def nearest (n d : Nat) : Nat := if d = 0 then 0 else (n + d / 2) / d

/-- The phases of a move of length `len` from speed `v0` through at most `v` to `v1`, at acceleration `a`: duration, first
speed and acceleration (R115, R116). -/
def phases (len v0 v v1 a : Nat) : List (Nat × Int × Int) :=
  let A := a * 65536
  let vp := max (max v0 v1) (min v (isqrt ((2 * A * len + v0 * v0 + v1 * v1) / 2)))
  let s1 := (vp * vp - v0 * v0) / (2 * A)
  let s3 := (vp * vp - v1 * v1) / (2 * A)
  [(nearest ((vp - v0) * 1000000) A, (v0 : Int), (a : Int)),
   (nearest ((len - s1 - s3) * 1000000) vp, (vp : Int), 0),
   (nearest ((vp - v1) * 1000000) A, (vp : Int), -(a : Int))]

/-- Lay phases one after another along a line or arc, from time `t` and length `s`: the stretches and the time at the
end. -/
def layPhases (g : Seg) (t : Nat) (s : Int) : List (Nat × Int × Int) → List Seg × Nat
  | [] => ([], t)
  | (d, v, a) :: rest =>
    if d = 0 then layPhases g t s rest
    else
      let here : Seg := { g with t0 := t, dur := d, s0 := s, v0 := v, acc := a }
      let (l, e) := layPhases g (t + d) (s + here.travel d) rest
      (here :: l, e)

/-- A straight line between two points. Its length is that in the X-Y plane (R105); a move of Z alone has the length of Z (log
entry 18). -/
def lineSeg (x0 y0 z0 x1 y1 z1 : Int) : Seg :=
  { t0 := 0, dur := 0, x0 := x0, y0 := y0, ux := x1 - x0, uy := y1 - y0, z0 := z0, dz := z1 - z0
    len := if x1 = x0 ∧ y1 = y0 then (z1 - z0).natAbs else hypot (x1 - x0) (y1 - y0) }

/-- A straight rest-to-rest move (R116), with its settle time where asked. -/
def jumpTo (l : Lims) (e : PlanEnd) (x y z : Int) (speed : Nat) (settle : Bool) : Plan :=
  let g := lineSeg e.x e.y e.z x y z
  let (segs, t) := layPhases g e.t 0 (phases g.len 0 (speed * 65536) 0 l.jumpAccel)
  let rest := if settle then l.settleBase + l.settleSlope * (g.len / 65536) / 65536 else 0
  let hold : Seg := { t0 := t, dur := rest, x0 := x, y0 := y, z0 := z }
  { segs := segs ++ [hold]
    fin := { e with t := t + rest, x := x, y := y, z := z, v := 0, open_ := false, ranOut := false, reenter := false, corner := false }
    decide_ := e.t }

/-! ### Marking segments (R117 to R119) -/

/-- A MARK or ARC in shape: its line or arc, its end, its directions (2^-32 turn and as a vector) and its speed. -/
structure Body where
  g : Seg
  x : Int
  y : Int
  z : Int
  dirIn : Int
  dirOut : Int
  vecIn : Int × Int
  vecOut : Int × Int
  v : Nat
  slowed : Bool
  sky : Bool
  deriving DecidableEq, Repr

/-- The vector of a straight line as a direction scaled by 2^30; the zero vector where the line has no length. -/
def unitOf (g : Seg) : Int × Int := if g.len = 0 then (0, 0) else (g.ux * 2 ^ 30 / g.len, g.uy * 2 ^ 30 / g.len)

/-- The shape of a MARK or ARC from a point. -/
def bodyOf (l : Lims) (d : Desc) (px py pz : Int) : Body :=
  let sky := l.sky && !d.flags.testBit 0
  let v := d.d * 65536
  if d.op = 3 then
    let cx := coord d.a
    let cy := coord d.b
    let r := hypot (px - cx) (py - cy)
    let th := direction (px - cx) (py - cy)
    let sw := sext 32 d.f
    let turn := sgn sw
    let len := r * sw.natAbs * twoPi / 2 ^ 54
    let lim := isqrt (l.arcAccel * 65536 * r)
    let g : Seg := { t0 := 0, dur := 0, arc := true, x0 := cx, y0 := cy, r := r, th := th, turn := turn, z0 := pz
                     dz := coord d.c - pz, len := len }
    let (ex, ey, _) := g.point len
    { g := g, x := ex, y := ey, z := coord d.c, dirIn := th + turn * 2 ^ 30, dirOut := th + sw * 256 + turn * 2 ^ 30
      vecIn := cosSin (th + turn * 2 ^ 30), vecOut := cosSin (th + sw * 256 + turn * 2 ^ 30)
      v := min v lim, slowed := decide (lim < v), sky := sky }
  else
    let g := lineSeg px py pz (coord d.a) (coord d.b) (coord d.c)
    { g := g, x := coord d.a, y := coord d.b, z := coord d.c, dirIn := direction g.ux g.uy, dirOut := direction g.ux g.uy
      vecIn := unitOf g, vecOut := unitOf g, v := v, slowed := false, sky := sky }

/-- Whether an opcode is a marking segment (R118). -/
def isMarking (op : Nat) : Bool := op == 2 || op == 3

/-- Opcodes that cause no motion and lie within a joint: POWER, SEAM_POINT, LINK and the return from a linked block. -/
def isStill (op : Nat) : Bool := op == 5 || op == 8 || op == 10 || op == 256

/-- The distance of a run-in or run-out at speed `v` (R117). -/
def runLen (l : Lims) (v : Nat) : Nat := v * v / (2 * l.markAccel * 65536) + l.margin * 65536

/-- The speed at a joint (R118), if it is passed without a stop. -/
def jointSpeed (l : Lims) (a b : Body) : Option Nat :=
  let th := centiDeg (turnBetween a.dirOut b.dirIn)
  let low := min a.v b.v
  if th ≤ l.angleCont then some low
  else if th ≤ l.angleSky then
    let cut := (131072 - l.cornerMin) * (th - l.angleCont) / max 1 (l.angleSky - l.angleCont)
    some (low * max l.cornerMin (131072 - cut) / 131072)
  else none

/-- The speed at the end of a marking segment, from the descriptors that follow it in the look-ahead (R115, R118); none
where the planner plans a stop, one that came too late among them. Later joints and short segments hold it down. -/
def endSpeed (l : Lims) (b : Body) : List Desc → Option Nat
  | [] => none
  | d :: rest =>
    if isStill d.op then endSpeed l b rest
    else if isMarking d.op && !d.late then
      let b2 := bodyOf l d b.x b.y b.z
      (jointSpeed l b b2).map (fun v =>
        match endSpeed l b2 rest with
        | some w => min v (isqrt (w * w + 2 * l.markAccel * 65536 * b2.g.len))
        | none => v)
    else none

/-- The next descriptor that moves. -/
def nextMove (look : List Desc) : Option Desc := look.find? (fun d => !isStill d.op)

/-- The point at which a skywritten marking segment from `(px, py)` begins its run-in (R117). -/
def runInStart (l : Lims) (b : Body) (px py : Int) : Int × Int :=
  let d : Int := runLen l b.v
  (px - b.vecIn.1 * d / 2 ^ 30, py - b.vecIn.2 * d / 2 ^ 30)

/-- Round an instant to 2 ns (R103). -/
def even2 (t : Nat) : Nat := 2 * ((t + 1) / 2)

/-- The length of the marking segments of a look-ahead that follow a segment without a stop (R115); none where the planner stops among them. -/
def chainLen (l : Lims) (b : Body) : List Desc → Option Nat
  | [] => some 0
  | d :: rest =>
    if isStill d.op then chainLen l b rest
    else if isMarking d.op && !d.late then
      let b2 := bodyOf l d b.x b.y b.z
      if (jointSpeed l b b2).isSome then (chainLen l b2 rest).map (fun n => n + b2.g.len) else none
    else none

/-- The length of a path that lies after an instant. -/
def remaining (segs : List Seg) (t : Nat) : Int := segs.foldl (fun n g => n + (g.travel g.dur - g.travel (min g.dur (t - g.t0)))) 0

/-- At instant `t` a path can still come to rest `more` after its end, at deceleration `A` (R115). -/
def canStop (segs : List Seg) (t more A : Nat) : Bool :=
  match segAt segs t with
  | some g =>
    let v := g.speed (min g.dur (t - g.t0))
    decide (v * v ≤ 2 * A * (remaining segs t + more))
  | none => true

/-- The latest instant of a path from `t0` to `t1` at which deceleration at `A` for a stop at its end would have to begin (R115); `t0` where
it would have to begin before. -/
def lastStop (segs : List Seg) (t0 t1 A : Nat) : Nat :=
  ((List.range 48).foldl (fun (b : Nat × Nat) _ =>
    let mid := (b.1 + b.2) / 2
    if canStop segs mid 0 A then (mid, b.2) else (b.1, mid)) (t0, t1)).1

/-- The plan of a MARK or ARC from where the path stands (R117 to R119). After a stop in delay mode at a joint beyond ANGLE_SKY it first
rests for CORNER_DELAY (R118). Z holds still in a run-in and a run-out, of which the spec gives no Z (DESIGN CHOICE, log entry 50). -/
def planMarking (l : Lims) (m : Modulation) (e : PlanEnd) (d : Desc) (look : List Desc) : Plan :=
  let b := bodyOf l d e.px e.py e.pz
  let moving := e.open_
  let rests := e.corner && !e.reenter && decide (l.angleSky < centiDeg (turnBetween e.dir b.dirIn))
  let rest : List Seg := if rests then [{ t0 := e.t, dur := l.cornerDelay, x0 := e.x, y0 := e.y, z0 := e.z }] else []
  let e := if rests then { e with t := e.t + l.cornerDelay } else e
  let A := l.markAccel * 65536
  let (rx, ry) := runInStart l b e.px e.py
  let way : Plan :=
    if moving then { fin := e }
    else if b.sky then (if e.x = rx ∧ e.y = ry ∧ e.z = e.pz then { fin := e } else jumpTo l e rx ry e.pz l.jumpSpeed false)
    else if e.x = e.px ∧ e.y = e.py ∧ e.z = e.pz ∧ !e.reenter then { fin := e }
    else jumpTo l e e.px e.py e.pz l.jumpSpeed e.reenter
  let runIn : Seg := { t0 := 0, dur := 0, x0 := rx, y0 := ry, ux := b.vecIn.1, uy := b.vecIn.2, z0 := e.pz, len := 2 ^ 30 }
  let next := endSpeed l b look
  -- a segment too short to slow down for its joint is entered at a lower peak (R115)
  let v0 := if moving then e.v.toNat else match next with
    | some v => min b.v (isqrt (v * v + 2 * A * b.g.len))
    | none => b.v
  let (inSegs, tP) :=
    if moving || !b.sky then ([], way.fin.t) else layPhases runIn way.fin.t 0 (phases (runLen l b.v) 0 b.v v0 l.markAccel)
  let reach := isqrt (v0 * v0 + 2 * A * b.g.len)
  let pass := next.map (fun v => min reach (max v (isqrt (v0 * v0 - 2 * A * b.g.len))))
  let vQ := pass.getD (min b.v reach)
  let (bodySegs, tQ) := layPhases b.g tP 0 (phases b.g.len v0 b.v vQ l.markAccel)
  let base := rest ++ way.segs ++ inSegs ++ bodySegs
  let since := if moving then e.gateAt else even2 (tP + l.onShift)
  let span (final : Bool) : Span :=
    { openAt := even2 (tP + l.onShift), closeAt := even2 (tQ + (if final then l.offShift else l.onShift)), since := since, pathFrom := tP
      pathTo := tQ, power := d.param, prof := d.flags / 4 % 8, final := final, d := d, modn := m }
  let end_ : PlanEnd := { e with
    t := tQ, x := b.x, y := b.y, z := b.z, px := b.x, py := b.y, pz := b.z, dir := b.dirOut, ranOut := false, reenter := false
    corner := pass.isNone && !b.sky, gateAt := since }
  let decideAt := lastStop (inSegs ++ bodySegs) way.fin.t tQ A
  match pass with
  | some v => { segs := base, spans := [span false], fin := { end_ with v := v, open_ := true }, begun := way.fin.t, decide_ := decideAt }
  | none =>
    if b.sky then
      let out : Seg := { t0 := 0, dur := 0, x0 := b.x, y0 := b.y, ux := b.vecOut.1, uy := b.vecOut.2, z0 := b.z, len := 2 ^ 30 }
      let (outSegs, t) := layPhases out tQ 0
        [(nearest (l.margin * 65536 * 1000000) vQ, vQ, 0), (nearest (vQ * 1000000) A, vQ, -(l.markAccel : Int))]
      let far : Int := runLen l vQ
      { segs := base ++ outSegs, spans := [span true]
        fin := { end_ with t := t, x := b.x + b.vecOut.1 * far / 2 ^ 30, y := b.y + b.vecOut.2 * far / 2 ^ 30, v := 0, open_ := false, ranOut := true }
        begun := way.fin.t, decide_ := decideAt }
    else { segs := base, spans := [span true], fin := { end_ with v := 0, open_ := false }, begun := way.fin.t, decide_ := decideAt }

/-! ### The other descriptors (R116, R120, R124, R226) -/

/-- The plan of a JUMP: to its target, or to the run-in start of the skywritten marking segment that follows (R117). One that enters the
look-ahead once the JUMP has begun changes neither its target nor its settle time (DESIGN CHOICE, log entry 50). -/
def planJump (l : Lims) (e : PlanEnd) (d : Desc) (look : List Desc) : Plan :=
  let x := coord d.a
  let y := coord d.b
  let z := coord d.c
  let speed := if d.d = 0 then l.jumpSpeed else d.d
  let at_ (p : Plan) : Plan := { p with fin := { p.fin with px := x, py := y, pz := z } }
  match nextMove look with
  | some n =>
    if isMarking n.op && (bodyOf l n x y z).sky then
      let (rx, ry) := runInStart l (bodyOf l n x y z) x y
      at_ (jumpTo l e rx ry z speed false)
    else at_ (jumpTo l e x y z speed (!d.flags.testBit 0))
  | none => at_ (jumpTo l e x y z speed (!d.flags.testBit 0))

/-- The plan of a DWELL (R120): back to the point without settle time where a run-out has left it, then the hold. -/
def planDwell (m : Modulation) (l : Lims) (e : PlanEnd) (d : Desc) : Plan :=
  let way : Plan := if e.x = e.px ∧ e.y = e.py ∧ e.z = e.pz then { fin := e } else jumpTo l e e.px e.py e.pz l.jumpSpeed false
  let t := way.fin.t
  let hold : Seg := { t0 := t, dur := d.a, x0 := e.px, y0 := e.py, z0 := e.pz }
  { segs := way.segs ++ [hold]
    spans := if d.param = 0 then [] else
      [{ openAt := even2 t, closeAt := even2 (t + d.a), since := even2 t, pathFrom := t, pathTo := t + d.a, power := d.param, prof := d.flags / 4 % 8
         final := true, d := d, modn := m }]
    fin := { way.fin with t := t + d.a, v := 0, open_ := false, ranOut := false, reenter := false, corner := false }
    decide_ := e.t }

/-- Join two plans, the second of which begins at the end of the first. -/
def Plan.then_ (p q : Plan) : Plan :=
  { segs := p.segs ++ q.segs, spans := p.spans ++ q.spans, fin := q.fin, decide_ := p.decide_ }

/-- A value as the 32-bit word a descriptor holds. -/
def word32 (v : Int) : Nat := trunc 32 v

/-- The descriptors that a CAL_MARK stands for (R226). -/
def calParts (l : Lims) (d : Desc) : List Desc :=
  let x := sext 32 d.a
  let y := sext 32 d.b
  let h : Int := d.d
  let jump (x y : Int) : Desc := { d with op := 1, flags := d.flags / 2 % 2, param := 0, a := word32 x, b := word32 y, d := 0 }
  let mark (x y : Int) : Desc := { d with op := 2, flags := d.flags % 2 + 4 * (d.flags / 4 % 8), a := word32 x, b := word32 y, d := l.calSpeed }
  let lineX := [jump (x - h) y, mark (x + h) y]
  let lineY := [jump x (y - h), mark x (y + h)]
  match d.flags / 32 % 4 with
  | 0 => [jump x y, { d with op := 4, flags := 4 * (d.flags / 4 % 8), a := d.d }]
  | 1 => lineX
  | 2 => lineY
  | _ => lineX ++ lineY

/-- The plan of the parts of a CAL_MARK: each JUMP sees the MARK after it, and each MARK ends at rest. -/
def planParts (l : Lims) (m : Modulation) (e : PlanEnd) : List Desc → Plan
  | [] => { fin := e, decide_ := e.t }
  | d :: rest =>
    let p :=
      if d.op = 1 then planJump l e d (rest.take 1)
      else if d.op = 4 then planDwell m l e d
      else planMarking l m e d []
    p.then_ (planParts l m p.fin rest)

/-- The plan of a descriptor from where the path stands, with the look-ahead that follows it. -/
def planDesc (l : Lims) (m : Modulation) (e : PlanEnd) (d : Desc) (look : List Desc) : Plan :=
  match d.op with
  | 1 => planJump l e d look
  | 2 => planMarking l m e d look
  | 3 => planMarking l m e d look
  | 4 => planDwell m l e d
  | 9 =>
    let p := planParts l m e (calParts l d)
    -- the next descriptor starts from where the CAL_MARK came to rest (R226)
    { p with spans := p.spans.map (fun s => { s with d := d }), fin := { p.fin with px := p.fin.x, py := p.fin.y, pz := p.fin.z } }
  | 15 =>
    if d.flags.testBit 0 then
      let p := jumpTo l e l.parkX l.parkY l.parkZ l.jumpSpeed true
      { p with fin := { p.fin with px := l.parkX, py := l.parkY, pz := l.parkZ } }
    else { fin := e, decide_ := e.t }
  | _ => { fin := e, decide_ := e.t }

/-- The logical point at which a descriptor leaves the path, for the checks of those after it. -/
def endPoint (l : Lims) (p : Int × Int × Int) (d : Desc) : Int × Int × Int :=
  match d.op with
  | 1 => (coord d.a, coord d.b, coord d.c)
  | 2 => (coord d.a, coord d.b, coord d.c)
  | 3 => let b := bodyOf l d p.1 p.2.1 p.2.2; (b.x, b.y, b.z)
  | 9 =>
    -- where it comes to rest (R226)
    let e := (planParts l {} { x := p.1, y := p.2.1, z := p.2.2, px := p.1, py := p.2.1, pz := p.2.2 } (calParts l d)).fin
    (e.x, e.y, e.z)
  | 15 => if d.flags.testBit 0 then (l.parkX, l.parkY, l.parkZ) else p
  | _ => p

/-! ### Reading a plan -/

/-- The profile of a span at a gate instant within it (R129): the planned power there, rounded once. The ramps lie in the whole time for
which the gate is open, to `gateEnd`. -/
def Span.powerAt (p : Span) (profile gateEnd t : Nat) : Nat :=
  let rin := profile % 65536 * 20
  let rout := profile / 65536 % 65536 * 20
  let dur := gateEnd - p.since
  let scale (r : Nat) : Nat := if dur < rin + rout then r * dur / (rin + rout) else r
  let a := scale rin
  let z := scale rout
  let into := t - p.since
  let left := gateEnd - t
  let first := profile / 2 ^ 32 % 65536
  let last := profile / 2 ^ 48 % 65536
  if into < a then nearest (p.power * (first * (a - into) + 65535 * into)) (65535 * a)
  else if left < z then nearest (p.power * (last * (z - left) + 65535 * left)) (65535 * z)
  else p.power

/-- The place and the speed of a plan at an instant. -/
def Plan.stateAt (p : Plan) (t : Nat) : Option ((Int × Int × Int) × Int) :=
  (segAt p.segs t).map (fun g => (g.point (g.along t), g.speed (min g.dur (t - g.t0))))

/-- Two plans have the same place and speed at an instant: a new plan leaves what has been covered as it was. -/
def Plan.agrees (p q : Plan) (t : Nat) : Bool := decide (p.stateAt t = q.stateAt t)

end Sys2Proof.Machine
end

