-- ==== Sys2Proof/Machine/Own.lean ====
section
/-! DEFINITION. Own: machine coordinates, the seam and the ownership of points (R199 to R201, R205, R229). -/

namespace Sys2Proof.Machine

open Sys2Proof

namespace Sys

/-- A field point in LSB, or in parts of an LSB of which `den` make one, as machine coordinates in nm (R199). -/
def toMachine (s : Sys) (c : Nat) (x y : Int) (den : Nat := 1) : Int × Int :=
  let q := s.ch c
  let hw : Int := s.rd (Key.Field.HALF_WIDTH c)
  (1000 * s.rdI (Key.Field.ORIGIN_X c) + rdiv (rdiv (x * q.cr - y * q.sr) (2 ^ 30 * den) * hw) (2 ^ 23),
   1000 * s.rdI (Key.Field.ORIGIN_Y c) + rdiv (rdiv (x * q.sr + y * q.cr) (2 ^ 30 * den) * hw) (2 ^ 23))

/-- Fix the geometry of a channel from ROTATION, as GO_READY does (R199). -/
def fixGeometry (s : Sys) (c : Nat) : Sys :=
  let (cr, sr) := cosSinTurn (s.rdI (Key.Field.ROTATION c))
  s.modCh c (fun q => { q with cr := cr, sr := sr })

/-- A machine point lies in the rectangle of zone `z` of channel `c` (R199). -/
def inZone (s : Sys) (c z : Nat) (xm ym : Int) : Bool :=
  decide (1000 * s.rdI (Key.Zone.X0 c z) ≤ xm) && decide (xm < 1000 * s.rdI (Key.Zone.X1 c z)) &&
    decide (1000 * s.rdI (Key.Zone.Y0 c z) ≤ ym) && decide (ym < 1000 * s.rdI (Key.Zone.Y1 c z))

/-- The seam offset for a layer: nibble `layer mod 16` of SEAM_SHIFTS, from -8 to 7 (R200). -/
def seamShift (shifts layer : Nat) : Int := sext 4 (shifts / 16 ^ (layer % 16))

/-- The triangle of a seam (R200), in nm, at `f` nm above the low edge. -/
def seamTri (ampl period : Nat) (f : Int) : Int :=
  if period = 0 then 0
  else
    let p : Int := 1000 * period
    let m := f % p
    (1000 * (ampl : Int) * (if 2 * m < p then 2 * m else 2 * p - 2 * m)).tdiv p

/-- The side of a machine point in zone `z` (R200): false LOW, true HIGH. -/
def zoneSide (s : Sys) (c z layer : Nat) (xm ym : Int) : Bool :=
  let alongX := decide (s.rd (Key.Zone.SPLIT_AXIS c z) = 0)
  let u := if alongX then xm else ym
  let w := if alongX then ym else xm
  let lo := 1000 * s.rdI (if alongX then Key.Zone.Y0 c z else Key.Zone.X0 c z)
  let seam := 1000 * (s.rdI (Key.Zone.SEAM_BASE c z) + (s.rd (Key.Zone.SEAM_STEP c z) : Int) * seamShift (s.rd (Key.Zone.SEAM_SHIFTS c z)) layer)
    + seamTri (s.rd (Key.Zone.SEAM_AMPL c z)) (s.rd (Key.Zone.SEAM_PERIOD c z)) (w - lo)
  decide (seam ≤ u)

/-- The place of a field point against the enabled zones of channel `c`: 0 outside all of them, else 1 + 2 z on the LOW
and 2 + 2 z on the HIGH side of zone z. -/
def placeOf (s : Sys) (c layer : Nat) (x y : Int) (den : Nat := 1) : Nat :=
  let (xm, ym) := s.toMachine c x y den
  match (List.range 8).find? (fun z => s.rdB (Key.Zone.ENABLE c z) && s.inZone c z xm ym) with
  | some z => 1 + 2 * z + b2n (s.zoneSide c z layer xm ym)
  | none => 0

/-- The state of a zone that ownership follows: JOINING acts as the state before JOIN (R205). -/
def zoneActs (s : Sys) (c z : Nat) : Nat :=
  if s.rd (Key.Zone.STATE c z) = 6 then (s.zone c z).before else s.rd (Key.Zone.STATE c z)

/-- Whether channel `c` owns the points of a place (R201, R205), and those of a CAL_MARK (R229). -/
def placeOwned (s : Sys) (c : Nat) (cal : Bool) (place : Nat) : Bool :=
  if place = 0 || !s.rdB (Key.Stitch.STITCH_ENABLE c) then true
  else
    let z := (place - 1) / 2
    match s.zoneActs c z with
    | 0 => true
    | 3 => true
    | 4 => false
    | _ => cal || decide ((place - 1) % 2 = s.rd (Key.Zone.ROLE c z))

/-- Whether channel `c` owns its path at gate instant `t` (R201): a gained point counts LASER_ON_SHIFT after its
set-point time, a lost one LASER_OFF_SHIFT after it, by the zone states of the present. -/
def ownedAt (s : Sys) (c : Nat) (cal : Bool) (t : Nat) : Bool :=
  (s.ch c).edges.foldl (fun v e =>
    let o := s.placeOwned c cal e.2
    if e.1 + s.rd (if o then Key.Mark.LASER_ON_SHIFT c else Key.Mark.LASER_OFF_SHIFT c) ≤ t then o else v)
    (s.placeOwned c cal (s.ch c).place)

/-- The first 2 ns instant from `t0` to `t1` at which the point on the straight line between two set-points has a place that `takes`
holds of (R201). -/
def lineEdge (s : Sys) (c layer t0 t1 : Nat) (x0 y0 x1 y1 : Int) (takes : Nat → Bool) : Nat :=
  let n := max 1 ((t1 - t0) / 2)
  match (List.range n).find? (fun (k : Nat) => takes (s.placeOf c layer (x0 * n + (x1 - x0) * k) (y0 * n + (y1 - y0) * k) n)) with
  | some k => t0 + 2 * k
  | none => t1

/-- The trajectory entries of channel `c`. -/
def lims (s : Sys) (c : Nat) : Lims :=
  { jumpSpeed := s.rd (Key.Jump.JUMP_SPEED_MAX c), jumpAccel := s.rd (Key.Jump.JUMP_ACCEL c)
    settleBase := s.rd (Key.Jump.SETTLE_BASE c), settleSlope := s.rd (Key.Jump.SETTLE_SLOPE c)
    markSpeed := s.rd (Key.Mark.MARK_SPEED_MAX c), markAccel := s.rd (Key.Mark.MARK_ACCEL c)
    sky := decide (s.rd (Key.Mark.SKY c) = 1), margin := s.rd (Key.Mark.SKY_MARGIN c)
    onShift := s.rd (Key.Mark.LASER_ON_SHIFT c), offShift := s.rd (Key.Mark.LASER_OFF_SHIFT c)
    cornerDelay := s.rd (Key.Mark.CORNER_DELAY c), angleCont := s.rd (Key.Corner.ANGLE_CONT c)
    angleSky := s.rd (Key.Corner.ANGLE_SKY c), cornerMin := s.rd (Key.Corner.CORNER_MIN c)
    arcAccel := s.rd (Key.Corner.ARC_ACCEL c), calSpeed := s.rd (Key.Ins.CAL_SPEED c)
    parkX := s.rdI (Key.Stop.PARK_X c) * 65536, parkY := s.rdI (Key.Stop.PARK_Y c) * 65536
    parkZ := s.rdI (Key.Stop.PARK_Z c) * 65536 }

/-- The path point of gate instant `t` of channel `c`: the set-point at `t` less LASER_ON_SHIFT (R140), in LSB. -/
def pathPoint (s : Sys) (c t : Nat) : Int × Int :=
  let q := s.ch c
  let u := t - s.rd (Key.Mark.LASER_ON_SHIFT c)
  match segAt (q.past ++ q.plan.segs) u with
  | some g => let p := g.point (g.along u); (rdiv p.1 65536, rdiv p.2.1 65536)
  | none => (rdiv q.x 65536, rdiv q.y 65536)

end Sys

end Sys2Proof.Machine
end

