-- ==== Sys2Proof/Machine/Gate.lean ====
section
/-! DEFINITION. Gate: the laser gate of a channel and its causes (R192 to R195), LP_EN (R131), ILK_OUT and the emission outputs. -/

namespace Sys2Proof.Machine

open Sys2Proof

namespace Sys

/-- The planned gate-open span of channel `c` that holds instant `t`. -/
def spanAt (s : Sys) (c t : Nat) : Option Span :=
  ((s.ch c).spans ++ (s.ch c).plan.spans).find? (fun p => decide (p.openAt ≤ t) && decide (t < p.closeAt))

/-- The pixel of the raster record in execution that holds instant `t` (R133): each begins at the CECLK edge nearest its instant (R258). -/
def pixelAt (s : Sys) (c t : Nat) : Option Nat :=
  let q := s.ch c
  let edge := t / 2 * 2000 + 999
  if q.rasCur.isSome && decide (q.rasStart ≤ edge) && decide (0 < q.rasPeriod) then q.rasPixels[(edge - q.rasStart) / q.rasPeriod]?
  else none

/-- The gate request that the plan of channel `c` makes at instant `t`, before ownership (R103, R163). In raster mode it
is open while the pixels of a record fire. -/
def planGate (s : Sys) (c t : Nat) : Bool := (s.spanAt c t).isSome || (s.pixelAt c t).isSome

/-- The planned gate request of channel `c` opens after instant `from_` and by instant `to_` (R163); a raster record opens it at the edge
nearest its first pixel (R258). -/
def planOpened (s : Sys) (c from_ to_ : Nat) : Bool :=
  let q := s.ch c
  let starts := (q.spans ++ q.plan.spans).map (fun p => p.since) ++
    (if q.rasCur.isSome && !q.rasPixels.isEmpty then [2 * ((q.rasStart + 1000) / 2000)] else [])
  starts.any (fun t => decide (from_ < t ∧ t ≤ to_))

/-- The gate request of channel `c` at instant `t`, after ownership (R192, R201). -/
def gateRequest (s : Sys) (c t : Nat) : Bool :=
  match s.spanAt c t with
  | some p => s.ownedAt c (decide (p.d.op = 9)) t
  | none => (s.pixelAt c t).isSome

/-- LP_STS of channel `c` shows ready (R131). -/
def stsReady (s : Sys) (c : Nat) : Bool := (s.pads.lpSts.testBit c) != s.rdB (Key.Mod.STS_POLARITY c)

/-- The causes that close the gate of channel `c` at instant `t`, as `1c34.06` shows them (R192). -/
def gateCauses (s : Sys) (c t : Nat) : Nat :=
  let sl := [3 * c, 3 * c + 1, 3 * c + 2]
  b2n (!s.gateRequest c t)
    + 2 * b2n (decide (s.chState c ≠ 2))
    + 4 * b2n (decide (s.dev ≠ .armed))
    + 8 * b2n (sl.any (fun n => s.rdBit (Key.SlotMon.FLAGS n) 0))
    + 16 * b2n (sl.any (fun n => (s.slot n).loss))
    + 32 * b2n (sl.any (fun n => decide (s.slotState n ≠ 1 ∧ s.slotState n ≠ 2)))
    + 64 * b2n (!s.stsReady c && decide (s.rd (Key.Mod.READY_TIMEOUT c) ≠ 0))
    + 128 * b2n (!s.pads.lsafe)
    + 256 * b2n (s.loop c).mismatch
    + 512 * b2n (s.loop c).readback

/-- LP_EN of channel `c` is requested (R131): the unit is ARMED and the channel IDLE, RUNNING or HELD. -/
def enRequest (s : Sys) (c : Nat) : Bool :=
  decide (s.dev = .armed) && (decide (s.chState c = 1) || decide (s.chState c = 2) || decide (s.chState c = 3))

/-- The pads of domain `d` follow their blocks (R456, R476 to R480). -/
def padsLive (s : Sys) (d : Nat) : Bool := s.domainOn d && !s.rdBit Key.Pad.HELD d

/-- Change what stands on the pads. -/
def modPads (s : Sys) (f : Pads → Pads) : Sys := { s with pads := f s.pads }

/-- The time since LP_EN of channel `c` is high, from which READY_TIMEOUT runs (R131). -/
def enableTime (s : Sys) (c : Nat) (en was : Bool) : Sys :=
  if en && !was then s.modCh c (fun q => { q with enabledAt := some s.clk })
  else if !en then s.modCh c (fun q => { q with enabledAt := none })
  else s

/-- The modulation of channel `c` at gate instant `t`. -/
def modnAt (s : Sys) (c t : Nat) : Modulation :=
  match s.spanAt c t with
  | some p => p.modn
  | none => { mode := 0 }

/-- The modulation request of channel `c` at instant `t` (R130, R133). -/
def modRequest (s : Sys) (c t : Nat) : Bool :=
  let q := s.loop c
  let m := s.modnAt c t
  if (s.spanAt c t).isNone then decide ((s.pixelAt c t).getD 0 ≠ 0)
  else match m.mode with
    | 0 => true
    | 1 => decide ((t - q.openedAt) / 2 % max 1 m.period < m.width)
    | _ => q.pulseAt.any (fun p => decide (t < p + 2 * m.width))

/-- The gate of channel `c` opens or closes at instant `t` (R130, R186): pulses and path are counted from the opening. -/
def gateEdge (s : Sys) (c t : Nat) (open_ : Bool) : Sys :=
  s.modLoop c (fun q =>
    if open_ && !q.wasOpen then { q with wasOpen := true, opened := true, openedAt := t, speedSum := 0, pulseAt := none }
    else if open_ then q
    else { q with wasOpen := false, pulseAt := none })

/-- The gate of channel `c`, its causes, the modulation and the emission balls as they stand at instant `t` (R183, R192). LSAFE_N forces
LP_EN and LP_MOD inactive on the pads (R23, R195). -/
def gateAt (s : Sys) (c t : Nat) : Sys :=
  let causes := s.gateCauses c t
  let open_ := decide (causes = 0)
  let en := s.enRequest c
  let was := s.rdB (Key.Mod.LP_EN_STATE c)
  let s := ((s.wr (Key.MplMon.GATE_CAUSES c) causes).wrB (Key.MplMon.GATE c) open_).wrB (Key.Mod.LP_EN_STATE c) en
  let s := (s.wrB (Key.Mod.LP_STS_READY c) (s.stsReady c)).gateEdge c t open_
  let lit := open_ && s.modRequest c t
  -- paths that disagree stay so until GATE_MISMATCH reports them equal again
  let s := s.modLoop c (fun q => { q with
    pathA := if q.pathA = q.pathB then open_ else q.pathA, pathB := if q.pathA = q.pathB then open_ else q.pathB
    modHigh := lit, modAll := q.modAll && lit })
  let on := s.pads.lsafe && s.padsLive 11
  (s.modPads (fun p => { p with lpEn := putBit p.lpEn c (en && on), lpMod := putBit p.lpMod c (lit && on) })).enableTime c en was

/-- Bring the gate of channel `c` up to date with the present. -/
def refreshGate (s : Sys) (c : Nat) : Sys := s.gateAt c s.now

/-- ILK_OUT (R195): high while LSAFE_N is high, no mismatch is latched and the unit is not in FAULT. A held pad keeps its level
(R477). -/
def refreshIlk (s : Sys) : Sys :=
  if s.rdBit Key.Pad.HELD 11 then s
  else s.modPads (fun p => { p with
      ilkOut := s.domainOn 11 && s.pads.lsafe && decide (s.dev ≠ .fault) && !(List.range 16).any (fun c => (s.loop c).mismatch) })

/-- The analog outputs of domain `d` are driven: it is not gated, and their rail VDDA33 is on (R458, R479). -/
def analogOn (s : Sys) (d : Nat) : Bool := s.domainOn d && s.pw.pmic.testBit 2

/-- SV_CMD and LP_OUT are high impedance while their domain is gated or their rail is off (R479). The other outputs of a domain gated in RUN
have their output enables off (R456); a held pad keeps its own (R477). -/
def floatAnalog (s : Sys) : Sys :=
  s.modPads (fun p => { p with
    outOff := [11, 12, 13].foldl (fun m d => if s.rdBit Key.Pad.HELD d then m else putBit m d (!s.domainOn d)) p.outOff
    svFloat := (List.range 48).foldl (fun m n => putBit m n (!s.analogOn (slotDomain n))) 0
    lpFloat := if s.analogOn 11 then 0 else 65535 })

/-- Bring every emission output up to date after a change of the device state, of LSAFE_N or of a domain (R23, R56, R479). -/
def refresh (s : Sys) : Sys :=
  let s := ((s.each (List.range 16) refreshGate).refreshIlk).floatAnalog
  if s.mayEmit then s else s.modPads (fun p => { p with fire := 0 })

/-- The level that the unit drives at an emission ball: 0 to 15 LP_EN, 16 to 31 LP_MOD, 32 to 47 FIRE. -/
def driven (s : Sys) (o : Nat) : Bool :=
  if o < 16 then s.pads.lpEn.testBit o else if o < 32 then s.pads.lpMod.testBit (o - 16) else s.pads.fire.testBit (o - 32)

/-- The levels at an emission ball and at its driver differ (R486). -/
def ballDiffers (s : Sys) (o : Nat) : Bool := s.pads.balls.any (fun b => decide (b.1 = o ∧ b.2 ≠ s.driven o))

end Sys

end Sys2Proof.Machine
end

