-- ==== Sys2Proof/Machine/Gather.lean ====
section
/-! DEFINITION. Gather: the fault gatherer (R487 to R497) and the entry into FAULT (R59, R60) with its effects on every block (R56, R142, R170, R206, R242, R282, R310). -/

namespace Sys2Proof.Machine

open Sys2Proof

/-- Faults that clear at once (R496, R145, R197, R243): they never stay active. -/
def clearsAtOnce (code : Nat) : Bool :=
  code ∈ [0x23, 0x24, 0x28, 0x29, 0x2A, 0x2B, 0x2C, 0x3C, 0x48, 0x49, 0x4A, 0x50, 0x52, 0x54, 0x55, 0x60, 0x61, 0x62, 0x63,
    0x64, 0x69, 0x6A, 0x6B]

/-- The freeze faults whose REACTION is fixed at 4 (R490). -/
def fixedFreeze (code : Nat) : Bool := code ∈ [0x58, 0x59, 0x5A, 0x5B]

namespace Sys

/-- REACTION of a code (R488, R490). -/
def reaction (s : Sys) (code : Nat) : Nat := if fixedFreeze code then 4 else s.rd (Key.React.REACTION code) % 8

/-- REPORT of a code. The FAULT_REPORTs of UNMARKED_REGION and SUPPRESSED_SPAN belong to their blocks (R493). -/
def reportSet (s : Sys) (code : Nat) : Bool :=
  (s.rd (Key.React.REACTION code)).testBit 3 && decide (code ≠ 0x24 ∧ code ≠ 0x3C)

/-- The fault of this code and instance is no longer active (R494). -/
def clearActive (s : Sys) (code kind inst : Nat) : Sys :=
  { s with gath := { s.gath with active := s.gath.active.filter (fun a => decide (a ≠ (code, kind, inst))) } }

/-- Every active fault of a code is cleared. -/
def clearCode (s : Sys) (code : Nat) : Sys :=
  { s with gath := { s.gath with active := s.gath.active.filter (fun a => decide (a.1 ≠ code)) } }

/-- A fault code is active (R494). -/
def codeActive (s : Sys) (code : Nat) : Bool := s.gath.active.any (fun a => decide (a.1 = code))

/-- The freeze faults that are active, as R494 defines them. -/
def freezeActive (s : Sys) : List Nat := (s.gath.active.map (fun a => a.1)).filter (fun c => decide (s.reaction c = 4))

/-- Send a FAULT_REPORT now and begin its millisecond (R493). -/
def report (s : Sys) (code t : Nat) : Sys :=
  let ms := s.gath.merges.filter (fun m => decide (m.code ≠ code))
  let s : Sys := { s with gath := { s.gath with merges := ms ++ [{ code := code, since := s.clk }] } }
  s.sendAlarm 4 code t 0 []

/-- Report an occurrence, or merge it into the running millisecond of its code (R493). -/
def reportOrMerge (s : Sys) (code t : Nat) : Sys :=
  match s.gath.merges.find? (fun m => decide (m.code = code)) with
  | none => s.report code t
  | some m =>
    if m.since + 1000000 ≤ s.clk ∧ m.merged = none then s.report code t
    else
      let m' := { m with merged := m.merged.orElse (fun _ => some t) }
      { s with gath := { s.gath with merges := s.gath.merges.map (fun x => if x.code = code then m' else x) } }

/-- Write the log entry of an occurrence, or count it in an equal one still in the log (R492). -/
def logFault (s : Sys) (code kind inst react : Nat) (reported : Bool) (t : Nat) : Sys :=
  let same (e : LogEntry) : Bool := decide (e.code = code ∧ e.kind = kind ∧ e.inst = inst)
  if s.gath.log.any same then
    { s with gath := { s.gath with
        log := s.gath.log.map (fun e => if same e then { e with repeats := min 65535 (e.repeats + 1) } else e) } }
  else if 64 ≤ s.gath.log.length then s.inc Key.FLog.LOST
  else { s with gath := { s.gath with log := s.gath.log ++
    [{ code := code, kind := kind, inst := inst, reaction := react, reported := reported, repeats := 0, at_ := t }] } }

/-- The CAUSE of a group that a reaction stops (R281, R282). -/
def grpCauseOf (code : Nat) : Nat :=
  if code = 0x30 then 2 else if code = 0x31 then 3 else if code = 0x33 then 4 else if code = 0x34 then 5 else 8

/-- The effect of SAFE_STOP on an instance (R489, R491). Kinds are those of R492. -/
def safeStopInstance (s : Sys) (code kind inst : Nat) : Sys :=
  match kind with
  | 1 => s.safeStop inst (if code ≤ 0x0B then code + 4 else 17)
  | 2 => if inst < 48 then s.safeStop (inst / 3) 15
         else match s.slotAxis inst with
           | some a => s.axCause a false 9
           | none => s
  | 3 => s.grpStop inst (grpCauseOf code)
  | 4 => s.grpStop (s.rd (Key.Head.GROUP inst)) (grpCauseOf code)
  | 5 => s.axCause inst false 9
  | 6 => s.each (List.range 4) (fun s g =>
      s.when (decide (s.rd (Key.Grp.MTU g) < 4 ∧ s.rd (Key.Mtu.ENCODER (s.rd (Key.Grp.MTU g))) = inst)) (fun s => s.grpStop g (grpCauseOf code)))
  | 11 => s.each (List.range 8) (fun s a =>
      s.when (decide (s.axState a ≠ 0 ∧ s.rd (Key.AxPwm.BUS a) = inst)) (fun s => s.axCause a false 9))
  | 13 => s.each (List.range 4) (fun s g => s.when ((s.rd (Key.Grp.FIRE_MASK g)).testBit inst) (fun s => s.grpStop g 8))
  | _ =>
    let s := s.each (List.range 16) (fun s c => s.safeStop c 17)
    let s := s.each (List.range 4) (fun s g => s.grpStop g 8)
    s.each (List.range 8) (fun s a => s.when (decide (s.axState a = 2 ∨ s.axState a = 3)) (fun s => s.axCause a false 9))

/-! ### Takeover events (R206, R276) -/

/-- A channel takes part in takeovers: STITCH_ENABLE is set and an enabled zone is not WITHDRAWN. -/
def hasZone (s : Sys) (c : Nat) : Bool :=
  s.rdB (Key.Stitch.STITCH_ENABLE c) &&
    (List.range 8).any (fun z => decide (s.rd (Key.Zone.STATE c z) ≠ 0 ∧ s.rd (Key.Zone.STATE c z) ≠ 4))

/-- A head takes part in takeovers: an enabled overlap end is not WITHDRAWN. -/
def hasOverlap (s : Sys) (h : Nat) : Bool :=
  (List.range 2).any (fun e => decide (s.rd (Key.HeadEnd.STATE h e) ≠ 0 ∧ s.rd (Key.HeadEnd.STATE h e) ≠ 4))

/-- Collect a takeover event of channels, or of heads: into the collection of its kind that began less than 1 us ago, or into a new
one (R206, R276). -/
def collectOf (s : Sys) (code : Nat) (ofHeads : Bool) (items : List Nat) : Sys :=
  if items = [] then s
  else
    let same (k : Collect) : Bool := (k.heads == []) != ofHeads && decide (s.now ≤ k.at_ + 1000)
    let join (old : List Nat) : List Nat := (List.range 32).filter (fun i => decide (i ∈ items ∨ i ∈ old))
    let add (k : Collect) : Collect := if ofHeads then { k with heads := join k.heads } else { k with channels := join k.channels }
    let old := s.stitch.collects
    let new_ := if old.any same then old.map (fun k => if same k then add k else k)
      else old ++ [add { at_ := s.now, code := code, channels := [], heads := [] }]
    { s with stitch := { s.stitch with collects := new_ } }

/-- Collect a takeover event of channels and of heads, each in the collections of its kind. -/
def collect (s : Sys) (code : Nat) (channels heads : List Nat) : Sys := (s.collectOf code false channels).collectOf code true heads

/-- The takeover bit of a channel event (R206). -/
def channelTakeoverBit (code : Nat) : Option Nat :=
  if code = 0x09 then some 1 else if code = 0x06 then some 2 else if code = 0x20 then some 4
  else if code = 0x21 then some 5 else if code = 0x05 then some 6 else none

/-- The takeover bit of a head event (R276). -/
def headTakeoverBit (code : Nat) : Option Nat :=
  if code = 0x38 then some 0 else if code = 0x35 then some 1 else if code = 0x3A then some 2
  else if code = 0x39 then some 4 else none

/-- A recorded fault may be a takeover event of a channel or of heads (R206, R276): a slot fault that sends its slot to
COAST, or FOLLOWING_ERROR, counts as SLOT. -/
def takeoverOf (s : Sys) (code kind inst : Nat) : Sys :=
  if kind = 2 ∧ 0x10 ≤ code ∧ code ≤ 0x17 ∧ inst < 48 then
    s.collect code ([inst / 3].filter (fun c => s.rdBit (Key.Stitch.TAKEOVER_ON c) 0 && s.hasZone c)) []
  else if kind = 1 then
    match channelTakeoverBit code with
    | some b => s.collect code ([inst].filter (fun c => s.rdBit (Key.Stitch.TAKEOVER_ON c) b && s.hasZone c)) []
    | none => s
  else match headTakeoverBit code with
    | some b =>
      let hs := if kind = 10 then (List.range 32).filter (fun h => decide (s.rd (Key.Head.LINK h) = inst) && s.rdB (Key.Head.ENABLE h))
        else if kind = 4 then [inst] else []
      s.collect code [] (hs.filter (fun h => s.rdBit (Key.Head.TAKEOVER_ON h) b && s.hasOverlap h))
    | none => s

/-! ### Occurrences -/

/-- Record an occurrence and apply its reaction up to SAFE_STOP (R487 to R493). -/
def occur (s : Sys) (code kind inst t : Nat) : Sys :=
  let s := (s.inc (Key.FCount.COUNT code)).inc Key.Gath.RECORDED
  let s := s.when (!clearsAtOnce code && !s.gath.active.contains (code, kind, inst))
    (fun s => { s with gath := { s.gath with active := s.gath.active ++ [(code, kind, inst)] } })
  let r := s.reaction code
  let rep := s.reportSet code
  if r = 0 then s.takeoverOf code kind inst
  else
    let s := s.logFault code kind inst r rep t
    let s := { s with smp := { s.smp with faults := s.smp.faults + 1, faultsTick := s.smp.faultsTick + 1 } }
    let s := s.captureSource 0x50 t
    let s := s.when (decide (2 ≤ r)) (fun s => { s.raise 61 with pw := { s.pw with faultSeen := true } })
    let s := s.when (decide (3 ≤ r)) (fun s => s.safeStopInstance code kind inst)
    let s := s.when rep (fun s => s.reportOrMerge code t)
    s.takeoverOf code kind inst

/-- The numeric code of a device state (R56). -/
def devCode : DevState → Nat
  | .start => 0 | .config => 1 | .ready => 2 | .armed => 3 | .fault => 4 | .service => 5

/-- Set STATE_CAUSE (`0112`, R59). -/
def setCause (s : Sys) (cause detail from_ to_ requester : Nat) : Sys :=
  (((((s.wr Key.Cause.CAUSE cause).wr Key.Cause.CAUSE_TIME s.now).wr Key.Cause.CAUSE_DETAIL detail).wr
    Key.Cause.FROM_STATE from_).wr Key.Cause.TO_STATE to_).wr Key.Cause.REQUESTER requester

/-! ### The fabric (R15 to R17, R447) -/

/-- The region of R15 that a full address lies in: 1 boot ROM, 2 shared SRAM, 3 MRAM, 4 AON retention SRAM, 5 core-local
registers, 6 OD window, 7 DRAM, 0 none. -/
def regionOf (a : Nat) : Nat :=
  if a < 0x20000 then 1
  else if 0x10000000 ≤ a ∧ a < 0x10800000 then 2
  else if 0x20000000 ≤ a ∧ a < 0x21000000 then 3
  else if 0x30000000 ≤ a ∧ a < 0x30004000 then 4
  else if 0x40000000 ≤ a ∧ a < 0x41000000 then 5
  else if 0x60000000 ≤ a ∧ a < 0x68000000 then 6
  else if dramBase ≤ a ∧ a < 0x2000000000 then 7
  else 0

/-- The masters of a region (R15), by their codes of `0300.06`; through the low alias (`low`) those of its row. The debug module's system
bus is taken to reach the memories too (log entry 32). -/
def regionMaster (m region : Nat) (low : Bool) : Bool :=
  let core := decide (m ≤ 4) || decide (m = 0x46 ∧ region ≠ 6)
  let dma := decide (0x10 ≤ m ∧ m < 0x30)
  if region = 1 ∨ region = 3 ∨ region = 6 ∨ low then core || dma
  else if region = 4 ∨ region = 5 then core
  else decide (region = 2 ∨ region = 7) && (core || dma || decide (0x30 ≤ m ∧ m < 0x46))

/-- The master class of the firewall (R447); `machine` is the mode of a hart. -/
def wallClass (s : Sys) (m : Nat) (machine : Bool) : Nat :=
  if m = 0 then (if machine then 0 else 1)
  else if m ≤ 4 then (if machine then 2 else 3)
  else if 0x10 ≤ m ∧ m < 0x30 then
    (if s.rd (Key.Dma.MODE (m - 0x10)) = 2 then 6 else if s.rd (Key.Dma.CLASS (m - 0x10)) = 1 then 4 else 5)
  else if m < 0x40 then 7
  else if m = 0x40 then 8
  else if m = 0x41 then 9
  else if m = 0x42 then 10
  else if m = 0x43 then 11
  else if m = 0x44 ∨ m = 0x45 then 12
  else 13

/-- The lowest-numbered enabled firewall region that matches an address (R447). -/
def wallOf (s : Sys) (a : Nat) : Option Nat :=
  (List.range 32).find? (fun r => s.rdB (Key.Wall.ENABLE r) &&
    decide (s.rd (Key.Wall.BASE r) ≤ a ∧ a < s.rd (Key.Wall.BASE r) + s.rd (Key.Wall.SIZE r)))

/-- The firewall lets a class access an address (R447). -/
def wallAllows (s : Sys) (cls : Nat) (write : Bool) (a : Nat) : Bool :=
  match s.wallOf a with
  | some r => (s.rd (if write then Key.Wall.WRITE r else Key.Wall.READ r)).testBit cls
  | none => decide (s.rd Key.Prot.FW_DEFAULT = 0)

/-- The first address of an access that the firewall denies; regions are whole pages (R447). -/
def firstDenied (s : Sys) (m : Nat) (machine write : Bool) (a len : Nat) : Option Nat :=
  let region := regionOf a
  if region = 5 ∨ (m = 0 ∧ machine ∧ (region = 1 ∨ region = 6)) then none
  else
    (((List.range (len / 4096 + 2)).map (fun i => max a ((a / 4096 + i) * 4096))).filter (fun x => decide (x < a + max 1 len))).find?
      (fun x => !s.wallAllows (s.wallClass m machine) write x)

/-- Why the fabric refuses an access (R15, R17, R447), as the fault and the address it is about: the firewall, then the map with the
implemented size and the masters of the region. The AON banks take no write of a core (R473). -/
def refusal (s : Sys) (m : Nat) (machine write : Bool) (addr len : Nat) : Option (Nat × Nat) :=
  let a := fullAddr addr
  let region := regionOf a
  match s.firstDenied m machine write a len with
  | some x => some (0x69, x)
  | none =>
    if region = 0 ∨ !regionMaster m region (decide (a ≠ addr)) ∨ regionOf (a + len - 1) ≠ region ∨ (region = 7 ∧ dramBase + s.dramSize < a + len)
        ∨ (m = 0 ∧ 2 ^ 32 ≤ addr) ∨ (write ∧ (region = 1 ∨ region = 3 ∨ (region = 4 ∧ 0x30002000 ≤ a))) then some (0x6A, a)
    else none

/-- The address and master of a bus error or parity error, if no capture is held (R15, R497). -/
def captureAt (s : Sys) (addr master : Nat) : Sys :=
  if s.gath.captured then s else
    { ((s.wr Key.Gath.ERR_ADDR addr).wr Key.Gath.ERR_MASTER master) with
        gath := { s.gath with captured := true, addrRead := false, masterRead := false } }

/-- What a refused access leaves besides its fault (R15, R447, R450). -/
def noteRefusal (s : Sys) (m : Nat) (machine : Bool) (r : Nat × Nat) : Sys :=
  if r.1 = 0x69 then
    let s := (((s.inc Key.Prot.FW_DENIALS).wr Key.Prot.FW_LAST_ADDR r.2).wr Key.Prot.FW_LAST_MASTER m).wr Key.Prot.FW_LAST_CLASS
      (2 ^ s.wallClass m machine)
    match s.wallOf r.2 with
    | some w => s.inc (Key.Wall.DENIALS w)
    | none => s
  else s.captureAt r.2 m

/-- CAL may write to its log (R447). A refusal is recorded without the entry into FAULT that a reaction may ask for, since it may come while
the unit enters it (log entry 43). -/
def logCheck (s : Sys) (a len : Nat) : Sys × Bool :=
  match s.refusal 0x42 false true a len with
  | some r => ((s.noteRefusal 0x42 false r).occur r.1 0 0 s.now, false)
  | none => (s, decide (a < dramBase) || s.dramServes || s.inL2 a len)

/-! ### The calibration log and updates (R231, R240 to R246) -/

/-- Write a record to the calibration log (R231). -/
def calLog (s : Sys) (rec : List Nat) : Sys :=
  (s.ringPut 0x42 logCheck Key.Cal.LOG_ADDR Key.Cal.LOG_LEN Key.Cal.LOG_HEAD Key.Cal.LOG_TAIL Key.Cal.LOG_LOST rec).raise 30

/-- An entry of table update `u`: of `1c11` for a channel, of `486h` for a head (R244, R246). The subindexes are the
same. -/
def updKey (u sub : Nat) : Nat := (if u < 16 then 0x1011 + 0x100 * u else 0x4860 + (u - 16)) * 256 + sub

/-- The GEN of the active table of update `u`. -/
def activeGen (s : Sys) (u : Nat) : Nat := s.rd (if u < 16 then Key.Hoop.ACTIVE_GEN u else Key.Map.ACTIVE_GEN (u - 16))

/-- The SWAP record of an update (R231) at time `t`, with its STATUS. -/
def swapRecord (s : Sys) (u status t : Nat) : Sys :=
  s.calLog ([if u < 16 then 3 else 4, status, if u < 16 then u else u - 16, 0] ++ le 4 (s.rd (updKey u 0x0B)) ++ le 8 t ++
    le 4 (s.rd (updKey u 3)) ++ le 4 (s.rd (updKey u 0x0E)) ++ le 4 (s.activeGen u) ++ [0, 0, 0, 0])

/-- An update halts with a CAUSE (R240, R242); STATUS is that of its SWAP record. CAL_SWAP is recorded without the
entry into FAULT, which `haltUpdate` adds. -/
def haltUpdateCore (s : Sys) (u cause status : Nat) : Sys :=
  let s := (s.wr (updKey u 0x0A) 4).wr (updKey u 0x0C) cause
  (s.swapRecord u status s.now).occur 0x29 (if u < 16 then 1 else 4) (if u < 16 then u else u - 16) s.now

/-- An update that runs halts because the unit leaves READY or ARMED (R242). -/
def calDeviceState (s : Sys) : Sys :=
  s.each (List.range 48) (fun s u =>
    s.when (decide (1 ≤ s.rd (updKey u 0x0A) ∧ s.rd (updKey u 0x0A) ≤ 3)) (fun s => s.haltUpdateCore u 5 6))

/-- A repair that runs is cancelled (R59): the row's contents are open (R394), and of 0x0805 PPR_RESULT, which has eight bits, shows the
low byte (DEDUCED, log entry 49). -/
def pprCancel (s : Sys) : Sys :=
  match s.dram.ppr with
  | some (_, w) => (({ s with dram := { s.dram with ppr := none } } : Sys).loseRow w).wr Key.Ppr.PPR_RESULT (0x0805 % 256)
  | none => s

/-- A running operation of a service entry ends with 0x0805 when a freeze fault leaves SERVICE (R59, R551). -/
def cancelService (s : Sys) : Sys :=
  let s := ({ s with smp := { s.smp with clearing := false } } : Sys).pprCancel
  if s.eng.command.isSome then
    ({ s.wr Key.Store.STORE_RESULT 0x0805 with eng := { s.eng with command := none } } : Sys).raise 63
  else s

/-- The bits checked since lock (R354): those of the time passed at the rate of the test. -/
def bitsSince (s : Sys) (l : Nat) : Nat :=
  if s.rdB (Key.LaneTest.TEST_LOCK l) then (s.clk - (s.lane l).lockAt) * rateKbit (s.rd (Key.LaneTest.TEST_RATE l)) / 1000000
  else s.rd (Key.LaneTest.BITS l)

/-- A lane leaves TEST for OFF (R354): its counts stay. -/
def testOver (s : Sys) (l : Nat) : Sys := ((s.wr (Key.LaneTest.BITS l) (s.bitsSince l)).laneStage l 0).wrB (Key.LaneTest.TEST_LOCK l) false

/-- The effects on the blocks of entering FAULT (R56, R142, R170, R206, R282, R310, R354). -/
def faultEffects (s : Sys) (code : Nat) : Sys :=
  let s := s.each (List.range 16) chFault
  let s := s.each (List.range 4) (fun s g => s.grpStop g 8)
  let s := s.each (List.range 64) slotLeave
  let s := s.each (List.range 8) (fun s a => s.when (decide (s.axState a = 2 ∨ s.axState a = 3)) (fun s => s.axCause a false 10))
  let s := s.collect code ((List.range 16).filter (fun c => s.rdBit (Key.Stitch.TAKEOVER_ON c) 3 && s.hasZone c))
    ((List.range 32).filter (fun h => s.rdBit (Key.Head.TAKEOVER_ON h) 3 && s.hasOverlap h))
  let s := s.calDeviceState
  let s := s.each ((List.range 16).filter (fun l => decide (s.rd (Key.Lane.STAGE l) = 5))) testOver
  s.refresh

/-- A freeze fault takes the unit into FAULT (R59, R60). In START it is kept for the end of restore; in FAULT the unit
stays. A pending transition ends. -/
def enterFault (s : Sys) (code t : Nat) : Sys :=
  match s.dev with
  | .start => { s with eng := { s.eng with freezeInStart := s.eng.freezeInStart.orElse (fun _ => some (code, t)) } }
  | .fault => s
  | d =>
    let s := s.when (decide (d = .service)) cancelService
    let s := s.setCause 0x0020 code (devCode d) 4 0
    let s := { s with dev := .fault, pendState := none, smp := { s.smp with entries := s.smp.entries + 1 } }
    ((s.wr Key.Gath.FIRST_FREEZE code).captureSource 0x51 t).faultEffects code

/-- A fault occurs: code, instance kind and instance of R492, detection time (R487). -/
def fault (s : Sys) (code kind inst t : Nat) : Sys :=
  let s := s.occur code kind inst t
  if s.reaction code = 4 then s.enterFault code t else s

/-- A fault detected now. -/
def faultNow (s : Sys) (code kind inst : Nat) : Sys := s.fault code kind inst s.now

/-- An update halts with a CAUSE (R240). -/
def haltUpdate (s : Sys) (u cause status : Nat) : Sys :=
  let s := s.haltUpdateCore u cause status
  if s.reaction 0x29 = 4 then s.enterFault 0x29 s.now else s

/-- An update of channel `c` that is being built or waits for its seam point halts DEFERRED when a stop begins (R240). -/
def deferUpdate (s : Sys) (c : Nat) : Sys :=
  s.when (decide (s.rd (updKey c 0x0A) = 2 ∨ s.rd (updKey c 0x0A) = 3)) (fun s => s.haltUpdate c 1 2)

/-- Capture the address and master of a bus error or parity error, if no capture is held, and raise it (R15, R497). -/
def captureError (s : Sys) (code addr master : Nat) : Sys := (s.captureAt addr master).faultNow code 0 0

end Sys

end Sys2Proof.Machine
end

