-- ==== Sys2Proof/Machine/Fabric.lean ====
section
/-! DEFINITION. Fabric: the freeze of the DRAM controller (R388, R389) with what it does to camera frames (R328), and the checks of one
access by a master on its way through the fabric (R15 to R17, R380, R384, R392, R447). -/

namespace Sys2Proof.Machine

open Sys2Proof

namespace Sys

/-! ### Camera frames (R318, R328) -/

/-- Context `k`. -/
def ctx (s : Sys) (k : Nat) : CamCtx := s.cam.ctxs.getD k {}

/-- Change context `k`. -/
def modCtx (s : Sys) (k : Nat) (f : CamCtx → CamCtx) : Sys :=
  { s with cam := { s.cam with ctxs := s.cam.ctxs.setIfInBounds k (f (s.ctx k)) } }

/-- The state of context `k` (R318). -/
def ctxState (s : Sys) (k : Nat) : Nat := s.rd (Key.CtxSt.STATE k)

/-- The open frame of a context, which is its newest. -/
def openFrame (s : Sys) (k : Nat) : Option CamFrame := (s.ctx k).frames.getLast?.filter (fun f => !f.closed)

/-- Change the frame of context `k` with a sequence number. -/
def modFrame (s : Sys) (k seq : Nat) (f : CamFrame → CamFrame) : Sys :=
  s.modCtx k (fun q => { q with frames := q.frames.map (fun x => if x.seq = seq then f x else x) })

/-- Set flags of a frame (R332). -/
def markFrame (s : Sys) (k seq : Nat) (bits : List Nat) : Sys :=
  s.modFrame k seq (fun f => { f with flags := bits.foldl (fun n b => putBit n b true) f.flags })

/-- The open frame of context `k` closes with some flags (R318, R319, R327). -/
def closeFrame (s : Sys) (k : Nat) (bits : List Nat) : Sys :=
  match s.openFrame k with
  | none => s
  | some f =>
    let s := s.markFrame k f.seq (bits ++ if f.got < s.rd (Key.Ctx.HEIGHT k) then [0] else [])
    let s := s.modFrame k f.seq (fun f => { f with closed := true, closeAt := s.now })
    let flags := ((s.ctx k).frames.getLast?.map (fun f => f.flags)).getD 0
    let s := s.inc64 (Key.CtxSt.FRAMES k)
    let s := s.when (flags.testBit 2) (fun s => s.inc (Key.CtxSt.TRUNCATED k))
    let s := s.when (flags.testBit 0) (fun s => s.inc (Key.CtxSt.SHORT k))
    let s := s.when (flags.testBit 1) (fun s => s.inc (Key.CtxSt.LONG k))
    s.each ((List.range 3).filter (fun n => (f.bufs.getD n none).isSome)) (fun s n =>
      s.wr (Key.Out.HEAD k n) ((s.rd (Key.Out.HEAD k n) + 1) % max 1 (s.rd (Key.Out.COUNT k n))))

/-- The DRAM has frozen: open frames with an output in DRAM close with TRUNCATED (R328). -/
def camFreeze (s : Sys) : Sys :=
  s.each (List.range 16) (fun s k =>
    match s.openFrame k with
    | some f => if f.bufs.any (fun b => b.any (fun x => decide (dramBase ≤ x.2))) then (s.closeFrame k [2]).wr (Key.CtxSt.STATE k) 1 else s
    | none => s)

/-! ### Freeze (R388, R389) -/

/-- Writes answered and not yet issued, of both channels, newest first. -/
def unissued (s : Sys) : List DramReq :=
  let l := ((s.dch 0).flight ++ (s.dch 1).flight ++ (s.dch 0).queue ++ (s.dch 1).queue).filter (fun r => r.write && !r.void)
  -- later arrivals first; within one instant the later in its queue, and a queued one before one in flight
  (l.reverse).mergeSort (fun a b => decide (b.at_ ≤ a.at_))

/-- Memory as it stands without the writes that are not issued. -/
def undoWrites (s : Sys) : Sys := s.unissued.foldl (fun s r => (s.setBytes r.addr r.old).setBad r.addr r.len r.oldBad) s

/-- A read of the DRAM that gets a bus error returns zero (R388, R392). -/
def dramRefuse (s : Sys) (r : DramReq) : Sys := (s.emit (.busError r.master r.addr)).emit (.data r.master 0)

/-- Every read that waits, in a queue or for its data, gets a bus error. -/
def refuseReads (s : Sys) : Sys :=
  (((s.dch 0).flight ++ (s.dch 1).flight ++ (s.dch 0).queue ++ (s.dch 1).queue).filter (fun r => !r.write && !r.void)).foldl dramRefuse s

/-- A refresh interval of channel `c` is served (R386): four REFsb commands or one REFab. -/
def refreshOut (s : Sys) (c n : Nat) : Sys :=
  iter (fun s => if s.rdB Key.Dmc.REFRESH_MODE then s.each (List.range 4) (fun s ba => s.emit (.dram c 1 ba)) else s.emit (.dram c 0 0)) n s

/-- The refresh that a read-modify-write held is issued (R383, R386). -/
def refreshOwed (s : Sys) (c : Nat) : Sys := (s.refreshOut c (s.dch c).owed).modDch c (fun d => { d with owed := 0 })

/-- The controller freezes (R388, R389): the syndrome of the first cause, queued requests answered with a bus error, and the
answered writes that were not issued undone. Reads that are issued still return, to nobody. -/
def dramFreeze (s : Sys) (code ch kind addr loc row lanes cmd master : Nat) : Sys :=
  let s := ((((((s.wr Key.DmcErr.ADDRESS addr).wr Key.DmcErr.KIND kind).wr Key.DmcErr.LOCATION loc).wr Key.DmcErr.ROW row).wr
    Key.DmcErr.LANES lanes).wr Key.DmcErr.COMMAND cmd).wr Key.DmcErr.MASTER master
  let s := ((s.wr Key.DmcErr.TIME s.now).wr Key.DmcErr.FURTHER 0).inc Key.DmcErr.FREEZES
  let s := (s.refuseReads).add Key.DmcErr.DROPPED_WRITES 32 s.unissued.length
  let s := (s.undoWrites).each (List.range 2) (fun s c =>
    (s.refreshOwed c).modDch c (fun d => { flight := d.flight.map (fun r => { r with void := true }) }))
  ((s.wr Key.DmcSt.STATE 3).camFreeze).faultNow code 12 ch

/-- LOCATION of a place (R389). -/
def locOf (p : DramPlace) : Nat := p.ch + 2 * p.rank + 4 * p.bg + 32 * p.ba + 128 * p.burst

/-- The freeze of a request whose burst or queue entry is at fault. -/
def freezeAt (s : Sys) (code kind : Nat) (r : DramReq) (lanes cmd : Nat) : Sys :=
  let p := s.dramPlace r.addr
  s.dramFreeze code p.ch kind (r.addr / 64 * 64) (locOf p) p.row lanes cmd r.master

/-- The controller reaches RUNNING (R392, R393): DRAM_UNTRAINED ends, and an ALERT_n that is low freezes it (R388). -/
def dramRun (s : Sys) : Sys :=
  let s := (s.wr Key.DmcSt.STATE 2).clearCode 0x5B
  if s.dram.alertA then s.dramFreeze 0x5A 0 4 0 0 0 0 5 0xFF else if s.dram.alertB then s.dramFreeze 0x5A 1 5 0 0 0 0 5 0xFF else s

/-- The lanes of R389 of some addresses within one burst. -/
def lanesOf (l : List Nat) : Nat := l.foldl (fun n a => putBit n (a % 64) true) 0

/-- The bytes that a read of the DRAM by master `m` returns fail their parity (R388): those of `lanes` in the burst of `a`. -/
def readFails (s : Sys) (m a len lanes : Nat) : Sys :=
  s.freezeAt 0x58 1 { write := false, addr := a, len := len, master := m, at_ := s.now } lanes 0

/-- A parity error on a read by master `m` whose bytes the command does not name (R388, R552): DRAM data freezes the controller. Which byte
of the first burst failed is a free value (log entry 28). -/
def memParity (s : Sys) (m a len : Nat) : Sys :=
  let x := fullAddr a
  if regionOf x = 7 ∧ s.dramServes then s.useFree.readFails m x len (2 ^ (x % 64 + s.freeVal.toNat % min (max 1 len) (64 - x % 64))) else s

/-! ### The order of the DRAM (R384) -/

/-- A request has been served (R383): counters, and the data of a read. -/
def dramServed (s : Sys) (r : DramReq) : Sys :=
  if !r.write then (s.inc64 Key.DmcCnt.READS).emit (.data r.master r.val)
  else if r.len < 64 then ((s.inc64 Key.DmcCnt.READS).inc Key.DmcCnt.RMW).inc64 Key.DmcCnt.WRITES
  else s.inc64 Key.DmcCnt.WRITES

/-- The requests of a bank are issued before a read that follows them in in-order mode (R384). -/
def dramSettle (s : Sys) (c bank : Nat) : Sys :=
  let mine (r : DramReq) : Bool := !r.void && decide (bankOf (s.dramPlace r.addr) = bank)
  let l := ((s.dch c).flight ++ (s.dch c).queue).filter mine
  let s := s.modDch c (fun d => { d with flight := d.flight.filter (fun r => !mine r), queue := d.queue.filter (fun r => !mine r) })
  let s : Sys := { s with smp := { s.smp with dramBytes := s.smp.dramBytes + 64 * l.length } }
  let s := l.foldl dramServed s
  if (s.dch c).flight.all (fun r => !r.write) then s.refreshOwed c else s

/-- A read of one burst outside the queues (R384, R388): it follows the queued requests whose row it meets; a byte that was stored with bad
parity freezes the controller. -/
def dramFetch (s : Sys) (m a n : Nat) : Sys × Bool :=
  if s.rd Key.DmcSt.STATE ≠ 2 then (s, false)
  else
    let p := s.dramPlace a
    let q := (s.dch p.ch).queue
    let bank (r : DramReq) : Bool := decide (bankOf (s.dramPlace r.addr) = bankOf p)
    let ordered := q.any (fun r => bank r && r.during)
    let meets := q.any (fun r => bank r && decide ((s.dramPlace r.addr).row = p.row))
    let s := s.when (!ordered && meets) (fun s => s.inc Key.DmcCnt.IN_ORDER)
    let s := s.when (ordered || meets) (fun s => s.dramSettle p.ch (bankOf p))
    match s.badStored (a / 64 * 64) 64 with
    | [] => ({ s.inc64 Key.DmcCnt.READS with smp := { s.smp with dramBytes := s.smp.dramBytes + 64 } }, true)
    | l => (s.readFails m a n (lanesOf l), false)

/-! ### One access (R15 to R17, R392, R447) -/

/-- The checks of one access by a master on its way through the fabric (R15, R17, R392, R447): what refuses it, then whether the DRAM, or
the L2 before it (R426), serves it. False is a bus error. -/
def busGate (s : Sys) (m : Nat) (machine write : Bool) (addr len : Nat) : Sys × Bool :=
  match s.refusal m machine write addr len with
  | some r => ((s.noteRefusal m machine r).faultNow r.1 0 0, false)
  | none => (s, decide (regionOf (fullAddr addr) ≠ 7) || s.dramServes || s.inL2 (fullAddr addr) len)

/-- As `busGate`; a read of the DRAM takes its bursts (R384, R388). -/
def busCheck (s : Sys) (m : Nat) (machine write : Bool) (addr len : Nat) : Sys × Bool :=
  let g := s.busGate m machine write addr len
  let a := fullAddr addr
  if !g.2 || write || decide (regionOf a ≠ 7) then g
  else (List.range ((a % 64 + len + 63) / 64)).foldl (fun (p : Sys × Bool) k =>
    if p.2 && !p.1.inL2 (a / 64 * 64 + 64 * k) 64 then p.1.dramFetch m (max a (a / 64 * 64 + 64 * k)) (min 64 len) else p) g

/-- As `busCheck`, for a device master. -/
def grant (s : Sys) (m : Nat) (write : Bool) (a len : Nat) : Sys × Bool := s.busCheck m false write a len

/-- A device reads `len` bytes whose byte parity is `ok` (R485): false is a bus error or a parity error, which freezes the DRAM (R388). -/
def readOk (s : Sys) (m a len : Nat) (ok : Bool) : Sys × Bool :=
  let g := s.grant m false a len
  if !g.2 || ok then g else (g.1.memParity m a len, false)

/-- A device writes; without effect where it gets a bus error. -/
def deviceWrite (s : Sys) (m a : Nat) (data : List Nat) : Sys :=
  let g := s.grant m true a data.length
  if g.2 then g.1.busStore m a data 0 else g.1

/-- A device puts a record into its ring (R191, R279). -/
def ringRecord (s : Sys) (m addr len head tail lost : Nat) (rec : List Nat) : Sys :=
  s.ringPut m (fun s a n => s.grant m true a n) addr len head tail lost rec

end Sys

end Sys2Proof.Machine
end

