-- ==== Sys2Proof/Machine/Hoop.lean ====
section
/-! DEFINITION. Hoop: the correction table of a channel (R125 to R128) and the checks of a substitution map (R218). -/

namespace Sys2Proof.Machine

open Sys2Proof

/-- The length of the table of update `u`: a hoop table for a channel, a map for a head (R125, R218). -/
def tableLen (u : Nat) : Nat := if u < 16 then 101440 else 16448

/-- The bytes its CRC covers: everything before the CRC itself. -/
def tableCovered (u : Nat) : Nat := if u < 16 then 101404 else 16388

/-- The offset of GEN. -/
def tableGenAt (u : Nat) : Nat := if u < 16 then 101400 else 16384

/-- The three corrections of a hoop word (R125): DX, DY, DZ. -/
def hoopField (w f : Nat) : Int := sext 18 (w / 2 ^ (18 * f))

/-- The four Catmull-Rom weights of `t / 2^18`, with 20 fraction bits (R126). -/
def hoopWeights (t : Int) : List Int :=
  let a : Int := 2 ^ 18
  [rdiv (-t * t * t + 2 * t * t * a - t * a * a) (2 ^ 35), rdiv (3 * t * t * t - 5 * t * t * a + 2 * a * a * a) (2 ^ 35),
   rdiv (-3 * t * t * t + 4 * t * t * a + t * a * a) (2 ^ 35), rdiv (t * t * t - t * t * a) (2 ^ 35)]

/-- A quotient of integers rounded to nearest, ties away from zero; 0 for a divisor of 0. -/
def rdivI (n d : Int) : Int := if d = 0 then 0 else rdiv (n * sgn d) d.natAbs

/-- The quadratic through three planes at `z` (R126). -/
def lagrange (z0 z1 z2 d0 d1 d2 z scale : Int) : Int :=
  rdivI (d0 * (z - z1) * (z - z2) * (z1 - z2) - d1 * (z - z0) * (z - z2) * (z0 - z2) + d2 * (z - z0) * (z - z1) * (z0 - z1))
    ((z0 - z1) * (z0 - z2) * (z1 - z2) * scale)

namespace Sys

/-- The CRC of a table at an address holds (R125, R218). -/
def tableCrcOk (s : Sys) (u addr : Nat) : Bool :=
  decide (s.ld (addr + tableCovered u) 4 = crc32 (s.bytes addr (tableCovered u)))

/-- A word of the active table of channel `c`, with node indexes held within the grid (R126). -/
def hoopWord (s : Sys) (c p : Nat) (i j : Int) : Nat :=
  let n (v : Int) : Nat := (clamp v 0 64).toNat
  s.ld (s.rd (Key.Hoop.ACTIVE_ADDR c) + 8 * (p * 4225 + n j * 65 + n i)) 8

/-- A product as it goes into the accumulator of R126. The sum of a plane needs 18 bits before its point and a sign, so that 48 bits leave 29
after it (DESIGN CHOICE, log entry 50): the 11 bits of a product that lie below are rounded off, up or down as the open value 9 has it. -/
def hoopNarrow (p : Int) : Int :=
  let low := p % 2 ^ 11
  p / 2 ^ 11 + (if low = 0 then 0 else Config.openValue 9 [p] % 2)

/-- The interpolated correction of one plane (R126), for DX, DY and DZ, with 29 fraction bits. -/
def hoopPlane (s : Sys) (c p : Nat) (x y : Int) : Int × Int × Int :=
  let i := (x + 2 ^ 23) / 2 ^ 18
  let j := (y + 2 ^ 23) / 2 ^ 18
  let wx := hoopWeights ((x + 2 ^ 23) % 2 ^ 18)
  let wy := hoopWeights ((y + 2 ^ 23) % 2 ^ 18)
  (List.range 16).foldl (fun (acc : Int × Int × Int) (k : Nat) =>
    let a : Nat := k % 4
    let b : Nat := k / 4
    let w := s.hoopWord c p (i - 1 + a) (j - 1 + b)
    let m := wx.getD a 0 * wy.getD b 0
    let part (f : Nat) : Int := hoopNarrow (m * hoopField w f)
    (acc.1 + part 0, acc.2.1 + part 1, acc.2.2 + part 2)) (0, 0, 0)

/-- The entry at fault in the order of the Z planes (R128), if there is one. -/
def planeFault (s : Sys) (c : Nat) : Option Nat :=
  if s.rdI (Key.Hoop.Z_PLANE1 c) ≤ s.rdI (Key.Hoop.Z_PLANE0 c) then some (Key.Hoop.Z_PLANE1 c)
  else if s.rdI (Key.Hoop.Z_PLANE2 c) ≤ s.rdI (Key.Hoop.Z_PLANE1 c) then some (Key.Hoop.Z_PLANE2 c)
  else none

/-- The corrected point (R126, R127), and whether an axis was saturated. A table that has not passed both its checks is never applied (R128). -/
def hoopCorrect (s : Sys) (c : Nat) (x y z : Int) : (Int × Int × Int) × Bool :=
  if !(s.rdB (Key.Hoop.HOOP_ENABLE c) && s.rdB (Key.Hoop.TABLE_OK c) && (s.planeFault c).isNone) then ((x, y, z), false)
  else
    let z0 := s.rdI (Key.Hoop.Z_PLANE0 c)
    let z1 := s.rdI (Key.Hoop.Z_PLANE1 c)
    let z2 := s.rdI (Key.Hoop.Z_PLANE2 c)
    let zc := clamp z z0 z2
    let p0 := s.hoopPlane c 0 x y
    let p1 := s.hoopPlane c 1 x y
    let p2 := s.hoopPlane c 2 x y
    let f (a b d : Int) : Int := lagrange z0 z1 z2 a b d zc (2 ^ 29)
    let cx := x + 64 * f p0.1 p1.1 p2.1
    let cy := y + 64 * f p0.2.1 p1.2.1 p2.2.1
    let cz := z + 64 * f p0.2.2 p1.2.2 p2.2.2
    ((sat 24 cx, sat 24 cy, sat 24 cz), decide (sat 24 cx ≠ cx ∨ sat 24 cy ≠ cy ∨ sat 24 cz ≠ cz))

/-- The CRC check of the active table of channel `c` (R128): TABLE_OK and ACTIVE_GEN take its result. -/
def hoopCheck (s : Sys) (c : Nat) (parity : Bool) : Sys :=
  let a := s.rd (Key.Hoop.ACTIVE_ADDR c)
  let g := s.readOk (0x30 + c) a 101440 parity
  let s := g.1
  let ok := g.2 && decide (s.rd (Key.Hoop.ACTIVE_LEN c) = 101440) && s.tableCrcOk 0 a
  (s.wrB (Key.Hoop.TABLE_OK c) ok).wr (Key.Hoop.ACTIVE_GEN c) (if ok then s.ld (a + 101400) 4 else 0)

/-- Another table is active, which has not passed its check (R128, R246): TABLE_OK or MAP_OK, and ACTIVE_GEN, read 0. -/
def tableStale (s : Sys) (u : Nat) : Sys :=
  if u < 16 then (s.wrB (Key.Hoop.TABLE_OK u) false).wr (Key.Hoop.ACTIVE_GEN u) 0
  else (s.wrB (Key.Map.MAP_OK (u - 16)) false).wr (Key.Map.ACTIVE_GEN (u - 16)) 0

/-- The check of the active map of head `h` (R246): MAP_OK and ACTIVE_GEN take its result. -/
def mapCheck (s : Sys) (h : Nat) (parity : Bool) : Sys :=
  let a := s.rd (Key.Map.ACTIVE_ADDR h)
  let g := s.readOk 0x40 a 16448 parity
  let s := g.1
  let ok := g.2 && decide (s.rd (Key.Map.ACTIVE_LEN h) = 16448) && s.tableCrcOk 16 a
  (s.wrB (Key.Map.MAP_OK h) ok).wr (Key.Map.ACTIVE_GEN h) (if ok then s.ld (a + 16384) 4 else 0)

end Sys

end Sys2Proof.Machine
end

