-- ==== Sys2Proof/Machine/Reports.lean ====
section
/-! DEFINITION. Reports: the unmarked-region queue (R212 to R214), the records of stops (R140, R230) and of gaps, and the swap of a table (R239, R240). -/

namespace Sys2Proof.Machine

open Sys2Proof

namespace Sys

/-! ### The queue (R212) -/

/-- Put a record of 60 bytes, which RECORD_SEQ completes, into the unmarked-region queue (R212). -/
def putReport (s : Sys) (c : Nat) (body : List Nat) : Sys :=
  if 256 ≤ s.stitch.reports.length then
    let s := s.inc Key.Rep.LOST
    if s.rdB Key.Rep.OVERFLOW then s else (s.wrB Key.Rep.OVERFLOW true).sendAlarm 4 0x24 s.now 0 []
  else
    let empty := s.stitch.reports.isEmpty
    let rec_ := body ++ le 4 s.stitch.nextSeq
    let s : Sys := { s with stitch := { s.stitch with reports := s.stitch.reports ++ [rec_], nextSeq := (s.stitch.nextSeq + 1) % 2 ^ 32 } }
    let s := s.wr Key.Rep.COUNT s.stitch.reports.length
    let s := s.when empty (fun s => s.sendAlarm 4 0x24 s.now 0 [])
    (s.raise 31).faultNow 0x24 1 c

/-- A machine coordinate of a record, in units of 10 nm. -/
def recNm (v : Int) : List Nat := le 4 (trunc 32 (rdiv v 10))

/-- A record about a zone (R214): kinds 3, 4 and 5. -/
def zoneReport (s : Sys) (kind c z t : Nat) : Sys :=
  let um (k : Nat) : List Nat := le 4 (trunc 32 (100 * s.rdI k))
  s.putReport c ([kind, c, z, 0] ++ le 4 0 ++ le 4 0 ++ le 4 0 ++ le 2 0 ++ le 2 0 ++ le 2 0 ++ le 2 0 ++ le 8 t ++ le 8 0 ++
    um (Key.Zone.X0 c z) ++ um (Key.Zone.Y0 c z) ++ um (Key.Zone.X1 c z) ++ um (Key.Zone.Y1 c z) ++
    [s.rd (Key.Zone.PARTNER_ADDR c z), s.rd (Key.Zone.PARTNER_CH c z)] ++ le 2 0)

/-- How far along the descriptor of a span the path is at set-point time `u`: rnd(fraction * 65,535) (R213). -/
def fracAt (path : List Seg) (p : Span) (u : Nat) : Nat :=
  match segAt path (min p.pathTo (max p.pathFrom u)) with
  | some g => (nearest ((clamp (g.along (min p.pathTo (max p.pathFrom u))) 0 g.len).toNat * 65535) g.len)
  | none => 0

/-- The machine point of the path at set-point time `u` within a span. -/
def pointAt (s : Sys) (c : Nat) (path : List Seg) (p : Span) (u : Nat) : Int × Int :=
  match segAt path (min p.pathTo (max p.pathFrom u)) with
  | some g =>
    let q := g.point (g.along (min p.pathTo (max p.pathFrom u)))
    s.toMachine c (rdiv q.1 65536) (rdiv q.2.1 65536)
  | none => s.toMachine c (rdiv (s.ch c).x 65536) (rdiv (s.ch c).y 65536)

/-- A record about part of a descriptor's path, from gate instant `t0` to `t1` (R214): kinds 1 and 2. -/
def pathReport (s : Sys) (kind c flags : Nat) (path : List Seg) (p : Span) (t0 t1 u0 u1 : Nat) : Sys :=
  let a := s.pointAt c path p u0
  let b := s.pointAt c path p u1
  s.putReport c ([kind, c, 0xFF, flags] ++ le 4 p.d.e ++ le 4 p.d.layer ++ le 4 p.d.seq ++ le 2 p.d.slot ++ le 2 (fracAt path p u0) ++
    le 2 (if u1 ≥ p.pathTo then 65535 else fracAt path p u1) ++ le 2 0 ++ le 8 t0 ++ le 8 t1 ++
    recNm a.1 ++ recNm a.2 ++ recNm b.1 ++ recNm b.2 ++ [0xFF, 0xFF] ++ le 2 0)

/-! ### The records of a stop (R140, R230, R231) -/

/-- The log record of an executed or rejected CAL_MARK (R231), with its STATUS and time. -/
def markRecord (s : Sys) (c status t gen : Nat) (d : Desc) : Sys :=
  s.calLog ([1, status, c, d.flags / 32 % 4] ++ le 4 d.f ++ le 8 t ++ le 4 d.a ++ le 4 d.b ++ le 4 gen ++ le 4 d.layer)

/-- A set-point of the plan of channel `c` at a path time of a span is owned (R229). -/
def spanOwned (s : Sys) (c : Nat) (path : List Seg) (p : Span) (u : Nat) : Bool :=
  match segAt path u with
  | some g =>
    let q := g.point (g.along u)
    s.placeOwned c (decide (p.d.op = 9)) (s.placeOf c p.d.layer (rdiv q.1 65536) (rdiv q.2.1 65536))
  | none => false

/-- The path of a CAL_MARK has ended, and with it the mark but for its gate (R230, R231). A mark between two samples is judged by the ends
of its spans. -/
def markOver (s : Sys) (c t : Nat) (d : Desc) : Sys :=
  (s.inc (Key.Ins.MARKS_DONE c)).modCh c (fun q => { q with
    calPartial := false, calOpened := none
    calEnds := q.calEnds ++ [{
      d := d, gen := q.calGen, opened := q.calOpened.getD t, closeAt := q.plan.spans.foldl (fun m p => max m p.closeAt) t
      partial_ := q.calPartial || q.plan.spans.any (fun p => !s.spanOwned c q.plan.segs p p.pathFrom || !s.spanOwned c q.plan.segs p p.pathTo) }] })

/-- The CAL_MARKs whose gate has closed by instant `t` are logged DONE, or PARTIAL where a point was not owned (R231). -/
def marksLogged (s : Sys) (c t : Nat) : Sys :=
  let (past, rest) := (s.ch c).calEnds.partition (fun e => decide (e.closeAt ≤ t))
  if past = [] then s
  else past.foldl (fun s e => s.markRecord c (if e.partial_ then 4 else 1) e.opened e.gen e.d) (s.modCh c (fun q => { q with calEnds := rest }))

/-- A stop at `t` cuts the CAL_MARKs whose gate is still to close, the executing one among them (R230). -/
def marksCut (s : Sys) (c t : Nat) : Sys :=
  let s := s.marksLogged c t
  let q := s.ch c
  let s := q.calEnds.foldl (fun s e => s.markRecord c 2 (min e.opened t) e.gen e.d) (s.modCh c (fun q => { q with calEnds := [], calOpened := none, calPartial := false }))
  match q.cur with
  | some d => if d.op = 9 then s.markRecord c 2 (min (q.calOpened.getD t) t) q.calGen d else s
  | none => s

/-- The spans that the look-ahead would still open after the present plan (R214), with their path, up to gate instant
`until_`; and whether the look-ahead ends before it. -/
def planAhead (l : Lims) (until_ : Nat) : Modulation → PlanEnd → List Desc → List Span × List Seg × Bool
  | _, e, [] => ([], [], decide (e.t < until_))
  | m, e, d :: rest =>
    if until_ ≤ e.t then ([], [], false)
    else if d.op = 7 then ([], [], true)
    else if d.op = 15 then ([], [], true)
    else if d.op = 5 then planAhead l until_ { mode := d.param, period := d.a, width := d.b, spacing := d.c } e rest
    else if d.op = 6 then planAhead l until_ m { e with t := max e.t (d.a + 2 ^ 32 * d.b) } rest
    else
      let p := planDesc l m e d rest
      let (sp, sg, end_) := planAhead l until_ m p.fin rest
      (p.spans ++ sp, p.segs ++ sg, end_)

/-- The open time of the gate request of channel `c` between two instants, in ns. -/
def openNs (s : Sys) (c t0 t1 : Nat) : Nat :=
  let q := s.ch c
  let sh (e : Nat × Nat) : List Nat := [e.1 + s.rd (Key.Mark.LASER_ON_SHIFT c), e.1 + s.rd (Key.Mark.LASER_OFF_SHIFT c)]
  -- the first CECLK cycle of a record's pixels, and the first one after them (R258)
  let cycle (ps : Nat) : Nat := 2 * ((ps + 1000) / 2000)
  let cuts := ((q.spans ++ q.plan.spans).foldl (fun l p => l ++ [p.openAt, p.closeAt]) []) ++ q.edges.foldl (fun l e => l ++ sh e) [] ++
    [cycle q.rasStart, cycle (q.rasStart + q.rasPixels.length * q.rasPeriod)]
  let inside := (cuts.filter (fun x => decide (t0 < x ∧ x < t1))).mergeSort (fun a b => decide (a ≤ b))
  let marks := t0 :: inside
  ((marks.zip (inside ++ [t1])).foldl (fun n p => if s.gateRequest c p.1 then n + (p.2 - p.1) else n) 0)

/-- GATE_OPEN_TIME counts up to instant `t` (R146). -/
def countOpen (s : Sys) (c t : Nat) : Sys :=
  let q := s.ch c
  let n := q.openRest + (if q.counted < t then s.openNs c q.counted t else 0)
  (s.add (Key.ChCnt.GATE_OPEN_TIME c) 64 (n / 1000)).modCh c (fun q => { q with openRest := n % 1000, counted := max q.counted t })

/-- The record in execution is over: its CROSS and Z are those that the next one moves from (R134). -/
def recordOver (q : Scu) : Scu :=
  { q with rasCur := none, rasPixels := [], rasCross := q.rasCur.elim q.rasCross (fun d => coord d.a), rasZ := q.rasCur.elim q.rasZ (fun d => coord d.b) }

/-- The reports of a stop that began at `t` (R140): UNFINISHED for every marking descriptor that the gate leaves open,
CUT for a CAL_MARK; the spans that would have followed are kept for GAP records. The plan ends, and with it a raster record. -/
def stopReports (s : Sys) (c : Nat) : Sys :=
  let q := s.ch c
  match q.closed with
  | none => s
  | some t =>
    let l := s.lims c
    let path := q.past ++ q.plan.segs
    let left := (q.spans ++ q.plan.spans).filter (fun p => decide (t < p.closeAt))
    let s := (s.countOpen c t).marksCut c t
    let ahead := planAhead l (t + s.rd Key.Take.TAKEOVER_LEAD) q.modn q.plan.fin q.look
    let s := s.modCh c (fun q => { recordOver q with
      closed := none, gap := ahead.1, gapPath := ahead.2.1, gapEnd := ahead.2.2, spans := [], plan := { fin := { q.plan.fin with t := t, v := 0, open_ := false } }, cur := none, waitSince := none })
    let s := left.foldl (fun s p =>
      if isMarking p.d.op then
        let u := t - l.onShift
        s.pathReport 1 c 0 path p (max t (p.pathFrom + l.onShift)) p.closeAt u p.pathTo
      else s) s
    s.deferUpdate c

/-! ### The swap (R239) -/

/-- The halt with a parity or verification failure (R240): status FAILED. -/
def failUpdate (s : Sys) (u detail : Nat) (parity : Bool) : Sys :=
  let s := s.when parity (fun s => s.faultNow 0x2A (if u < 16 then 1 else 4) (if u < 16 then u else u - 16))
  (s.wr (updKey u 0x0D) detail).haltUpdate u 4 5

/-- A retained copy is queued (R222). -/
def queueCopy (s : Sys) (u : Nat) : Sys :=
  let s : Sys := { s with cal := { s.cal with copies := s.cal.copies ++ [u] } }
  s.wr Key.Cal.COPY_QUEUE s.cal.copies.length

/-- The keys of ACTIVE_ADDR and PENDING_ADDR of table `u`. -/
def activeKey (u : Nat) : Nat := if u < 16 then Key.Hoop.ACTIVE_ADDR u else Key.Map.ACTIVE_ADDR (u - 16)
def pendingKey (u : Nat) : Nat := if u < 16 then Key.Hoop.PENDING_ADDR u else Key.Map.PENDING_ADDR (u - 16)
def targetKey (u : Nat) : Nat := updKey u 1

/-- The swap of table `u` at instant `t` (R239): the addresses exchange roles, ACTIVE_GEN takes the new GEN, and the
update ends or goes on to its next step. -/
def swapTable (s : Sys) (u t : Nat) : Sys :=
  let a := s.rd (activeKey u)
  let p := s.rd (pendingKey u)
  let s := (s.wr (activeKey u) p).wr (pendingKey u) a
  let s := s.wr (if u < 16 then Key.Hoop.ACTIVE_GEN u else Key.Map.ACTIVE_GEN (u - 16)) (s.ld (p + tableGenAt u) 4)
  -- the readback of the build is the check of the new table (R239)
  let s := s.wrB (if u < 16 then Key.Hoop.TABLE_OK u else Key.Map.MAP_OK (u - 16)) true
  let s := (s.inc (updKey u 0x13)).wr (updKey u 0x0F) t
  let k := s.rd (updKey u 0x0B)
  let s := s.swapRecord u 1 t
  if k = s.rd (updKey u 3) then (s.wr (updKey u 0x0A) 5).queueCopy u
  else (s.wr (updKey u 0x0A) 2).wr (updKey u 0x0B) (k + 1)

/-- A due step is SCHEDULED, its T_k has come and its window is still open (R239). -/
def swapDue (s : Sys) (u t : Nat) : Bool :=
  decide (s.rd (updKey u 0x0A) = 3) && decide (s.rd (updKey u 0x0E) ≤ t) &&
    decide (t < s.rd (updKey u 0x0E) + s.rd (updKey u 6) * 1000)

/-- A takeover instant of zone or overlap end `w`, past or to come, lies after `t0` and at or before `t` (R31, R240). -/
def takesIn (s : Sys) (w t0 t : Nat) : Bool :=
  let z := s.stitch.zones.getD w {}
  [z.tookAt, z.instant, z.leave].any (fun o => o.any (fun u => decide (t0 < u ∧ u ≤ t)))

/-- A seam point of channel `c` at instant `u`, in the sample from `t0` to `t` (R123, R239, R240): a due swap is made after the sample,
unless a stop has begun or a takeover instant lies within the sample. -/
def seamSwap (s : Sys) (c t0 u t : Nat) : Sys :=
  if s.swapDue c u then
    if (s.ch c).halt.isSome ∨ (s.ch c).stopAfter.isSome ∨ 4 ≤ s.chState c then s.haltUpdate c 1 2
    else if (List.range 8).any (fun z => s.takesIn (8 * c + z) t0 t) then s.haltUpdate c 2 3
    else s.swapTable c t
  else s

end Sys

end Sys2Proof.Machine
end

