-- ==== Sys2Proof/Machine/Axis.lean ====
section
/-! DEFINITION. Axis: motion axes (R285 to R312): moves, segment tables, stops, the order in which causes and commands act, the stall check, feeds and the bridge drive. -/

namespace Sys2Proof.Machine

open Sys2Proof

/-! ### Stretches (R288, R290) -/

/-- Position and velocity `t` ps into a stretch. -/
def Phase.pos (g : Phase) (t : Nat) : Int :=
  g.p0 + g.v0 * 65536 * t / 1000000000000 + g.acc * 2 ^ 32 * t * t / 2000000000000000000000000

/-- The velocity `t` ps into a stretch, in 2^-16 counts/s. -/
def Phase.speed (g : Phase) (t : Nat) : Int := g.v0 + g.acc * 65536 * t / 1000000000000

/-- The time to change speed by `dv` (2^-16 counts/s) at `a`, in ps. -/
def rampTime (dv : Int) (a : Nat) : Nat := dv.natAbs * 1000000000000 / (65536 * max 1 a)

/-- The way to come to rest from `v` at `a`, in 2^-32 counts. -/
def stopWay (v a : Nat) : Nat := v * v / (2 * max 1 a)

/-- Lay stretches, given as their times, speeds in direction `dir` and accelerations, from a position on. -/
def layRuns (dir : Int) : Int → List (Nat × Nat × Int) → List Phase
  | _, [] => []
  | p, (t, v, a) :: rest =>
    let g : Phase := { dur := t, p0 := p, v0 := dir * v, acc := dir * a }
    if t = 0 then layRuns dir p rest else g :: layRuns dir (g.pos t) rest

/-- The stretches of a trapezoid over `d` (2^-32 counts) from speed `v` to rest, with speed limit `vm` and the rates of
an upward ramp, of a downward ramp to the limit, and of the last ramp (R288, R290). -/
def trapezoid (d v vm au ad dec : Nat) : List (Nat × Nat × Int) :=
  let vm16 := vm * 65536
  let cruise (way v : Nat) : Nat := if v = 0 then 0 else way * 1000000000000 / (v * 65536)
  let twoRates : List (Nat × Nat × Int) :=
    -- the ramp in progress goes on until the last ramp can bring the axis to rest on the target
    let vc := if dec < ad then min v (isqrt ((d - stopWay v ad) * 2 * dec * ad / (ad - dec))) else 0
    [(rampTime ((v : Int) - vc) ad, v, -(ad : Int)), (rampTime vc dec, vc, -(dec : Int))]
  if d < stopWay v dec then twoRates
  else if vm16 < v then
    let way1 := (v * v - vm16 * vm16) / (2 * max 1 ad)
    if d < way1 + stopWay vm16 dec then twoRates
    else [(rampTime ((v : Int) - vm16) ad, v, -(ad : Int)), (cruise (d - way1 - stopWay vm16 dec) vm16, vm16, 0), (rampTime vm16 dec, vm16, -(dec : Int))]
  else
    let vp := min vm16 (isqrt ((2 * d * au * dec + v * v * dec) / max 1 (au + dec)))
    let way1 := (vp * vp - v * v) / (2 * max 1 au)
    [(rampTime ((vp : Int) - v) au, v, (au : Int)), (cruise (d - way1 - stopWay vp dec) vp, vp, 0), (rampTime vp dec, vp, -(dec : Int))]

/-- Move on by `dt` ps through stretches of which `gone` ps have passed: what is left, and whether a stretch that turns
the motion round has begun. -/
def advance : List Phase → Nat → Bool → List Phase × Nat × Bool
  | [], _, b => ([], 0, b)
  | g :: rest, t, b =>
    if t < g.dur then (g :: rest, t, b)
    else advance rest (t - g.dur) (b || (rest.head?.any (fun h => h.turn)))

/-! ### Segments (R292 to R294) -/

/-- The segment at an address. -/
def Sys.tabSegAt (s : Sys) (addr : Nat) : TabSeg :=
  { dur := s.ld addr 4, pEnd := s.ldI (addr + 4) 4, vEnd := s.ldI (addr + 8) 4, flags := s.ld (addr + 12) 2, id := s.ld (addr + 14) 2 }

/-- Position in 2^-32 counts and velocity in 2^-16 counts/s after update `j` of a segment that lasts `t` ns (R293). -/
def segPoint (g : TabSeg) (p0 v0 : Int) (t j : Nat) : Int × Int :=
  if g.dur ≤ j then (g.pEnd * 2 ^ 32, g.vEnd * 65536)
  else
    let n : Int := g.dur
    let k : Int := j
    let dp := sext 32 (trunc 32 (g.pEnd - p0 / 2 ^ 32)) * 2 ^ 32 - p0 % 2 ^ 32
    let tv (v : Int) : Int := v * t * 2 ^ 32 / 1000000000
    (p0 + (dp * (3 * k * k * n - 2 * k * k * k) + tv v0 * (k * n * n - 2 * k * k * n + k * k * k) + tv g.vEnd * (k * k * k - k * k * n)) / (n * n * n),
     (dp * 1000000000 * (6 * k * n - 6 * k * k) / (65536 * t) + 65536 * v0 * (n * n - 4 * k * n + 3 * k * k) + 65536 * g.vEnd * (3 * k * k - 2 * k * n)) / (n * n))

/-- A segment keeps its limits of speed and acceleration (R294), from `p0` (counts) and `v0`. -/
def segWithin (g : TabSeg) (p0 v0 : Int) (t vmax accel : Nat) : Bool :=
  let dp := sext 32 (trunc 32 (g.pEnd - p0))
  let a := -6 * dp * 1000000000 + 3 * (v0 + g.vEnd) * t
  let b := 6 * dp * 1000000000 - 2 * (2 * v0 + g.vEnd) * t
  let inside := decide (0 < -b * sgn a ∧ -b * sgn a < 2 * a * sgn a)
  decide (v0.natAbs ≤ vmax ∧ g.vEnd.natAbs ≤ vmax) &&
    (!inside || decide ((4 * a * t * v0 - b * b).natAbs ≤ vmax * (4 * a * t).natAbs)) &&
    decide ((6 * dp * 1000000000000000000 - 2 * t * 1000000000 * (2 * v0 + g.vEnd)).natAbs ≤ accel * t * t) &&
    decide ((-6 * dp * 1000000000000000000 + 2 * t * 1000000000 * (v0 + 2 * g.vEnd)).natAbs ≤ accel * t * t)

namespace Sys

/-! ### Readings -/

/-- The update period of axis `a` (R286). -/
def axPeriod (s : Sys) (a : Nat) : Nat := s.trigPeriod (s.rd (Key.Axis.TRIGGER a))

/-- The axis is closed-loop. -/
def axClosed (s : Sys) (a : Nat) : Bool := s.rdB (Key.Axis.LOOP a)

/-- The slot that names axis `a` (R302). -/
def axSlot (s : Sys) (a : Nat) : Option Nat := (List.range 16).map (fun i => 48 + i) |>.find? (fun n => decide (s.rd (Key.Slot.OWNER_AXIS n) = a))

/-- The slot of a closed-loop axis is in RUN with APPROACHING 0 (R303). -/
def axSlotRuns (s : Sys) (a : Nat) : Bool :=
  !s.axClosed a || (s.axSlot a).any (fun n => decide (s.slotState n = 1) && !s.rdBit (Key.SlotMon.FLAGS n) 0)

/-- Address and length of a table (R292). -/
def tabAddr (s : Sys) (a t : Nat) : Nat := s.rd (if t = 0 then Key.AxTab.TABLE0_ADDR a else Key.AxTab.TABLE1_ADDR a)
def tabLen (s : Sys) (a t : Nat) : Nat := s.rd (if t = 0 then Key.AxTab.TABLE0_LEN a else Key.AxTab.TABLE1_LEN a)

/-- A segment of a table is good (R294) when it begins at `p0` (counts) with velocity `v0`, under these limits. -/
def tabSegGood (s : Sys) (a t i : Nat) (p0 v0 : Int) (vmax accel : Nat) : Bool :=
  let n := s.tabLen a t / 16
  let g := s.tabSegAt (s.tabAddr a t + 16 * i)
  decide (i < n) && decide (1 ≤ g.dur ∧ g.dur ≤ 16777215 ∧ g.flags < 4) &&
    (decide (i + 1 < n) || decide (g.flags ≠ 0)) && (!g.flags.testBit 0 || decide (g.vEnd = 0)) &&
    segWithin g p0 v0 (g.dur * s.axPeriod a) vmax accel &&
    (!s.rdB (Key.AxMove.LIMIT_EN a) || decide (s.rdI (Key.AxMove.POS_MIN a) ≤ g.pEnd ∧ g.pEnd ≤ s.rdI (Key.AxMove.POS_MAX a)))

/-! ### Changes of state (R306, R307) -/

/-- Set the state of an axis; entry into IDLE latches ESTOP_DECEL (R297). -/
def setAxState (s : Sys) (a st : Nat) : Sys :=
  let s := s.wr (Key.Axis.STATE a) st
  s.when (decide (st = 1)) (fun s => s.wr (Key.AxMon.LATCHED_ESTOP a) (s.rd (Key.AxStop.ESTOP_DECEL a)))

/-- Set the CAUSE of an axis with its time. -/
def setAxCause (s : Sys) (a cause : Nat) : Sys := (s.wr (Key.Axis.CAUSE a) cause).wr (Key.Axis.CAUSE_TIME a) s.now

/-- The generator stops where the set-point stands, with no table. -/
def axRest (s : Sys) (a : Nat) : Sys :=
  let s := (s.wr (Key.AxTab.TABLE_RUNNING a) 0xFF).wrBit (Key.Axis.FLAGS a) 2 false
  s.modAxis a (fun x => { x with pos := x.pos / 2 ^ 32 * 2 ^ 32, vel := 0, phases := [], gone := 0, tab := none, landedAt := none, inRun := 0 })

/-- PEN learns that a feed has ended by a stop, or was refused (R264, R309): FEED_FAULT, and the group halts. -/
def feedFailed (s : Sys) (g : Nat) : Sys :=
  let s := s.when (decide (s.grpState g = 4)) (fun s => ((s.setGrpState g 6).setGrpCause g 5).modGroup g (fun q => { q with stopAfterFeed := false }))
  s.faultNow 0x34 3 g

/-- The feed of the axis ends without being complete. -/
def axFeedLost (s : Sys) (a : Nat) : Sys :=
  match (s.axis a).feedOf with
  | none => s
  | some g => ((s.modAxis a (fun x => { x with feedOf := none })).wrBit (Key.Axis.FLAGS a) 3 false).feedFailed g

/-- PEN learns that a feed is complete (R264): the group settles from here, or halts where a STOP waits. -/
def feedDone (s : Sys) (g : Nat) : Sys :=
  if s.grpState g ≠ 4 then s
  else if (s.group g).stopAfterFeed then (s.setGrpState g 6).modGroup g (fun q => { q with stopAfterFeed := false })
  else s.modGroup g (fun q => { q with settleAt := some s.clk })

/-- The axis enters OFF (R307, R310): its outputs are low, so that no clamp applies (R300), and a feed order that waits is refused (R309).
Commands that wait act on what they find (R308). -/
def axOff (s : Sys) (a : Nat) : Sys :=
  let orders := (s.axis a).feeds
  let s := (((s.axFeedLost a).axRest a).setAxState a 0).wrBit (Key.Axis.FLAGS a) 4 false
  let s := s.modAxis a (fun x => { x with feeds := [], high := [0, 0, 0, 0], ramped := false, holding := false })
  orders.foldl (fun s (k : Nat × Int) => s.feedFailed k.1) s

/-- The slot of axis `a` enters COAST (R304): the axis enters COAST with it, and its generator stops. -/
def axCoast (s : Sys) (a : Nat) : Sys :=
  if s.axState a = 0 ∨ s.axState a = 7 then s
  else ((((s.axFeedLost a).axRest a).setAxState a 7).setAxCause a 6).modAxis a (fun x => { x with ramped := false })

/-- The slot of axis `a` enters RAMP_DOWN (R304): the generator stops, and the output of the slot is applied until the slot is OFF. -/
def axRampDown (s : Sys) (a : Nat) : Sys :=
  if s.axState a = 0 ∨ s.axState a = 7 then s
  else ((s.axFeedLost a).axRest a).modAxis a (fun x => { x with ramped := true })

/-- The slot of axis `a` is OFF after its RAMP_DOWN (R304). -/
def axRampOver (s : Sys) (a : Nat) : Sys := if (s.axis a).ramped then s.axOff a else s

/-- The device is leaving, or has left, the states in which axes start (R307, R310). -/
def axLeaves (s : Sys) : Bool := !decide (s.dev = .ready ∨ s.dev = .armed) || s.pendState.isSome

/-- Begin a stop from the present velocity at a rate (R296, R297). -/
def axStop (s : Sys) (a st rate cause : Nat) (toIdle : Bool) : Sys :=
  let x := s.axis a
  let v := x.vel.natAbs
  let ph := layRuns (sgn x.vel) x.pos [(rampTime v rate, v, -(rate : Int))]
  let end_ := x.pos + sgn x.vel * stopWay v rate
  let s := (s.wr (Key.AxTab.TABLE_RUNNING a) 0xFF).wrBit (Key.Axis.FLAGS a) 2 false
  let s := ((s.setAxState a st).setAxCause a cause).inc (Key.AxCnt.STOPS a)
  s.modAxis a (fun x => { x with phases := ph, gone := 0, goal := end_ / 2 ^ 32 * 2 ^ 32, tab := none, landedAt := none, inRun := 0, toIdle := toIdle })

/-- A cause acts (R298, R308): an axis in motion makes the stop; one at rest in IDLE is HALTED. A stop that a cause has begun keeps that
cause; one that a STOP command has begun takes the cause, and HALTED with it (DEDUCED, log entry 24). -/
def axApply (s : Sys) (a : Nat) (emergency : Bool) (cause : Nat) : Sys :=
  let st := s.axState a
  if st = 1 then ((s.axRest a).setAxState a 6).setAxCause a cause
  else if emergency && decide (st = 2 ∨ st = 3 ∨ st = 4) then s.axStop a 5 (s.rd (Key.AxMon.LATCHED_ESTOP a)) cause false
  else if st = 2 ∨ st = 3 then s.axStop a 4 (s.rd (Key.AxMon.LATCHED_STOP a)) cause false
  else if st = 4 && (s.axis a).toIdle then (s.setAxCause a cause).modAxis a (fun x => { x with toIdle := false })
  else s

/-- A fault of axis `a` (R311) with its own action, which comes before its reaction (R308). -/
def axFault (s : Sys) (a code : Nat) (emergency : Bool) (cause : Nat) : Sys := (s.axCause a emergency cause).faultNow code 5 a

/-! ### Moves (R288 to R291) -/

/-- Latch the values of a move (R288). -/
def axLatch (s : Sys) (a : Nat) (decel : Bool) : Sys :=
  let s := (s.wr (Key.AxMon.LATCHED_ACCEL a) (s.rd (Key.AxMove.ACCEL a))).wr (Key.AxMon.LATCHED_STOP a) (s.rd (Key.AxStop.STOP_DECEL a))
  s.when decel (fun s => s.wr (Key.AxMon.LATCHED_DECEL a) (s.rd (Key.AxMove.DECEL a)))

/-- Start a move to a target, or retarget the present one (R288, R290). -/
def axMove (s : Sys) (a : Nat) (target : Int) : Sys :=
  let x := s.axis a
  let st := s.axState a
  let vm := s.rd (Key.AxMove.VMAX a)
  let au := s.rd (Key.AxMove.ACCEL a)
  let dn := s.rd (Key.AxMove.DECEL a)
  let d := wrap32 (target - x.pos / 2 ^ 32) * 2 ^ 32 - x.pos % 2 ^ 32
  let v := x.vel.natAbs
  let dir := if v = 0 then (if d < 0 then -1 else 1) else sgn x.vel
  let ramp : Int := if st = 2 then x.phases.head?.elim 0 (fun g => g.acc * dir) else 0
  let old := s.rd (Key.AxMon.LATCHED_DECEL a)
  let up := if 0 < ramp then ramp.natAbs else au
  let down := if ramp < 0 then ramp.natAbs else dn
  let onward := decide (0 ≤ d * dir) && decide (stopWay v (if ramp < 0 then old else dn) ≤ (d * dir).natAbs)
  let phases :=
    if onward then layRuns dir x.pos (trapezoid (d * dir).natAbs v vm up down dn)
    else
      let first := layRuns dir x.pos [(rampTime v old, v, -(old : Int))]
      let p1 := x.pos + dir * stopWay v old
      let d2 := x.pos + d - p1
      let dir2 : Int := if d2 < 0 then -1 else 1
      let second := layRuns dir2 p1 (trapezoid d2.natAbs 0 vm au dn dn)
      first ++ (match second with
        | [] => []
        | g :: rest => { g with turn := decide (dir2 ≠ dir) } :: rest)
  let s := (s.axLatch a true).wrI (Key.AxMon.MOVE_END a) (wrap32 target)
  let s := if st = 2 then s.inc (Key.AxCnt.RETARGETS a)
    else (((s.inc (Key.AxCnt.MOVES a)).wrBit (Key.Axis.FLAGS a) 0 false).wrBit (Key.Axis.FLAGS a) 1 false).setAxState a 2
  s.modAxis a (fun x => { x with phases := phases, gone := 0, goal := x.pos + d, landedAt := none, inRun := 0 })

/-- A move of the axis is complete or given up: IDLE, with its feed (R291, R309). -/
def axLanded (s : Sys) (a : Nat) (done_ : Bool) : Sys :=
  let s := ((s.axRest a).setAxState a 1).when done_ (fun s => (s.wrBit (Key.Axis.FLAGS a) 0 true).raise (22 + a))
  match (s.axis a).feedOf with
  | none => s
  | some g =>
    if done_ then ((s.modAxis a (fun x => { x with feedOf := none })).wrBit (Key.Axis.FLAGS a) 3 false).feedDone g
    else s.axFeedLost a

/-! ### Tables (R292 to R295) -/

/-- Read and check the segment that follows (R294, R295). A bad one raises SEGMENT_BAD, a parity error SEGMENT_PARITY. -/
def axRead (s : Sys) (a t i : Nat) (switch ok : Bool) : Sys :=
  match (s.axis a).tab with
  | none => s
  | some r =>
    if !ok then s.axFault a 0x41 false 4
    else if s.tabSegGood a t i r.seg.pEnd r.seg.vEnd r.vmax (s.rd (Key.AxMon.LATCHED_ACCEL a)) then
      s.modAxis a (fun x => { x with tab := some { r with next := some (t, i, s.tabSegAt (s.tabAddr a t + 16 * i), switch), bad := false } })
    else (s.modAxis a (fun x => { x with tab := some { r with next := none, bad := true } })).faultNow 0x40 5 a

/-- Read the segment after the running one, unless that one ends the table. -/
def axReadNext (s : Sys) (a : Nat) (ok : Bool) : Sys :=
  match (s.axis a).tab with
  | none => s
  | some r =>
    match r.late with
    | some t => (s.modAxis a (fun x => { x with tab := some { r with late := none } })).axRead a t 0 true ok
    | none =>
      if r.seg.flags.testBit 0 then s
      else s.axRead a (s.rd (Key.AxTab.TABLE_RUNNING a)) (if r.seg.flags.testBit 1 then 0 else s.rd (Key.AxTab.SEGMENT a) + 1) false ok

/-- Enter a segment of a table. -/
def axEnter (s : Sys) (a t i : Nat) (g : TabSeg) (p0 v0 : Int) (vmax : Nat) (late : Option Nat) (ok : Bool) : Sys :=
  let s := ((s.wr (Key.AxTab.TABLE_RUNNING a) t).wr (Key.AxTab.SEGMENT a) i).wr (Key.AxTab.SEGMENT_ID a) g.id
  (s.modAxis a (fun x => { x with tab := some { seg := g, p0 := p0, v0 := v0, vmax := vmax, late := late } })).axReadNext a ok

/-- One update of a table (R293, R294): the set-point, and at the last update of a segment the passage to what follows. -/
def axTabStep (s : Sys) (a : Nat) (ok : Bool) : Sys :=
  match (s.axis a).tab with
  | none => s
  | some r =>
    let j := r.j + 1
    let (p, v) := segPoint r.seg r.p0 r.v0 (r.seg.dur * s.axPeriod a) j
    let s := s.modAxis a (fun x => { x with pos := p, vel := v, tab := some { r with j := j } })
    if j < r.seg.dur then s
    else
      let s := s.inc64 (Key.AxCnt.SEGMENTS a)
      match r.next with
      | some (t, i, g, switch) =>
        (s.when switch (fun s => s.wrBit (Key.Axis.FLAGS a) 2 false)).axEnter a t i g p r.seg.vEnd r.vmax r.late ok
      | none =>
        if r.bad then s.axStop a 4 (s.rd (Key.AxMon.LATCHED_STOP a)) 3 false
        else if r.seg.flags.testBit 0 then (s.axRest a).setAxState a 1
        else s

/-! ### Commands (R307) -/

/-- The abort of an axis command in the present state (R289, R294, R303, R307, R309), 0 where it is accepted. `ok` is
the byte parity of the segment that RUN_TABLE reads. -/
def axCmdAbort (s : Sys) (a cmd : Nat) (ok : Bool) : Nat :=
  let st := s.axState a
  let live := decide (s.dev = .ready ∨ s.dev = .armed)
  let fed := s.rdBit (Key.Axis.FLAGS a) 3
  let target : Int := if cmd = 3 then s.rdI (Key.AxMove.TARGET a)
    else wrap32 ((if st = 2 then s.rdI (Key.AxMon.MOVE_END a) else (s.axis a).pos / 2 ^ 32) + s.rdI (Key.AxMove.DISTANCE a))
  let limited := s.rdB (Key.AxMove.LIMIT_EN a) && !(decide (s.rdI (Key.AxMove.POS_MIN a) ≤ target) && decide (target ≤ s.rdI (Key.AxMove.POS_MAX a)))
  match cmd with
  | 1 => if live && decide (st ≠ 7) then 0 else 0x0803
  | 2 => if st = 0 ∨ st = 1 ∨ st = 6 then 0 else 0x0803
  | 3 => if !live || fed || !(decide (st = 1) && s.axSlotRuns a || decide (st = 2)) then 0x0803 else if limited then 0x0604 else 0
  | 4 => if !live || fed || !(decide (st = 1) && s.axSlotRuns a || decide (st = 2)) then 0x0803 else if limited then 0x0604 else 0
  | 5 =>
    if !live || fed || !(decide (st = 1) && s.axSlotRuns a) then 0x0803
    else if s.tabLen a (s.rd (Key.AxTab.TABLE_SEL a)) = 0 || !ok ||
        !s.tabSegGood a (s.rd (Key.AxTab.TABLE_SEL a)) 0 ((s.axis a).pos / 2 ^ 32) 0 (s.rd (Key.AxMove.VMAX a)) (s.rd (Key.AxMove.ACCEL a)) then 0x0604
    else 0
  | 6 => if st = 3 then 0 else 0x0803
  | 7 => 0
  | 8 => 0
  | 9 =>
    if st = 7 then (if (s.axSlot a).all (fun n => decide (s.slotState n = 0)) then 0 else 0x0805)
    else if st = 0 ∨ st = 1 ∨ st = 6 then 0 else 0x0803
  | 10 => if s.axClosed a then 0x0803 else if st = 0 ∨ st = 1 then 0 else 0x0803
  | _ => 0x0604

/-- The judgement of an axis command: a byte parity error on the segment that RUN_TABLE reads is a SEGMENT_PARITY fault as well (R311). -/
def axCmdCheck (s : Sys) (a cmd : Nat) (ok : Bool) : Sys × Nat :=
  let code := s.axCmdAbort a cmd ok
  if cmd = 5 ∧ !ok ∧ code = 0x0604 ∧ s.tabLen a (s.rd (Key.AxTab.TABLE_SEL a)) ≠ 0 then (s.axFault a 0x41 false 4, code) else (s, code)

/-- An accepted command waits for the next update (R308), with the value it was accepted with. -/
def axCmd (s : Sys) (a cmd : Nat) : Sys :=
  let v : Int := match cmd with
    | 3 => s.rdI (Key.AxMove.TARGET a)
    | 4 => s.rdI (Key.AxMove.DISTANCE a)
    | 5 => s.rd (Key.AxTab.TABLE_SEL a)
    | 6 => s.rd (Key.AxTab.TABLE_SEL a)
    | 10 => s.rdI (Key.AxMove.TARGET a)
    | _ => 0
  s.modAxis a (fun x => { x with cmds := x.cmds ++ [(cmd, v)] })

/-- The stall check begins anew (R305). -/
def axStallBase (s : Sys) (a : Nat) : Sys :=
  if s.rd (Key.AxEnc.ENC_MON a) < 6 then
    s.modAxis a (fun x => { x with c0 := s.rdI (Key.Enc.COUNT (s.rd (Key.AxEnc.ENC_MON a))), p0 := x.pos / 2 ^ 32, based := true })
  else s

/-- A stall holds on axis `a`. -/
def axStalled (s : Sys) (a : Nat) : Bool :=
  decide (s.rd (Key.AxEnc.STALL_LIMIT a) ≠ 0 ∧ s.rd (Key.AxEnc.STALL_LIMIT a) < (s.rdI (Key.AxEnc.ENC_DEV a)).natAbs) ||
    (decide (s.rd (Key.AxEnc.ENC_MON a) < 6) && s.rdBit (Key.Enc.STATUS (s.rd (Key.AxEnc.ENC_MON a))) 0)

/-- Clear the faults of an axis whose condition is gone (R311). -/
def axClear (s : Sys) (a : Nat) : Sys :=
  let s := s.each [0x40, 0x41, 0x43] (fun s k => s.clearActive k 5 a)
  s.when (!s.axClosed a && !s.axStalled a || s.axClosed a) (fun s => s.clearActive 0x42 5 a)

/-- An accepted command acts at the update, on the state that those before it have left (R307, R308). ENABLE, a move and RUN_TABLE have no
effect where the device has left READY and ARMED since, or is leaving (DEDUCED from R307 and R310, log entry 24). -/
def axDo (s : Sys) (a cmd : Nat) (v : Int) (ok : Bool) : Sys :=
  let st := s.axState a
  if decide (cmd = 1 ∨ (3 ≤ cmd ∧ cmd ≤ 5)) && s.axLeaves then s
  else match cmd with
  | 1 => if st = 0 then
      let s := (s.setAxState a 1).setAxCause a 1
      (s.modAxis a (fun x => { x with restAt := s.clk, holding := false, ramped := false })).axStallBase a
    else s
  | 2 => if st = 1 ∨ st = 6 then (s.axOff a).setAxCause a 1 else s
  | 3 => if st = 1 ∨ st = 2 then (s.axMove a v).setAxCause a 1 else s
  | 4 => if st = 1 then (s.axMove a ((s.axis a).pos / 2 ^ 32 + v)).setAxCause a 1
    else if st = 2 then (s.axMove a (s.rdI (Key.AxMon.MOVE_END a) + v)).setAxCause a 1 else s
  | 5 => if st = 1 then
      let s := (((s.axLatch a false).wrBit (Key.Axis.FLAGS a) 0 false).wrBit (Key.Axis.FLAGS a) 1 false).setAxState a 3
      (s.setAxCause a 1).axEnter a v.toNat 0 (s.tabSegAt (s.tabAddr a v.toNat)) (s.axis a).pos 0 (s.rd (Key.AxMove.VMAX a)) none ok
    else s
  | 6 => match (s.axis a).tab with
    | some r =>
      let s := s.wrBit (Key.Axis.FLAGS a) 2 true
      if r.seg.dur ≤ r.j + 1 then s.modAxis a (fun x => { x with tab := some { r with late := some v.toNat } })
      else s.axRead a v.toNat 0 true ok
    | none => s
  | 7 => if st = 2 ∨ st = 3 then s.axStop a 4 (s.rd (Key.AxMon.LATCHED_STOP a)) 1 true else s
  | 8 => if st = 2 ∨ st = 3 ∨ st = 4 then s.axStop a 5 (s.rd (Key.AxMon.LATCHED_ESTOP a)) 1 false else s
  | 9 =>
    let s := s.axClear a
    if st = 6 ∨ st = 7 then (s.setAxState a 1).setAxCause a 1 else s
  | 10 => if st = 0 ∨ st = 1 then
      (s.modAxis a (fun x => { x with pos := v * 2 ^ 32, vel := 0 })).axStallBase a
    else s
  | _ => s

/-- A feed order acts at the update (R309): only in IDLE, under the checks of a MOVE_REL. -/
def axFeed (s : Sys) (a g : Nat) (n : Int) : Sys :=
  let target := wrap32 ((s.axis a).pos / 2 ^ 32 + n)
  let outside := s.rdB (Key.AxMove.LIMIT_EN a) && !(decide (s.rdI (Key.AxMove.POS_MIN a) ≤ target) && decide (target ≤ s.rdI (Key.AxMove.POS_MAX a)))
  if s.axState a = 1 && s.axSlotRuns a && !outside && !s.axLeaves then
    (((s.axMove a target).setAxCause a 2).modAxis a (fun x => { x with feedOf := some g })).wrBit (Key.Axis.FLAGS a) 3 true
  else s.feedFailed g

/-! ### The update (R286, R308) -/

/-- A closed-loop axis in IDLE takes the posted y of a slot that is not in RUN as its position (R303). -/
def axFollowSlot (s : Sys) (a : Nat) : Sys :=
  match s.axClosed a, s.axSlot a with
  | true, some n =>
    if s.axState a = 1 ∧ s.slotState n ≠ 1 ∧ !(s.axis a).ramped then s.modAxis a (fun x => { x with pos := (s.slot n).postY * 2 ^ 32, vel := 0 }) else s
  | _, _ => s

/-- GO_CONFIG and FAULT take an axis at rest to OFF (R310): an open-loop one, or a closed-loop one whose slot is OFF. -/
def axDevice (s : Sys) (a : Nat) : Sys :=
  if s.axLeaves && decide (s.axState a = 1 ∨ s.axState a = 6) && (!s.axClosed a || (s.axSlot a).all (fun n => decide (s.slotState n = 0))) then s.axOff a else s

/-- The generator goes on by one update (R288 to R297); it is at rest while the slot ramps down (R304). -/
def axGenerate (s : Sys) (a : Nat) (ok : Bool) : Sys :=
  let st := s.axState a
  let x := s.axis a
  if x.ramped then s
  else if st = 3 then s.axTabStep a ok
  else if (st = 2 ∧ x.landedAt.isNone) ∨ st = 4 ∨ st = 5 then
    let (rest, gone, turned) := advance x.phases (x.gone + s.axPeriod a * 1000) false
    let s := s.when turned (fun s => (s.wrBit (Key.Axis.FLAGS a) 1 true).inc (Key.AxCnt.REVERSALS a))
    match rest with
    | g :: _ => s.modAxis a (fun x => { x with phases := rest, gone := gone, pos := g.pos gone, vel := g.speed gone })
    | [] =>
      let s := s.modAxis a (fun x => { x with phases := [], gone := 0, pos := wrap32 (x.goal / 2 ^ 32) * 2 ^ 32, vel := 0 })
      if st = 2 then s.modAxis a (fun x => { x with landedAt := some s.clk, inRun := 0 })
      else
        let dest := if st = 4 ∧ x.toIdle then 1 else 6
        ((s.axFeedLost a).axRest a).setAxState a dest
  else s

/-- Whether a landed move is complete (R291): judged on the slot's last evaluation, from the update after the landing
one is visible. -/
def axInPosition (s : Sys) (a : Nat) : Sys :=
  let x := s.axis a
  if s.axState a = 2 ∧ x.landedAt.isSome then
    if !s.axClosed a then s.axLanded a true
    else
      let near := (s.axSlot a).any (fun n => decide (((s.slot n).law.r - (s.slot n).postY).natAbs ≤ s.rd (Key.AxMove.INPOS_WINDOW a))) && decide (x.visP = x.pos)
      let k := if near then x.inRun + 1 else 0
      if s.rd (Key.AxMove.INPOS_N a) ≤ k then s.axLanded a true else s.modAxis a (fun x => { x with inRun := k })
  else s

/-- The stall check (R305). In the update that takes c0 and p0 the set-point is p0. -/
def axStall (s : Sys) (a : Nat) : Sys :=
  if !s.axClosed a && decide (s.rd (Key.Axis.DRIVE a) = 0 ∧ s.rd (Key.AxEnc.ENC_MON a) < 6 ∧ s.axState a ≠ 0) then
    let x := s.axis a
    let dev := wrap32 (s.rdI (Key.Enc.COUNT (s.rd (Key.AxEnc.ENC_MON a))) - x.c0 -
      rdiv (s.rdI (Key.AxEnc.ENC_PER_COUNT a) * wrap32 ((if x.based then x.p0 else x.visP / 2 ^ 32) - x.p0)) 65536)
    let s := (s.wrI (Key.AxEnc.ENC_DEV a) dev).modAxis a (fun x => { x with based := false })
    if s.rd (Key.AxEnc.STALL_LIMIT a) ≠ 0 ∧ s.rd (Key.AxEnc.STALL_LIMIT a) < dev.natAbs ∧ (0x42, 5, a) ∉ s.gath.active then s.axFault a 0x42 true 7 else s
  else s

/-- The set-point computed at the last update becomes visible to the drive and the slot (R286). -/
def axShow (s : Sys) (a : Nat) : Sys :=
  let x := s.axis a
  let t := s.clk - (s.now - s.rd (Key.Trig.LAST_TIME (s.rd (Key.Axis.TRIGGER a))))
  let s := s.modAxis a (fun y => { y with visP := x.pos, visV := x.vel, at_ := t, seen := s.rd (Key.Trig.EDGES (s.rd (Key.Axis.TRIGGER a)))
                                          restAt := if x.vel ≠ 0 then t else if x.visV ≠ 0 then t else y.restAt, holding := y.holding && decide (x.vel = 0) })
  (s.wrI (Key.AxMon.POSITION a) (wrap32 (x.pos / 2 ^ 32))).wrI (Key.AxMon.VELOCITY a) (rdiv x.vel 65536)

/-- The axis writes the set-point of the next sample to the mailbox of its slot (R21, R286, R303). -/
def axPost (s : Sys) (a : Nat) : Sys :=
  match s.axClosed a, s.axSlot a with
  | true, some n =>
    let s := s.wrI (Key.AxMon.MEASURED a) (s.slot n).postY
    if s.axState a = 0 ∨ s.axState a = 7 ∨ (s.axState a = 1 ∧ s.slotState n ≠ 1) then s
    else s.modSlot n (fun q => { q with mail := some (wrap32 ((s.axis a).pos / 2 ^ 32)) })
  | _, _ => s

/-- One update of axis `a` (R286, R308): causes, then commands, then the feed orders, each on the state before it; then
the generator. `ok` is the byte parity of segment reads. -/
def axUpdate (s : Sys) (a : Nat) (ok : Bool) : Sys :=
  if s.rd (Key.Trig.EDGES (s.rd (Key.Axis.TRIGGER a))) = (s.axis a).seen ∨ !s.domainOn 13 then s
  else
    let s := (s.axInPosition a).axShow a
    let x := s.axis a
    let s := s.modAxis a (fun x => { x with causes := [], cmds := [], feeds := [] })
    let s := x.causes.foldl (fun s (k : Bool × Nat) => s.axApply a k.1 k.2) s
    let s := s.axFollowSlot a
    let s := x.cmds.foldl (fun s (k : Nat × Int) => s.axDo a k.1 k.2 ok) s
    let s := x.feeds.foldl (fun s (k : Nat × Int) => s.axFeed a k.1 k.2) s
    ((((s.axDevice a).axGenerate a ok).axStall a).axPost a)

/-- PEN orders a feed of group `g` on axis `a` (R264, R309). -/
def orderFeed (s : Sys) (a g : Nat) (n : Int) : Sys := s.modAxis a (fun x => { x with feeds := x.feeds ++ [(g, n)] })

/-- INPOS_TIMEOUT elapses after landing (R291): IDLE without DONE. -/
def axInposExpired (s : Sys) (a : Nat) : Sys :=
  match (s.axis a).landedAt with
  | some t =>
    if s.axState a = 2 ∧ s.rd (Key.AxMove.INPOS_TIMEOUT a) ≠ 0 ∧ t + s.rd (Key.AxMove.INPOS_TIMEOUT a) * 1000000 ≤ s.clk then
      ((s.setAxCause a 8).axLanded a false).faultNow 0x43 5 a
    else s
  | none => s

/-! ### The drive (R299 to R301) -/

/-- HOLD_DELAY has passed at rest (R299). -/
def axHold (s : Sys) (a : Nat) : Sys :=
  let x := s.axis a
  if s.rd (Key.Axis.DRIVE a) = 0 ∧ x.visV = 0 ∧ x.restAt + s.rd (Key.AxPwm.HOLD_DELAY a) * 1000000 ≤ s.clk then
    s.modAxis a (fun x => { x with holding := true })
  else s

/-- The bus converter has delivered codes (R301): VBUS is the mean of the last 8 times SCALE. -/
def busCodes (s : Sys) (b : Nat) (codes : List Nat) : Sys :=
  codes.foldl (fun s k =>
    let h := (k % 4096 :: s.vbus.getD b []).take 8
    let v := h.foldl (fun n x => n + x) 0 * s.rd (Key.Bus.SCALE b) / (1000 * h.length)
    let fresh := (s.vbus.getD b []).isEmpty
    let s : Sys := { s with vbus := s.vbus.setIfInBounds b h }
    let s := (s.wr (Key.Bus.VBUS b) v).wr (Key.Bus.VBUS_HIGHEST b) (max v (s.rd (Key.Bus.VBUS_HIGHEST b)))
    s.wr (Key.Bus.VBUS_LOWEST b) (if fresh then v else min v (s.rd (Key.Bus.VBUS_LOWEST b)))) s

/-- The axis is in COAST, and the output ramp of its slot has ended (R304). -/
def axCoasted (s : Sys) (a : Nat) : Bool :=
  decide (s.axState a = 7) && (s.axSlot a).all (fun n => decide (s.slotState n ≠ 3 ∨ (s.slot n).rampLen ≤ (s.slot n).rampPos))

/-- The bridge voltages of axis `a` in mV (R299), from the code posted by its slot (R154); zero once a coasting slot's ramp has ended. -/
def axVolts (s : Sys) (a : Nat) : Int × Int :=
  let x := s.axis a
  let u : Int := if s.axClosed a then (s.axSlot a).elim 0 (fun n => s.rdI (Key.SlotOut.OUT_CODE n)) else 0
  let ke : Int := s.rd (Key.AxPwm.KE a)
  if s.axCoasted a then (0, 0)
  else if s.rd (Key.Axis.DRIVE a) = 1 then
    (rdiv (u * s.rd (Key.AxPwm.V_FULL a)) 131072 + rdiv (ke * x.visV) (65536 * 1000), 0)
  else
    let ms := max 1 (s.rd (Key.AxPwm.MICROSTEPS a))
    let den := ms * 1000 * 65536
    let v := x.visV.natAbs
    let amp : Nat := if x.visV = 0 ∧ x.holding then s.rd (Key.AxPwm.V_HOLD a) * den
      else min (s.rd (Key.AxPwm.V_RUN a) * den + s.rd (Key.AxPwm.KE a) * v) (s.rd (Key.AxPwm.V_MAX a) * den)
    let p := x.visP + x.visV * 65536 * ((s.clk - x.at_ : Nat) : Int) / 1000000000
    let lead : Int := sgn x.visV * (min (s.rd (Key.AxPwm.LEAD_K a) * v * 65536 / den) (16384 * 65536) : Nat)
    let theta := p % (4 * ms * 2 ^ 32 : Nat) / (4 * ms : Nat) + lead + u * 8192
    let (c, sn) := cosSin theta
    (rdiv ((amp : Int) * c) (den * 2 ^ 30), rdiv ((amp : Int) * sn) (den * 2 ^ 30))

/-- The high times of the two outputs of a bridge at voltage `v`, and whether the clamp applies (R300). -/
def bridge (s : Sys) (a : Nat) (v : Int) : List Nat × Bool :=
  let b := s.rd (Key.AxPwm.BUS a)
  let d := max 1 (max (s.rd (Key.Bus.VBUS b)) (s.rd (Key.Bus.VBUS_MIN b)))
  let mm := s.rd (Key.AxPwm.MAX_MOD a)
  let sat_ := decide (mm * d < v.natAbs * 131072)
  let (n, den) : Int × Nat := if sat_ then (sgn v * mm, 131072) else (v, d)
  let f := max 1 (s.rd (Key.AxPwm.PWM_FREQ a))
  let least := s.rd (Key.AxPwm.MIN_PULSE a)
  let whole := 1000000000 / f
  let high (w : Int) : Nat :=
    let h := (rdiv (1000000000 * ((den : Int) + w)) (2 * den * f)).toNat
    if h < least then least else if whole < h + least then whole - least else h
  ([high n, high (-n)], sat_)

/-- One PWM period of axis `a` begins (R299, R300). -/
def axPwm (s : Sys) (a : Nat) (codes : List Nat) : Sys :=
  let s := s.busCodes (s.rd (Key.AxPwm.BUS a)) codes
  if s.axState a = 0 ∨ ¬(s.dev = .ready ∨ s.dev = .armed ∨ s.dev = .fault) ∨ !s.padsLive 13 then
    (s.wrBit (Key.Axis.FLAGS a) 4 false).modAxis a (fun x => { x with high := [0, 0, 0, 0] })
  else
    let (va, vb) := s.axVolts a
    let (ha, ca) := s.bridge a va
    let (hb, cb) := if s.rd (Key.Axis.DRIVE a) = 1 then (ha, false) else s.bridge a vb
    let s := ((s.wrI (Key.AxPwm.VOLTS_A a) va).wrI (Key.AxPwm.VOLTS_B a) vb).wrBit (Key.Axis.FLAGS a) 4 (ca || cb)
    (s.when (ca || cb) (fun s => s.inc (Key.AxCnt.PWM_SAT_PERIODS a))).modAxis a (fun x => { x with high := ha ++ hb })

/-- VBUS has stayed outside its limits for 100 us (R301). -/
def busFault (s : Sys) (b : Nat) (codes : List Nat) : Sys :=
  let s := s.busCodes b codes
  if s.rd (Key.Bus.VBUS b) < s.rd (Key.Bus.VBUS_MIN b) then s.faultNow 0x44 11 b
  else if s.rd (Key.Bus.VBUS_MAX b) < s.rd (Key.Bus.VBUS b) then s.faultNow 0x45 11 b
  else s

/-- VBUS is back inside its limits, and its faults clear (R311). -/
def busReturn (s : Sys) (b : Nat) (codes : List Nat) : Sys :=
  let s := s.busCodes b codes
  let v := s.rd (Key.Bus.VBUS b)
  let s := s.when (decide (s.rd (Key.Bus.VBUS_MIN b) ≤ v)) (fun s => s.clearActive 0x44 11 b)
  s.when (decide (v ≤ s.rd (Key.Bus.VBUS_MAX b))) (fun s => s.clearActive 0x45 11 b)

end Sys

/-- AXIS_UPDATE (R286): one update of the profile generator; `ok` is the byte parity of segment reads. -/
def execAxisUpdate (a : Fin 8) (ok : Bool) (s : State) : Host.Outcome State Fault Refusal := onBlock 13 (fun s => s.axUpdate a ok) s

/-- PWM_PERIOD (R299, R300): `codes` are the codes of the axis's bus since the last ones. -/
def execPwmPeriod (a : Fin 8) (codes : List Nat) (s : State) : Host.Outcome State Fault Refusal := onBlock 13 (fun s => s.axPwm a codes) s

/-- INPOS_TIMEOUT (R291). -/
def execInposTimeout (a : Fin 8) (s : State) : Host.Outcome State Fault Refusal := onBlock 13 (fun s => s.axInposExpired a) s

/-- HOLD_DELAY_EXPIRY (R299). -/
def execHoldDelayExpiry (a : Fin 8) (s : State) : Host.Outcome State Fault Refusal := onBlock 13 (fun s => s.axHold a) s

/-- VBUS_FAULT (R301). -/
def execVbusFault (b : Fin 2) (codes : List Nat) (s : State) : Host.Outcome State Fault Refusal := onBlock 13 (fun s => s.busFault b codes) s

/-- VBUS_RETURN (R311). -/
def execVbusReturn (b : Fin 2) (codes : List Nat) (s : State) : Host.Outcome State Fault Refusal := onBlock 13 (fun s => s.busReturn b codes) s

end Sys2Proof.Machine
end

