-- ==== Sys2Proof/Machine/Scu.lean ====
section
/-! DEFINITION. Scu: the scan channel unit: block fetch, look-ahead, execution of descriptors, samples, stops and the channel's checks (R102 to R145, R225 to R230). -/

namespace Sys2Proof.Machine

open Sys2Proof

namespace Sys

/-! ### Reading the Bobbin (R113, R122, R132) -/

/-- A 32-bit field holds a field coordinate (R104). -/
def coordOk (v : Nat) : Bool := decide (sext 24 v = sext 32 v)

/-- The descriptor at an address (R113). -/
def descAt (s : Sys) (a : Nat) : Desc :=
  { op := s.ld a 1, flags := s.ld (a + 1) 1, param := s.ld (a + 2) 2, a := s.ld (a + 4) 4, b := s.ld (a + 8) 4
    c := s.ld (a + 12) 4, d := s.ld (a + 16) 4, e := s.ld (a + 20) 4, f := s.ld (a + 24) 4 }

/-- The line record `off` bytes into the payload of a Bobbin block (R132), as an entry of the look-ahead: CROSS, Z, where its pixels lie,
how many there are, LINE and FIRST; PARAM is its place, and FLAGS bit 0 says that it ends a block with END_AFTER. -/
def recordAt (s : Sys) (c : Nat) (b : Block) (off : Nat) : Desc :=
  let at_ := s.rd (Key.Queue.QUEUE_ADDR c) + 8256 * b.place + 64 + off
  let n := s.ld (at_ + 12) 2
  let last := decide (b.count ≤ off + 16 + (n + 15) / 16 * 16)
  { op := 512, flags := b2n (b.endAfter && last), param := off, a := s.ld (at_ + 4) 4, b := s.ld (at_ + 8) 4, c := at_ + 16, d := n
    e := s.ld at_ 4, f := s.ld (at_ + 14) 2, seq := b.seq, layer := b.layer, last := last }

/-- The descriptor that the look-ahead reads next: from the linked block, with DX and DY added (R122), or from the Bobbin; in raster mode
the next line record. A coordinate that breaks R104 before the addition stays as it is, so that the descriptor is BAD (R114). -/
def nextDesc (s : Sys) (c : Nat) : Option Desc :=
  let q := s.ch c
  match q.link with
  | some k =>
    if k.count ≤ k.next then some { op := 256, linked := true, last := k.last }
    else
      let d := s.descAt (k.addr + 64 + 32 * k.next)
      let move (v : Nat) (o : Int) : Nat := if coordOk v then word32 (sext 32 v + o) else v
      let d := if d.op = 1 ∨ d.op = 2 ∨ d.op = 3 ∨ d.op = 9 then { d with a := move d.a k.dx, b := move d.b k.dy } else d
      let d := { d with seq := k.seq, layer := k.layer, slot := k.next, linked := true }
      -- an END returns, and is itself a descriptor, which FLAGS marks
      some (if d.op = 15 then { d with op := 256, flags := 1, last := k.last } else d)
  | none =>
    (q.blocks[q.rdBlock]?).map (fun b =>
      if s.rd (Key.Ch.MODE c) = 1 then s.recordAt c b q.rdSlot
      else { s.descAt (s.rd (Key.Queue.QUEUE_ADDR c) + 8256 * b.place + 64 + 32 * q.rdSlot) with
        seq := b.seq, layer := b.layer, slot := q.rdSlot, last := decide (b.count ≤ q.rdSlot + 1) })

/-- The reading position moves past a descriptor of the Bobbin or of the linked block, or past a line record. -/
def readOn (s : Sys) (c : Nat) : Sys :=
  let raster := decide (s.rd (Key.Ch.MODE c) = 1)
  let n := (s.nextDesc c).elim 0 (fun d => d.d)
  s.modCh c (fun q =>
    match q.link with
    | some k => { q with link := some { k with next := k.next + 1 } }
    | none =>
      match q.blocks[q.rdBlock]? with
      | some b =>
        let next := if raster then q.rdSlot + 16 + (n + 15) / 16 * 16 else q.rdSlot + 1
        if b.count ≤ next then { q with rdBlock := q.rdBlock + 1, rdSlot := 0 } else { q with rdSlot := next }
      | none => q)

/-! ### Stops at a descriptor (R138, R145) -/

/-- Every planned span of channel `c` has closed by now: a stop at a descriptor leaves RUNNING only then, so that it changes
no mark (R138, R139). -/
def gateOver (s : Sys) (c : Nat) : Bool := ((s.ch c).spans ++ (s.ch c).plan.spans).all (fun p => decide (p.closeAt ≤ s.now))

/-- The path ends at an instant, where a wait has ended. -/
def endWait (s : Sys) (c t : Nat) : Sys := s.modCh c (fun q => { q with plan := { q.plan with fin := { q.plan.fin with t := max q.plan.fin.t t } } })

/-- The channel comes to a halt at a descriptor (R138), once the gate has closed as planned. -/
def haltNow (s : Sys) (c cause : Nat) : Sys :=
  if s.gateOver c then
    ((s.setChState c 5).setChCause c cause).modCh c (fun q =>
      { q with halt := none, stopAfter := none, pause := false, starved := false, cur := none, rasCur := none, rasPixels := [], vx := 0, vy := 0, vz := 0,
               waitSince := none })
  else s.modCh c (fun q => { q with halt := some cause, cur := none, look := [], waitSince := none })

/-- The channel is held (R139, R141), once the gate has closed as planned. -/
def holdAt (s : Sys) (c cause : Nat) : Sys :=
  if s.gateOver c then
    ((s.setChState c 3).setChCause c cause).modCh c (fun q => { q with
      pause := false, starved := false, rasCur := none, rasPixels := [], vx := 0, vy := 0, vz := 0 })
  else (s.endWait c s.now).modCh c (fun q => { q with starved := q.starved || decide (cause = 3) })

/-- The cause of the controlled stop that is due once the look-ahead is empty (R138): one before the descriptor that was read next, or one
at the end of the last good descriptor of the Bobbin (R145). -/
def dueHalt (s : Sys) (c : Nat) : Option Nat :=
  (s.ch c).halt.orElse (fun _ => if (s.nextDesc c).isNone then (s.ch c).stopAfter else none)

/-- A controlled stop that is due where the channel is already HELD takes it to HALTED (R143). -/
def heldHalt (s : Sys) (c : Nat) : Sys :=
  if s.chState c = 3 ∧ (s.ch c).cur.isNone ∧ (s.ch c).look = [] then (s.dueHalt c).elim s (fun k => s.haltNow c k) else s

/-- A controlled stop has been found: an update that waits for its swap halts (R240), and a HELD channel may halt at once. -/
def haltFound (s : Sys) (c : Nat) : Sys :=
  (s.when (decide (s.chState c = 2 ∨ s.chState c = 3)) (fun s => s.deferUpdate c)).heldHalt c

/-- A controlled stop before the descriptor that was to be read is pending with a cause (R138). -/
def haltAt (s : Sys) (c cause : Nat) : Sys :=
  (s.modCh c (fun q => { q with halt := q.halt.orElse (fun _ => some cause) })).haltFound c

/-- The channel returns from starvation when a descriptor is there (R139). -/
def autoResume (s : Sys) (c : Nat) : Sys :=
  if s.chState c = 3 ∧ s.rd (Key.Ch.CAUSE c) = 3 ∧ s.rdB (Key.Ch.AUTO_RESUME c) ∧ (s.ch c).look ≠ [] then
    (s.setChState c 2).modCh c (fun q => { q with fresh := true, plan := { q.plan with fin := { q.plan.fin with reenter := true } } })
  else s

/-! ### Block fetch (R109 to R112) -/

/-- The enabled endpoint that feeds a consumer (R109). -/
def feeder (s : Sys) (consumer index : Nat) : Option Nat :=
  (List.range 8).find? (fun n => s.rdB (Key.Ep.ENABLE n) && decide (s.rd (Key.Ep.CONSUMER n) = consumer) &&
    decide (s.rd (Key.Ep.CONSUMER_INDEX n) = index))

/-- The place in the ring of endpoint `n` of a stream offset that is not past its NEXT_OFFSET: counted back from the write
position (R94). -/
def ringPos (s : Sys) (n off : Nat) : Nat :=
  let len := max 1 (s.rd (Key.Ep.RING_LEN n))
  let back := (s.rd (Key.EpSt.NEXT_OFFSET n) + 2 ^ 32 - off % 2 ^ 32) % 2 ^ 32
  ((s.endpoint n).wpos + len - back % len) % len

/-- The address of a stream offset in the ring of endpoint `n`. -/
def ringAt (s : Sys) (n off : Nat) : Nat := s.rd (Key.Ep.RING_ADDR n) + s.ringPos n off

/-- Device `m` reads `len` bytes of the ring of endpoint `n` from a stream offset, across the end of the ring (R15, R447, R485); `ok` is
their byte parity. -/
def ringRead (s : Sys) (m n off len : Nat) (ok : Bool) : Sys × Bool :=
  let room := s.rd (Key.Ep.RING_LEN n) - s.ringPos n off
  let g := s.readOk m (s.ringAt n off) (min len room) ok
  if g.2 && decide (room < len) then g.1.readOk m (s.rd (Key.Ep.RING_ADDR n)) (len - room) true else g

/-- A block at an address passes its checks but for SEQ (R110). -/
def blockGood (s : Sys) (mode addr : Nat) : Bool :=
  let n := s.ld (addr + 8) 2
  decide (s.ld addr 2 = 0xB0B1) && decide (s.ld (addr + 2) 1 = mode) &&
    (if mode = 0 then decide (1 ≤ n ∧ n ≤ 256) else decide (16 ≤ n ∧ n ≤ 8192 ∧ n % 16 = 0)) &&
    decide (s.ld (addr + 60) 4 = crc32 (s.bytes addr 60 ++ s.bytes (addr + 64) 8192))

/-- A block fault (R110, R145): fetching ends until a RESET, and a controlled stop at the end of the last good descriptor is pending. -/
def blockFault (s : Sys) (c code cause : Nat) : Sys :=
  let s := (s.inc (Key.ChCnt.BLOCK_FAULTS c)).modCh c (fun q => { q with
    fetchEnd := true, refetched := false, stopAfter := q.stopAfter.orElse (fun _ => some cause) })
  (s.haltFound c).faultNow code 1 c

/-- A check of a block has failed: once more from DRAM, then BLOCK_CHECK (R110). -/
def blockRetry (s : Sys) (c : Nat) : Sys :=
  if (s.ch c).refetched then s.blockFault c 0x01 5
  else (s.inc (Key.ChCnt.CRC_REFETCHES c)).modCh c (fun q => { q with refetched := true })

/-- The place of a new block in the Bobbin: the first one that holds none. -/
def freePlace (s : Sys) (c : Nat) : Option Nat :=
  (List.range (s.rd (Key.Queue.QUEUE_LEN c) / 8256)).find? (fun i => !(s.ch c).blocks.any (fun b => decide (b.place = i)))

/-- The SCU takes the block at its fetch offset from endpoint `n` into the Bobbin (R110, R111). -/
def takeBlock (s : Sys) (c n : Nat) (ok : Bool) : Sys :=
  match s.freePlace c with
  | none => s
  | some i =>
    let src := s.ringAt n (s.ch c).fetch
    let dst := s.rd (Key.Queue.QUEUE_ADDR c) + 8256 * i
    let g := s.ringRead (0x30 + c) n (s.ch c).fetch 8256 ok
    let w := g.1.grant (0x30 + c) true dst 8256
    let s := if g.2 && w.2 then w.1.setBytes dst (s.bytes src 8256) else w.1
    if !(g.2 && w.2 && s.blockGood (s.rd (Key.Ch.MODE c)) dst) then s.blockRetry c
    else
      let seq := s.ld (dst + 4) 4
      if seq ≠ s.rd (Key.Queue.EXPECTED_SEQ c) then s.blockFault c 0x02 6
      else
        let off := ((s.ch c).fetch + 8256) % 2 ^ 32
        let b : Block := { place := i, seq := seq, layer := s.ld (dst + 12) 4, count := s.ld (dst + 8) 2
                           endAfter := (s.ld (dst + 3) 1).testBit 0 }
        let s := s.wr (Key.Queue.EXPECTED_SEQ c) ((seq + 1) % 2 ^ 32)
        let s := s.modCh c (fun q => { q with blocks := q.blocks ++ [b], fetch := off, refetched := false })
        (s.wr (Key.Queue.BLOCKS_QUEUED c) (s.ch c).blocks.length).release n off

/-- The SCU fetches the next block of its ring, if one lies there whole (R110, R112), in READY and ARMED (R56). -/
def fetchBlock (s : Sys) (c : Nat) (ok : Bool) : Sys :=
  match s.feeder 1 c with
  | none => s
  | some n =>
    let q := s.ch c
    let have_ := (s.rd (Key.EpSt.NEXT_OFFSET n) + 2 ^ 32 - q.fetch) % 2 ^ 32
    if s.consumersRun = false ∨ s.chState c = 0 ∨ s.chState c = 5 ∨ q.fetchEnd ∨ have_ < 8256 ∨ 2 ^ 31 ≤ have_ then s
    else if s.rdB (Key.Queue.RESYNC c) then
      let seq := s.ld (s.ringAt n q.fetch + 4) 4
      let g := s.ringRead (0x30 + c) n q.fetch 64 ok
      let s := g.1
      if !g.2 then s.blockRetry c
      else if seq = s.rd (Key.Queue.FIRST_SEQ c) then (s.wrB (Key.Queue.RESYNC c) false).takeBlock c n ok
      else
        let off := (q.fetch + 8256) % 2 ^ 32
        ((s.inc (Key.Queue.DISCARDED_BLOCKS c)).modCh c (fun q => { q with fetch := off, refetched := false })).release n off
    else s.takeBlock c n ok

/-! ### Checks of a descriptor (R106, R114, R227) -/

/-- A point of the planned path lies in the work area of channel `c` (R106). -/
def inArea (s : Sys) (c : Nat) (p : Int × Int × Int) : Bool :=
  let within (v : Int) (lo hi : Nat) : Bool := decide (s.rdI lo * 65536 ≤ v) && decide (v ≤ s.rdI hi * 65536)
  within p.1 (Key.Area.X_MIN c) (Key.Area.X_MAX c) && within p.2.1 (Key.Area.Y_MIN c) (Key.Area.Y_MAX c) &&
    within p.2.2 (Key.Area.Z_MIN c) (Key.Area.Z_MAX c)

/-- The points that bound the path of a marking segment (R106): its ends, the extremes of an arc, its run-out, and its
run-in where it starts from rest. -/
def bodyPoints (l : Lims) (b : Body) (p : Int × Int × Int) (fromRest : Bool) : List (Int × Int × Int) :=
  let far : Int := runLen l b.v
  let ext := if b.g.arc then
      (List.range 4).filterMap (fun (k : Nat) =>
        let ang : Int := (k : Int) * 2 ^ 30
        let turned := ((ang - b.g.th) * b.g.turn) % 2 ^ 32
        let swept := (b.dirOut - b.dirIn) * b.g.turn
        if turned ≤ swept then
          let (c, sn) := cosSin ang
          some (b.g.x0 + (b.g.r : Int) * c / 2 ^ 30, b.g.y0 + (b.g.r : Int) * sn / 2 ^ 30, p.2.2)
        else none)
    else []
  [p, (b.x, b.y, b.z)] ++ ext ++
    (if b.sky then [(b.x + b.vecOut.1 * far / 2 ^ 30, b.y + b.vecOut.2 * far / 2 ^ 30, b.z)] else []) ++
    (if b.sky && fromRest then [(p.1 - b.vecIn.1 * far / 2 ^ 30, p.2.1 - b.vecIn.2 * far / 2 ^ 30, p.2.2)] else [])

/-- Where a list of descriptors leaves the path: its logical point, and the marking segment that ends there. -/
def tailOf (l : Lims) (p : Int × Int × Int) (ds : List Desc) : (Int × Int × Int) × Option Body :=
  ds.foldl (fun (acc : (Int × Int × Int) × Option Body) d =>
    if isStill d.op then acc
    else if isMarking d.op then
      let b := bodyOf l d acc.1.1 acc.1.2.1 acc.1.2.2
      ((b.x, b.y, b.z), some b)
    else (endPoint l acc.1 d, none)) (p, none)

/-- The points that bound the path of a descriptor; `passes` tells whether a marking segment leads into it without a stop. -/
def descPoints (l : Lims) (p : Int × Int × Int) (passes : Bool) (d : Desc) : List (Int × Int × Int) :=
  match d.op with
  | 1 => [(coord d.a, coord d.b, coord d.c)]
  | 2 | 3 =>
    bodyPoints l (bodyOf l d p.1 p.2.1 p.2.2) p (!passes)
  | 9 => ((calParts l d).foldl (fun (acc : List (Int × Int × Int) × (Int × Int × Int)) q =>
      if q.op = 2 then (acc.1 ++ bodyPoints l (bodyOf l q acc.2.1 acc.2.2.1 acc.2.2.2) acc.2 true, (coord q.a, coord q.b, coord q.c))
      else (acc.1 ++ [(coord q.a, coord q.b, coord q.c)], (coord q.a, coord q.b, coord q.c))) ([], p)).1
  | 15 => if d.flags.testBit 0 then [(l.parkX, l.parkY, l.parkZ)] else []
  | _ => []

/-- The gate-open points of a CAL_MARK all lie in one enabled selvage rectangle (R227). -/
def inSelvage (s : Sys) (c : Nat) (l : Lims) (d : Desc) : Bool :=
  let pts : List (Int × Int) := if d.flags / 32 % 4 = 0 then [(sext 32 d.a, sext 32 d.b)]
    else (calParts l d).map (fun q => (sext 32 q.a, sext 32 q.b))
  (List.range 4).any (fun r =>
    let k (i : Nat) : Int := s.rdI (Key.Selv.SEL0_X0 c + 4 * r + i)
    decide (k 0 < k 2) && decide (k 1 < k 3) &&
      pts.all (fun p => decide (k 0 ≤ p.1 ∧ p.1 ≤ k 2 ∧ k 1 ≤ p.2 ∧ p.2 ≤ k 3)))

/-- A descriptor is BAD (R114, R227). -/
def descBad (s : Sys) (c : Nat) (l : Lims) (p : Int × Int × Int) (d : Desc) : Bool :=
  match d.op with
  | 1 => !(coordOk d.a && coordOk d.b && coordOk d.c) || decide (l.jumpSpeed < d.d)
  | 2 => !(coordOk d.a && coordOk d.b && coordOk d.c) || decide (d.d = 0 ∨ l.markSpeed < d.d)
  | 3 => !(coordOk d.a && coordOk d.b && coordOk d.c) || decide (d.d = 0 ∨ l.markSpeed < d.d) ||
      decide (sext 32 d.f = 0 ∨ 2 ^ 24 < (sext 32 d.f).natAbs) || decide (p.1 = coord d.a ∧ p.2.1 = coord d.b)
  | 4 => decide (d.a = 0 ∨ 1000000000 < d.a)
  | 5 => decide (2 < d.param ∨ d.a < 10 ∨ 50000000 < d.a ∨ d.a < d.b + 2 ∨ d.b < 2 ∨ 49999998 < d.b ∨ d.c < 1 ∨ 8388607 < d.c)
  | 6 => false
  | 7 => false
  | 8 => false
  | 9 => !(coordOk d.a && coordOk d.b && coordOk d.c) || decide (d.param = 0 ∨ d.d = 0) ||
      (if d.flags / 32 % 4 = 0 then decide (1000000000 < d.d) else decide (1048576 < d.d)) || !s.inSelvage c l d
  | 10 => decide (d.a % 64 ≠ 0) || !(decide (0x10000000 ≤ d.a) && decide (d.a + 8256 ≤ 0x10800000)) || d.linked ||
      !(coordOk d.b && coordOk d.c)
  | 15 => false
  | _ => true

/-! ### The look-ahead (R114, R122, R228) -/

/-- The logical point and marking segment that the look-ahead of channel `c` ends with. -/
def lookTail (s : Sys) (c : Nat) (l : Lims) : (Int × Int × Int) × Option Body :=
  let q := s.ch c
  let start := match q.cur with
    | some _ => (q.base.px, q.base.py, q.base.pz)
    | none => (q.plan.fin.px, q.plan.fin.py, q.plan.fin.pz)
  tailOf l start (q.cur.toList ++ q.look)

/-- A marking segment enters the look-ahead of channel `c` too late for the joint before it to be passed (R115): deceleration for a stop
there, in the executing segment where it needs it, would have had to begin before now. -/
def joinsLate (s : Sys) (c : Nat) (l : Lims) (d : Desc) : Bool :=
  let q := s.ch c
  match q.cur with
  | none => false
  | some d0 =>
    if !(isMarking d.op && isMarking d0.op) then false
    else if q.look.all (fun x => isStill x.op) then decide (q.plan.decide_ ≤ s.now)
    else
      match chainLen l (bodyOf l d0 q.base.px q.base.py q.base.pz) q.look with
      | some n => q.plan.fin.open_ && decide (q.plan.begun ≤ s.now) && !canStop q.plan.segs s.now n (l.markAccel * 65536)
      | none => false

/-- The plan of the executing segment with a look-ahead that has grown: anew where that leaves what has been covered as it was (R115). A
JUMP is planned anew before it begins only. -/
def newPlan (s : Sys) (c : Nat) (look : List Desc) : Plan :=
  let q := s.ch c
  match q.cur with
  | some d =>
    let p := planDesc (s.lims c) q.modn q.base d look
    if (isMarking d.op || (d.op == 1 && decide (s.now < q.plan.decide_))) && p.agrees q.plan s.now then p else q.plan
  | none => q.plan

/-- Plan the executing segment anew with the look-ahead that it now has (R115). -/
def replan (s : Sys) (c : Nat) : Sys := let p := s.newPlan c (s.ch c).look; s.modCh c (fun q => { q with plan := p })

/-- The path passes from the end of the look-ahead into descriptor `d` without a stop (R115, R118); `before` is the marking segment there. -/
def passesInto (s : Sys) (c : Nat) (l : Lims) (before : Option Body) (d : Desc) : Bool :=
  before.any (fun a => !s.joinsLate c l d && (jointSpeed l a (bodyOf l d a.x a.y a.z)).isSome)

/-- Every point of the planned path of a descriptor that enters the look-ahead lies in the work area (R106). -/
def descInside (s : Sys) (c : Nat) (l : Lims) (p : Int × Int × Int) (before : Option Body) (d : Desc) : Bool :=
  (descPoints l p (s.passesInto c l before d) d).all (fun x => s.inArea c x)

/-- Put a checked descriptor at the end of the look-ahead. -/
def pushDesc (s : Sys) (c : Nat) (d : Desc) : Sys :=
  ((s.modCh c (fun q => { q with look := q.look ++ [{ d with late := s.joinsLate c (s.lims c) d }] })).replan c).autoResume c

/-- CAL takes one descriptor from the insert ring of channel `c`, while the look-ahead has a place (R228): placed when it passes, else logged
REJECTED. -/
def insertOne (s : Sys) (c : Nat) : Sys :=
  let h := s.rd (Key.Ins.INS_HEAD c)
  if h = s.rd (Key.Ins.INS_TAIL c) ∨ s.rd (Key.Ins.INS_LEN c) = 0 ∨ 16 ≤ (s.ch c).look.length ∨ s.rd (Key.Ins.INSERT_MAX c) ≤ (s.ch c).inserted then s
  else
    let d := { s.descAt (s.rd (Key.Ins.INS_ADDR c) + h) with layer := s.rd (Key.ChPos.LAYER c), inserted := true }
    let s := (s.wr (Key.Ins.INS_HEAD c) ((h + 32) % s.rd (Key.Ins.INS_LEN c))).modCh c (fun q => { q with inserted := q.inserted + 1 })
    let l := s.lims c
    let (p, before) := s.lookTail c l
    if d.op = 9 ∧ !s.descBad c l p d ∧ s.descInside c l p before d then s.pushDesc c d
    else (s.inc (Key.Ins.MARKS_REJECTED c)).markRecord c 3 s.now (s.rd (Key.Hoop.ACTIVE_GEN c)) d

/-- The insertion point before a JUMP or END of a Bobbin block (R228). -/
def insertMarks (s : Sys) (c : Nat) (d : Desc) : Sys :=
  if (d.op = 1 ∨ d.op = 15) ∧ d.linked = false ∧ s.chState c = 2 ∧ s.rd (Key.Ch.MODE c) = 0 ∧ s.rdB (Key.Ins.INSERT_ENABLE c) then
    iter (fun s => s.insertOne c) (s.rd (Key.Ins.INSERT_MAX c)) s
  else s

/-- A parity error on a Bobbin read (R145): safe stop. -/
def bobbinParity (s : Sys) (c : Nat) : Sys := (s.safeStop c 10).faultNow 0x06 1 c

/-- A LINK enters the look-ahead (R122): the block that it names is checked, `ok` being the byte parity of that read (R552). -/
def linkAhead (s : Sys) (c : Nat) (ok : Bool) (d : Desc) : Sys :=
  let g := s.readOk (0x30 + c) d.a 8256 ok
  let s := g.1
  if g.2 && s.blockGood 0 d.a then
    let k : LinkRun := { addr := d.a, next := 0, count := s.ld (d.a + 8) 2, layer := d.layer, seq := d.seq, dx := sext 32 d.b
                         dy := sext 32 d.c, last := d.last }
    ((s.readOn c).modCh c (fun q => { q with link := some k })).pushDesc c { d with last := false }
  else ((s.inc (Key.ChCnt.BLOCK_FAULTS c)).haltAt c 5).faultNow 0x01 1 c

/-- A line record breaks no rule (R132). -/
def recordGood (s : Sys) (c : Nat) (b : Block) (d : Desc) : Bool :=
  decide (d.param + 16 ≤ b.count) && decide (d.d ≤ 8176) && decide (d.param + 16 + d.d ≤ b.count) && decide (d.f + d.d ≤ 65536) &&
    coordOk d.a && coordOk d.b &&
    (match (s.ch c).rasLine with
     | some k => decide (d.e = (k + 1) % 2 ^ 32)
     | none => true)

/-- A line record enters the look-ahead and is checked (R114, R132). -/
def recordAhead (s : Sys) (c : Nat) (d : Desc) : Sys :=
  match (s.ch c).blocks[(s.ch c).rdBlock]? with
  | none => s
  | some b =>
    if !s.recordGood c b d then (s.haltAt c 7).faultNow 0x03 1 c
    else (s.readOn c).modCh c (fun q => { q with look := q.look ++ [d], rasLine := if d.flags = 1 then none else some d.e })

/-- A descriptor or line record enters the look-ahead and is checked (R106, R114, R122, R132, R227, R228). At an insertion point the
marks of CAL come first, and the descriptor itself follows once there is a place for it. -/
def lookAhead (s : Sys) (c : Nat) (ok : Bool) : Sys :=
  let q := s.ch c
  if s.chState c = 0 ∨ 4 ≤ s.chState c ∨ q.halt.isSome ∨ 16 ≤ q.look.length then s
  else
    match s.nextDesc c with
    | none => s
    | some d =>
      let l := s.lims c
      let (p, before) := s.lookTail c l
      if d.op = 10 ∧ s.descBad c l p d = false then s.linkAhead c ok d
      else if !ok then s.bobbinParity c
      else if d.op = 512 then s.recordAhead c d
      else if d.op = 256 then (s.modCh c (fun q => { q with link := none })).pushDesc c d
      else if s.descBad c l p d then (s.haltAt c 7).faultNow 0x03 1 c
      else if !s.descInside c l p before d then
        if d.op = 9 then (s.haltAt c 7).faultNow 0x03 1 c else (s.haltAt c 8).faultNow 0x04 1 c
      else
        let s := s.insertMarks c d
        if 16 ≤ (s.ch c).look.length then s
        else ((s.readOn c).modCh c (fun q => { q with inserted := 0 })).pushDesc c d

/-! ### Execution (R115 to R124, R138, R139, R141) -/

/-- The longest time that a path point and a span still matter after their end: the largest LASER shift, in ns. -/
def keepTime : Nat := 1100000

/-- The channel begins the descriptor at the head of its look-ahead. While a CAL_MARK that CAL has inserted executes, BLOCK_SEQ and
DESCRIPTOR keep the values of the descriptor before it (DESIGN CHOICE, log entry 50). A WAIT_EVENT whose PARAM is above 31, which R114 does not list as BAD,
takes the capture unit that its low five bits name (DESIGN CHOICE, log entry 50). -/
def startDesc (s : Sys) (c t : Nat) (d : Desc) (rest : List Desc) : Sys :=
  let s := s.modCh c (fun q =>
    { q with look := rest, cur := some d, base := q.plan.fin
             past := (q.past ++ q.plan.segs).filter (fun g => decide (t ≤ g.t0 + g.dur + keepTime))
             spans := (q.spans ++ q.plan.spans).filter (fun p => decide (t ≤ p.closeAt + keepTime))
             plan := { fin := q.plan.fin, decide_ := q.plan.fin.t } })
  let s := if d.op = 256 ∧ d.flags = 0 then s else
    let s := if d.inserted then s else (s.wr (Key.ChPos.BLOCK_SEQ c) d.seq).wr (Key.ChPos.DESCRIPTOR c) d.slot
    (s.wr (Key.ChPos.TAG c) d.e).wr (Key.ChPos.LAYER c) d.layer
  match d.op with
  | 5 => s.modCh c (fun q => { q with modn := { mode := d.param, period := d.a, width := d.b, spacing := d.c } })
  | 7 => s.modCh c (fun q => { q with plan := { q.plan with fin := { q.plan.fin with corner := false } }, waitSince := some t, waitCount := s.rd (Key.Cap.COUNT (d.param % 32)) })
  | 8 => s.modCh c (fun q => { q with seam := q.seam ++ [t] })
  | 6 => s.modCh c (fun q => { q with plan := { q.plan with fin := { q.plan.fin with corner := false } } })
  | 10 | 256 => s
  | _ =>
    let l := s.lims c
    let q := s.ch c
    let p := planDesc l q.modn q.base d q.look
    -- an END is reached once the gate has closed as planned
    let p : Plan := if d.op = 15 then { p with fin := { p.fin with t := q.spans.foldl (fun m x => max m x.closeAt) p.fin.t } } else p
    let s := s.modCh c (fun q => { q with plan := p })
    let s := s.when (decide (d.op = 3) && (bodyOf l d q.base.px q.base.py q.base.pz).slowed) (fun s => s.inc (Key.ChCnt.ARCS_SLOWED c))
    s.when (decide (d.op = 9)) (fun s => s.modCh c (fun q =>
      { q with calPartial := false, calOpened := q.plan.spans.head?.map (fun p => p.openAt), calGen := s.rd (Key.Hoop.ACTIVE_GEN c) }))

/-- The block at the head of the Bobbin is finished (R146). -/
def blockDone (s : Sys) (c : Nat) : Sys :=
  let s := (s.inc64 (Key.ChCnt.BLOCKS_DONE c)).modCh c (fun q => { q with blocks := q.blocks.tail, rdBlock := q.rdBlock - 1 })
  s.wr (Key.Queue.BLOCKS_QUEUED c) (s.ch c).blocks.length

/-- A descriptor is finished (R124, R146); one that is the last of its Bobbin block finishes the block. -/
def finishDesc (s : Sys) (c t : Nat) (d : Desc) : Sys :=
  let s := s.modCh c (fun q => { q with cur := none, waitSince := none })
  let s := if d.op = 256 ∧ d.flags = 0 then s else s.inc64 (Key.ChCnt.DESCRIPTORS_DONE c)
  let s := s.when d.last (fun s => s.blockDone c)
  match d.op with
  | 9 => s.markOver c t d
  | 15 =>
    let s := (s.wr (Key.ChPos.END_TIME c) t).wr (Key.ChPos.END_LAYER c) d.a
    (((s.setChState c 1).setChCause c 4).raise (2 + c)).modCh c (fun q => { q with pause := false, vx := 0, vy := 0, vz := 0 })
  | _ => s

/-- The channel may be held before descriptor `d` (R141): a rest point has been reached. -/
def restPoint (q : Scu) (d : Desc) : Bool :=
  !q.plan.fin.open_ && (d.op == 1 || d.op == 4 || d.op == 6 || d.op == 7 || d.op == 9 || q.plan.fin.ranOut) && d.op != 15

/-- The look-ahead is empty and the path at rest (R138, R139, R143). -/
def runDry (s : Sys) (c : Nat) : Sys :=
  let q := s.ch c
  match s.dueHalt c with
  | some k => s.haltNow c k
  | none => if q.pause then s.holdAt c 2 else (s.inc (Key.ChCnt.STARVATIONS c)).holdAt c 3

/-- The channel may not be held at this descriptor, but within it: a WAIT_EVENT latches captures from the rest on (R121). -/
def pausesAt (q : Scu) (d : Desc) : Bool := q.pause && restPoint q d && d.op != 7

/-- Execution of channel `c` up to instant `t`: descriptors end and begin, within the given number of steps. -/
def runTo (c t : Nat) : Nat → Sys → Sys
  | 0, s => s
  | fuel + 1, s =>
    let q := s.ch c
    if s.chState c ≠ 2 then s
    else
      match q.cur with
      | some d =>
        if d.op = 6 then
          let at_ := d.a + 2 ^ 32 * d.b
          if at_ ≤ t then runTo c t fuel ((s.endWait c at_).finishDesc c t d)
          else if q.pause then s.holdAt c 2 else s
        else if d.op = 7 then
          if s.rd (Key.Cap.COUNT (d.param % 32)) ≠ q.waitCount then runTo c t fuel ((s.endWait c t).finishDesc c t d)
          else if q.pause then s.holdAt c 2 else s
        else if q.plan.fin.t ≤ t then runTo c t fuel (s.finishDesc c q.plan.fin.t d)
        else s
      | none =>
        if q.starved then (match s.dueHalt c with
          | some k => s.haltNow c k
          | none => (s.holdAt c (if q.pause then 2 else 3)).autoResume c)
        else match q.look with
        | [] => s.runDry c
        | d :: rest =>
          if pausesAt q d then s.holdAt c 2
          else runTo c t fuel (s.startDesc c q.plan.fin.t d rest)

/-! ### Samples (R103, R127, R137, R144, R201) -/

/-- The set-point, its velocity and its speed at instant `t` (R116 to R119). -/
def pathState (q : Scu) (t : Nat) : (Int × Int × Int) × (Int × Int × Int) × Int :=
  if q.plan.fin.t ≤ t ∨ q.plan.segs = [] then ((q.plan.fin.x, q.plan.fin.y, q.plan.fin.z), (0, 0, 0), 0)
  else match segAt q.plan.segs t with
    | some g =>
      let a := g.along t
      let p := g.point a
      let sp := g.speed (min g.dur (t - g.t0))
      let h := g.heading a
      let vz := if g.len = 0 then 0 else g.dz * sp / g.len
      (p, (h.1 * sp / 2 ^ 30, h.2 * sp / 2 ^ 30, vz), sp)
    | none => ((q.base.x, q.base.y, q.base.z), (0, 0, 0), 0)

/-- The change of place between two samples, at the first 2 ns instant at which the straight line between their
set-points takes the new ownership, or, where both own alike, the new place (R201). -/
def placeEdge (s : Sys) (c layer t0 t1 : Nat) (x0 y0 x1 y1 : Int) (old new_ : Nat) : Nat :=
  let own (p : Nat) : Bool := s.placeOwned c ((s.ch c).cur.any (fun d => d.op == 9)) p
  s.lineEdge c layer t0 t1 x0 y0 x1 y1 (fun p => if own old = own new_ then decide (p = new_) else own p == own new_)

/-- The changes of place of the path between two instants, along the straight line between its points there (R201). -/
def followPlace (s : Sys) (c t0 t1 : Nat) (x0 y0 x1 y1 : Int) : Sys :=
  if !s.rdB (Key.Stitch.STITCH_ENABLE c) then s
  else
    let layer := s.rd (Key.ChPos.LAYER c)
    let q := s.ch c
    let old := (q.edges.getLast?).elim q.place (fun e => e.2)
    let new_ := s.placeOf c layer x1 y1
    let gone := q.edges.filter (fun e => decide (e.1 + keepTime < t1))
    let edges := q.edges.filter (fun e => decide (t1 ≤ e.1 + keepTime))
    let place := (gone.getLast?).elim q.place (fun e => e.2)
    s.modCh c (fun q => { q with
      place := place
      edges := if new_ = old then edges else edges ++ [(s.placeEdge c layer t0 t1 x0 y0 x1 y1 old new_, new_)] })

/-- The point of the planned path at instant `t`, in LSB, with the look-ahead planned as far. -/
def nextPoint (s : Sys) (c t : Nat) : Option (Int × Int) :=
  let q := s.ch c
  let waits := q.cur.any (fun d => d.op == 6 || d.op == 7)
  let ahead := if waits then [] else (planAhead (s.lims c) t q.modn q.plan.fin q.look).2.1
  (segAt (q.plan.segs ++ ahead) t).map (fun g => let p := g.point (g.along t); (rdiv p.1 65536, rdiv p.2.1 65536))

/-- The place of the path in the sample from `t0` to `t1`, and ahead to the set-point of the next sample, which the SCU forms in this one
(R21, R201). -/
def samplePlace (s : Sys) (c t0 t1 : Nat) (x0 y0 x1 y1 : Int) : Sys :=
  if !s.rdB (Key.Stitch.STITCH_ENABLE c) then s
  else
    let s := s.modCh c (fun q => { q with edges := q.edges.filter (fun e => decide (e.1 ≤ t0)) })
    let s := s.followPlace c t0 t1 x0 y0 x1 y1
    let t2 := t1 + s.trigPeriod (s.rd (Key.Ch.TRIGGER c))
    (s.nextPoint c t2).elim s (fun p => s.followPlace c t1 t2 x1 y1 p.1 p.2)

/-- The SCU writes its set-points to the mailboxes of its slots (R21, R103, R144), corrected by the hoop table (R126,
R127); a slot in COAST gets none. -/
def postPoints (s : Sys) (c : Nat) : Sys :=
  let q := s.ch c
  let x := rdiv q.x 65536
  let y := rdiv q.y 65536
  let z := rdiv q.z 65536
  let s := ((s.wrI (Key.ChPos.SET_X c) x).wrI (Key.ChPos.SET_Y c) y).wrI (Key.ChPos.SET_Z c) z
  let (p, clamped) := s.hoopCorrect c x y z
  let post (s : Sys) (n : Nat) (v : Int) : Sys := if s.slotState n = 3 then s else s.modSlot n (fun m => { m with mail := some v })
  let s := post (post (post s (3 * c) p.1) (3 * c + 1) p.2.1) (3 * c + 2) p.2.2
  s.when clamped (fun s => (s.inc (Key.ChCnt.CLAMPS c)).faultNow 0x05 1 c)

/-- One axis of a ramp over `dt` ns at deceleration `a` (R144): the new velocity and the way covered. -/
def rampAxis (v : Int) (a dt : Nat) : Int × Int :=
  let dv : Nat := a * 65536 * dt / 1000000
  if v.natAbs ≤ dv then (0, v * v.natAbs / (2 * a * 65536 : Nat))
  else
    let v1 := v - sgn v * dv
    (v1, (v + v1) * dt / 2000000)

/-- One sample of a stop (R137, R144): along the direction of travel, or each axis on its own but for that of a slot in COAST, to which the
SCU writes no more; clamped to the work area. At rest the channel is HALTED. -/
def stopSample (s : Sys) (c dt : Nat) : Sys :=
  let q := s.ch c
  match q.ramp with
  | none => s.setChState c 5
  | some r =>
    let a := max 1 (s.rd (Key.Stop.SAFE_STOP_DECEL c))
    let hold (v : Int) (lo hi : Nat) : Int := clamp v (s.rdI lo * 65536) (s.rdI hi * 65536)
    let (vx, vy, vz, dx, dy, dz) :=
      if r.own then
        let axis (i : Nat) (v : Int) : Int × Int := if s.slotState (3 * c + i) = 3 then (0, 0) else rampAxis v a dt
        let x := axis 0 r.vx
        let y := axis 1 r.vy
        let z := axis 2 r.vz
        (x.1, y.1, z.1, x.2, y.2, z.2)
      else
        let v := hypot r.vx r.vy
        let w := rampAxis v a dt
        if v = 0 then (0, 0, 0, 0, 0, 0)
        else (r.vx * w.1 / v, r.vy * w.1 / v, 0, r.vx * w.2 / v, r.vy * w.2 / v, 0)
    let s := s.modCh c (fun q => { q with
      x := hold (q.x + dx) (Key.Area.X_MIN c) (Key.Area.X_MAX c), y := hold (q.y + dy) (Key.Area.Y_MIN c) (Key.Area.Y_MAX c)
      z := hold (q.z + dz) (Key.Area.Z_MIN c) (Key.Area.Z_MAX c), vx := vx, vy := vy, vz := vz
      ramp := some { r with vx := vx, vy := vy, vz := vz } })
    let s := s.wr (Key.ChPos.PATH_SPEED c) (hypot vx vy / 65536)
    if vx = 0 ∧ vy = 0 ∧ vz = 0 then (s.setChState c 5).modCh c (fun q => { q with ramp := none }) else s

/-- The last pixel of the record in execution is over, and with that of the last record of a block the block (R133, R146). -/
def recordDone (s : Sys) (c : Nat) : Sys :=
  match (s.ch c).rasCur with
  | some d => if d.last then (s.modCh c (fun q => { q with rasCur := some { d with last := false } })).blockDone c else s
  | none => s

/-- The last record of a block with END_AFTER is over: the channel enters IDLE as at an END (R133). -/
def rasterEnd (s : Sys) (c t : Nat) : Sys :=
  let s := ((s.recordDone c).wr (Key.ChPos.END_TIME c) t).wr (Key.ChPos.END_LAYER c) (s.rd (Key.ChPos.LAYER c))
  (((s.setChState c 1).setChCause c 4).raise (2 + c)).modCh c (fun q => { recordOver q with pause := false, vx := 0, vy := 0, vz := 0 })

/-- The cross-scan and focus set-points of a raster channel, with their velocities (R134): the scan axis holds its park coordinate. Once
the last pixel of a record is over, an END_AFTER ends the channel (R133), and a controlled stop that is due halts it (R138), as it does
where no record is in execution. -/
def rasterSample (s : Sys) (c t : Nat) : Sys :=
  let q := s.ch c
  match q.rasCur with
  | none =>
    let s := (s.wr (Key.ChPos.PATH_SPEED c) 0).modCh c (fun q => { q with vx := 0, vy := 0, vz := 0 })
    if q.look = [] then (s.dueHalt c).elim s (fun k => s.haltNow c k) else s
  | some d =>
    let cross := coord d.a
    let z := coord d.b
    let into := t - q.rasSos.getD t
    let steps := decide (s.rd (Key.Raster.CROSS_MODE c) = 1 ∨ q.rasGap = 0)
    let part (from_ to_ : Int) : Int := if steps then to_ else from_ + (to_ - from_) * (min q.rasGap into : Nat) / q.rasGap
    let speed (from_ to_ : Int) : Int := if steps || decide (q.rasGap ≤ into) then 0 else (to_ - from_) * 1000000 / q.rasGap
    let sweepsX := decide (s.rd (Key.Raster.SCAN_AXIS c) = 0)
    let w := part q.rasCross cross
    let v := speed q.rasCross cross
    let s := s.modCh c (fun q => { q with
      x := if sweepsX then s.rdI (Key.Stop.PARK_X c) * 65536 else w
      y := if sweepsX then w else s.rdI (Key.Stop.PARK_Y c) * 65536
      z := part q.rasZ z
      vx := if sweepsX then 0 else v, vy := if sweepsX then v else 0, vz := speed q.rasZ z })
    let s := s.wr (Key.ChPos.PATH_SPEED c) (v.natAbs / 65536)
    if t * 1000 < q.rasStart + d.d * q.rasPeriod then s
    else if d.flags = 1 then s.rasterEnd c t
    else
      let s := s.recordDone c
      if q.look = [] then (s.dueHalt c).elim s (fun k => s.haltNow c k) else s

/-- A RUNNING sample in vector mode: execution up to the sample, the point of the path, and the places that it passes. -/
def vectorSample (s : Sys) (c t : Nat) : Sys :=
  let s := if (s.ch c).fresh then s.modCh c (fun q =>
      { q with fresh := false, plan := { fin := { q.plan.fin with t := t, x := q.x, y := q.y, z := q.z, corner := false } } })
    else s
  let t0 := (s.ch c).sampled
  let s := runTo c t 256 s
  let q := s.ch c
  let (p, v, sp) := pathState q t
  let s := s.samplePlace c t0 t (rdiv q.x 65536) (rdiv q.y 65536) (rdiv p.1 65536) (rdiv p.2.1 65536)
  let s := s.modCh c (fun q => { q with x := p.1, y := p.2.1, z := p.2.2, vx := v.1, vy := v.2.1, vz := v.2.2 })
  let s := s.wr (Key.ChPos.PATH_SPEED c) (sp / 65536).toNat
  let inCal := (q.cur.any (fun d => decide (d.op = 9))) && (q.plan.spans.any (fun p => decide (p.pathFrom ≤ t ∧ t ≤ p.pathTo)))
  s.when (inCal && !s.placeOwned c true (s.placeOf c (s.rd (Key.ChPos.LAYER c)) (rdiv p.1 65536) (rdiv p.2.1 65536)))
    (fun s => s.modCh c (fun q => { q with calPartial := true }))

/-- The seam points that fell in the sample from `t0` to `t` (R123): a swap that is due at one of them is made after the sample, and a
CAL_MARK whose gate has still to open is marked with the new table (R231). -/
def seamPoints (s : Sys) (c t0 t : Nat) : Sys :=
  let at_ := (s.ch c).seam
  if at_ = [] then s
  else
    let s := s.modCh c (fun q => { q with seam := [] })
    let s := at_.foldl (fun s u => s.seamSwap c t0 u t) s
    s.modCh c (fun q => { q with calGen := if q.calOpened.any (fun o => decide (t < o)) then s.rd (Key.Hoop.ACTIVE_GEN c) else q.calGen })

/-- One sample of channel `c` at the instant of its trigger (R103). -/
def scuSample (s : Sys) (c t : Nat) (ok : Bool) : Sys :=
  let q := s.ch c
  if s.chState c = 0 then s
  else
    let s := s.when (!ok && decide (s.chState c = 2)) (fun s => s.bobbinParity c)
    let s := s.when (s.ch c).closed.isSome (fun s => s.stopReports c)
    let s := s.countOpen c t
    let st := s.chState c
    let s := if st = 4 then s.stopSample c (t - q.sampled)
      else if st = 2 then (if s.rd (Key.Ch.MODE c) = 0 then s.vectorSample c t else s.rasterSample c t)
      else s.wr (Key.ChPos.PATH_SPEED c) 0
    let s := (s.postPoints c).modCh c (fun q => { q with sampled := t })
    (((s.seamPoints c q.sampled t).marksLogged c t).refreshGate c)

/-- The head of the look-ahead of a RUNNING channel begins, if it has the given opcode and nothing else executes. -/
def runHead (s : Sys) (c op : Nat) : Sys :=
  let q := s.ch c
  let done_ := match q.cur with
    | some d => decide (q.plan.fin.t ≤ s.now) && d.op != 6 && d.op != 7
    | none => true
  if s.chState c ≠ 2 ∨ done_ = false then s
  else
    match q.look with
    | d :: rest =>
      if d.op = op ∧ !pausesAt q d ∧ !q.starved then
        let s := match q.cur with
          | some d0 => s.finishDesc c q.plan.fin.t d0
          | none => s
        let s := if (s.ch c).fresh then s.modCh c (fun q =>
            { q with fresh := false, plan := { fin := { q.plan.fin with t := s.now, x := q.x, y := q.y, z := q.z, corner := false } } })
          else s
        let s := s.startDesc c (s.ch c).plan.fin.t d rest
        if isStill op then s.finishDesc c (s.ch c).plan.fin.t d else s
      else s
    | [] => s

end Sys

end Sys2Proof.Machine
end

