-- ==== Sys2Proof/Machine/ScuCmd.lean ====
section
/-! DEFINITION. ScuCmd: channel commands (R112, R141), the channel's share of the GO_READY checks (R102, R107, R109, R128, R132, R185, R203), its time-outs (R121, R131, R135), the raster records (R132 to R135), and the meanings of the channel's own events. -/

namespace Sys2Proof.Machine

open Sys2Proof

namespace Sys

/-! ### Checks of GO_READY -/

/-- The DIGEST of a zone (R204). -/
def zoneDigest (s : Sys) (c z : Nat) : Nat :=
  crc32 (le 1 (s.rd (Key.Zone.SPLIT_AXIS c z)) ++ le 4 (s.rd (Key.Zone.X0 c z)) ++ le 4 (s.rd (Key.Zone.Y0 c z)) ++ le 4 (s.rd (Key.Zone.X1 c z)) ++
    le 4 (s.rd (Key.Zone.Y1 c z)) ++ le 4 (s.rd (Key.Zone.SEAM_BASE c z)) ++ le 4 (s.rd (Key.Zone.SEAM_AMPL c z)) ++
    le 4 (s.rd (Key.Zone.SEAM_PERIOD c z)) ++ le 4 (s.rd (Key.Zone.SEAM_STEP c z)) ++ le 8 (s.rd (Key.Zone.SEAM_SHIFTS c z)))

/-- A key stands in a list of entries at fault where its check fails. -/
def failing (l : List (Bool × Nat)) : List Nat := (l.filter (fun p => p.1)).map (fun p => p.2)

/-- The seam of a zone lies strictly between its edges on SPLIT_AXIS for every nibble and the whole amplitude (R203). -/
def seamInside (s : Sys) (c z : Nat) : Bool :=
  let alongX := decide (s.rd (Key.Zone.SPLIT_AXIS c z) = 0)
  let lo := s.rdI (if alongX then Key.Zone.X0 c z else Key.Zone.Y0 c z)
  let hi := s.rdI (if alongX then Key.Zone.X1 c z else Key.Zone.Y1 c z)
  (List.range 16).all (fun k =>
    let b := s.rdI (Key.Zone.SEAM_BASE c z) + (s.rd (Key.Zone.SEAM_STEP c z) : Int) * seamShift (s.rd (Key.Zone.SEAM_SHIFTS c z)) k
    decide (lo < b ∧ b + s.rd (Key.Zone.SEAM_AMPL c z) < hi))

/-- Two enabled zones of a channel overlap (R203). -/
def zonesOverlap (s : Sys) (c a b : Nat) : Bool :=
  s.rdB (Key.Zone.ENABLE c a) && s.rdB (Key.Zone.ENABLE c b) &&
    decide (s.rdI (Key.Zone.X0 c a) < s.rdI (Key.Zone.X1 c b) ∧ s.rdI (Key.Zone.X0 c b) < s.rdI (Key.Zone.X1 c a) ∧
      s.rdI (Key.Zone.Y0 c a) < s.rdI (Key.Zone.Y1 c b) ∧ s.rdI (Key.Zone.Y0 c b) < s.rdI (Key.Zone.Y1 c a))

/-- A zone with PARTNER_ADDR 0 has its match on the partner channel (R203). -/
def zoneMatched (s : Sys) (c z : Nat) : Bool :=
  let d := s.rd (Key.Zone.PARTNER_CH c z)
  (List.range 8).any (fun y => s.rdB (Key.Zone.ENABLE d y) && decide (s.rd (Key.Zone.PARTNER_ADDR d y) = 0 ∧ s.rd (Key.Zone.PARTNER_CH d y) = c ∧
    s.rd (Key.Zone.ROLE d y) ≠ s.rd (Key.Zone.ROLE c z) ∧ s.zoneDigest d y = s.zoneDigest c z))

/-- The entries at fault in the stitch zones of channel `c` (R203). -/
def stitchFaults (s : Sys) (c : Nat) : List Nat :=
  if !s.rdB (Key.Stitch.STITCH_ENABLE c) then []
  else
    failing [(decide (s.rd (Key.Ch.MODE c) ≠ 0), Key.Ch.MODE c)] ++
      ((List.range 8).filter (fun z => s.rdB (Key.Zone.ENABLE c z))).flatMap (fun z => failing
        [(decide (s.rdI (Key.Zone.X1 c z) ≤ s.rdI (Key.Zone.X0 c z)), Key.Zone.X1 c z),
         (decide (s.rdI (Key.Zone.Y1 c z) ≤ s.rdI (Key.Zone.Y0 c z)), Key.Zone.Y1 c z),
         (!s.seamInside c z, Key.Zone.SEAM_BASE c z),
         ((List.range z).any (fun y => s.zonesOverlap c y z), Key.Zone.X0 c z),
         (decide ((s.rd (Key.Zone.PARTNER_ADDR c z) = 0 ∨ s.rd (Key.Zone.PARTNER_ADDR c z) = s.address) ∧ s.rd (Key.Zone.PARTNER_CH c z) = c), Key.Zone.PARTNER_CH c z),
         (decide (s.rd (Key.Zone.PARTNER_ADDR c z) = 0 ∧ s.rd (Key.Zone.PARTNER_CH c z) ≠ c) && !s.zoneMatched c z, Key.Zone.PARTNER_CH c z)])

/-- The park point lies in the work area (R124). -/
def parkFaults (s : Sys) (c : Nat) : List Nat :=
  let out (k lo hi : Nat) : Bool := decide (s.rdI k < s.rdI lo ∨ s.rdI hi < s.rdI k)
  failing [(out (Key.Stop.PARK_X c) (Key.Area.X_MIN c) (Key.Area.X_MAX c), Key.Stop.PARK_X c),
    (out (Key.Stop.PARK_Y c) (Key.Area.Y_MIN c) (Key.Area.Y_MAX c), Key.Stop.PARK_Y c),
    (out (Key.Stop.PARK_Z c) (Key.Area.Z_MIN c) (Key.Area.Z_MAX c), Key.Stop.PARK_Z c)]

/-- The endpoint checks of an enabled channel (R109). -/
def feedFaults (s : Sys) (c : Nat) : List Nat :=
  match (List.range 8).filter (fun n => s.rdB (Key.Ep.ENABLE n) && decide (s.rd (Key.Ep.CONSUMER n) = 1 ∧ s.rd (Key.Ep.CONSUMER_INDEX n) = c)) with
  | [n] => failing [(decide (s.rd (Key.Ep.RING_LEN n) % 8256 ≠ 0), Key.Ep.RING_LEN n)]
  | _ => [Key.Ch.MODE c]

/-- The work-area pairs of channel `c`, in any state (R107). -/
def areaFaults (s : Sys) (c : Nat) : List Nat :=
  failing [(decide (s.rdI (Key.Area.X_MAX c) ≤ s.rdI (Key.Area.X_MIN c)), Key.Area.X_MAX c),
    (decide (s.rdI (Key.Area.Y_MAX c) ≤ s.rdI (Key.Area.Y_MIN c)), Key.Area.Y_MAX c),
    (decide (s.rdI (Key.Area.Z_MAX c) ≤ s.rdI (Key.Area.Z_MIN c)), Key.Area.Z_MAX c)]

/-- The entries at fault of an enabled channel `c`, of those GO_READY checks, once the table check has set TABLE_OK; its trigger runs
PERIODIC (R366). -/
def channelFaults (s : Sys) (c : Nat) : List Nat :=
  let per := s.trigPeriod (s.rd (Key.Ch.TRIGGER c))
  failing
    ([(decide (s.rd (Key.Slot.MODE (3 * c)) ≠ 1), Key.Slot.MODE (3 * c)),
      (decide (s.rd (Key.Slot.MODE (3 * c + 1)) ≠ 1), Key.Slot.MODE (3 * c + 1)),
      (decide (s.rd (Key.Slot.MODE (3 * c + 2)) ≠ 1), Key.Slot.MODE (3 * c + 2)),
      (decide (per < 1000), Key.Slot.TRIGGER (3 * c)),
      (decide (s.rd (Key.Trig.MODE (s.rd (Key.Ch.TRIGGER c))) ≠ 1), Key.Trig.MODE (s.rd (Key.Ch.TRIGGER c))),
      (decide (s.rd (Key.Corner.ANGLE_SKY c) ≤ s.rd (Key.Corner.ANGLE_CONT c)), Key.Corner.ANGLE_SKY c),
      (s.rdB (Key.Hoop.HOOP_ENABLE c) && !s.rdB (Key.Hoop.TABLE_OK c), Key.Hoop.ACTIVE_ADDR c),
      (decide (s.rd (Key.Mpl.P_MAX c) ≤ s.rd (Key.Mpl.P_MIN c)), Key.Mpl.P_MAX c),
      (decide (65535 < s.rd (Key.Mpl.LP_OFFSET c) + s.rd (Key.Mpl.LP_SPAN c)), Key.Mpl.LP_SPAN c),
      (decide (s.rdI (Key.MplFf.FF_MAX c) ≤ s.rdI (Key.MplFf.FF_MIN c)), Key.MplFf.FF_MAX c),
      (decide (s.rd (Key.Mpl.MPL_MODE c) ≠ 0 ∧ s.rd (Key.SlotFb.VSHIFT (3 * c)) ≠ s.rd (Key.SlotFb.VSHIFT (3 * c + 1))), Key.SlotFb.VSHIFT (3 * c + 1)),
      (decide (s.rd (Key.Mark.MARK_SPEED_MAX c) < s.rd (Key.Ins.CAL_SPEED c)), Key.Ins.CAL_SPEED c),
      (decide (s.rd (Key.Ch.MODE c) = 1 ∧ 4 ≤ s.rd (Key.Ch.MTU c)), Key.Ch.MTU c),
      -- a raster channel uses PEN besides its own domain (R24)
      (decide (s.rd (Key.Ch.MODE c) = 1) && !s.domainOn 12, Key.Ch.MODE c),
      (decide (s.rd (Key.Ch.MODE c) = 1 ∧ s.rd (Key.Ch.MTU c) < 4 ∧ s.rd (Key.Mtu.PIX_PERIOD (s.rd (Key.Ch.MTU c))) < 20000),
        Key.Mtu.PIX_PERIOD (s.rd (Key.Ch.MTU c))),
      (decide (s.rd (Key.Ch.MODE c) = 1 ∧ s.rd (Key.Ch.MTU c) < 4 ∧ s.rd (Key.Mtu.MODE (s.rd (Key.Ch.MTU c))) ≠ 1), Key.Mtu.MODE (s.rd (Key.Ch.MTU c)))]) ++
    (if s.rdB (Key.Hoop.HOOP_ENABLE c) then (s.planeFault c).toList else []) ++ s.areaFaults c ++ s.parkFaults c ++ s.feedFaults c ++ s.stitchFaults c

/-! ### Channel commands (R112, R141) -/

/-- The Bobbin is emptied and resync begins (R112); `off` is the stream offset to go on from. -/
def chEmpty (s : Sys) (c off : Nat) : Sys :=
  let s := s.modCh c (fun q => { x := q.x, y := q.y, z := q.z, sampled := q.sampled, cr := q.cr, sr := q.sr, counted := q.counted, openRest := q.openRest
                                 enabledAt := q.enabledAt, fetch := off, plan := { fin := { q.plan.fin with px := q.x, py := q.y, pz := q.z } } })
  ((s.wr (Key.Queue.EXPECTED_SEQ c) (s.rd (Key.Queue.FIRST_SEQ c))).wr (Key.Queue.BLOCKS_QUEUED c) 0).wrB (Key.Queue.RESYNC c) true

/-- The stream offset of the next block boundary of the ring of endpoint `n` at or after a stream offset (R109). -/
def blockBoundary (s : Sys) (n off : Nat) : Nat := (off + (8256 - s.ringPos n off % 8256) % 8256) % 2 ^ 32

/-- Channel faults whose condition is gone clear (R145, R197). -/
def chClear (s : Sys) (c : Nat) : Sys :=
  let ready := s.stsReady c || decide (s.rd (Key.Mod.READY_TIMEOUT c) = 0)
  let coasting := [3 * c, 3 * c + 1, 3 * c + 2].any (fun n => decide (s.slotState n = 3))
  let s := s.each [1, 2, 3, 4, 5, 6, 7, 10] (fun s k => s.clearActive k 1 c)
  let s := s.when ready (fun s => (s.clearActive 8 1 c).clearActive 9 1 c)
  let s := s.when (!coasting) (fun s => s.clearActive 0x0B 1 c)
  let s := s.when (!s.ballDiffers c && !s.ballDiffers (16 + c)) (fun s => s.clearActive 0x6D 1 c)
  let q := s.loop c
  let s := if q.pathA = false ∧ q.pathB = false then (s.modLoop c (fun q => { q with mismatch := false })).clearActive 0x20 1 c else s
  let s := (s.modLoop c (fun q => { q with readback := false })).clearActive 0x21 1 c
  s.when (decide (q.parityRun = 0)) (fun s => s.clearActive 0x22 1 c)

/-- RESET of a channel (R112). -/
def chReset (s : Sys) (c : Nat) : Sys :=
  let s := match s.feeder 1 c with
    | some n =>
      let next := s.rd (Key.EpSt.NEXT_OFFSET n)
      (s.chEmpty c (s.blockBoundary n next)).release n next
    | none => s.chEmpty c 0
  let s := s.when (decide (s.chState c = 5)) (fun s => s.setChState c 1)
  ((s.chClear c).refreshIlk).refreshGate c

/-- ENABLE from OFF (R141): the park point, and resync. -/
def chEnable (s : Sys) (c : Nat) : Sys :=
  let off := match s.feeder 1 c with
    | some n => s.blockBoundary n (s.rd (Key.EpSt.RELEASE_OFFSET n))
    | none => 0
  let s := s.modCh c (fun q => { q with x := s.rdI (Key.Stop.PARK_X c) * 65536, y := s.rdI (Key.Stop.PARK_Y c) * 65536, z := s.rdI (Key.Stop.PARK_Z c) * 65536 })
  (((s.chEmpty c off).fixGeometry c).setChState c 1).refreshGate c

/-- START (R130, R141): the modulation comes from the entries, and the path begins at the next sample. -/
def chStart (s : Sys) (c : Nat) : Sys :=
  ((s.setChState c 2).modCh c (fun q => { q with
    fresh := true, counted := s.now, rasWait := s.clk
    modn := { mode := s.rd (Key.Mod.MOD_MODE c), period := s.rd (Key.Mod.PULSE_PERIOD c), width := s.rd (Key.Mod.PULSE_WIDTH c)
              spacing := s.rd (Key.Mod.PULSE_SPACING c) } })).refreshGate c

/-- RESUME from HELD (R141): with an empty look-ahead it leads at once to HELD with cause STARVED. A raster channel, which R139 and R141
give no starvation of this kind, goes to RUNNING (DESIGN CHOICE, log entry 50). -/
def chResume (s : Sys) (c : Nat) : Sys :=
  let q := s.ch c
  if q.cur.isNone ∧ q.look = [] ∧ q.halt.isNone ∧ s.rd (Key.Ch.MODE c) = 0 then (s.inc (Key.ChCnt.STARVATIONS c)).holdAt c 3
  else ((s.setChState c 2).modCh c (fun q => { q with
    fresh := true, rasWait := s.clk, plan := { q.plan with fin := { q.plan.fin with reenter := decide (s.rd (Key.Ch.CAUSE c) = 3) } } })).refreshGate c

/-- The channel's checks at ENABLE in READY: the table is checked first (R128). -/
def chChecks (s : Sys) (c : Nat) (tableOk : Bool) : Sys := s.hoopCheck c tableOk

/-- What a channel command is judged as (R131, R141): the abort, 0 where it is accepted, with what the judging itself
leaves behind. -/
def chCmdCheck (s : Sys) (c cmd : Nat) (tableOk : Bool) : Sys × Nat :=
  let st := s.chState c
  match cmd with
  | 1 =>
    if ¬(s.dev = .config ∨ s.dev = .ready) then (s, 0x0803)
    else if st = 0 ∧ s.dev = .ready then
      let s := s.chChecks c tableOk
      (s, if s.channelFaults c = [] then 0 else 0x0803)
    else (s, 0)
  | 2 => (s, if st = 0 ∨ st = 1 ∨ st = 5 then 0 else 0x0803)
  | 3 =>
    if s.dev ≠ .armed then (s, 0x0803)
    else if st = 2 then (s, 0)
    else if st ≠ 1 then (s, 0x0803)
    else if !s.stsReady c && decide (s.rd (Key.Mod.READY_TIMEOUT c) ≠ 0) then (s.setChCause c 12, 0x0803)
    else (s, 0)
  | 4 => (s, if st = 2 ∨ st = 3 then 0 else 0x0803)
  | 5 => (s, if s.dev = .armed ∧ (st = 2 ∨ st = 3) then 0 else 0x0803)
  | 6 => (s, if st = 0 then 0x0803 else 0)
  | 7 => (s, if st = 1 ∨ st = 5 then 0 else 0x0803)
  | _ => (s, 0x0604)

/-- The effect of an accepted channel command (R141). -/
def chCmd (s : Sys) (c cmd : Nat) : Sys :=
  let st := s.chState c
  match cmd with
  | 1 => if st = 0 then s.chEnable c else s
  | 2 => if st = 0 then s else (s.setChState c 0).refreshGate c
  | 3 => if st = 1 then s.chStart c else s
  | 4 => if st = 2 then s.modCh c (fun q => { q with pause := true }) else s
  | 5 => if st = 2 then s.modCh c (fun q => { q with pause := false }) else s.chResume c
  | 6 => if st = 2 ∨ st = 3 then ((s.safeStop c 1).stopReports c).refreshGate c else s
  | 7 => s.chReset c
  | _ => s

/-- HOOP_ENABLE (R128): a write of 1 in READY, for a channel that is not OFF, runs both checks at once. -/
def hoopEnableCheck (s : Sys) (c v : Nat) (tableOk : Bool) : Sys × Nat :=
  if v ≠ 0 ∧ s.dev = .ready ∧ s.chState c ≠ 0 then
    let s := s.hoopCheck c tableOk
    (s, if s.rdB (Key.Hoop.TABLE_OK c) ∧ s.planeFault c = none then 0 else 0x0803)
  else (s, 0)

/-! ### Waits and time-outs (R121, R131, R135) -/

/-- Device time reaches the TIME of the executing WAIT_TIME (R121). -/
def waitReached (s : Sys) (c : Nat) : Sys :=
  match (s.ch c).cur with
  | some d =>
    let at_ := d.a + 2 ^ 32 * d.b
    if d.op = 6 ∧ s.chState c = 2 ∧ at_ ≤ s.now then (s.endWait c at_).finishDesc c at_ d else s
  | none => s

/-- TIMEOUT of the executing WAIT_EVENT expires first (R121). -/
def waitExpired (s : Sys) (c : Nat) : Sys :=
  match (s.ch c).cur, (s.ch c).waitSince with
  | some d, some t =>
    if d.op = 7 ∧ s.chState c = 2 ∧ d.a ≠ 0 ∧ t + d.a * 1000 ≤ s.now ∧ s.rd (Key.Cap.COUNT (d.param % 32)) = (s.ch c).waitCount then
      let s := (s.endWait c s.now).finishDesc c s.now d
      if d.flags.testBit 0 then
        let s := (s.haltNow c 11).deferUpdate c
        (s.faultNow 0x07 1 c).refreshGate c
      else s
    else s
  | _, _ => s

/-- READY_TIMEOUT after LP_EN became active, LP_STS not showing ready (R131). -/
def readyExpired (s : Sys) (c : Nat) : Sys :=
  match (s.ch c).enabledAt with
  | some t =>
    if s.rd (Key.Mod.READY_TIMEOUT c) ≠ 0 ∧ t + s.rd (Key.Mod.READY_TIMEOUT c) * 1000000 ≤ s.clk ∧ !s.stsReady c then
      (s.modCh c (fun q => { q with enabledAt := none })).faultNow 0x08 1 c
    else s
  | none => s

/-- What LP_STS[c] shows is judged (R131, R145), `was` being whether it showed ready before: ready clears LASER_NOT_READY; leaving ready
in RUNNING or HELD raises LASER_STATUS. -/
def stsSeen (s : Sys) (c : Nat) (was : Bool) : Sys :=
  let s := s.refreshGate c
  if s.stsReady c then (s.modCh c (fun q => { q with enabledAt := none })).clearActive 0x08 1 c
  else if was && decide (s.rd (Key.Mod.READY_TIMEOUT c) ≠ 0) && decide (s.chState c = 2 ∨ s.chState c = 3) then
    (((s.safeStop c 13).faultNow 0x09 1 c).stopReports c).refreshGate c
  else s

/-- The ball LP_STS[c] takes a level (R131). -/
def stsChange (s : Sys) (c : Nat) (level : Bool) : Sys :=
  ({ s with pads := { s.pads with lpSts := putBit s.pads.lpSts c level } } : Sys).stsSeen c (s.stsReady c)

/-- No start-of-scan edge within SOS_TIMEOUT while the channel is RUNNING (R135). -/
def sosExpired (s : Sys) (c : Nat) : Sys :=
  if s.rd (Key.Ch.MODE c) = 1 ∧ s.chState c = 2 ∧ (s.ch c).rasWait + s.rd (Key.Raster.SOS_TIMEOUT c) ≤ s.clk then
    (((s.safeStop c 14).faultNow 0x0A 1 c).stopReports c).refreshGate c
  else s

/-! ### Raster line mode (R132 to R135) -/

/-- A start-of-scan edge at `t` with no record (R135): the gate stays closed for the facet, and the line is unmarked. -/
def rasterMiss (s : Sys) (c t : Nat) : Sys :=
  let q := s.ch c
  let line := q.rasLine.elim 0 (fun k => (k + 1) % 2 ^ 32)
  let s := s.inc (Key.ChCnt.RASTER_UNDERRUNS c)
  s.putReport c ([6, c, 0xFF, 0] ++ le 4 line ++ le 4 (s.rd (Key.ChPos.LAYER c)) ++ le 4 (s.rd (Key.ChPos.BLOCK_SEQ c)) ++ le 2 0 ++ le 2 0 ++ le 2 0 ++ le 2 0 ++
    le 8 t ++ le 8 0 ++ le 4 0 ++ le 4 0 ++ le 4 0 ++ le 4 0 ++ [0xFF, 0xFF] ++ le 2 0)

/-- The line record at the head of the look-ahead is taken at a start-of-scan edge (R133): its first pixel is line pixel FIRST, `period` ps
times FIRST after `start` ps. A record has no TAG: `1c60.07` shows its LINE (DESIGN CHOICE, log entry 50). -/
def takeRecord (s : Sys) (c start period : Nat) (d : Desc) (rest : List Desc) : Sys :=
  let s := ((s.wr (Key.ChPos.BLOCK_SEQ c) d.seq).wr (Key.ChPos.TAG c) d.e).wr (Key.ChPos.LAYER c) d.layer
  s.modCh c (fun q => { q with
    look := rest, rasCur := some d, rasPixels := s.bytes d.c d.d, rasStart := start + d.f * period, rasPeriod := period })

/-- A start-of-scan edge at `t`, `gap` ns after the one before, with line pixel 0 at `start` ps and pixels `period` ps apart: channel `c`
takes its next line record (R133 to R135). It is the rest point of a pending PAUSE (DESIGN CHOICE, log entry 50). The first record after ENABLE or RESET moves CROSS and Z from coordinate 0 (DESIGN CHOICE, log
entry 50). -/
def rasterSos (s : Sys) (c t gap start period : Nat) : Sys :=
  if s.rd (Key.Ch.MODE c) ≠ 1 ∨ s.chState c ≠ 2 then s
  else if (s.ch c).rasCur.any (fun d => d.flags == 1) then (s.countOpen c t).rasterEnd c t
  else
    let s := (s.countOpen c t).recordDone c
    let s := s.modCh c (fun q => { recordOver q with rasSos := some t, rasGap := gap, rasWait := s.clk })
    match (s.ch c).look with
    | [] =>
      match s.dueHalt c with
      | some k => s.haltNow c k
      | none => if (s.ch c).pause then s.holdAt c 2 else s.rasterMiss c t
    | d :: rest => if (s.ch c).pause then s.holdAt c 2 else s.takeRecord c start period d rest

end Sys

/-! ### Meanings -/

/-- BLOCK_FETCH (R110): the SCU of channel `c` fetches its next block; `ok` is the byte parity of the read. -/
def execBlockFetch (c : Fin 16) (ok : Bool) (s : State) : Host.Outcome State Fault Refusal := onBlock (Sys.chDomain c) (fun s => s.fetchBlock c ok) s

/-- DESCRIPTOR_LOOKAHEAD (R114): a descriptor enters the look-ahead; `ok` is the byte parity of the Bobbin read. -/
def execDescriptorLookahead (c : Fin 16) (ok : Bool) (s : State) : Host.Outcome State Fault Refusal :=
  onBlock (Sys.chDomain c) (fun s => s.lookAhead c ok) s

/-- SCU_SAMPLE (R103): at the edge of its trigger that has last fallen, channel `c` computes its set-points. -/
def execScuSample (c : Fin 16) (ok : Bool) (s : State) : Host.Outcome State Fault Refusal :=
  onBlock (Sys.chDomain c) (fun s =>
    let t := s.rd (Key.Trig.LAST_TIME (s.rd (Key.Ch.TRIGGER c)))
    if (s.ch c).sampled < t then s.scuSample c t ok else s) s

/-- JUMP (R116). -/
def execJump (c : Fin 16) (s : State) : Host.Outcome State Fault Refusal := onBlock (Sys.chDomain c) (fun s => s.runHead c 1) s

/-- MARK (R117). -/
def execMark (c : Fin 16) (s : State) : Host.Outcome State Fault Refusal := onBlock (Sys.chDomain c) (fun s => s.runHead c 2) s

/-- ARC (R119). -/
def execArc (c : Fin 16) (s : State) : Host.Outcome State Fault Refusal := onBlock (Sys.chDomain c) (fun s => s.runHead c 3) s

/-- DWELL (R120). -/
def execDwell (c : Fin 16) (s : State) : Host.Outcome State Fault Refusal := onBlock (Sys.chDomain c) (fun s => s.runHead c 4) s

/-- POWER (R130). -/
def execPower (c : Fin 16) (s : State) : Host.Outcome State Fault Refusal := onBlock (Sys.chDomain c) (fun s => s.runHead c 5) s

/-- WAIT_TIME (R121). -/
def execWaitTime (c : Fin 16) (s : State) : Host.Outcome State Fault Refusal := onBlock (Sys.chDomain c) (fun s => s.runHead c 6) s

/-- WAIT_TIME_REACHED (R121). -/
def execWaitTimeReached (c : Fin 16) (s : State) : Host.Outcome State Fault Refusal := onBlock (Sys.chDomain c) (fun s => s.waitReached c) s

/-- WAIT_EVENT (R121). -/
def execWaitEvent (c : Fin 16) (s : State) : Host.Outcome State Fault Refusal := onBlock (Sys.chDomain c) (fun s => s.runHead c 7) s

/-- WAIT_EVENT_TIMEOUT (R121). -/
def execWaitEventTimeout (c : Fin 16) (s : State) : Host.Outcome State Fault Refusal := onBlock (Sys.chDomain c) (fun s => s.waitExpired c) s

/-- SEAM_POINT (R123). -/
def execSeamPoint (c : Fin 16) (s : State) : Host.Outcome State Fault Refusal := onBlock (Sys.chDomain c) (fun s => s.runHead c 8) s

/-- CAL_MARK (R226). -/
def execCalMark (c : Fin 16) (s : State) : Host.Outcome State Fault Refusal := onBlock (Sys.chDomain c) (fun s => s.runHead c 9) s

/-- LINK (R122). -/
def execLinkBlock (c : Fin 16) (s : State) : Host.Outcome State Fault Refusal := onBlock (Sys.chDomain c) (fun s => s.runHead c 10) s

/-- END (R124). -/
def execEndDescr (c : Fin 16) (s : State) : Host.Outcome State Fault Refusal := onBlock (Sys.chDomain c) (fun s => s.runHead c 15) s

/-- READY_TIMEOUT (R131). -/
def execReadyTimeout (c : Fin 16) (s : State) : Host.Outcome State Fault Refusal := onSys (fun s => s.readyExpired c) s

/-- LP_STS_CHANGE (R131). -/
def execLpStsChange (c : Fin 16) (level : Bool) (s : State) : Host.Outcome State Fault Refusal := 
  onUnit (fun s => if s.domainOn 11 then s.stsChange c level else { s with pads := { s.pads with lpSts := putBit s.pads.lpSts c level } }) s

/-- SOS_TIMEOUT (R135). -/
def execSosTimeout (c : Fin 16) (s : State) : Host.Outcome State Fault Refusal := onBlock (Sys.chDomain c) (fun s => s.sosExpired c) s

end Sys2Proof.Machine
end

