-- ==== Sys2Proof/Machine/Mpl.lean ====
section
/-! DEFINITION. Mpl: the melt-pool loop (R181 to R188), the modulation (R130), its anomaly records (R190, R191), the readback and the gate paths (R193, R196, R197). -/

namespace Sys2Proof.Machine

open Sys2Proof

/-- The signal of R182 from the two sums of codes. -/
def mplSignal (mode : Nat) (w : Int) (a b : Nat) : Int :=
  match mode with
  | 0 => a
  | 1 => clamp ((a : Int) + rdiv (w * b) 131072) 0 131071
  | _ => min (rdiv ((a : Int) * 65536) (max b 1)) 131071

/-- The 17-bit power of a U16 power (R184). -/
def fullPower (p : Nat) : Int := ((2 * p + p / 32768 : Nat) : Int)

/-- The feed-forward power (R186). -/
def feedForward (P ffGain q : Int) : Int := clamp (P + rdiv (P * rdiv (ffGain * (q - 65536)) 65536) 65536) 0 131071

/-- The sum of a window of codes. -/
def codeSum (l : List Nat) : Nat := l.foldl (fun n c => n + min c 16383) 0

namespace Sys

/-- When the gate that is open over span `p` of channel `c` closes as planned (R129): the look-ahead is planned as far as the ramps of
`ramps` ns from instant `t` on can reach. -/
def gateEnd (s : Sys) (c t ramps : Nat) (p : Span) : Nat :=
  if p.final then p.closeAt
  else
    let q := s.ch c
    let far := max t p.since + ramps
    let ahead := planAhead (s.lims c) far q.modn q.plan.fin q.look
    ((((q.spans ++ q.plan.spans) ++ ahead.1).find? (fun x => x.final && decide (p.openAt ≤ x.openAt))).map (fun x => x.closeAt)).getD far

/-- The planned power of channel `c` at gate instant `t` (R129, R133, R184). -/
def powerAt (s : Sys) (c t : Nat) : Nat :=
  match s.spanAt c t with
  | some p =>
    let profile := s.rd (Key.Prof.PROFILE c p.prof)
    p.powerAt profile (s.gateEnd c t ((profile % 65536 + profile / 65536 % 65536) * 20) p) t
  | none =>
    match s.pixelAt c t with
    | some v => nearest (v * s.rd (Key.Raster.RASTER_FULL c)) 255
    | none => 0

/-- The planned speed of the path point of gate instant `t`, in 2^-16 LSB/ms. -/
def gateSpeed (s : Sys) (c t : Nat) : Nat :=
  let u := t - s.rd (Key.Mark.LASER_ON_SHIFT c)
  match segAt ((s.ch c).past ++ (s.ch c).plan.segs) u with
  | some g => (g.speed (min g.dur (u - g.t0))).toNat
  | none => 0

/-- The path in the CECLK cycle at instant `t` of an open gate, and its pulses by distance (R130): where the path measured from the gate-open
point has covered another PULSE_SPACING, a pulse is asked for, and one that would start too early is dropped. -/
def pulseStep (s : Sys) (c t : Nat) : Sys :=
  let q := s.loop c
  let m := s.modnAt c t
  if !q.wasOpen then s
  else
    let sum := q.speedSum + s.gateSpeed c t
    let s := s.modLoop c (fun q => { q with speedSum := sum })
    if m.mode ≠ 2 then s
    else
      let count (v : Nat) : Nat := v * 2 / 1000000 / (max 1 m.spacing * 65536)
      let n := count sum - count q.speedSum
      let starts := decide (0 < n) && !q.pulseAt.any (fun p => decide (t < p + 2 * (m.width + 2)))
      let s := s.modLoop c (fun q => { q with pulseAt := if starts then some t else q.pulseAt })
      s.add (Key.ChCnt.PULSES_DROPPED c) 32 (n - b2n starts)

/-- One CECLK cycle of the gate and the modulation of channel `c` (R130, R183). -/
def gateCycle (s : Sys) (c t : Nat) : Sys := (s.when (decide (s.gateCauses c t = 0)) (fun s => s.pulseStep c t)).gateAt c t

/-- One 20 ns output sample (R186), with the gain and the limits of the last update (R188): LP_OUT takes its code (R183). -/
def mplOutput (s : Sys) (c : Nat) : Sys :=
  let gate := s.rdB (Key.MplMon.GATE c)
  let q := s.loop c
  let P := fullPower (s.powerAt c s.now)
  let pff := if s.rd (Key.Mpl.MPL_MODE c) = 0 then P else feedForward P q.ffGain q.q
  let raw := pff + (if s.rd (Key.Mpl.MPL_MODE c) = 2 then q.c else 0)
  let p := min (max raw q.pMin) q.pMax
  let code : Int := if gate then min (s.rd (Key.Mpl.LP_OFFSET c) + rdiv (p * s.rd (Key.Mpl.LP_SPAN c)) 131072) 65535
    else s.rd (Key.Mpl.LP_IDLE c)
  let s := s.modLoop c (fun q => { q with pff := pff, limited := decide (p ≠ raw), outAt := s.clk })
  (s.wr (Key.MplMon.LP_CODE c) (if q.readback then 0 else code.toNat)).wr (Key.MplMon.POWER c) p.toNat

/-- What 4 ns do at the outputs of channel `c`: two CECLK cycles of a running timebase, and an output sample every 20 ns. The gate of a
channel that is not RUNNING stays closed. -/
def mplTick (s : Sys) (c : Nat) : Sys :=
  let s := if s.chState c ≠ 2 then s else if s.runs 6 then (s.gateCycle c (s.now - 2)).gateCycle c s.now else s.refreshGate c
  s.when (decide ((s.loop c).outAt + 20 ≤ s.clk)) (fun s => s.mplOutput c)

/-- What 4 ns do at the emission outputs. -/
def outputTick (s : Sys) : Sys := s.when (s.runs 11) (fun s => s.each (List.range 16) mplTick)

/-! ### Anomalies (R190, R191) -/

/-- The record of an anomaly that ends (R191). -/
def anomalyEnds (s : Sys) (c kind : Nat) (a : Anomaly) : Sys :=
  let rec_ := [kind, c] ++ le 2 (min 65535 a.len) ++ le 4 a.tag ++ le 8 a.at_ ++ le 4 (word32 a.x) ++ le 4 (word32 a.y) ++ le 4 a.extreme ++ le 4 a.layer
  let s := s.ringRecord 0x43 (Key.MplAn.REC_ADDR c) (Key.MplAn.REC_LEN c) (Key.MplAn.REC_HEAD c) (Key.MplAn.REC_TAIL c) (Key.MplAn.REC_LOST c) rec_
  (s.inc (Key.MplCnt.ANOMALIES c)).faultNow 0x23 1 c

/-- One anomaly in one update: `held` its condition in this update, `count` whether this update counts for it, `need` the
number of updates that flag it. `none` leaves it as it is. -/
def anomalyStep (s : Sys) (c i : Nat) (held : Option Bool) (need sig : Nat) : Sys :=
  let q := s.loop c
  let a := q.anomalies.getD i {}
  let put (s : Sys) (a : Anomaly) : Sys := s.modLoop c (fun q => { q with anomalies := q.anomalies.set i a })
  match held with
  | none => if a.flagged then put s { a with len := a.len + 1 } else s
  | some false => if a.flagged then (put s {}).anomalyEnds c (i + 1) a else put s {}
  | some true =>
    if a.flagged then
      put s { a with len := a.len + 1, extreme := if i = 0 then max a.extreme sig else if i = 1 ∨ i = 3 then min a.extreme sig else sig }
    else if need ≤ a.run + 1 then
      let p := s.pathPoint c s.now
      put s { run := a.run + 1, flagged := true, at_ := s.now, tag := s.rd (Key.ChPos.TAG c), x := p.1, y := p.2
              layer := s.rd (Key.ChPos.LAYER c), extreme := sig, len := 1 }
    else put s { a with run := a.run + 1, extreme := sig }

/-- Consecutive samples at an end of the code range over one window, `n` of them before it: those at its end, and the most there were. -/
def rangeRun (n : Nat) (l : List Nat) : Nat × Nat :=
  l.foldl (fun a c => let n := if c = 0 ∨ 16383 ≤ c then a.1 + 1 else 0; (n, max a.2 n)) (n, 0)

/-- The anomaly checks of one update (R190). -/
def anomalies (s : Sys) (c : Nat) (fresh gate active band : Bool) (sig : Int) (a b : List Nat) : Sys :=
  let sg := sig.toNat
  -- a gate that has closed and opened again since the last update has ended what was flagged before
  let s := s.when fresh (fun s => s.each (List.range 5) (fun s i => s.anomalyStep c i (some false) 1 sg))
  let q := s.loop c
  let need := max 1 (s.rd (Key.MplAn.ANOM_N c))
  let low := decide (sg < s.rd (Key.MplAn.SIG_LOW c))
  let neN := s.rd (Key.MplAn.NO_EMISSION_N c)
  let ra := if gate then rangeRun (if fresh then 0 else q.rangeA) a else (0, 0)
  let rb := if gate then rangeRun (if fresh then 0 else q.rangeB) b else (0, 0)
  let s := s.modLoop c (fun q => { q with rangeA := ra.1, rangeB := rb.1 })
  let s := s.anomalyStep c 0 (some (gate && decide (s.rd (Key.MplAn.SIG_HIGH c) < sg))) need sg
  let s := s.anomalyStep c 1 (if !gate then some false else if active then some low else none) need sg
  let s := s.anomalyStep c 2 (some (gate && band)) need sg
  -- NO_EMISSION: only the first updates after the gate opens can flag it
  let ne := q.anomalies.getD 3 {}
  let s := s.anomalyStep c 3 (some (gate && low && decide (neN ≠ 0) && (ne.flagged || decide (ne.run = q.nOpen)))) (max 1 neN) sg
  let s := s.anomalyStep c 4 (some (gate && (decide (need ≤ ra.2) || decide (need ≤ rb.2)))) 1 sg
  let f (i : Nat) : Nat := if ((s.loop c).anomalies.getD i {}).flagged then 2 ^ i else 0
  s.wr (Key.MplMon.FLAGS c) (f 0 + f 1 + f 2 + f 3 + f 4)

/-! ### The update (R186) -/

/-- The speed ratio q of an update (R185, R186). Where the planned speed in velocity units rounds to 0 the spec states no
quotient: an open value, within FF_MIN to FF_MAX. -/
def speedRatio (s : Sys) (c : Nat) : Int :=
  let v := s.rd (Key.ChPos.PATH_SPEED c)
  if s.rd (Key.Mpl.MPL_MODE c) = 0 ∨ v < s.rd (Key.MplFf.FF_VMIN c) then 65536
  else
    let per := s.trigPeriod (s.rd (Key.Ch.TRIGGER c))
    let vu := rdiv ((v * per * 2 ^ s.rd (Key.SlotFb.VSHIFT (3 * c)) : Nat) : Int) 1000000
    let q := s.loop c
    let m := hypot q.vx q.vy
    let r := if vu = 0 then Config.openValue 1 [m] else rdivI ((m : Int) * 65536) vu
    min (max r (s.rdI (Key.MplFf.FF_MIN c))) (s.rdI (Key.MplFf.FF_MAX c))

/-- One update at the present instant with the eight codes of each input, their parity, and the readback of the LP_OUT register (R182 to R197). -/
def mplUpdate (s : Sys) (c : Nat) (a b : List Nat) (ok readOk : Bool) : Sys :=
  let s := s.refreshGate c
  let gate := s.rdB (Key.MplMon.GATE c)
  let sig := mplSignal (s.rd (Key.Mpl.SIGNAL_MODE c)) (s.rdI (Key.Mpl.SIGNAL_W c)) (codeSum a) (codeSum b)
  let q := s.speedRatio c
  let m := s.loop c
  let fresh := m.opened
  let m : Mpl := { m with q := q, i := (if fresh then 0 else m.i), c := (if fresh then 0 else m.c), nOpen := (if fresh then 0 else m.nOpen), opened := false,
                          parityRun := (if ok then 0 else m.parityRun + 1)
                          ffGain := s.rdI (Key.MplFf.FF_GAIN c), pMin := s.rd (Key.Mpl.P_MIN c), pMax := s.rd (Key.Mpl.P_MAX c) }
  let mode := s.rd (Key.Mpl.MPL_MODE c)
  let active := gate && decide (s.rd (Key.MplCl.CL_HOLDOFF c) ≤ m.nOpen) && m.modAll && ok
  let P := fullPower (s.powerAt c s.now)
  let pff := if mode = 0 then P else feedForward P m.ffGain q
  let tgt := min (rdiv (s.rdI (Key.MplCl.SIG_PER_POWER c) * pff) 65536) 131071
  let e := tgt - sig
  let closed := mode == 2 && active
  let i1 := if (m.limited || m.banded) && decide (sgn e = sgn m.c) then m.i else lim (m.i + rdiv (s.rdI (Key.MplCl.KI c) * e) 65536) (s.rd (Key.MplCl.I_LIM c))
  let raw := rdiv (s.rdI (Key.MplCl.KP c) * e) 65536 + i1
  let c1 := lim raw (rdiv (pff * s.rdI (Key.MplCl.BAND c)) 131072)
  let band := closed && decide (c1 ≠ raw)
  let i2 := if !gate then 0 else if closed then i1 else m.i
  let c2 := if !gate then 0 else if closed then c1 else m.c
  let s := s.modLoop c (fun _ => { m with i := i2, c := c2, banded := band })
  let s := ((s.wr (Key.MplMon.SIGNAL c) sig.toNat).wrI (Key.MplMon.SPEED_RATIO c) q).wrI (Key.MplMon.CORRECTION c) c2
  let s := s.when active (fun s => s.inc64 (Key.MplCnt.CLOSED_UPDATES c))
  let s := s.when band (fun s => s.inc (Key.MplCnt.BAND_HITS c))
  let s : Sys := { s with smp := { s.smp with maxCorr := max s.smp.maxCorr c2.natAbs } }
  let s := s.anomalies c fresh gate active band sig a b
  let s := s.when (!ok) (fun s => s.inc (Key.MplCnt.MP_PARITY_ERRORS c))
  let s := s.when (decide ((s.loop c).parityRun = 2)) (fun s => s.faultNow 0x22 1 c)
  let s := (s.modLoop c (fun q => { q with nOpen := q.nOpen + 1, modAll := q.modHigh })).mplOutput c
  let s := if readOk || (s.loop c).readback then s
    else (((s.modLoop c (fun q => { q with readback := true })).wr (Key.MplMon.LP_CODE c) 0).faultNow 0x21 1 c).refreshGate c
  s

/-- The two gate paths of channel `c` have stood at these values for 2 CECLK cycles (R193): a disagreement is latched. -/
def gatePaths (s : Sys) (c : Nat) (a b : Bool) : Sys :=
  let s := s.modLoop c (fun q => { q with pathA := a, pathB := b })
  if a = b then s
  else
    let s := (s.modLoop c (fun q => { q with mismatch := true })).inc (Key.MplCnt.GATE_MISMATCHES c)
    ((s.faultNow 0x20 1 c).refreshGate c).refreshIlk

end Sys

/-- MPL_UPDATE (R186): one update of channel `c`, with the codes of MP_IN[2c] and MP_IN[2c+1] of its window. -/
def execMplUpdate (c : Fin 16) (a b : List Nat) (ok readOk : Bool) (s : State) : Host.Outcome State Fault Refusal :=
  onSys (fun s => if s.runs 11 then s.mplUpdate c (a.take 8) (b.take 8) ok readOk else s) s

/-- GATE_MISMATCH (R193): the gate paths of channel `c` stand at these values. -/
def execGateMismatch (c : Fin 16) (pathA pathB : Bool) (s : State) : Host.Outcome State Fault Refusal :=
  onSys (fun s => s.gatePaths c pathA pathB) s

end Sys2Proof.Machine
end

