-- ==== Sys2Proof/Machine/Cal.lean ====
section
/-! DEFINITION. Cal: table updates, retained copies, load records and pattern requests (R217 to R242). -/

namespace Sys2Proof.Machine

open Sys2Proof

/-- The address of the slot of table `u` in the calibration region, and of the staging slot (R221, R433). -/
def slotAddr (u : Nat) : Nat := 0x20800000 + (if u < 16 then u * 0x19000 else 0x1AA000 + (u - 16) * 0x4080)
def stagingAddr : Nat := 0x20800000 + 0x190000

/-- The channel or head of table `u`, its KIND, and its instance for the gatherer. -/
def tableIndex (u : Nat) : Nat := if u < 16 then u else u - 16
def tableKind (u : Nat) : Nat := if u < 16 then 1 else 2
def tableInst (u : Nat) : Nat := if u < 16 then 1 else 4

/-- A slot header (R221). -/
def slotHeader (kind index : Nat) : List Nat := le 4 0x43414C31 ++ [kind, index] ++ List.replicate 58 0

namespace Sys

/-- The update of table `u` is CHECKING, BUILDING or SCHEDULED. -/
def updRuns (s : Sys) (u : Nat) : Bool := decide (1 ≤ s.rd (updKey u 0x0A) ∧ s.rd (updKey u 0x0A) ≤ 3)

/-- The group of head `h` holds head `g`. -/
def sameGroup (s : Sys) (h g : Nat) : Bool := decide (s.rd (Key.Head.GROUP h) = s.rd (Key.Head.GROUP g))

/-- A map entry that substitutes a nozzle of a head outside the group of head `h` (R238). -/
def strayEntry (s : Sys) (h e : Nat) : Bool := decide (e % 4 = 2) && !s.sameGroup h (e / 4 % 32)

/-- The first nozzle of a map whose entry is stray. -/
def strayIn (s : Sys) (h addr : Nat) : Option Nat := (List.range 4096).find? (fun n => s.strayEntry h (s.ld (addr + 4 * n) 4))

/-! ### Commands (R235) -/

/-- Copy a table between addresses. -/
def copyTable (s : Sys) (u src dst : Nat) : Sys := s.deviceWrite 0x42 dst (s.bytes src (tableLen u))

/-- CAL reads the target of update `u`, and then its active table, whose byte parity is `ok` (R447, R485). -/
def calRead (s : Sys) (u : Nat) (ok : Bool) : Sys × Bool :=
  let g := s.readOk 0x42 (s.rd (updKey u 1)) (tableLen u) ok
  if g.2 then g.1.readOk 0x42 (s.rd (activeKey u)) (tableLen u) true else g

/-- The abort of an update command (R235), 0 where it is accepted. `ok` is the byte parity of the reads of INSTALL. -/
def updCmdAbort (s : Sys) (u cmd : Nat) (ok : Bool) : Nat :=
  let st := s.rd (updKey u 0x0A)
  let runs := s.updRuns u
  let live := decide (s.dev = .ready ∨ s.dev = .armed)
  match cmd with
  | 1 => if live && !runs && decide (st ≠ 4) then 0 else 0x0803
  | 2 => if live && decide (st = 4) then 0 else 0x0803
  | 3 => if live then 0 else 0x0803
  | 4 => if live && decide (st = 4 ∨ st = 6) && s.rdB (updKey u 0x11) then 0 else 0x0803
  | 5 =>
    if s.dev ≠ .config ∨ runs ∨ st = 4 then 0x0803
    else if s.rd (updKey u 2) ≠ tableLen u ∨ !ok ∨ !s.tableCrcOk u (s.rd (updKey u 1)) then 0x0604
    else if 16 ≤ u ∧ (s.strayIn (u - 16) (s.rd (updKey u 1))).isSome then 0x0604
    else 0
  | _ => 0x0604

/-- What an update command is judged as, with what the judging leaves behind: a parity error of the target that INSTALL reads, or of the
retained copy that ROLLBACK reads, raises CAL_PARITY (R243). -/
def updCmdCheck (s : Sys) (u cmd : Nat) (ok : Bool) : Sys × Nat :=
  let code := s.updCmdAbort u cmd ok
  let install := decide (cmd = 5 ∧ code ≠ 0x0803 ∧ s.rd (updKey u 2) = tableLen u)
  let g := if install then s.readOk 0x42 (s.rd (updKey u 1)) (tableLen u) ok else (s, true)
  (g.1.when ((install || decide (cmd = 4 ∧ code = 0)) && !ok) (fun s => s.faultNow 0x2A (tableInst u) (tableIndex u)), if g.2 then code else 0x0604)

/-- CHECKING begins from step `k` (R235). -/
def updBegin (s : Sys) (u k : Nat) : Sys :=
  let left := s.rd (updKey u 0x0A)
  ((s.wr (updKey u 0x0A) 1).wr (updKey u 0x0B) k).modUpdate u (fun q => { q with k0 := k, left := left })

/-- The effect of an accepted update command (R235). -/
def updCmd (s : Sys) (u cmd : Nat) : Sys :=
  let st := s.rd (updKey u 0x0A)
  match cmd with
  | 1 => (s.updBegin u 1).modUpdate u (fun q => { q with left := 7, rollback := false })
  | 2 => s.updBegin u (s.rd (updKey u 0x0B))
  | 3 => if (1 ≤ st ∧ st ≤ 4) then s.wr (updKey u 0x0A) 6 else s
  | 4 => ((s.copyTable u (slotAddr u + 64) (s.rd (updKey u 1))).updBegin u 1).modUpdate u (fun q => { q with rollback := true })
  | 5 =>
    let t := s.rd (updKey u 1)
    let s := (s.copyTable u t (s.rd (activeKey u))).copyTable u t (s.rd (pendingKey u))
    let s := (s.wrB (updKey u 0x10) true).tableStale u
    -- a map is checked here, a hoop table at GO_READY or ENABLE (R128, R246)
    let s := s.when (decide (16 ≤ u)) (fun s => s.mapCheck (u - 16) true)
    (s.wr (updKey u 0x0A) 5).queueCopy u
  | _ => s

/-! ### Checks (R236 to R238) -/

/-- The first word and field of a hoop table that breaks the limit rule with `m` steps to go (R237). -/
def hoopLimit (s : Sys) (u m : Nat) : Option Nat :=
  let a := s.rd (activeKey u)
  let t := s.rd (updKey u 1)
  (List.range 12675).findSome? (fun w =>
    let x := s.ld (a + 8 * w) 8
    let y := s.ld (t + 8 * w) 8
    (List.range 3).findSome? (fun f =>
      if m * s.rd (if f = 2 then Key.Upd.LIMIT_Z u else Key.Upd.LIMIT_XY u) < (hoopField y f - hoopField x f).natAbs then some (w + 65536 * f) else none))

/-- The nozzles whose entries differ between the active map and the target (R238). -/
def mapDiff (s : Sys) (u : Nat) : List Nat :=
  let a := s.rd (activeKey u)
  let t := s.rd (updKey u 1)
  (List.range 4096).filter (fun n => decide (s.ld (a + 4 * n) 4 ≠ s.ld (t + 4 * n) 4))

/-- What breaks the limit rule of table `u` with `m` steps to go (R237, R238). -/
def limitFault (s : Sys) (u m : Nat) : Option Nat :=
  if u < 16 then s.hoopLimit u m else (s.mapDiff u)[m * s.rd (Key.MapUpd.MAP_LIMIT (u - 16))]?

/-- A check has failed (R236): CAUSE, and the state that the command left, or REFUSED after START. -/
def updRefused (s : Sys) (u cause : Nat) : Sys := (s.wr (updKey u 0x0C) cause).wr (updKey u 0x0A) (s.update u).left

/-- The checks of an update complete (R236); `ok` is the byte parity of the table reads. -/
def updChecks (s : Sys) (u : Nat) (ok : Bool) : Sys :=
  if s.rd (updKey u 0x0A) ≠ 1 then s
  else
    let g := s.calRead u ok
    let s := g.1
    let good := g.2 && decide (s.rd (updKey u 2) = tableLen u) && s.tableCrcOk u (s.rd (updKey u 1))
    let s := (s.wrB (updKey u 0x10) good).when (!ok) (fun s => s.faultNow 0x2A (tableInst u) (tableIndex u))
    let m := s.rd (updKey u 3) + 1 - s.rd (updKey u 0x0B)
    if !good then s.updRefused u 7
    else if s.rd (updKey u 4) < s.now + 1000000 ∨ s.rd (updKey u 5) ≤ s.rd (updKey u 6) then s.updRefused u 8
    else match s.limitFault u m with
      | some d => (s.wr (updKey u 0x0D) d).updRefused u 6
      | none => s.wr (updKey u 0x0A) 2

/-! ### Building a step (R237 to R239) -/

/-- The pending hoop table of a step with `m` steps to go (R237). -/
def buildHoop (s : Sys) (u m : Nat) : List Nat :=
  let a := s.rd (activeKey u)
  let t := s.rd (updKey u 1)
  (List.range 12675).flatMap (fun w =>
    let x := s.ld (a + 8 * w) 8
    let y := s.ld (t + 8 * w) 8
    let f (i : Nat) : Nat := trunc 18 (hoopField x i + rdiv (hoopField y i - hoopField x i) (max 1 m))
    le 8 (f 0 + 2 ^ 18 * f 1 + 2 ^ 36 * f 2))

/-- The address of entry `n` of the pending map of a step with `m` steps to go (R238): in the target for the first nozzles that differ,
else in the active map. -/
def stepEntry (s : Sys) (u m : Nat) : Nat → Nat :=
  let d := s.mapDiff u
  let take_ := d.take ((d.length + m - 1) / max 1 m)
  fun n => s.rd (if n ∈ take_ then updKey u 1 else activeKey u) + 4 * n

/-- The pending map of a step with `m` steps to go (R238). -/
def buildMap (s : Sys) (u m : Nat) : List Nat :=
  let at_ := s.stepEntry u m
  (List.range 4096).flatMap (fun n => s.bytes (at_ n) 4)

/-- The first nozzle whose entry in the step substitutes a nozzle outside the group (R238). -/
def strayStep (s : Sys) (u m : Nat) : Option Nat :=
  let at_ := s.stepEntry u m
  if u < 16 then none else (List.range 4096).find? (fun n => s.strayEntry (u - 16) (s.ld (at_ n) 4))

/-- The due time T_k of the present step (R239). -/
def stepDue (s : Sys) (u : Nat) : Nat := s.rd (updKey u 4) + (s.rd (updKey u 0x0B) - (s.update u).k0) * s.rd (updKey u 5) * 1000

/-- CAL builds the present step of table `u` into the pending buffer (R239): `ok` the byte parity of the reads, `verified`
the readback, `off` the offset at which one of them failed. -/
def updBuild (s : Sys) (u : Nat) (ok verified : Bool) (off : Nat) : Sys :=
  if s.rd (updKey u 0x0A) ≠ 2 then s
  else
    let k := s.rd (updKey u 0x0B)
    let n := s.rd (updKey u 3)
    let m := n + 1 - k
    let g := s.calRead u ok
    let s := g.1
    if !g.2 then s.failUpdate u off true
    else match s.strayStep u m with
      | some z => (s.wr (updKey u 0x0D) z).haltUpdate u 9 5
      | none =>
        let body := if u < 16 then s.buildHoop u m else s.buildMap u m
        let gen := (s.ld (s.rd (updKey u 1) + tableGenAt u) 4 + 2 ^ 32 - (n - k) % 2 ^ 32) % 2 ^ 32
        let covered := body ++ le 4 gen
        let p := s.rd (pendingKey u)
        let image := covered ++ le 4 (crc32 covered) ++ List.replicate (tableLen u - tableCovered u - 4) 0
        let s := s.deviceWrite 0x42 p image
        if !verified then s.failUpdate u off false
        else (s.wr (updKey u 0x0A) 3).wr (updKey u 0x0E) (s.stepDue u)

/-- T_k + WINDOW passes without a swap of a step that is SCHEDULED or still BUILDING (R240). -/
def updExpire (s : Sys) (u : Nat) : Sys :=
  let st := s.rd (updKey u 0x0A)
  let due := if st = 3 then s.rd (updKey u 0x0E) else s.stepDue u
  if (st = 2 ∨ st = 3) ∧ due + s.rd (updKey u 6) * 1000 ≤ s.now then s.haltUpdate u 3 4 else s

/-! ### Retained copies (R222, R223) -/

/-- A slot of the calibration region after a write of a header and `n` bytes whose readback differs (R222): its bytes are open. -/
def slotSpoilt (s : Sys) (addr n : Nat) : Sys :=
  (s.setBytes addr ((List.range (64 + n)).map (fun (i : Nat) => (Config.openValue 6 [(s.free : Int), (i : Int)]).toNat % 256))).useFree

/-- The image of the active table of `u` and the header before it are written to a slot of the calibration region (R222). -/
def slotWrite (s : Sys) (u addr : Nat) : Sys :=
  (s.setBytes (addr + 64) (s.bytes (s.rd (activeKey u)) (tableLen u))).setBytes addr (slotHeader (tableKind u) (tableIndex u))

/-- The first copy leaves the queue. -/
def copyPop (s : Sys) (rest : List Nat) : Sys := { s.wr Key.Cal.COPY_QUEUE rest.length with cal := { s.cal with copies := rest } }

/-- The copy of table `u` has failed (R222). -/
def copyFailed (s : Sys) (u : Nat) (rest : List Nat) : Sys :=
  (((s.wrB (updKey u 0x11) false).inc Key.Cal.COPY_FAILS).faultNow 0x2B (tableInst u) (tableIndex u)).copyPop rest

/-- The first copy in the queue is written: the staging slot, then its own slot, then KIND 0 in the staging header (R222). `staging` and
`slot` are how often the verification of the two steps fails: once is mended by the one repetition, twice ends the copy. A parity error
of the read of the table raises CAL_PARITY (R243), and no image is written (DESIGN CHOICE, log entry 50). -/
def copyWrite (s : Sys) (readOk : Bool) (staging slot : Nat) : Sys :=
  match s.cal.copies with
  | [] => s
  | u :: rest =>
    if !readOk then (s.faultNow 0x2A (tableInst u) (tableIndex u)).copyFailed u rest
    else if 2 ≤ staging then (s.slotSpoilt stagingAddr (tableLen u)).copyFailed u rest
    else if 2 ≤ slot then ((s.slotWrite u stagingAddr).slotSpoilt (slotAddr u) (tableLen u)).copyFailed u rest
    else
      let s := ((s.slotWrite u stagingAddr).slotWrite u (slotAddr u)).setBytes (stagingAddr + 4) [0]
      (((s.wrB (updKey u 0x11) true).wr (updKey u 0x12) (s.ld (slotAddr u + 64 + tableGenAt u) 4)).inc Key.Cal.COPY_WRITES).copyPop rest

/-- A slot holds a valid image of table `u` (R223). -/
def slotValid (s : Sys) (addr u : Nat) : Bool :=
  decide (s.ld addr 4 = 0x43414C31 ∧ s.ld (addr + 4) 1 = tableKind u ∧ s.ld (addr + 5) 1 = tableIndex u) && s.tableCrcOk u (addr + 64)

/-- CAL loads table `u` during START (R223). -/
def calRestore (s : Sys) (u : Nat) : Sys :=
  if s.rd (activeKey u) = 0 ∨ s.rd (pendingKey u) = 0 then s
  else
    let load (s : Sys) (src : Nat) : Sys :=
      let s := (s.copyTable u (src + 64) (s.rd (activeKey u))).copyTable u (src + 64) (s.rd (pendingKey u))
      (s.wrB (updKey u 0x11) true).wr (updKey u 0x12) (s.ld (src + 64 + tableGenAt u) 4)
    if s.slotValid (slotAddr u) u then load s (slotAddr u)
    else if s.slotValid stagingAddr u then
      load ((s.setBytes (slotAddr u + 64) (s.bytes (stagingAddr + 64) (tableLen u))).setBytes (slotAddr u) (slotHeader (tableKind u) (tableIndex u))) stagingAddr
    else if s.ld (slotAddr u) 4 ≠ 0x43414C31 ∧ ¬(s.ld stagingAddr 4 = 0x43414C31 ∧ s.ld (stagingAddr + 4) 1 = tableKind u ∧
        s.ld (stagingAddr + 5) 1 = tableIndex u) then s.wrB (updKey u 0x11) false
    else (s.wrB (updKey u 0x11) false).faultNow 0x2C (tableInst u) (tableIndex u)

/-- START and WARM_RESET (R242): updates return to IDLE, insert ring offsets to 0, pattern queues are emptied. -/
def calStart (s : Sys) : Sys :=
  let s := s.each (List.range 48) (fun s u => (s.wr (updKey u 0x0A) 0).modUpdate u (fun _ => {}))
  let s := s.each (List.range 16) (fun s c => (s.wr (Key.Ins.INS_HEAD c) 0).wr (Key.Ins.INS_TAIL c) 0)
  let s := s.each (List.range 4) (fun s g => s.wr (Key.Pat.PAT_QUEUED g) 0)
  { s with cal := { s.cal with copies := [], patterns := Vector.replicate 4 [] } }

/-! ### The load stream (R224) -/

/-- `n` bytes of the stream of endpoint `e` from an offset, across the end of the ring. -/
def ringBytes (s : Sys) (e off n : Nat) : List Nat := (List.range n).map (fun i => (s.byte (s.ringAt e (off + i))).toNat)

/-- CAL stops consuming (R224). -/
def loadStop (s : Sys) (u : Nat) : Sys := (s.wr Key.Cal.LOAD_STATE 2).faultNow 0x28 (if u < 48 then tableInst u else 0) (if u < 48 then tableIndex u else 0)

/-- CAL takes the next load record once it lies whole in the ring (R224), in READY and ARMED (R56); `ok` is the byte parity of the image. A
header that fails its checks ends after LENGTH bytes if that is the size of an image, else after the header (DEDUCED, log entry 50). -/
def loadRecord (s : Sys) (ok : Bool) : Sys :=
  match (List.range 8).find? (fun n => s.rdB (Key.Ep.ENABLE n) && decide (s.rd (Key.Ep.CONSUMER n) = 3)) with
  | none => s
  | some e =>
    let off := s.rd (Key.EpSt.RELEASE_OFFSET e)
    let have_ := (s.rd (Key.EpSt.NEXT_OFFSET e) + 2 ^ 32 - off) % 2 ^ 32
    let h := s.ringBytes e off 64
    let image := if u32At h 4 = 101440 ∨ u32At h 4 = 16448 then u32At h 4 else 0
    if s.consumersRun = false ∨ s.rd Key.Cal.LOAD_STATE = 2 ∨ have_ < 64 + image then s
    else
      let kind := u8At h 2
      let idx := u8At h 3
      let u := if kind = 1 then idx else 16 + idx
      let fits := (kind = 1 ∧ idx < 16) ∨ (kind = 2 ∧ idx < 32)
      if ¬fits ∨ u16At h 0 ≠ 0xCA1B ∨ u32At h 60 ≠ crc32 (h.take 60) ∨ u32At h 4 ≠ tableLen u ∨ s.rd (updKey u 2) ≠ tableLen u ∨ s.rd (updKey u 1) = 0 then
        s.loadStop (if fits then u else 48)
      else if s.updRuns u then s.wr Key.Cal.LOAD_STATE 1
      else
        let r := s.ringRead 0x42 e (off + 64) (tableLen u) ok
        let w := r.1.grant 0x42 true (s.rd (updKey u 1)) (tableLen u)
        let s := (if w.2 then w.1.busStore 0x42 (s.rd (updKey u 1)) (s.ringBytes e (off + 64) (tableLen u)) 0 else w.1).wr Key.Cal.LOAD_STATE 0
        let good := r.2 && w.2 && s.tableCrcOk u (s.rd (updKey u 1))
        let s := ((s.wrB (updKey u 0x10) good).inc Key.Cal.LOADS).release e (off + 64 + tableLen u)
        if good then s else s.faultNow 0x28 (tableInst u) (tableIndex u)

/-! ### Patterns (R232 to R234) -/

/-- The width of a pattern in pixels (R233). -/
def patWidth (p : Pattern) : Nat := if p.kind = 1 then p.stagger * (p.run + p.gap) else p.run

/-- The pattern that the PAT_ fields of group `g` ask for. -/
def patOf (s : Sys) (g : Nat) : Pattern :=
  { heads := s.rd (Key.Pat.PAT_HEADS g), kind := s.rd (Key.Pat.PAT_KIND g), band := s.rd (Key.Pat.PAT_BAND g), level := s.rd (Key.Pat.PAT_LEVEL g)
    run := s.rd (Key.Pat.PAT_RUN g), gap := s.rd (Key.Pat.PAT_GAP g), stagger := s.rd (Key.Pat.PAT_STAGGER g), id := s.rd (Key.Pat.PAT_ID g) }

/-- The first pixel and the width of band `b` of group `g` (R232). -/
def bandFirst (s : Sys) (g b : Nat) : Nat := s.rd (if b = 0 then Key.Pat.BAND0_FIRST g else Key.Pat.BAND1_FIRST g)
def bandWidth (s : Sys) (g b : Nat) : Nat := s.rd (if b = 0 then Key.Pat.BAND0_WIDTH g else Key.Pat.BAND1_WIDTH g)

/-- The abort of a pattern command (R233). -/
def patAbort (s : Sys) (g cmd : Nat) : Nat :=
  let p := s.patOf g
  if cmd = 2 then 0
  else if cmd ≠ 1 then 0x0604
  else if (List.range 32).any (fun h => p.heads.testBit h && decide (s.rd (Key.Head.GROUP h) ≠ g)) then 0x0604
  else if s.bandWidth g p.band = 0 ∨ s.bandWidth g p.band < patWidth p then 0x0604
  else if (List.range 32).any (fun h => p.heads.testBit h && decide (2 ^ s.rd (Key.Head.DEPTH h) ≤ p.level)) then 0x0604
  else if 8 ≤ (s.cal.patterns.getD g []).length then 0x0805
  else 0

/-- Set the pattern queue of group `g`. -/
def setPatterns (s : Sys) (g : Nat) (l : List Pattern) : Sys :=
  { s.wr (Key.Pat.PAT_QUEUED g) l.length with cal := { s.cal with patterns := s.cal.patterns.setIfInBounds g l } }

/-- The effect of an accepted pattern command (R233). -/
def patCmd (s : Sys) (g cmd : Nat) : Sys :=
  if cmd = 1 then s.setPatterns g (s.cal.patterns.getD g [] ++ [s.patOf g]) else s.setPatterns g []

end Sys

/-- CHECKS_COMPLETE (R236): the checks of update `u` complete. -/
def execChecksComplete (u : Fin 48) (ok : Bool) (s : State) : Host.Outcome State Fault Refusal := onSys (fun s => s.updChecks u ok) s

/-- STEP_BUILT (R239): a step of update `u` is built and verified. -/
def execStepBuilt (u : Fin 48) (ok verified : Bool) (off : Nat) (s : State) : Host.Outcome State Fault Refusal :=
  onSys (fun s => s.updBuild u ok verified off) s

/-- SWAP_WINDOW_EXPIRY (R240). -/
def execSwapWindowExpiry (u : Fin 48) (s : State) : Host.Outcome State Fault Refusal := onSys (fun s => s.updExpire u) s

/-- CAL_COPY_WRITE (R222): the first queued copy is written. -/
def execCalCopyWrite (ok : CopyOutcome) (s : State) : Host.Outcome State Fault Refusal :=
  onSys (fun s => s.copyWrite ok.readOk ok.staging ok.slot) s

/-- LOAD_RECORD (R224). -/
def execLoadRecord (ok : Bool) (s : State) : Host.Outcome State Fault Refusal := onSys (fun s => s.loadRecord ok) s

end Sys2Proof.Machine
end

