-- ==== Sys2Proof/Machine/SlotLaw.lean ====
section
/-! DEFINITION. SlotLaw: the servo law of a loop slot in whole numbers (R158, R159, R164, R167, R173). -/

namespace Sys2Proof.Machine

open Sys2Proof

/-- The gains of one law (R158, R180). -/
structure Gains where
  kpP : Int
  kiP : Int
  ilimP : Int
  vff : Int
  kpV : Int
  kiV : Int
  kdV : Int
  ilimV : Int
  aff : Int
  vshift : Nat
  deriving DecidableEq, Repr

/-- What one evaluation of a law gives: its registers, the sum before the biquads, whether sat18 changed that sum, the
error of R164, the error that ERROR shows (R180), and the following error of R175. -/
structure LawOut where
  law : Law
  u : Int
  cut : Bool
  el : Int
  err : Int
  fe : Int
  deriving DecidableEq, Repr

/-- How a law starts: from its registers, or with the integrators set so that the sum before the biquads is the given
value (R167, R173). -/
inductive Start
  | run
  | from_ (u : Int) (velocityToo : Bool)
  deriving DecidableEq, Repr

/-- A product or sum as the 48 bits of the accumulator hold it (R158, R159). What the accumulator holds after a value that 48 bits cannot
hold is not stated: it is free (DESIGN CHOICE, log entry 9). -/
def acc48 (v : Int) : Int := if -2 ^ 47 ≤ v ∧ v < 2 ^ 47 then v else sext 48 (trunc 48 (Config.openValue 7 [v]))

/-- A product by a G16 gain, rounded (R157, R158). -/
def g16 (k v : Int) : Int := rdiv (acc48 (k * v)) 65536

/-- The inner loop of R158: the integrator, the sum, and its saturation. -/
def innerLoop (g : Gains) (l : Law) (start : Start) (limited : Bool) (uPrev e m f rc : Int) : Law × Int × Bool :=
  let rest := g16 g.kpV e + (match start with | .run => g16 g.kdV (l.mPrev - m) | _ => 0) + f + rc
  let iv := match start with
    | .run => if limited && decide (sgn e = sgn uPrev) then l.iv else lim (l.iv + g16 g.kiV e) g.ilimV
    | .from_ u true => lim (u - rest) g.ilimV
    | .from_ _ false => 0
  let sum := rest + iv
  ({ l with iv := iv, mPrev := m }, sat 18 sum, decide (sat 18 sum ≠ sum))

/-- The outer loop of POSITION (R158): evaluated in outer samples, its result held between them. -/
def outerLoop (g : Gains) (l : Law) (start : Start) (outer limited : Bool) (y vm r : Int) : Law :=
  let ep := sat 24 (r - y)
  match start with
  | .from_ _ _ =>
    let ip := lim (vm - g16 g.kpP ep) g.ilimP
    let raw := g16 g.kpP ep + ip
    { l with ep := ep, ip := ip, vOut := sat 18 raw, vSat := decide (sat 18 raw ≠ raw) }
  | .run =>
    if outer then
      let limO := l.vSat || limited
      let ip := if limO && decide (sgn ep = sgn l.vOut) then l.ip else lim (l.ip + g16 g.kiP ep) g.ilimP
      let raw := g16 g.kpP ep + ip
      { l with ep := ep, ip := ip, vOut := sat 18 raw, vSat := decide (sat 18 raw ≠ raw) }
    else l

/-- One law, up to the sum before the biquads (R158). `mode`: 0 OPEN, 1 POSITION, 2 VELOCITY, 3 SINGLE. In a first
sample r_v and r_a are 0 and the KD_V term is 0 (R167). In OPEN the pseudocode gives no e_l, and R164 learns from 0 (DESIGN CHOICE, log
entry 50). -/
def evalLaw (g : Gains) (l : Law) (mode : Nat) (start : Start) (outer limited : Bool) (uPrev y vm r rc : Int) : LawOut :=
  let rPrev := match start with | .run => l.rPrev | _ => r
  let rv := sat 18 ((r - rPrev) * 2 ^ g.vshift)
  let rvPrev := match start with | .run => l.rvPrev | _ => rv
  let ra := sat 18 (rv - rvPrev)
  match mode with
  | 1 =>
    let l := outerLoop g l start outer limited y vm r
    let e := sat 18 (sat 18 (l.vOut + g16 g.vff rv) - vm)
    let (l, u, cut) := innerLoop g l start limited uPrev e vm (g16 g.aff ra) rc
    { law := { l with r := r, rPrev := r, rvPrev := rv }, u := u, cut := cut, el := l.ep, err := l.ep, fe := l.ep.natAbs }
  | 2 =>
    let e := sat 18 (r - vm)
    let f := g16 g.aff (sat 18 (r - rPrev))
    let (l, u, cut) := innerLoop g l start limited uPrev e vm f rc
    { law := { l with r := r, rPrev := r, rvPrev := rv }, u := u, cut := cut, el := e, err := e, fe := e.natAbs }
  | 3 =>
    let e := sat 18 (rdiv (r - y) 64)
    let f := g16 g.vff (rdiv r 64)
    let (l, u, cut) := innerLoop g l start limited uPrev e (rdiv y 64) f rc
    { law := { l with r := r, rPrev := r, rvPrev := rv }, u := u, cut := cut, el := sat 24 (r - y), err := r - y, fe := (r - y).natAbs }
  | _ =>
    let raw := rdiv r 64
    { law := { l with r := r, rPrev := r, rvPrev := rv }, u := sat 18 raw, cut := decide (sat 18 raw ≠ raw), el := 0, err := 0, fe := 0 }

/-- One biquad (R159): coefficients b0, b1, b2, a1, a2 in G28, states in 2^-28 of a Q18 LSB, input; answers the states,
the value passed on and whether its sat18 changed it. The products with `out` are rounded to the scale of the states
(DESIGN CHOICE, log entry 9). -/
def biquad (b0 b1 b2 a1 a2 s1 s2 x : Int) : Int × Int × Int × Bool :=
  let full := acc48 (acc48 (b0 * x) + s1)
  let s1' := sat 48 (acc48 (b1 * x) - acc48 (rdiv (a1 * full) (2 ^ 28)) + s2)
  let s2' := sat 48 (acc48 (b2 * x) - acc48 (rdiv (a2 * full) (2 ^ 28)))
  let v := rdiv full (2 ^ 28)
  (s1', s2', sat 18 v, decide (sat 18 v ≠ v))

/-- The steady state of a biquad for an input (R159). -/
def biquadSteady (b0 b1 b2 a1 a2 x : Int) : Int × Int :=
  let den := 2 ^ 28 + a1 + a2
  if den = 0 then (0, 0)
  else
    let num := b0 + b1 + b2
    let q (n : Int) : Int := rdiv (n * sgn den) den.natAbs
    (sat 48 (q (num * x * 2 ^ 28) - b0 * x), sat 48 (b2 * x - q (a2 * num * x)))

/-- The starting set-point of a law (R167): the measured y in POSITION and SINGLE, the measured v_m in VELOCITY, 0 in
OPEN. -/
def startPoint (mode : Nat) (y vm : Int) : Int :=
  if mode = 1 ∨ mode = 3 then y else if mode = 2 then vm else 0

/-- The update of a repetitive cell (R164), with its two neighbours before the update. -/
def rcLearn (kl qs qf limit el m nb : Int) : Int :=
  let x := sat 18 (m + g16 kl el)
  lim (rdiv (qf * (rdiv ((131072 - 2 * qs) * x) 131072 + rdiv (qs * nb) 131072)) 131072) limit

/-- The output limits, the slew limit and the code (R158): u after limits, the code, and whether a step changed its
value. -/
def outputPath (lo hi slew gain offset uPrev u : Int) : Int × Int × Bool :=
  let u1 := min (max u lo) hi
  let u2 := min (max u1 (uPrev - slew)) (uPrev + slew)
  let raw := g16 gain u2 + offset
  (u2, sat 18 raw, decide (u1 ≠ u) || decide (u2 ≠ u1) || decide (sat 18 raw ≠ raw))

end Sys2Proof.Machine
end

