-- ==== Sys2Proof/Machine/Slots.lean ====
section
/-! DEFINITION. Slots: the evaluation of a loop slot (R147 to R178, R555), its line break flag, its hold before RAMP_DOWN, and the checks and effects of its entries. -/

namespace Sys2Proof.Machine

open Sys2Proof

namespace Sys

/-! ### Readings -/

/-- The gains of slot `n`. -/
def gains (s : Sys) (n : Nat) : Gains :=
  { kpP := s.rdI (Key.SlotPos.KP_P n), kiP := s.rdI (Key.SlotPos.KI_P n), ilimP := s.rd (Key.SlotPos.ILIM_P n)
    vff := s.rdI (Key.SlotPos.VFF n), kpV := s.rdI (Key.SlotVel.KP_V n), kiV := s.rdI (Key.SlotVel.KI_V n)
    kdV := s.rdI (Key.SlotVel.KD_V n), ilimV := s.rd (Key.SlotVel.ILIM_V n), aff := s.rdI (Key.SlotVel.AFF n)
    vshift := s.rd (Key.SlotFb.VSHIFT n) }

/-- Coefficient `j` of biquad `b` of slot `n`. -/
def bqCoef (s : Sys) (n b j : Nat) : Int := s.rdI (Key.SlotBq.BQ0_B0 n + 5 * b + j)

/-- The slots of engine `k` (R12). -/
def engineSlots (k : Nat) : List Nat := (List.range 12).map (fun i => 12 * k + i) ++ (List.range 4).map (fun i => 48 + 4 * k + i)

/-- The engine of a slot (R12). -/
def engineOf (n : Nat) : Nat := if n < 48 then n / 12 else (n - 48) / 4

/-- The sum of the inner rates of engine `k` in updates/s as a fraction, numerator and denominator (R152): enabled slots, twice where
hand-over is enabled. -/
def engineRates (s : Sys) (k : Nat) : Nat × Nat :=
  (engineSlots k).foldl (fun t n =>
    let per := s.trigPeriod (s.slotTrigger n)
    if s.rdB (Key.Slot.ENABLE n) ∧ per ≠ 0 then
      (t.1 * per + t.2 * (if s.rdB (Key.SlotFe.HANDOVER_EN n) then 2000000000 else 1000000000), t.2 * per)
    else t) (0, 1)

/-- Engine `k` is loaded beyond its 8,000,000 updates/s (R152). -/
def engineOver (s : Sys) (k : Nat) : Bool := decide (8000000 * (s.engineRates k).2 < (s.engineRates k).1)

/-- The load of engine `k` in whole updates/s (R152). -/
def engineLoad (s : Sys) (k : Nat) : Nat :=
  let t := s.engineRates k
  t.1 / t.2

/-- Raise a slot fault: code 0x10 + bit, with its bit in FAULTS (R178). -/
def slotFault (s : Sys) (n bit t : Nat) : Sys := (s.wrBit (Key.Slot.FAULTS n) bit true).fault (0x10 + bit) 2 n t

/-! ### Repetitive controller (R163 to R165) -/

/-- The phase of the present sample (R163), if it has one, and the slot with its event counters moved on. -/
def rcPhase (s : Sys) (n : Nat) (d : Due) : Option Nat × Slot :=
  let q := s.slot n
  let len := s.rd (Key.SlotRc.RC_LEN n)
  let event (seen : Bool) (mark : Nat) : Option Nat × Slot :=
    let since := if seen then some 0 else q.rcSince.map (fun k => k + 1)
    (since.bind (fun k => if k < len then some k else none), { q with rcSince := since, rcEvent := mark })
  match s.rd (Key.SlotRc.RC_SOURCE n) with
  | 1 => (some (q.k % len), q)
  | 2 => match (s.enc (s.rd (Key.SlotRc.RC_PARAM n))).z with
    | none => (none, q)
    | some z =>
      let cpr := s.rd (Key.SlotRc.RC_CPR n)
      (some ((wrap32 (d.rcCount - z) % (cpr : Int)).toNat * len / cpr), q)
  | 3 =>
    let cnt := s.rd (Key.Cap.COUNT (s.rd (Key.SlotRc.RC_PARAM n)))
    event (decide (cnt ≠ q.rcEvent)) cnt
  | 4 => event (s.planOpened (n / 3) q.rcEvent d.at_) (max q.rcEvent d.at_)
  | _ => (none, q)

/-- The present sample has a phase, by what the last sample found (R163). -/
def rcHasPhase (s : Sys) (n : Nat) : Bool :=
  match s.rd (Key.SlotRc.RC_SOURCE n) with
  | 0 => false
  | 1 => true
  | 2 => (s.enc (s.rd (Key.SlotRc.RC_PARAM n))).z.isSome
  | _ => (s.slot n).rcSince.any (fun k => decide (k < s.rd (Key.SlotRc.RC_LEN n)))

/-- RC_STATE (R165): NO_PHASE while it is LEARNING or FROZEN and the present sample has no phase. -/
def showRc (s : Sys) (n : Nat) : Sys :=
  s.wr (Key.SlotRc.RC_STATE n) (if (s.slot n).rc = 0 then 0 else if s.rcHasPhase n then (s.slot n).rc else 3)

/-- What the events of CAPTURE and GATE are counted from (R163): the captures so far, or the present. -/
def rcFrom (s : Sys) (n : Nat) : Nat :=
  match s.rd (Key.SlotRc.RC_SOURCE n) with
  | 3 => s.rd (Key.Cap.COUNT (s.rd (Key.SlotRc.RC_PARAM n)))
  | 4 => s.now
  | _ => 0

/-- A repetitive cell, 0 where none is listed. -/
def Slot.cell (q : Slot) (i : Nat) : Int := Kv.get (fun _ => (0 : Int)) q.cells i

/-- What the memory adds to the law (R164). -/
def rcOut (s : Sys) (n : Nat) (phase : Option Nat) : Int :=
  match phase with
  | some p => if (s.slot n).rc = 0 then 0
      else Kv.get (fun _ => (0 : Int)) (s.slot n).cells ((p + s.rd (Key.SlotRc.RC_LEAD n)) % s.rd (Key.SlotRc.RC_LEN n))
  | none => 0

/-- The update of the memory at write-back (R164). -/
def rcStore (s : Sys) (n : Nat) (phase : Option Nat) (limited : Bool) (el : Int) (q : Slot) : Slot :=
  match phase with
  | some p =>
    if q.rc = 1 ∧ limited = false then
      let len := s.rd (Key.SlotRc.RC_LEN n)
      let m (i : Nat) : Int := Kv.get (fun _ => (0 : Int)) q.cells i
      let v := rcLearn (s.rdI (Key.SlotRc.RC_KL n)) (s.rdI (Key.SlotRc.RC_QS n)) (s.rdI (Key.SlotRc.RC_QF n))
        (s.rd (Key.SlotRc.RC_LIMIT n)) el (m p) (m ((p + len - 1) % len) + m ((p + 1) % len))
      { q with cells := Kv.put (fun _ => (0 : Int)) p v q.cells }
    else q
  | none => q

/-! ### Loss of feedback (R176, R177) -/

/-- The slot enters RAMP_DOWN with a CAUSE (R166, R170); its axis applies its output from then on (R304). -/
def rampDown (s : Sys) (n cause : Nat) : Sys :=
  let s := s.when (decide (s.slotState n = 2)) (fun s => s.wr (Key.Slot.MODE n) (s.rd (Key.Slot.ACTIVE_MODE n)))
  let s := (s.setSlotState n 4 cause).startRamp n false
  (s.slotAxis n).elim s (fun a => s.axRampDown a)

/-- The slot enters COAST (R177): a gate-close cause is passed, the ramp begins, the channel stops (R144), the axis enters COAST (R304) and
the fault goes to the gatherer with the time of the trigger edge. -/
def coast (s : Sys) (n bit t : Nat) (rampDone : Bool) : Sys :=
  let s := s.when (decide (s.slotState n = 2)) (fun s => s.wr (Key.Slot.MODE n) (s.rd (Key.Slot.ACTIVE_MODE n)))
  let s := ((s.setSlotState n 3 2).startRamp n rampDone).modSlot n (fun q => { q with loss := true })
  let s := (s.slotAxis n).elim (s.wr (Key.SlotMon.FLAGS n) 0) (fun a => (s.wr (Key.SlotMon.FLAGS n) 0).axCoast a)
  let used := decide (n < 48) && decide (s.chState (n / 3) ≠ 0)
  let idle := used && decide (s.chState (n / 3) = 1)
  let s := s.when used (fun s => s.slotStop (n / 3))
  let s := s.when idle (fun s => s.deferUpdate (n / 3))
  let s := s.slotFault n bit t
  s.when used (fun s => s.fault 0x0B 1 (n / 3) t)

/-- A readback that differs (R156, R178): the slot is in COAST with its ramp taken as complete, its DAC and its output at zero. -/
def readbackLost (s : Sys) (n t : Nat) : Sys :=
  let s := if s.slotState n = 3 then (s.startRamp n true).slotFault n 5 t else s.coast n 5 t true
  (s.wrI (Key.SlotOut.OUT_CODE n) 0).wrI (Key.SlotMon.OUTPUT n) 0

/-- One step of the output ramp of COAST or RAMP_DOWN (R166): equal steps to zero. -/
def rampStep (s : Sys) (n : Nat) : Sys :=
  let q := s.slot n
  let pos := min q.rampLen (q.rampPos + 1)
  let u := if q.rampLen = 0 then 0 else rdiv (q.rampFrom * ((q.rampLen - pos : Nat) : Int)) q.rampLen
  let code := if q.rampLen = 0 then 0 else sat 18 (g16 (s.rdI (Key.SlotOut.OUT_GAIN n)) u + s.rdI (Key.SlotOut.OUT_OFFSET n))
  let s := (s.modSlot n (fun q => { q with rampPos := pos, u := u })).wrI (Key.SlotMon.OUTPUT n) u
  let s := s.wrI (Key.SlotOut.OUT_CODE n) code
  s.when (decide (s.slotState n = 4 ∧ pos = q.rampLen)) (fun s =>
    let s := (s.slotOff n (s.rd (Key.Slot.CAUSE n))).wrI (Key.SlotOut.OUT_CODE n) 0
    (s.slotAxis n).elim s (fun a => s.axRampOver a))

/-- The causes of loss of feedback in this sample, as their bits in FAULTS (R176). -/
def lossOf (s : Sys) (n : Nat) (stale : Bool) : List Nat :=
  let q := s.slot n
  let analog := decide (s.rd (Key.Slot.FB_SOURCE n) = 0)
  let opn := decide (s.rd (Key.Slot.ACTIVE_MODE n) = 0)
  [(analog && decide (s.rd (Key.SlotFb.RANGE_COUNT n) ≤ q.rangeRun), 0),
    (analog && q.lineBreak && s.rdB (Key.SlotFb.LINE_BREAK_EN n), 1),
    (!opn && stale, 2),
    (!opn && !analog && s.rdBit (Key.Enc.STATUS (s.rd (Key.Slot.FB_SOURCE n) - 1)) 0, 3),
    (!opn && decide (2 ≤ q.parityRun), 4)].filterMap (fun (x : Bool × Nat) => if x.1 then some x.2 else none)

/-- The staleness reference of R176: the slot with its pair and counter moved on, and whether the feedback is stale. -/
def staleness (s : Sys) (n : Nat) (y r : Int) (q : Slot) : Slot × Bool :=
  if (s.rd (Key.SlotFb.STALE_FB n) : Int) ≤ (y - q.yRef).natAbs then ({ q with yRef := y, rRef := r, staleRun := 0 }, false)
  else
    let k := q.staleRun + 1
    ({ q with staleRun := k }, decide (s.rd (Key.SlotFb.STALE_N n) ≠ 0 ∧ s.rd (Key.SlotFb.STALE_N n) ≤ k ∧
      (s.rd (Key.SlotFb.STALE_CMD n) : Int) ≤ (r - q.rRef).natAbs))

/-- The set-point that the sample uses (R167, R168): moving towards the owner's by at most CLOSE_RAMP while
approaching, the owner's own after that, and the last one where the owner has written none. -/
def effective (s : Sys) (n : Nat) (q : Slot) : Int × Bool :=
  match q.own with
  | none => (q.law.r, q.approaching)
  | some w =>
    if q.approaching then
      let r := q.law.r + lim (w - q.law.r) (s.rd (Key.Slot.CLOSE_RAMP n))
      (r, decide (r ≠ w))
    else (w, false)

/-- The owner of slot `n` is at rest (R170). -/
def ownerRests (s : Sys) (n : Nat) : Bool :=
  if n < 48 then decide (s.chState (n / 3) ≠ 2 ∧ s.chState (n / 3) ≠ 4)
  else match s.slotAxis n with
    | some a => !(decide (2 ≤ s.axState a) && decide (s.axState a ≤ 5))
    | none => true

/-! ### One evaluation (R149 to R164) -/

/-- Pass a value through the enabled biquads of slot `n` (R158, R159). -/
def biquads (s : Sys) (n : Nat) (st : List (Int × Int × Int)) (u : Int) : List (Int × Int × Int) × Int × Bool :=
  (List.range 4).foldl (fun (acc : List (Int × Int × Int) × Int × Bool) b =>
    let (l, v, cut) := acc
    let (s1, s2, _) := st.getD b (0, 0, 0)
    if s.rdBit (Key.SlotBq.BQ_ENABLE n) b then
      let (s1', s2', w, c) := biquad (s.bqCoef n b 0) (s.bqCoef n b 1) (s.bqCoef n b 2) (s.bqCoef n b 3) (s.bqCoef n b 4) s1 s2 v
      (l ++ [(s1', s2', v)], w, cut || c)
    else (l ++ [(s1, s2, v)], v, cut)) ([], u, false)

/-- The hand-over after both laws are evaluated (R173, R555): the slot, the value that the output path takes (with b as it was before it
moves), and how the hand-over ends in this sample (0 goes on, 1 succeeds, 2 fails, 3 has returned). A failure drops the set-points
written since the MODE write, with those that samples not yet evaluated have seen. -/
def blendStep (s : Sys) (n : Nat) (q : Slot) (w : Blend) (uOld uNew : Int) (newLaw : Law) : Slot × Int × Nat :=
  let slew : Int := s.rd (Key.SlotOut.SLEW n)
  if w.failed then
    let b := w.b - lim w.b slew
    ({ q with blend := if b = 0 then none else some { w with b := b } }, uOld + w.b, if b = 0 then 3 else 0)
  else
    let d := uNew - uOld
    if (d - w.b).natAbs ≤ s.rd (Key.SlotFe.HANDOVER_LIMIT n) then
      ({ q with blend := none, law := newLaw, own := w.own, approaching := false }, uOld + w.b, 1)
    else
      let b := w.b + lim (d - w.b) slew
      let k := w.n + 1
      if max 1 (s.rd (Key.SlotFe.HANDOVER_SAMPLES n)) ≤ k then
        ({ q with blend := if b = 0 then none else some { w with b := b, n := k, failed := true }, mail := none, due := q.due.map (fun x => { x with mail := none }) }, uOld + w.b, 2)
      else ({ q with blend := some { w with b := b, n := k, law := newLaw, started := true } }, uOld + w.b, 0)

/-- The law of a slot in RUN or BLEND (R158), in a sample with the given phase: evaluated, filtered, limited and written. -/
def runLaw (s : Sys) (n : Nat) (d : Due) (phase : Option Nat) (y vm : Int) : Sys :=
  let q := s.slot n
  let g := s.gains n
  let mode := s.rd (Key.Slot.ACTIVE_MODE n)
  let rc := s.rcOut n phase
  let outer := decide (q.k % max 1 (s.rd (Key.Slot.OUTER_DIV n)) = 0)
  let (r, appr) := if q.first then (startPoint mode y vm, decide (q.own ≠ some (startPoint mode y vm) ∧ q.own ≠ none))
    else s.effective n q
  let start := if q.first then Start.from_ 0 (decide (mode = 1 ∨ mode = 3)) else Start.run
  let o := evalLaw g q.law mode start outer q.limited q.u y vm r rc
  let q1 := { q with law := o.law, first := false, approaching := appr, k := q.k + 1 }
  let (q2, v, ends) := match q1.blend with
    | none => (q1, o.u, 0)
    | some w =>
      let m := w.mode
      let rn := w.own.getD (if w.started then w.law.r else startPoint m y vm)
      let start' := if w.started then Start.run else Start.from_ o.u true
      let o' := evalLaw g w.law m start' outer q.limited q.u y vm rn rc
      s.blendStep n q1 w o.u o'.u o'.law
  let (bq, v1, cutB) := s.biquads n q2.bq v
  let (u, code, cutO) := outputPath (s.rdI (Key.SlotOut.OUT_MIN n)) (s.rdI (Key.SlotOut.OUT_MAX n)) (s.rd (Key.SlotOut.SLEW n))
    (s.rdI (Key.SlotOut.OUT_GAIN n)) (s.rdI (Key.SlotOut.OUT_OFFSET n)) q.u v1
  let limited := o.cut || cutB || cutO
  let fe : Nat := o.fe.natAbs
  let beyond := decide (s.rd (Key.SlotFe.FE_LIMIT n) ≠ 0 ∧ s.rd (Key.SlotFe.FE_LIMIT n) < fe ∧ mode ≠ 0 ∧ appr = false)
  let feRun := if beyond then q.feRun + 1 else 0
  let feNew := beyond && !q.feRaised && decide (s.rd (Key.SlotFe.FE_TIME n) ≤ feRun)
  let q3 := { s.rcStore n phase q.limited o.el q2 with
    bq := bq, u := u, limited := limited, feRun := feRun, feRaised := beyond && (q.feRaised || feNew) }
  let s := s.modSlot n (fun _ => q3)
  let s := ((s.inc64 (Key.SlotCnt.SAMPLES n)).when limited (fun s => s.inc (Key.SlotCnt.OUT_LIMITED n))).wrI (Key.SlotOut.OUT_CODE n) code
  let s := ((s.wrI (Key.SlotMon.OUTPUT n) u).wrI (Key.SlotMon.SETPOINT_EFF n) r).wrI (Key.SlotMon.ERROR n) o.err
  let s := s.when (decide (s.rd (Key.SlotMon.FE_PEAK n) < fe)) (fun s => s.wr (Key.SlotMon.FE_PEAK n) fe)
  let s := s.when (decide (n < 48)) (fun s => { s with smp := { s.smp with maxFe := max s.smp.maxFe fe } })
  let s := s.wr (Key.SlotMon.FLAGS n)
    (b2n appr + 2 * b2n limited + 4 * b2n phase.isSome + 8 * b2n (q3.blend.any (fun w => w.failed)))
  let s := s.when feNew (fun s => ((s.slotAxis n).elim s (fun a => s.axCause a false 5)).slotFault n 7 d.at_)
  match ends with
  | 1 => ((s.wr (Key.Slot.ACTIVE_MODE n) (q1.blend.elim mode (fun w => w.mode))).setSlotState n 1 4).inc (Key.SlotCnt.HANDOVERS n)
  | 2 =>
    let s := ((s.wr (Key.Slot.MODE n) mode).inc (Key.SlotCnt.HANDOVER_FAILS n)).slotFault n 9 d.at_
    s.when q3.blend.isNone (fun s => s.setSlotState n 1 4)
  | 3 => s.setSlotState n 1 4
  | _ => s

/-- The values of an update are posted to the owner of the slot and to its melt-pool loop (R162). -/
def postSample (s : Sys) (n : Nat) (y vm : Int) : Sys :=
  let s := ((s.wrI (Key.SlotMon.POSITION n) y).wrI (Key.SlotMon.VELOCITY n) vm).modSlot n (fun q => { q with postY := y })
  if n < 48 ∧ n % 3 = 0 then s.modLoop (n / 3) (fun m => { m with vx := vm })
  else if n < 48 ∧ n % 3 = 1 then s.modLoop (n / 3) (fun m => { m with vy := vm })
  else s

/-- The samples whose evaluation had not started when the feedback word of the next one arrived, and the rest (R151). -/
def splitDue (t : Nat) : List Due → List Due × List Due
  | d :: e :: rest => if e.arrives ≤ t then let p := splitDue t (e :: rest); (d :: p.1, p.2) else ([], d :: e :: rest)
  | l => ([], l)

/-- A sample sees the set-point that its owner has written by its edge (R21; R555: in a hand-over, the new mode sees it). -/
def seeSetpoint (d : Due) (q : Slot) : Slot :=
  match q.blend with
  | some w => if w.failed then { q with own := d.mail.orElse (fun _ => q.own) } else { q with blend := some { w with own := d.mail } }
  | none => { q with own := d.mail.orElse (fun _ => q.own) }

/-- The law, or the ramp, of slot `n` in sample `d` (R166, R170, R176 to R178), its feedback being `y` and `vm`; `stateOk` is the parity of
its parameters and state, which the sample reads in every state. The pair (y_ref, r_ref) starts in the first sample, at y and the starting
value of r, with its counter at 0, and stays over a hand-over (DESIGN CHOICE, log entry 50). -/
def slotSample (s : Sys) (n : Nat) (d : Due) (phase : Option Nat) (stateOk : Bool) (y vm : Int) : Sys :=
  let q := s.slot n
  match s.slotState n, stateOk with
  | 0, true => (s.wrI (Key.SlotOut.OUT_CODE n) 0).wrI (Key.SlotMon.OUTPUT n) 0
  | 0, false => (s.coast n 6 d.at_ true).rampStep n
  | 3, ok => (s.rampStep n).when (!ok) (fun s => s.slotFault n 6 d.at_)
  | 4, true => s.rampStep n
  | 4, false => (s.coast n 6 d.at_ false).rampStep n
  | _, ok =>
    if ok && q.leaving && (s.ownerRests n || decide (q.leaveAt ≤ s.clk)) then
      (s.rampDown n 3).rampStep n
    else
      let mode := s.rd (Key.Slot.ACTIVE_MODE n)
      let (q', stale) : Slot × Bool :=
        if q.first then ({ q with yRef := y, rRef := startPoint mode y vm, staleRun := 0 }, false)
        else if mode = 0 then (q, false) else s.staleness n y (s.effective n q).1 q
      let s := s.modSlot n (fun _ => q')
      match s.lossOf n stale ++ (if ok then [] else [6]) with
      | bit :: more => more.foldl (fun s b => s.slotFault n b d.at_) ((s.coast n bit d.at_ false).rampStep n)
      | [] => s.runLaw n d phase y vm

/-- The evaluation of a slot on its feedback word (R149 to R178): `code` is the converter's code, `ok` its parity, `wait`
the wait for a unit in CECLK cycles, `stateOk` the parity of the slot's parameters and state, `readOk` the readback of
the DAC register. -/
def evalSlot (s : Sys) (n : Nat) (code : Int) (ok : Bool) (wait : Nat) (stateOk readOk : Bool) : Sys :=
  match splitDue s.clk (s.slot n).due with
  | (_, []) => s
  | (dropped, d :: due) =>
    let s := s.modSlot n (fun q => seeSetpoint d { q with due := due })
    -- R151: samples whose evaluation had not started
    let s := dropped.foldl (fun s (x : Due) => ((s.inc (Key.SlotCnt.SKIPPED n)).inc (Key.Ce.SKIPPED_CE (engineOf n))).slotFault n 8 x.at_) s
    let s := s.when (decide (s.rd (Key.SlotCnt.WAIT_MAX n) < wait)) (fun s => s.wr (Key.SlotCnt.WAIT_MAX n) (min 65535 wait))
    let s := s.when (decide (s.rd (Key.Ce.WAIT_MAX_CE (engineOf n)) < wait))
      (fun s => s.wr (Key.Ce.WAIT_MAX_CE (engineOf n)) (min 65535 wait))
    let s : Sys := { s with smp := { s.smp with maxWait := max s.smp.maxWait wait } }
    let analog := decide (s.rd (Key.Slot.FB_SOURCE n) = 0)
    let raw : Int := if !ok then (s.slot n).raw else if analog then sat 18 code else d.count
    let q := s.slot n
    let y : Int := if analog then
        (if ok then sat 24 (rdiv (acc48 ((raw - s.rdI (Key.SlotFb.FB_OFFSET n)) * s.rdI (Key.SlotFb.FB_GAIN n))) 1024) else q.y)
      else wrap32 (raw - q.countBase)
    let prev : Int := if !q.seenEdge then y else if analog then q.y else wrap32 (q.raw - q.countBase)
    let vm := sat 18 ((y - prev) * 2 ^ s.rd (Key.SlotFb.VSHIFT n))
    let (phase, q) := s.rcPhase n d
    let inRange := decide (s.rdI (Key.SlotFb.RANGE_MIN n) ≤ raw ∧ raw ≤ s.rdI (Key.SlotFb.RANGE_MAX n))
    let q : Slot := { q with raw := raw, y := y, vm := vm, seenEdge := true, rangeRun := (if inRange then 0 else q.rangeRun + 1),
                                  parityRun := if ok then 0 else q.parityRun + 1 }
    let s := ((s.modSlot n (fun _ => q)).showRc n).when (!ok) (fun s => s.inc (Key.SlotCnt.FB_PARITY n))
    let s := (s.wrI (Key.SlotMon.RAW n) raw).slotSample n d phase stateOk y vm
    -- R162: y and v_m are posted to the owner at 620 ns, the last ones again in COAST
    let s := if s.slotState n = 3 then s else s.postSample n y vm
    -- R156, at 640 ns: the slots above SL47 have no DAC
    let s := if readOk ∨ 48 ≤ n then s else s.readbackLost n d.at_
    if n < 48 then s.refreshGate (n / 3) else s

/-! ### Commands and entries (R159, R165, R169, R172) -/

/-- The abort of a slot command in the present state (R169), 0 where it is accepted. -/
def slotCmdAbort (s : Sys) (n cmd : Nat) : Nat :=
  let st := s.slotState n
  match cmd with
  | 1 =>
    if st = 3 ∨ st = 4 then 0x0803
    else if (s.dev = .ready ∨ s.dev = .armed) ∧ s.rdB (Key.Slot.ENABLE n) ∧ s.rd (Key.Slot.FAULTS n) = 0 ∧
        !s.engineOver (engineOf n) then 0
    else 0x0803
  | 2 => 0
  | 3 =>
    if st = 1 ∨ st = 2 then 0x0803
    else if st = 4 then 0x0805
    else if st = 3 ∧ (s.slot n).u ≠ 0 then 0x0805
    else 0
  | 4 => if s.rd (Key.SlotRc.RC_SOURCE n) = 0 then 0x0803 else 0
  | 5 => if s.rd (Key.SlotRc.RC_SOURCE n) = 0 then 0x0803 else 0
  | 6 => if st = 1 ∨ st = 2 then 0x0803 else 0
  | _ => 0x0604

/-- The condition of a slot fault bit persists (R178). -/
def slotCondition (s : Sys) (n bit : Nat) : Bool :=
  match bit with
  | 0 => decide (0 < (s.slot n).rangeRun)
  | 1 => (s.slot n).lineBreak
  | 3 => decide (1 ≤ s.rd (Key.Slot.FB_SOURCE n)) && s.rdBit (Key.Enc.STATUS (s.rd (Key.Slot.FB_SOURCE n) - 1)) 0
  | _ => false

/-- RESET clears every fault bit whose condition is gone (R169, R178). -/
def slotClear (s : Sys) (n : Nat) : Sys :=
  s.each (List.range 11) (fun s b =>
    s.when (s.rdBit (Key.Slot.FAULTS n) b && !s.slotCondition n b)
      (fun s => (s.wrBit (Key.Slot.FAULTS n) b false).clearActive (0x10 + b) 2 n))

/-- CLOSE from OFF (R167): the starting values are taken in the first sample. -/
def slotClose (s : Sys) (n : Nat) : Sys :=
  let m := s.rd (Key.Slot.MODE n)
  let base : Int := if s.rd (Key.Slot.FB_SOURCE n) = 0 then 0 else s.rdI (Key.Enc.COUNT (s.rd (Key.Slot.FB_SOURCE n) - 1))
  let s := ((s.wr (Key.Slot.ACTIVE_MODE n) m).setSlotState n 1 1).modSlot n (fun q =>
    { q with countBase := base, law := {}, u := 0, limited := false, first := true, approaching := true, k := 0, bq := [(0, 0, 0), (0, 0, 0), (0, 0, 0), (0, 0, 0)]
             blend := none, rangeRun := 0, parityRun := 0, yRef := q.y, rRef := q.y, staleRun := 0, feRun := 0, feRaised := false, loss := false
             leaving := false })
  (s.wrBit (Key.SlotMon.FLAGS n) 0 true).showRc n

/-- The effect of an accepted slot command (R169). OPEN in BLEND sets MODE to ACTIVE_MODE, as R174 does at a fault (DESIGN CHOICE, log
entry 50). -/
def slotCmd (s : Sys) (n cmd : Nat) : Sys :=
  let st := s.slotState n
  let s := match cmd with
    | 1 => if st = 0 then s.slotClose n else s
    | 2 => if st = 1 ∨ st = 2 then s.rampDown n 1 else s
    | 3 => if st = 3 then ((s.slotOff n 1).wrI (Key.SlotOut.OUT_CODE n) 0).slotClear n else s.slotClear n
    | 4 => (s.modSlot n (fun q => { q with rc := 1 })).showRc n
    | 5 => (s.modSlot n (fun q => { q with rc := 2 })).showRc n
    | 6 => (s.modSlot n (fun q => { q with rc := 0, cells := [] })).showRc n
    | _ => s
  if n < 48 then s.refreshGate (n / 3) else s

/-- The abort of a MODE write (R172). -/
def slotModeAbort (s : Sys) (n v : Nat) : Nat :=
  if n < 48 ∧ s.chState (n / 3) ≠ 0 ∧ v ≠ 1 then 0x0803
  else if s.slotState n = 2 then 0x0805
  else if s.slotState n = 1 ∧ !s.rdB (Key.SlotFe.HANDOVER_EN n) then 0x0803
  else 0

/-- A MODE write: in RUN it begins a hand-over, in which the old mode holds the last set-point written before (R172, R173, R555), else it
sets the mode of the next CLOSE. -/
def slotMode (s : Sys) (n v : Nat) : Sys :=
  let s := s.wr (Key.Slot.MODE n) v
  if s.slotState n = 1 ∧ v ≠ s.rd (Key.Slot.ACTIVE_MODE n) then
    (s.setSlotState n 2 4).modSlot n (fun q => { q with blend := some { mode := v, law := {} }, own := q.mail.orElse (fun _ => q.own), mail := none
                                                        due := q.due.map (fun x => { x with mail := none }) })
  else s

/-- A BQ_ENABLE write (R159): a bit set in RUN starts its biquad in the steady state of its present input. -/
def bqEnable (s : Sys) (n v : Nat) : Sys :=
  let old := s.rd (Key.SlotBq.BQ_ENABLE n)
  let s := s.wr (Key.SlotBq.BQ_ENABLE n) v
  if s.slotState n = 1 ∨ s.slotState n = 2 then
    s.modSlot n (fun q => { q with bq := (List.range 4).map (fun b =>
      let t := q.bq.getD b (0, 0, 0)
      if v.testBit b && !old.testBit b then
        let st := biquadSteady (s.bqCoef n b 0) (s.bqCoef n b 1) (s.bqCoef n b 2) (s.bqCoef n b 3) (s.bqCoef n b 4) t.2.2
        (st.1, st.2, t.2.2)
      else t) })
  else s

/-- A write to RC_SOURCE, RC_LEN, RC_PARAM or RC_CPR clears the memory (R165). The events of a source or a capture unit newly named are
counted from the write on (DESIGN CHOICE, log entry 50). -/
def rcConfig (s : Sys) (n key v : Nat) : Sys :=
  let same := decide (s.rd key = v) || decide (key = Key.SlotRc.RC_LEN n) || decide (key = Key.SlotRc.RC_CPR n)
  let s := (s.wr key v).modSlot n (fun q => { q with cells := [] })
  (s.when (!same) (fun s => s.modSlot n (fun q => { q with rcSince := none, rcEvent := s.rcFrom n }))).showRc n

/-- The abort of a write to the repetitive configuration beyond its range (R163, R180). -/
def rcConfigAbort (s : Sys) (n sub v : Nat) : Nat :=
  if sub = 1 ∧ v = 4 ∧ 48 ≤ n then 0x0604
  else if sub = 3 ∧ s.rd (Key.SlotRc.RC_SOURCE n) = 2 ∧ 5 < v then 0x0604
  else if sub = 3 ∧ 31 < v then 0x0604
  else 0

/-- The Z pulse of encoder `e` at count `z` for the slots that take their phase from it (R163): a pulse more than 4 counts off a
whole number of RC_CPR after the previous one raises RC_PHASE. -/
def slotZ (s : Sys) (e : Nat) (z : Int) : Sys :=
  s.each (List.range 64) (fun s n =>
    s.when (decide (s.rd (Key.SlotRc.RC_SOURCE n) = 2 ∧ s.rd (Key.SlotRc.RC_PARAM n) = e)) (fun s =>
      let cpr : Int := s.rd (Key.SlotRc.RC_CPR n)
      let off := match (s.enc e).z with
        | some z0 => let m := wrap32 (z - z0) % cpr; min m (cpr - m)
        | none => 0
      s.when (decide (4 < off)) (fun s => s.slotFault n 10 s.now)))

end Sys

/-- SLOT_EVALUATION (R158): slot `n` is evaluated. -/
def execSlotEvaluation (n : Fin 64) (code : Int) (ok : Bool) (wait : Nat) (stateOk readOk : Bool) (s : State) :
    Host.Outcome State Fault Refusal :=
  onSys (fun s => if s.runs (Sys.slotDomain n) then s.evalSlot n code ok wait stateOk readOk else s) s

/-- LINE_BREAK (R155): the front end sets or clears the line-break flag of slot `n`; the slot sees it at its next
feedback arrival. The flag is set only while LINE_BREAK_EN is. -/
def execLineBreak (n : Fin 64) (broken : Bool) (s : State) : Host.Outcome State Fault Refusal :=
  onSys (fun s => s.modSlot n (fun q => { q with lineBreak := broken && s.rdB (Key.SlotFb.LINE_BREAK_EN n) })) s

/-- FAULT_HOLD_EXPIRY (R170): FAULT_HOLD of a slot that the device asks to leave is over; it enters RAMP_DOWN. -/
def execFaultHoldExpiry (n : Fin 64) (s : State) : Host.Outcome State Fault Refusal :=
  onSys (fun s =>
    if s.runs (Sys.slotDomain n) && (s.slot n).leaving && decide ((s.slot n).leaveAt ≤ s.clk) && decide (s.slotState n = 1 ∨ s.slotState n = 2) then
      s.rampDown n 3
    else s) s

end Sys2Proof.Machine
end

