-- ==== Sys2Proof/Machine/Swath.lean ====
section
/-! DEFINITION. Swath: mark timing units, columns and their instants, commits, suppressed spans, swath end and feed (R252 to R258, R263 to R265, R271, R279). -/

namespace Sys2Proof.Machine

open Sys2Proof

namespace Sys

/-! ### Parts of the print engine -/

/-- Mark timing unit `m`. -/
def mtu (s : Sys) (m : Nat) : MtuRun := s.pen.mtus.getD m {}

/-- Change mark timing unit `m`. -/
def modMtu (s : Sys) (m : Nat) (f : MtuRun → MtuRun) : Sys := { s with pen := { s.pen with mtus := s.pen.mtus.setIfInBounds m (f (s.mtu m)) } }

/-- FIRE output `f`. -/
def fire (s : Sys) (f : Nat) : FireRun := s.pen.fires.getD f {}

/-- Change FIRE output `f`. -/
def modFire (s : Sys) (f : Nat) (g : FireRun → FireRun) : Sys := { s with pen := { s.pen with fires := s.pen.fires.setIfInBounds f (g (s.fire f)) } }

/-- Head `h`. -/
def head (s : Sys) (h : Nat) : HeadRun := s.pen.heads.getD h {}

/-- Change head `h`. -/
def modHead (s : Sys) (h : Nat) (f : HeadRun → HeadRun) : Sys := { s with pen := { s.pen with heads := s.pen.heads.setIfInBounds h (f (s.head h)) } }

/-- Head link `l`. -/
def hlink (s : Sys) (l : Nat) : LinkRun8 := s.pen.links.getD l {}

/-- Change head link `l`. -/
def modLink (s : Sys) (l : Nat) (f : LinkRun8 → LinkRun8) : Sys := { s with pen := { s.pen with links := s.pen.links.setIfInBounds l (f (s.hlink l)) } }

/-- Head link `l` is UP (R268). -/
def linkUp (s : Sys) (l : Nat) : Bool := decide (s.rd (Key.Link.STATE l) = 3)

/-- The FIRE outputs of group `g` (R247). -/
def grpFires (s : Sys) (g : Nat) : List Nat := (List.range 16).filter (fun f => s.rdBit (Key.Grp.FIRE_MASK g) f)

/-- The enabled heads of group `g` (R247). -/
def grpHeads (s : Sys) (g : Nat) : List Nat := (List.range 32).filter (fun h => s.rdB (Key.Head.ENABLE h) && decide (s.rd (Key.Head.GROUP h) = g))

/-- The enabled heads of group `g` on FIRE output `f`. -/
def fireHeads (s : Sys) (g f : Nat) : List Nat := (s.grpHeads g).filter (fun h => decide (s.rd (Key.Head.FIRE h) = f))

/-- The group that FIRE output `f` belongs to, of those that print. -/
def fireGroup (s : Sys) (f : Nat) : Option Nat := (List.range 4).find? (fun g => s.rdBit (Key.Grp.FIRE_MASK g) f && decide (s.grpState g = 3))

/-- The group that MTU `m` serves (R24, R251). -/
def mtuGroup (s : Sys) (m : Nat) : Option Nat := (List.range 4).find? (fun g => decide (s.rd (Key.Grp.MTU g) = m))

/-- The raster channel that MTU `m` serves (R24, R251). -/
def mtuChannel (s : Sys) (m : Nat) : Option Nat := (List.range 16).find? (fun c => decide (s.rd (Key.Ch.MODE c) = 1 ∧ s.rd (Key.Ch.MTU c) = m))

/-! ### Positions and instants (R252 to R255) -/

/-- d of a swath: +1 or -1. -/
def mtuDir (s : Sys) (m : Nat) : Int := if (s.mtu m).rev then -1 else 1

/-- T in ps (R253): the mean interval of the last 2^AVG advancing edges. -/
def mtuMean (s : Sys) (m : Nat) : Option Nat :=
  let e := (s.mtu m).edges.take (2 ^ s.rd (Key.Mtu.AVG m) + 1)
  match e.head?, e.getLast? with
  | some a, some b => if e.length < 2 then none else some ((a - b) * 1000 / (e.length - 1))
  | _, _ => none

/-- X(t) in counts * 256 (R253). -/
def mtuPos (s : Sys) (m : Nat) : Int :=
  let q := s.mtu m
  let h := 256 * q.h
  match s.mtuMean m, q.edges.head? with
  | some t, some e =>
    if s.rdI (Key.Enc.COUNT (s.rd (Key.Mtu.ENCODER m))) ≠ q.h ∨ t = 0 then h
    else h + s.mtuDir m * (min ((s.now - e) * 1000 * 256 / t) 255 : Nat)
  | _, _ => h

/-- The position of column `k` on FIRE output `f` of group `g` in counts * 256 (R254), once the origin is known. -/
def colPos (s : Sys) (g f k : Nat) : Option Int :=
  let m := s.rd (Key.Grp.MTU g)
  let d := s.mtuDir m
  let start := s.rdI (if (s.mtu m).rev then Key.GrpCfg.START_REV g else Key.GrpCfg.START_FWD g)
  let ofs := s.rdI (if (s.mtu m).rev then Key.Fire.OFS_REV f else Key.Fire.OFS_FWD f)
  let p0 := if s.rd (Key.Mtu.SOS m) = 0xFF then some start else (s.mtu m).c.map (fun c => c + d * start)
  p0.map (fun p => 256 * p + d * (k * s.rd (Key.GrpCfg.PITCH g) / 256 : Nat) + d * ofs)

/-- The instant of the next column of FIRE output `f` in ps, as the last advancing edge gives it (R255). -/
def colDue (s : Sys) (g f : Nat) : Option Nat :=
  let m := s.rd (Key.Grp.MTU g)
  match s.colPos g f (s.fire f).k, (s.mtu m).edges.head? with
  | some x, some e =>
    let rel := s.mtuDir m * (x - 256 * (s.mtu m).h)
    if rel ≤ 0 then some (e * 1000)
    else if rel < 256 then (s.mtuMean m).map (fun t => e * 1000 + rel.toNat * t / 256)
    else none
  | _, _ => none

/-- The instants of the next columns of a group after an edge (R255): one that is already due stays. -/
def retime (s : Sys) (g : Nat) : Sys :=
  s.each (s.grpFires g) (fun s f => s.modFire f (fun q =>
    { q with due := if q.due.any (fun t => decide (t ≤ s.now * 1000)) then q.due else s.colDue g f }))

/-! ### Suppressed spans (R279) -/

/-- Put a record into the span ring (R279), with its alarm and fault. -/
def spanRecord (s : Sys) (g h kind first last at_ : Nat) : Sys :=
  let f := s.rd (Key.Head.FIRE h)
  let pos (k : Nat) : List Nat := le 4 (trunc 32 ((s.colPos g f k).elim 0 (fun x => x / 256)))
  let before := s.rd Key.Span.SPAN_HEAD
  let empty := decide (before = s.rd Key.Span.SPAN_TAIL)
  let s := s.ringRecord 0x40 Key.Span.SPAN_ADDR Key.Span.SPAN_LEN Key.Span.SPAN_HEAD Key.Span.SPAN_TAIL Key.Span.SPAN_LOST
    ([kind, g, h, s.rd (Key.GrpMask.PASS g)] ++ le 4 (s.rd (Key.GrpMask.SWATH g)) ++ le 4 first ++ le 4 last ++ pos first ++ pos last ++ le 8 at_)
  if s.rd Key.Span.SPAN_HEAD = before then s
  else
    let s := ((s.inc (Key.GrpCnt.SPANS g)).raise 32).modGroup g (fun q => { q with spanned := true })
    (s.when empty (fun s => s.sendAlarm 4 0x3C s.now 0 [])).faultNow 0x3C 4 h

/-- The open span of head `h` ends. -/
def spanEnd (s : Sys) (g h : Nat) : Sys :=
  match (s.head h).span with
  | none => s
  | some p => (s.modHead h (fun q => { q with span := none })).spanRecord g h p.kind p.first p.last p.at_

/-- Columns `first` to `last` of head `h` are suppressed with a kind. -/
def suppress (s : Sys) (g h kind first last at_ : Nat) : Sys :=
  let s := s.add (Key.HeadSt.SUPPRESSED h) 32 (last + 1 - first)
  match (s.head h).span with
  | some p =>
    if p.kind = kind then s.modHead h (fun q => { q with span := some { p with last := last } })
    else (s.spanEnd g h).modHead h (fun q => { q with span := some { kind := kind, first := first, last := last, at_ := at_ } })
  | none => s.modHead h (fun q => { q with span := some { kind := kind, first := first, last := last, at_ := at_ } })

/-- Every known column of group `g` not yet fired is suppressed (R257, R261, R281), once a kind is set for the rest of the
swath. -/
def flush (s : Sys) (g : Nat) : Sys :=
  match (s.group g).suppress with
  | none => s
  | some kind =>
    let end_ := (s.group g).endCol
    s.each (s.grpFires g) (fun s f =>
      let k := (s.fire f).k
      if end_ ≤ k then s
      else
        let s := s.each (s.fireHeads g f) (fun s h => (s.suppress g h kind k (end_ - 1) s.now).modHead h (fun q => { q with evs := [], next := end_ }))
        s.modFire f (fun q => { q with k := end_, due := none, go := [], held := [] }))

/-- The rest of a swath is suppressed with a kind. -/
def endRest (s : Sys) (g kind : Nat) : Sys :=
  (s.modGroup g (fun q => { q with suppress := q.suppress.orElse (fun _ => some kind) })).flush g

/-! ### Gating and commits (R271, R277, R278) -/

/-- A gate input with ACTION `act` is active for group `g` (R278). -/
def gateActs (s : Sys) (g act : Nat) : Bool :=
  (List.range 12).any (fun n =>
    let w := s.rd (Key.GateIn.GATE n)
    s.rdBit Key.GateIn.GATE_ACTIVE n && w.testBit 0 && decide (w / 4 % 4 = act) && w.testBit (4 + g))

/-- What gates head `h` (R277, R278, R283), as a KIND of R279. -/
def headGate (s : Sys) (h : Nat) : Option Nat :=
  if s.rd (Key.HeadTemp.TSTATE h) = 2 then some 1
  else if s.rdBit (Key.HeadSt.FLAGS h) 3 || s.gateActs (s.rd (Key.Head.GROUP h)) 1 then some 3
  else none

/-- FLAGS bit 4 GATED of every head. -/
def showGates (s : Sys) : Sys :=
  s.each (List.range 32) (fun s h => s.wrBit (Key.HeadSt.FLAGS h) 4 (s.rdB (Key.Head.ENABLE h) && (s.headGate h).isSome))

/-- Why head `h` does not fire column `k`, if it does not (R25, R271, R273). -/
def heldKind (s : Sys) (g h k : Nat) : Option Nat :=
  match s.headGate h with
  | some kind => some kind
  | none =>
    if s.grpState g ≠ 3 then some 9
    else if !s.linkUp (s.rd (Key.Head.LINK h)) || (s.head h).noWave then some 2
    else match (s.head h).evs.find? (fun e => decide (e.col = k)) with
      | some e => if e.acked then none else some e.kind
      | none => some 2

/-- The Commit symbol of column `k` of FIRE output `f` (R268): event, GO per port and output, each with its complement. -/
def commitSymbol (s : Sys) (l k f : Nat) (go : List Nat) : List Nat :=
  let bits := (go.filter (fun h => decide (s.rd (Key.Head.LINK h) = l))).foldl (fun n h => putBit n (s.rd (Key.Head.PORT h)) true) 0
  [k % 256, bits + 16 * (15 - bits), f + 16 * (15 - f)]

/-- Commit the next column of FIRE output `f` on every link that carries a head on it, twice (R271). -/
def commit (s : Sys) (g f : Nat) : Sys :=
  let k := (s.fire f).k
  let hs := s.fireHeads g f
  let held := hs.filterMap (fun h => (s.heldKind g h k).map (fun kind => (h, kind)))
  let go := hs.filter (fun h => (s.heldKind g h k).isNone)
  let s := (s.modFire f (fun q => { q with go := go, held := held, commitAt := some s.now })).each go (fun s h => s.inc64 (Key.HeadSt.FIRED h))
  s.each ((List.range 8).filter (fun l => s.linkUp l && hs.any (fun h => decide (s.rd (Key.Head.LINK h) = l)))) (fun s l =>
    (s.emit (.link l 0x100 (s.commitSymbol l k f go))).emit (.link l 0x100 (s.commitSymbol l k f go)))

/-- A column beyond the known ones exists, or `k` is a known one. -/
def colExists (s : Sys) (g k : Nat) : Bool := decide (k < (s.group g).endCol) || !(s.group g).complete

/-- FIRE output `f` has dealt with its column: events up to it are discarded, and the next one is committed (R270,
R271). -/
def nextColumn (s : Sys) (g f : Nat) : Sys :=
  let k := (s.fire f).k
  let s := s.each (s.fireHeads g f) (fun s h => s.modHead h (fun q => { q with evs := q.evs.filter (fun e => decide (k < e.col)), next := max q.next (k + 1) }))
  let s := s.modFire f (fun q => { q with k := k + 1, due := none, go := [], held := [] })
  if s.colExists g (k + 1) then
    let s := s.commit g f
    s.modFire f (fun q => { q with due := s.colDue g f })
  else s

/-- The strobe instant of a column due at `t` ps (R255): rounded to 250 ps. -/
def strobeAt (s : Sys) (f t : Nat) : Nat := nearest (t + 250 * s.rd (Key.Fire.DELAY f)) 250 * 250

/-- FIRE output `f` reaches its column instant (R255, R256). -/
def fireStrobe (s : Sys) (f : Nat) : Sys :=
  match s.fireGroup f, (s.fire f).due with
  | some g, some t =>
    if s.now * 1000 < t ∨ !s.colExists g (s.fire f).k then s
    else
      let q := s.fire f
      let rise := s.strobeAt f t
      let soon := q.strobe.any (fun p => decide (rise < p + 1000 * s.rd (Key.GrpCfg.MIN_PERIOD g))) ||
        q.commitAt.any (fun c => decide (rise < 1000 * c + 2000000))
      let s :=
        if soon then
          let s := s.inc (Key.GrpCnt.OVERSPEEDS g)
          s.each (s.fireHeads g f) (fun s h => s.suppress g h 4 q.k q.k (rise / 1000))
        else
          let up := s.clk * 1000 + rise - s.now * 1000
          let s := (((s.when (s.padsLive 12 && s.mayEmit) (fun s => s.emit (.fire f rise)))).inc64 (Key.Fire.STROBES f)).modFire f (fun q => { q with
            strobe := some rise, pulses := q.pulses ++ [(up, up + 4000 * s.rd (Key.Fire.WIDTH f))] })
          let s := s.wr (Key.GrpMask.COLUMN g) q.k
          let s := s.each q.go (fun s h => s.spanEnd g h)
          q.held.foldl (fun s (p : Nat × Nat) => s.suppress g p.1 p.2 q.k q.k (rise / 1000)) s
      let s := s.when (decide ((s.grpFires g).head? = some f)) (fun s => s.inc64 (Key.GrpCnt.COLUMNS g))
      s.nextColumn g f
  | _, _ => s

/-- The level of FIRE output `f` as time passes (R23, R255): high for WIDTH from each strobe on. A held pad keeps its level (R477). -/
def fireLevel (s : Sys) (f : Nat) : Sys :=
  let ps := (s.fire f).pulses
  if ps.isEmpty then s
  else
    let t := s.clk * 1000
    let high := ps.any (fun p => decide (p.1 ≤ t ∧ t < p.2)) && s.padsLive 12 && s.mayEmit
    let s := s.when (!s.rdBit Key.Pad.HELD 12) (fun s => s.modPads (fun p => { p with fire := putBit p.fire f high }))
    s.modFire f (fun q => { q with pulses := ps.filter (fun p => decide (t < p.2)) })

/-! ### Arming and edges (R252 to R258, R262) -/

/-- Arm the MTU of group `g` for its swath (R252, R262): the first columns are committed. -/
def mtuArm (s : Sys) (g : Nat) : Sys :=
  let m := s.rd (Key.Grp.MTU g)
  let h := s.rdI (Key.Enc.COUNT (s.rd (Key.Mtu.ENCODER m)))
  let s := s.modMtu m (fun q => { q with armed := true, rev := (s.group g).rev, h := h, edges := [], c := none })
  let s := ((s.wrI (Key.MtuSt.HWM m) h).wrB (Key.MtuSt.DIR m) (s.group g).rev).wr (Key.MtuSt.PERIOD_EST m) 0
  let s := s.modGroup g (fun q => { q with armed := true })
  s.each (s.grpFires g) (fun s f => s.commit g f)

/-- A count of its encoder reaches MTU `m` (R252, R253, R257). -/
def mtuEdge (s : Sys) (m : Nat) : Sys :=
  let q := s.mtu m
  if !q.armed || decide (s.rd (Key.Mtu.MODE m) ≠ 0) then s
  else
    let count := s.rdI (Key.Enc.COUNT (s.rd (Key.Mtu.ENCODER m)))
    let gain := s.mtuDir m * wrap32 (count - q.h)
    if 0 < gain then
      let s := s.modMtu m (fun q => { q with
        h := count, edges := (s.now :: q.edges).take (2 ^ s.rd (Key.Mtu.AVG m) + 1), hBefore := q.h, edgesBefore := q.edges })
      let s := (s.wrI (Key.MtuSt.HWM m) count).wr (Key.MtuSt.PERIOD_EST m) ((s.mtuMean m).getD 0)
      match s.mtuGroup m with
      | some g => s.retime g
      | none => s
    else
      let s := s.modMtu m (fun q => { q with hBefore := q.h, edgesBefore := q.edges })
      if gain < -(s.rd (Key.Mtu.HYST m) : Int) then
        match s.mtuGroup m with
        | some g =>
          if s.grpState g = 3 ∧ (s.group g).suppress = none then (s.inc (Key.MtuSt.REVERSALS m)).endRest g 5 else s
        | none => s
      else s

/-- The last count of its encoder was no count (R249): MTU `m` is where it was before it. -/
def mtuUndo (s : Sys) (m : Nat) : Sys :=
  let q := s.mtu m
  if !q.armed || decide (s.rd (Key.Mtu.MODE m) ≠ 0) then s
  else
    let s := s.modMtu m (fun q => { q with h := q.hBefore, edges := q.edgesBefore })
    let s := (s.wrI (Key.MtuSt.HWM m) q.hBefore).wr (Key.MtuSt.PERIOD_EST m) ((s.mtuMean m).getD 0)
    match s.mtuGroup m with
    | some g => s.retime g
    | none => s

/-- The selected start-of-scan edge of MTU `m` (R254, R258). -/
def mtuSos (s : Sys) (m : Nat) : Sys :=
  let q := s.mtu m
  if s.rd (Key.Mtu.MODE m) = 1 then
    let gap := q.sosAt.elim 0 (fun t => s.now - t)
    let s := (s.wr (Key.MtuSt.SOS_PERIOD m) gap).modMtu m (fun q => { q with sosAt := some s.now })
    match s.mtuChannel m with
    | some c => (s.rasterSos c s.now gap (s.now * 1000 + s.rd (Key.Mtu.SOS_DELAY m)) (s.rd (Key.Mtu.PIX_PERIOD m))).refreshGate c
    | none => s
  else if q.armed && q.c.isNone then
    let c := s.rdI (Key.Enc.COUNT (s.rd (Key.Mtu.ENCODER m)))
    let s := (s.modMtu m (fun q => { q with c := some c })).wrI (Key.MtuSt.SOS_LATCH m) c
    match s.mtuGroup m with
    | some g => s.retime g
    | none => s
  else s

/-! ### Encoders (R249, R250) -/

/-- The conditions of signal loss are present (R250). -/
def encLossy (s : Sys) (e : Nat) : Bool :=
  s.rdBit (Key.Enc.STATUS e) 1 || s.rdBit (Key.Enc.STATUS e) 2 || (s.rdBit (Key.Enc.STATUS e) 3 && s.rdB (Key.Enc.Z_USED e)) ||
    decide (s.rd (Key.Enc.ERR_LIMIT e) ≤ ((s.enc e).errs.filter (fun t => decide (s.clk < t + 1000000))).length)

/-- Loss of encoder `e` is detected (R250, R257, R305): recorded once, with what its users do of themselves first. -/
def encLoss (s : Sys) (e : Nat) : Sys :=
  if s.rdBit (Key.Enc.STATUS e) 0 || !s.encLossy e then s
  else
    let s := s.wrBit (Key.Enc.STATUS e) 0 true
    let s := s.each (List.range 4) (fun s g =>
      let m := s.rd (Key.Grp.MTU g)
      s.when (decide (m < 4 ∧ s.rd (Key.Mtu.ENCODER m) = e ∧ s.grpState g = 3)) (fun s => ((s.endRest g 6).setGrpState g 6).setGrpCause g 4))
    let s := s.faultNow 0x33 6 e
    s.each (List.range 8) (fun s a =>
      s.when (!s.axClosed a && decide (s.rd (Key.AxEnc.ENC_MON a) = e ∧ s.axState a ≠ 0)) (fun s => s.axFault a 0x42 true 7))

/-- The levels of A and B of encoder `e` after an edge that has stood for FILTER (R249; DEDUCED, log entry 23). A leading B counts up
(DESIGN CHOICE, log entry 10). Of two edges of A and B within 10 ns neither counts: the second takes back what the first did. -/
def encEdge (s : Sys) (e : Nat) (a b : Bool) : Sys :=
  let q := s.enc e
  if (a = q.a ∧ b = q.b) ∨ !s.runs 12 then s
  else
    let both := decide (a ≠ q.a ∧ b ≠ q.b)
    let isA := decide (a ≠ q.a)
    let near := q.edgeAt.any (fun t => decide (s.clk < t + 10)) && decide (isA ≠ q.edgeA)
    let count := s.rdI (Key.Enc.COUNT e)
    let s := s.modEnc e (fun q => { q with a := a, b := b, edgeAt := some s.clk, edgeA := isA, before := if near then q.before else count })
    let users := (List.range 4).filter (fun m => s.mtuRuns && decide (s.rd (Key.Mtu.ENCODER m) = e))
    if both || near then
      let s := s.when (near && decide (count ≠ q.before)) (fun s => (s.wrI (Key.Enc.COUNT e) q.before).each users mtuUndo)
      ((s.inc (Key.Enc.ERRORS e)).modEnc e (fun q => { q with errs := s.clk :: q.errs.filter (fun t => decide (s.clk < t + 1000000)) })).encLoss e
    else
      let up := (if isA then decide (a ≠ b) else decide (a = b)) != s.rdB (Key.Enc.INVERT e)
      (s.wrI (Key.Enc.COUNT e) (wrap32 (count + (if up then 1 else -1)))).each users mtuEdge

/-- The count of encoder `e` is set (R250). -/
def encSet (s : Sys) (e : Nat) (v : Int) : Sys := (s.wrI (Key.Enc.COUNT e) v).modEnc e (fun q => { q with before := v })

/-- An edge of Z (R163, R250, R367): a rising one latches the count and its time. With Z_RESET the count is 0 at it from then on. -/
def encZ (s : Sys) (e : Nat) (rising : Bool) : Sys :=
  if !rising ∨ !s.runs 12 then s.capturePin (0x48 + e) rising
  else
    let n := s.rdI (Key.Enc.COUNT e)
    let s := ((s.wrI (Key.Enc.Z_COUNT e) n).wr (Key.Enc.Z_TIME e) s.now).capturePin (0x48 + e) true
    let s := (s.slotZ e n).when (s.rdB (Key.Enc.Z_RESET e)) (fun s => s.encSet e 0)
    s.modEnc e (fun q => { q with z := some (s.rdI (Key.Enc.COUNT e)) })

/-- A leg of A, B or Z leaves its window for 2 us, or is back in it (R250). -/
def encLeg (s : Sys) (e leg : Nat) (broken : Bool) : Sys := (s.wrBit (Key.Enc.STATUS e) (1 + leg) broken).encLoss e

/-- An encoder command (R250): CLEAR or ZERO. -/
def encCmd (s : Sys) (e cmd : Nat) : Sys :=
  if cmd = 1 then (if s.encLossy e then s else (s.wrBit (Key.Enc.STATUS e) 0 false).clearActive 0x33 6 e)
  else if cmd = 2 then s.encSet e 0
  else s

/-- An edge of the ball SOS[i] (R251, R367). -/
def sosEdge (s : Sys) (i : Nat) (rising : Bool) : Sys :=
  let s := s.capturePin i rising
  if !s.mtuRuns then s
  else s.each (List.range 4) (fun s m =>
    s.when (decide (s.rd (Key.Mtu.SOS m) = i ∧ s.rdB (Key.Mtu.SOS_EDGE m) = !rising)) (fun s => s.mtuSos m))

/-! ### Swath end and feed (R264, R265) -/

/-- The feed of a swath (R264): ordered on FEED_AXIS, or only the settle time. -/
def grpFeed (s : Sys) (g : Nat) (n : Int) : Sys :=
  let a := s.rd (Key.GrpMask.FEED_AXIS g)
  let s := (s.setGrpState g 4).modGroup g (fun q => { q with heldFeed := none, settleAt := none, stopAfterFeed := false })
  if n ≠ 0 ∧ a < 8 then s.orderFeed a g n else s.modGroup g (fun q => { q with settleAt := some s.clk })

/-- Every FIRE output of the group has dealt with its last column (R264). -/
def swathDone (s : Sys) (g : Nat) : Bool :=
  (s.group g).complete && (s.grpFires g).all (fun f => decide ((s.group g).endCol ≤ (s.fire f).k))

/-- A head in HARD leaves it where its temperature is back (R277). -/
def leaveHard (s : Sys) (h : Nat) : Sys :=
  let t := s.rdI (Key.HeadTemp.TEMP h)
  let y : Int := s.rd (Key.HeadTemp.HYST h)
  if s.rd (Key.HeadTemp.TSTATE h) = 2 ∧ !(s.head h).sensorLost ∧ t < s.rdI (Key.HeadTemp.HARD h) - y then
    s.wr (Key.HeadTemp.TSTATE h) (if s.rdI (Key.HeadTemp.WARN h) - y ≤ t then 1 else 0)
  else s

/-- What the end of a swath leaves behind in every case: spans end, the MTU is at rest. -/
def swathClose (s : Sys) (g : Nat) : Sys :=
  let s := s.flush g
  let s := s.each (s.grpHeads g) (fun s h => ((s.spanEnd g h).leaveHard h).modHead h (fun q => { q with evs := [] }))
  let s := s.when (decide (s.rd (Key.Grp.MTU g) < 4)) (fun s => s.modMtu (s.rd (Key.Grp.MTU g)) (fun q => { q with armed := false }))
  (s.modGroup g (fun q => { q with suppress := none, begun := false, armed := false, slices := [] })).showGates

/-- Swath end (R264, R265). A swath that a stop has ended is closed here as well. -/
def swathEnd (s : Sys) (g : Nat) : Sys :=
  if s.grpState g = 3 ∧ s.swathDone g then
    let s := s.swathClose g
    let s := s.inc64 (Key.GrpCnt.SWATHS g)
    let q := s.group g
    match q.haltCause with
    | some k => ((s.setGrpState g 6).setGrpCause g k).modGroup g (fun q => { q with haltCause := none })
    | none =>
      if s.rdB (Key.GrpMask.SUPPRESS_HOLD g) && q.spanned then
        ((s.setGrpState g 5).setGrpCause g 9).modGroup g (fun x => { x with heldFeed := some q.feed })
      else s.grpFeed g q.feed
  else if s.grpState g = 6 ∧ (s.group g).suppress.isSome then s.swathClose g
  else s

/-- FEED_SETTLE after the feed ends (R264): the group waits for its next swath, or is IDLE where a PAUSE waits. -/
def feedSettled (s : Sys) (g : Nat) : Sys :=
  match (s.group g).settleAt with
  | some t =>
    if s.grpState g = 4 ∧ t + s.rd (Key.GrpMask.FEED_SETTLE g) * 1000 ≤ s.clk then
      (s.setGrpState g (if (s.group g).pause then 1 else 2)).modGroup g (fun q => { q with settleAt := none, pause := false })
    else s
  | none => s

end Sys

/-- ENCODER_EDGE (R249): the inputs A and B of encoder `e` take these levels. -/
def execEncoderEdge (e : Fin 6) (a b : Bool) (s : State) : Host.Outcome State Fault Refusal := onSys (fun s => s.encEdge e a b) s

/-- ENCODER_Z (R250): an edge of Z. -/
def execEncoderZ (e : ZEdge) (s : State) : Host.Outcome State Fault Refusal := onSys (fun s => s.encZ e.e e.rising) s

/-- ENCODER_LOSS (R250): a leg of A (0), B (1) or Z (2) breaks, or is whole again. -/
def execEncoderLoss (e : Fin 6) (leg : Fin 3) (broken : Bool) (s : State) : Host.Outcome State Fault Refusal :=
  onBlock 12 (fun s => s.encLeg e leg broken) s

/-- SOS_EDGE (R254, R258). -/
def execSosEdge (i : Fin 8) (rising : Bool) (s : State) : Host.Outcome State Fault Refusal := onSys (fun s => s.sosEdge i rising) s

/-- FIRE_STROBE (R255). -/
def execFireStrobe (f : Fin 16) (s : State) : Host.Outcome State Fault Refusal := onBlock 12 (fun s => s.fireStrobe f) s

/-- SWATH_END (R264). -/
def execSwathEnd (g : Fin 4) (s : State) : Host.Outcome State Fault Refusal := onBlock 12 (fun s => s.swathEnd g) s

/-- FEED_SETTLE_EXPIRY (R264). -/
def execFeedSettleExpiry (g : Fin 4) (s : State) : Host.Outcome State Fault Refusal := onBlock 12 (fun s => s.feedSettled g) s

end Sys2Proof.Machine
end

