-- ==== Sys2Proof/Machine/Pen.lean ====
section
/-! DEFINITION. Pen: the swath from its fix instant to the acknowledged events: slices, drop values, maps, overlaps and patterns (R218 to R220, R234, R259 to R263, R270, R274), the group commands (R281) and the checks of GO_READY (R248, R266, R275, R284). -/

namespace Sys2Proof.Machine

open Sys2Proof

/-- The bytes of one column of a head (R260). -/
def headBytes (nozzles depth : Nat) : Nat := (nozzles * depth + 63) / 64 * 8

/-- A length padded to a multiple of 64. -/
def pad64 (n : Nat) : Nat := (n + 63) / 64 * 64

/-- The heads of a mask, in ascending order. -/
def headsOf (mask : Nat) : List Nat := (List.range 32).filter (fun h => mask.testBit h)

/-- A frame of a head link (R269). -/
def linkFrame (typ port event : Nat) (payload : List Nat) : List Nat :=
  let h := [typ, port] ++ le 2 event ++ le 2 payload.length
  let b := h ++ le 2 (crc16 h) ++ payload
  b ++ le 4 (crc32 b)

/-- Bits given least significant first, as bytes. -/
def packBits : Nat → List Bool → List Nat
  | 0, _ => []
  | n + 1, l => (l.take 8).reverse.foldl (fun v b => 2 * v + b2n b) 0 :: packBits n (l.drop 8)

namespace Sys

/-! ### Overlaps (R274, R275) -/

/-- The state that the ownership of an overlap end follows (R205). -/
def endActs (s : Sys) (h e : Nat) : Nat :=
  if s.rd (Key.HeadEnd.STATE h e) = 6 then (s.stitch.zones.getD (128 + 2 * h + e) {}).before else s.rd (Key.HeadEnd.STATE h e)

/-- The seam of an overlap end in column `k` of a swath (R274). -/
def endSeam (s : Sys) (h e k swath : Nat) : Int :=
  let p := s.rd (Key.HeadEnd.SEAM_PERIOD h e)
  let f := if p = 0 then 0 else k % p
  let tri := if p = 0 then 0 else s.rd (Key.HeadEnd.SEAM_AMPL h e) * (if 2 * f < p then 2 * f else 2 * p - 2 * f) / p
  s.rd (Key.HeadEnd.SEAM_BASE h e) + (s.rd (Key.HeadEnd.SEAM_STEP h e) : Int) * seamShift (s.rd (Key.HeadEnd.SEAM_SHIFTS h e)) swath + tri

/-- Head `h` owns nozzle `n` in column `k` (R274): end 0 is the LOW end, end 1 the HIGH end. -/
def headOwns (s : Sys) (h n k swath : Nat) : Bool :=
  (List.range 2).all (fun e =>
    let w := s.rd (Key.HeadEnd.WIDTH h e)
    let top := s.rd (Key.Head.NOZZLES h) - w
    let inside := if e = 0 then decide (n < w) else decide (top ≤ n)
    let i : Int := if e = 0 then n else n - top
    if !inside || !s.rdB (Key.HeadEnd.ENABLE h e) then true
    else match s.endActs h e with
      | 0 => true
      | 3 => true
      | 4 => false
      | _ => if e = 1 then decide (i < s.endSeam h e k swath) else decide (s.endSeam h e k swath ≤ i))

/-- The DIGEST of an overlap end (R275). -/
def endDigest (s : Sys) (h e : Nat) : Nat :=
  crc32 (le 2 (s.rd (Key.HeadEnd.WIDTH h e)) ++ le 2 (s.rd (Key.HeadEnd.SEAM_BASE h e)) ++ le 2 (s.rd (Key.HeadEnd.SEAM_STEP h e)) ++
    le 8 (s.rd (Key.HeadEnd.SEAM_SHIFTS h e)) ++ le 2 (s.rd (Key.HeadEnd.SEAM_AMPL h e)) ++ le 4 (s.rd (Key.HeadEnd.SEAM_PERIOD h e)))

/-- The largest value of the triangle of an overlap end over all columns (R275). -/
def endPeak (s : Sys) (h e : Nat) : Nat :=
  let p := s.rd (Key.HeadEnd.SEAM_PERIOD h e)
  if p = 0 then 0 else s.rd (Key.HeadEnd.SEAM_AMPL h e) * (if p % 2 = 0 then p else p - 1) / p

/-- The entries at fault in the overlap ends of head `h` (R275). -/
def endFaults (s : Sys) (h : Nat) : List Nat :=
  let n := s.rd (Key.Head.NOZZLES h)
  let k (e : Nat) : Nat := s.rd (Key.HeadEnd.WIDTH h e)
  (List.range 2).flatMap (fun e =>
    if !s.rdB (Key.HeadEnd.ENABLE h e) then []
    else
      let steps := (List.range 16).map (fun i => (s.rd (Key.HeadEnd.SEAM_BASE h e) : Int) +
        (s.rd (Key.HeadEnd.SEAM_STEP h e) : Int) * seamShift (s.rd (Key.HeadEnd.SEAM_SHIFTS h e)) i)
      let p := s.rd (Key.HeadEnd.PARTNER_HEAD h e)
      let local_ := decide (s.rd (Key.HeadEnd.PARTNER_ADDR h e) = 0)
      let matched := decide (s.rd (Key.HeadEnd.PARTNER_ADDR p (1 - e)) = 0 ∧
        s.rd (Key.HeadEnd.PARTNER_HEAD p (1 - e)) = h ∧ s.endDigest p (1 - e) = s.endDigest h e)
      failing [(steps.any (fun b => decide (b < 1 ∨ (k e : Int) - 1 < b + s.endPeak h e)), Key.HeadEnd.SEAM_BASE h e),
        (decide (n < k e), Key.HeadEnd.WIDTH h e),
        (s.rdB (Key.HeadEnd.ENABLE h 0) && s.rdB (Key.HeadEnd.ENABLE h 1) && decide (n < k 0 + k 1), Key.HeadEnd.WIDTH h e),
        (local_ && !matched, Key.HeadEnd.PARTNER_HEAD h e)])

/-! ### Drop values (R219, R234, R260, R263) -/

/-- The drop value of nozzle `n` of head `h` in column `k` of a slice in the line buffer (R260). -/
def rasterValue (s : Sys) (sl : Slice) (h k n : Nat) : Nat :=
  let size (i : Nat) : Nat := headBytes (s.rd (Key.Head.NOZZLES i)) (s.rd (Key.Head.DEPTH i))
  let hs := headsOf sl.heads
  let g := s.rd (Key.Head.DEPTH h)
  if !sl.heads.testBit h then 0
  else
    let col := hs.foldl (fun t i => t + size i) 0
    let before := (hs.filter (fun i => decide (i < h))).foldl (fun t i => t + size i) 0
    let a := sl.at_ + (k - sl.col) * col + before + g * n / 8
    s.ld a 2 / 2 ^ (g * n % 8) % 2 ^ g

/-- The value after pass mask and ownership (R263, R274). -/
def maskedValue (s : Sys) (g : Nat) (sl : Slice) (h k n : Nat) : Nat :=
  let q := s.group g
  let x := (k + q.dx) % 64
  let y := ((sl.rowbase + s.rdI (Key.Head.ROW h) + n + q.dy) % 64).toNat
  let on := decide (q.mask = 0xFF) || ((s.byte (s.rd (Key.GrpMask.MASK_ADDR g) + 512 * q.mask + 8 * y + x / 8)).toNat).testBit (x % 8)
  if on && s.headOwns h n k (s.rd (Key.GrpMask.SWATH g)) then s.rasterValue sl h k n else 0

/-- The entry of nozzle `n` in the active map of head `h`, 0 where the map is not in use (R218, R219). -/
def mapEntry (s : Sys) (h n : Nat) : Nat := if s.rdB (Key.Map.MAP_ENABLE h) then s.ld (s.rd (Key.Map.ACTIVE_ADDR h) + 4 * n) 4 else 0

/-- The pattern that stands in column `k` of head `h` (R234): it takes the whole of its band on the heads it selects. -/
def patternAt (s : Sys) (g h k : Nat) : Option Pattern :=
  (s.group g).placed.find? (fun p => p.heads.testBit h && decide (s.bandFirst g p.band ≤ k ∧ k < s.bandFirst g p.band + s.bandWidth g p.band))

/-- Every drop value of head `h` in column `k` after the maps of its group (R219). A head with a pattern there has no raster to hand on
(R234). -/
def mappedValues (s : Sys) (g : Nat) (sl : Slice) (h k : Nat) : List Nat :=
  let n := s.rd (Key.Head.NOZZLES h)
  let vmax := 2 ^ s.rd (Key.Head.DEPTH h) - 1
  let own := (List.range n).map (s.maskedValue g sl h k)
  let subs := ((s.grpHeads g).filter (fun i => (s.patternAt g i k).isNone)).flatMap (fun i => (List.range (s.rd (Key.Head.NOZZLES i))).filterMap (fun j =>
    let e := s.mapEntry i j
    let v := s.maskedValue g sl i k j
    if e % 4 = 2 ∧ e / 4 % 32 = h ∧ 0 < v then some (e / 128 % 4096, v, e / 2 ^ 19 % 4) else none))
  let taken := subs.foldl (fun (l : List Nat) (p : Nat × Nat × Nat) => l.set p.1 (min (max (l.getD p.1 0) p.2.1 + p.2.2) vmax)) own
  taken.mapIdx (fun j v => if s.mapEntry h j % 4 = 1 ∨ s.mapEntry h j % 4 = 2 then 0 else v)

/-- What a placed pattern fires with nozzle `n` in column `k` (R234). -/
def patternValue (s : Sys) (g : Nat) (p : Pattern) (k n : Nat) : Nat :=
  let f := s.bandFirst g p.band + (if p.kind = 1 then n % max 1 p.stagger * (p.run + p.gap) else 0)
  if f ≤ k ∧ k < f + p.run then p.level else 0

/-- The drop values of head `h` in column `k`: pattern values replace those of an enabled band that holds one (R234). -/
def dropValues (s : Sys) (g : Nat) (sl : Slice) (h k : Nat) : List Nat :=
  match s.patternAt g h k with
  | some p => (List.range (s.rd (Key.Head.NOZZLES h))).map (s.patternValue g p k)
  | none => s.mappedValues g sl h k

/-- The payload of the DATA frame of head `h` for column `k` (R269, R270). -/
def dataPayload (s : Sys) (g : Nat) (sl : Slice) (h k : Nat) : List Nat :=
  let d := s.rd (Key.Head.DEPTH h)
  let bits := (s.dropValues g sl h k).flatMap (fun v => (List.range d).map (fun i => v.testBit i))
  [s.rd (Key.Head.WAVESET h), b2n (s.rdB (Key.Head.TICKLE h))] ++ le 2 (s.rd (Key.GrpMask.SWATH g) % 65536) ++
    packBits (headBytes (s.rd (Key.Head.NOZZLES h)) d) bits

/-- Send a frame on head link `l` (R269). -/
def sendLink (s : Sys) (l typ port event : Nat) (payload : List Nat) : Sys :=
  (s.inc64 (Key.LinkSt.FRAMES_TX l)).emit (.link l typ (linkFrame typ port event payload))

/-- The slice that holds column `k` of group `g`. -/
def sliceOf (s : Sys) (g k : Nat) : Option Slice := (s.group g).slices.find? (fun sl => decide (sl.col ≤ k ∧ k < sl.col + sl.cols))

/-- PEN sends the DATA of the next event of head `h` (R270), if its link is UP, DEPTH allows it and its column is in the
line buffer; `ok` is the byte parity of the line buffer, a failure of which suppresses the column as SLICE (R283). -/
def dataSend (s : Sys) (h : Nat) (ok : Bool) : Sys :=
  let g := s.rd (Key.Head.GROUP h)
  let l := s.rd (Key.Head.LINK h)
  let q := s.head h
  if !s.rdB (Key.Head.ENABLE h) || decide (s.grpState g ≠ 3) || (s.group g).suppress.isSome || !s.linkUp l ||
      decide (s.rd (Key.Link.DEPTH l) ≤ q.evs.length) then s
  else match s.sliceOf g q.next with
    | none => s
    | some sl =>
      let k := q.next
      if ok then
        let body := s.dataPayload g sl h k
        (s.sendLink l 1 (s.rd (Key.Head.PORT h)) (k % 65536) body).modHead h (fun q => { q with next := k + 1, evs := q.evs ++ [{ col := k, sentAt := s.clk, body := body }] })
      else
        (s.modHead h (fun q => { q with next := k + 1, evs := q.evs ++ [{ col := k, sentAt := s.clk, dead := true, kind := 8 }] })).faultNow 0x32 4 h

/-- An event of head `h` not acknowledged within ACK_TIMEOUT is sent again, up to RETRIES times (R270). -/
def ackExpired (s : Sys) (h : Nat) : Sys :=
  let l := s.rd (Key.Head.LINK h)
  match (s.head h).evs.find? (fun e => !e.acked && !e.dead && decide (e.sentAt + s.rd (Key.Link.ACK_TIMEOUT l) ≤ s.clk)) with
  | none => s
  | some e =>
    let set (f : Ev → Ev) (s : Sys) : Sys := s.modHead h (fun q => { q with evs := q.evs.map (fun x => if x.col = e.col then f x else x) })
    if s.rd (Key.Link.RETRIES l) ≤ e.tries ∨ !s.linkUp l then set (fun x => { x with dead := true }) s
    else
      let s := (s.sendLink l 1 (s.rd (Key.Head.PORT h)) (e.col % 65536) e.body).inc (Key.LinkSt.RETRANSMITS l)
      set (fun x => { x with tries := x.tries + 1, sentAt := s.clk }) (s.inc (Key.HeadSt.RETRIES h))

/-- A pulse from a block to a trigger (R364): discarded unless the trigger is PULSED and TCLK runs. -/
def pulseTrigger (s : Sys) (n : Nat) : Sys :=
  if s.rd (Key.Trig.MODE n) = 3 ∧ s.timeRuns ∧ n < 32 then
    { s with tb := { s.tb with triggers := s.tb.triggers.setIfInBounds n { (s.tb.triggers.getD n {}) with pulse := true } } }
  else s

/-- PRIME_COLS columns of every enabled head are acknowledged (R262), or all of a shorter swath. -/
def primed (s : Sys) (g : Nat) : Bool :=
  let q := s.group g
  let upTo := q.firstCol + s.rd (Key.GrpCfg.PRIME_COLS g)
  let last := if q.complete then min upTo q.endCol else upTo
  q.begun && decide (last ≤ q.endCol) && (s.grpHeads g).all (fun h =>
    ((s.head h).evs.filter (fun e => e.acked && decide (e.col < last))).length == last - q.firstCol)

/-- A primed group pulses its READY_TRIGGER and arms its MTU (R262). -/
def prime (s : Sys) (g : Nat) : Sys :=
  if s.grpState g = 3 ∧ !(s.group g).armed ∧ (s.group g).suppress = none ∧ s.primed g then
    (s.pulseTrigger (s.rd (Key.GrpCfg.READY_TRIGGER g))).mtuArm g
  else s

/-- An ACK frame on link `l` (R269, R270): items of port and EVENT. -/
def acked (s : Sys) (l : Nat) (body : List Nat) : Sys :=
  let s := s.inc64 (Key.LinkSt.FRAMES_RX l)
  let s := s.each (List.range (min 16 (u8At body 0))) (fun s i =>
    let port := u8At body (4 + 4 * i)
    let ev := u16At body (6 + 4 * i)
    s.each ((List.range 32).filter (fun h => s.rdB (Key.Head.ENABLE h) && decide (s.rd (Key.Head.LINK h) = l ∧ s.rd (Key.Head.PORT h) = port))) (fun s h =>
      s.modHead h (fun q => { q with evs := q.evs.map (fun e => if e.col % 65536 = ev then { e with acked := true } else e) })))
  s.each (List.range 4) prime

/-! ### Slices (R259 to R262) -/

/-- Bytes of the stream of group `g` that lie in the ring from its fetch offset. -/
def sliceBytes (s : Sys) (n g : Nat) : Nat := (s.rd (Key.EpSt.NEXT_OFFSET n) + 2 ^ 32 - (s.group g).fetch) % 2 ^ 32

/-- A little-endian field of a slice header in the ring of endpoint `n`, across its end. -/
def sliceField (s : Sys) (n off i k : Nat) : Nat := unle (s.ringBytes n (off + i) k)

/-- The whole length of the slice whose header lies at a stream offset. -/
def sliceSize (s : Sys) (n off : Nat) : Nat := 64 + pad64 (s.sliceField n off 24 4)

/-- Where a slice of `size` bytes can lie in the line buffer of group `g` beside the slices still in use. -/
def linePlace (s : Sys) (g size : Nat) : Option Nat :=
  let q := s.group g
  let low := (s.grpFires g).foldl (fun m f => min m (s.fire f).k) (2 ^ 32)
  let live := q.slices.filter (fun sl => decide (low < sl.col + sl.cols))
  let base := s.rd (Key.GrpCfg.LINE_BUF_ADDR g)
  let free (p : Nat) : Bool := decide (p + size ≤ s.rd (Key.GrpCfg.LINE_BUF_LEN g)) &&
    live.all (fun sl => decide (p + size ≤ sl.at_ - 64 - base ∨ sl.at_ - 64 - base + sl.size ≤ p))
  if free q.bufAt then some q.bufAt else if free 0 then some 0 else none

/-- A slice fault (R261, R283): fetching ends until RESET; what is left of the swath is suppressed as SLICE, and the
group halts at the swath end, or at once outside a swath. -/
def sliceFault (s : Sys) (g code cause : Nat) : Sys :=
  let s := s.modGroup g (fun q => { q with fetchEnd := true, refetched := false, complete := true, haltCause := some cause })
  let s := if s.grpState g = 3 then s.endRest g 8
    else ((s.setGrpState g 6).setGrpCause g cause).modGroup g (fun q => { q with haltCause := none })
  s.faultNow code 3 g

/-- A failed CRC or parity: once more, then SLICE_CHECK (R261, R552). -/
def sliceRetry (s : Sys) (g : Nat) : Sys :=
  if (s.group g).refetched then s.sliceFault g 0x30 2
  else (s.inc (Key.GrpCnt.REFETCHES g)).modGroup g (fun q => { q with refetched := true })

/-- The slice at a line buffer address passes every check but its CRC and SWATH (R261). -/
def sliceGood (s : Sys) (g a : Nat) : Bool :=
  let q := s.group g
  let heads := s.ld (a + 16) 4
  let cols := s.ld (a + 12) 2
  let first := (s.ld (a + 2) 1).testBit 0
  let colBytes := (headsOf heads).foldl (fun t h => t + headBytes (s.rd (Key.Head.NOZZLES h)) (s.rd (Key.Head.DEPTH h))) 0
  decide (s.ld a 2 = 0x5C1E) && decide (s.ld (a + 3) 1 < 16) && (first || decide (s.ld (a + 3) 1 = s.rd (Key.GrpMask.PASS g))) &&
    (headsOf heads).all (fun h => decide (h ∈ s.grpHeads g)) && decide (1 ≤ cols ∧ cols ≤ 4096) &&
    decide (s.ld (a + 24) 4 = cols * colBytes) && decide (first = !q.begun) && (!q.begun || decide (s.ld (a + 8) 4 = q.endCol)) &&
    decide (s.ld (a + 8) 4 ≤ 1048575)

/-- PEN fetches a slice (R261, R262), in the states in which consumers run (R56); `ok` is the byte parity of the read. In resync it discards slices up to the FIRST
slice of FIRST_SWATH. -/
def sliceFetch (s : Sys) (g : Nat) (ok : Bool) : Sys :=
  match s.feeder 2 g with
  | none => s
  | some n =>
    let q := s.group g
    let have_ := s.sliceBytes n g
    if !s.consumersRun ∨ s.grpState g = 0 ∨ s.grpState g = 6 ∨ q.fetchEnd ∨ have_ < 64 ∨ 2 ^ 31 ≤ have_ then s
    else
      let size := s.sliceSize n q.fetch
      let next := (q.fetch + size) % 2 ^ 32
      if s.rdB (Key.Grp.RESYNC g) then
        let r := s.ringRead 0x40 n q.fetch 64 ok
        let s := r.1
        if !r.2 then s.sliceRetry g
        else if (s.sliceField n q.fetch 2 1).testBit 0 ∧ s.sliceField n q.fetch 4 4 = s.rd (Key.Grp.FIRST_SWATH g) then s.wrB (Key.Grp.RESYNC g) false
        else if have_ < size then s
        else ((s.inc (Key.GrpCnt.DISCARDED_SLICES g)).modGroup g (fun q => { q with fetch := next, refetched := false })).release n next
      else if s.grpState g ≠ 3 ∨ q.complete ∨ have_ < size then s
      else match s.linePlace g size with
        | none => if s.rd (Key.GrpCfg.LINE_BUF_LEN g) < size then s.sliceFault g 0x30 2 else s
        | some p =>
          let a := s.rd (Key.GrpCfg.LINE_BUF_ADDR g) + p
          let r := s.ringRead 0x40 n q.fetch size ok
          let w := r.1.grant 0x40 true a size
          let s := if r.2 && w.2 then w.1.setBytes a (s.ringBytes n q.fetch size) else w.1
          let len := s.ld (a + 24) 4
          if !r.2 || !w.2 || decide (s.ld (a + 60) 4 ≠ crc32 (s.bytes a 60 ++ s.bytes (a + 64) len)) then s.sliceRetry g
          else if !s.sliceGood g a then s.sliceFault g 0x30 2
          else
            let first := !q.begun
            let swath := s.ld (a + 4) 4
            if (first && decide (swath ≠ s.rd (Key.Grp.EXPECTED_SWATH g))) || (!first && decide (swath ≠ s.rd (Key.GrpMask.SWATH g))) then s.sliceFault g 0x31 3
            else
              let col := s.ld (a + 8) 4
              let cols := s.ld (a + 12) 2
              let sl : Slice := { col := col, cols := cols, heads := s.ld (a + 16) 4, rowbase := s.ldI (a + 20) 4, at_ := a + 64, size := size, lastOne := (s.ld (a + 2) 1).testBit 1 }
              let s := s.when first (fun s => s.wr (Key.Grp.EXPECTED_SWATH g) ((swath + 1) % 2 ^ 32))
              let s := s.modGroup g (fun q => { q with
                slices := q.slices ++ [sl], bufAt := p + size, endCol := col + cols, begun := true, refetched := false, fetch := next
                complete := sl.lastOne })
              ((s.release n next).flush g).prime g

/-- The start conditions of a swath (R281), with the whole of a FIRST slice next in the ring; in HELD only one with REPAIR (R265). -/
def swathReady (s : Sys) (g n : Nat) : Bool :=
  let q := s.group g
  let flags := s.sliceField n q.fetch 2 1
  decide (s.dev = .armed) && s.domainOn 12 && !q.fetchEnd && !s.rdB (Key.Grp.RESYNC g) && decide (64 ≤ s.sliceBytes n g ∧ s.sliceSize n q.fetch ≤ s.sliceBytes n g) && flags.testBit 0 &&
    !q.pause && !s.gateActs g 2 && (s.grpHeads g).all (fun h => decide (s.rd (Key.HeadTemp.TSTATE h) = 0)) &&
    (decide (s.grpState g = 2) || (decide (s.grpState g = 5) && flags.testBit 2))

/-- The map of head `h` at a fix instant (R220, R239, R240): a due swap is made, or cancelled by a takeover instant since
the fix instant before. -/
def fixMap (s : Sys) (h : Nat) : Sys :=
  let u := 16 + h
  let s :=
    if s.swapDue u s.now then
      if (List.range 2).any (fun e => s.takesIn (128 + 2 * h + e) (s.head h).fixAt s.now) then s.haltUpdate u 2 3
      else s.swapTable u s.now
    else s
  s.modHead h (fun q => { q with fixAt := s.now })

/-- The oldest pattern request of a band is placed in the swath (R234), with its record (R231). -/
def placePattern (s : Sys) (g b : Nat) : Sys :=
  let l := s.cal.patterns.getD g []
  match l.find? (fun p => decide (p.band = b)) with
  | none => s
  | some p =>
    let s := s.setPatterns g (l.erase p)
    let s := (s.inc (Key.Pat.PATTERNS_PLACED g)).modGroup g (fun q => { q with placed := q.placed ++ [p] })
    s.calLog ([2, 1, g, p.kind] ++ le 4 p.id ++ le 8 s.now ++ le 4 (s.bandFirst g b) ++ le 4 (s.rd (Key.GrpMask.SWATH g)) ++ le 4 p.heads ++ le 4 b)

/-- The fix instant of a swath (R220, R262). -/
def fixInstant (s : Sys) (g : Nat) : Sys :=
  match s.feeder 2 g with
  | none => s
  | some n =>
    if !s.swathReady g n then s
    else
      let off := (s.group g).fetch
      let r := s.sliceField n off 3 1 % 16
      let col := s.sliceField n off 8 4
      let s := (s.wr (Key.GrpMask.PASS g) r).wr (Key.GrpMask.SWATH g) (s.sliceField n off 4 4)
      let s := s.modGroup g (fun q => { q with
        mask := s.rd (Key.Pass.MASK g r), rev := s.rdB (Key.Pass.DIR g r), feed := s.rdI (Key.Pass.FEED g r), dx := s.rd (Key.Pass.MASK_DX g r)
        dy := s.rd (Key.Pass.MASK_DY g r), placed := [], suppress := none, slices := [], bufAt := 0, firstCol := col, endCol := col, begun := false
        complete := false, armed := false, spanned := false, heldFeed := none, settleAt := none, haltCause := none, refetched := false })
      let s := s.each (s.grpHeads g) (fun s h => (s.fixMap h).modHead h (fun q => { q with
        evs := [], next := col, span := none, noWave := !s.rdBit (Key.HeadSt.FLAGS h) 0 }))
      let s := s.each (s.grpFires g) (fun s f => s.modFire f (fun q => { q with k := col, due := none, go := [], held := [], commitAt := none }))
      ((s.placePattern g 0).placePattern g 1).setGrpState g 3

/-! ### Group commands (R281) -/

/-- The abort of a group command in the present state (R281), 0 where it is accepted. -/
def grpCmdAbort (s : Sys) (g cmd : Nat) : Nat :=
  let st := s.grpState g
  match cmd with
  | 1 => if s.dev = .config ∨ s.dev = .ready then 0 else 0x0803
  | 2 => if st = 0 ∨ st = 1 ∨ st = 6 then 0 else 0x0803
  | 3 => if s.dev = .armed ∧ st ≠ 0 ∧ st ≠ 5 ∧ st ≠ 6 then 0 else 0x0803
  | 4 => if st = 0 ∨ st = 6 then 0x0803 else 0
  | 5 => if s.dev = .armed ∧ st ≠ 0 ∧ st ≠ 1 ∧ st ≠ 6 then 0 else 0x0803
  | 6 => if st = 0 then 0x0803 else 0
  | 7 => if st = 1 ∨ st = 6 then 0 else 0x0803
  | _ => 0x0604

/-- The slice boundary at or after a stream offset `next`, walking headers from `off`. -/
def sliceBoundary (s : Sys) (n next : Nat) : Nat → Nat → Nat
  | 0, off => off
  | f + 1, off =>
    let left := (next + 2 ^ 32 - off) % 2 ^ 32
    if left < 64 ∨ 2 ^ 31 ≤ left then off else s.sliceBoundary n next f ((off + s.sliceSize n off) % 2 ^ 32)

/-- The line buffer is emptied and resync begins at a stream offset (R261). -/
def grpResync (s : Sys) (g off : Nat) : Sys :=
  let s := s.modGroup g (fun _ => { fetch := off })
  (s.wr (Key.Grp.EXPECTED_SWATH g) (s.rd (Key.Grp.FIRST_SWATH g))).wrB (Key.Grp.RESYNC g) true

/-- PEN faults of a group and its heads whose condition is gone clear (R283). -/
def headClear (s : Sys) (h : Nat) : Sys :=
  let s := s.when (decide (s.rd (Key.HeadTemp.TSTATE h) = 0)) (fun s => s.clearActive 0x37 4 h)
  let s := s.when (decide (s.rd (Key.HeadTemp.TSTATE h) ≠ 2)) (fun s => s.clearActive 0x38 4 h)
  let s := s.when (!(s.head h).sensorLost) (fun s => s.clearActive 0x39 4 h)
  let s := (s.clearActive 0x32 4 h).when (!s.rdBit (Key.HeadSt.FLAGS h) 3) (fun s => s.clearActive 0x3A 4 h)
  s.when (s.linkUp (s.rd (Key.Head.LINK h))) (fun s => (s.clearActive 0x35 10 (s.rd (Key.Head.LINK h))).clearActive 0x36 10 (s.rd (Key.Head.LINK h)))

/-- RESET of a group (R261, R281): resync as R112, from the slice boundary at or after NEXT_OFFSET. -/
def grpReset (s : Sys) (g : Nat) : Sys :=
  let s := s.when (s.group g).suppress.isSome (fun s => s.swathClose g)
  let s := match s.feeder 2 g with
    | some n =>
      let next := s.rd (Key.EpSt.NEXT_OFFSET n)
      (s.grpResync g (s.sliceBoundary n next 65536 (s.group g).fetch)).release n next
    | none => s.grpResync g 0
  let s := s.each [0x30, 0x31, 0x34] (fun s k => s.clearActive k 3 g)
  let s := s.each ((List.range 16).filter (fun f => s.rdBit (Key.Grp.FIRE_MASK g) f && !s.ballDiffers (32 + f))) (fun s f => s.clearActive 0x6D 13 f)
  let s := s.each ((List.range 12).filter (fun n => !s.rdBit Key.GateIn.GATE_ACTIVE n)) (fun s n => s.clearActive 0x3B 0 n)
  (s.each (s.grpHeads g) headClear).setGrpState g 1

/-- The effect of an accepted group command (R281). -/
def grpCmd (s : Sys) (g cmd : Nat) : Sys :=
  let st := s.grpState g
  match cmd with
  | 1 => if st = 0 then
      (s.grpResync g ((s.feeder 2 g).elim 0 (fun n => s.rd (Key.EpSt.RELEASE_OFFSET n)))).setGrpState g 1
    else s
  | 2 => if st = 1 ∨ st = 6 then (s.when (s.group g).suppress.isSome (fun s => s.swathClose g)).setGrpState g 0 else s
  | 3 => if st = 1 then
      match (s.group g).heldFeed with
      | some n => s.grpFeed g n
      | none => s.setGrpState g 2
    else s
  | 4 =>
    if st = 2 then s.setGrpState g 1
    else if st = 3 ∨ st = 4 then s.modGroup g (fun q => { q with pause := true })
    else if st = 5 then s.setGrpState g 1
    else s
  | 5 =>
    if st = 3 ∨ st = 4 then s.modGroup g (fun q => { q with pause := false })
    else if st = 5 then s.grpFeed g ((s.group g).heldFeed.getD 0)
    else s
  | 6 => let printing := decide (st = 3)
    (s.grpStop g 1).when printing (fun s => s.swathClose g)
  | 7 => if st = 1 ∨ st = 6 then s.grpReset g else s
  | _ => s

/-! ### Checks (R248, R266, R284) -/

/-- The address of picot set `w`. -/
def picotAddr (s : Sys) (w : Nat) : Nat := s.rd Key.Picot.SETS_ADDR + 1088 * w

/-- The length of waveform `i` of a set at an address, in units of 10 ns (R266). -/
def waveTime (s : Sys) (a i : Nat) : Nat :=
  ((List.range 32).foldl (fun (acc : Nat × Bool) j =>
    let d := s.ld (a + 128 * i + 4 * j) 4 % 4096
    if acc.2 || decide (d = 0) then (acc.1, true) else (acc.1 + d, false)) (0, false)).1

/-- The CRC of a set at an address holds (R266). -/
def picotCrcOk (s : Sys) (a : Nat) : Bool := decide (s.ld (a + 1032) 4 = crc32 (s.bytes a 1032))

/-- Head `h` passes the picot check (R266); `ok` is the byte parity of the read (R552). -/
def headPicotOk (s : Sys) (h : Nat) (ok : Bool) : Bool :=
  let a := s.picotAddr (s.rd (Key.Head.WAVESET h))
  let used := (List.range (2 ^ s.rd (Key.Head.DEPTH h))).filter (fun v => decide (v ≠ 0) || s.rdB (Key.Head.TICKLE h))
  ok && s.picotCrcOk a && used.all (fun w => decide (s.ld (a + 128 * w) 4 % 4096 ≠ 0)) &&
    (List.range 8).all (fun w => decide (10 * s.waveTime a w + 1000 ≤ s.rd (Key.GrpCfg.MIN_PERIOD (s.rd (Key.Head.GROUP h)))))

/-- The check of picot set `w` (R266): its CRC, and the checks of the enabled heads that use it. -/
def picotCheck (s : Sys) (w : Nat) (ok : Bool) : Sys :=
  let g := s.readOk 0x40 (s.picotAddr w) 1088 ok
  let s := g.1
  let ok := g.2
  s.wrBit Key.Picot.SET_OK w (ok && s.picotCrcOk (s.picotAddr w) &&
    (List.range 32).all (fun h => !s.rdB (Key.Head.ENABLE h) || decide (s.rd (Key.Head.WAVESET h) ≠ w) || s.headPicotOk h true))

/-- Events per second times a count of bits, for group `g`, in thousandths (R284). -/
def loadOf (s : Sys) (g bits : Nat) : Nat := bits * 1000000000000 / max 1 (s.rd (Key.GrpCfg.MIN_PERIOD g))

/-- The enabled groups. -/
def grpsOn (s : Sys) : List Nat := (List.range 4).filter (fun g => decide (s.grpState g ≠ 0))

/-- The sum of R284 over all enabled heads, in thousandths of bit/s. -/
def nozzleLoad (s : Sys) : Nat :=
  (s.grpsOn.flatMap (fun g => (s.grpHeads g).map (fun h => s.loadOf g (s.rd (Key.Head.NOZZLES h) * s.rd (Key.Head.DEPTH h))))).foldl (fun a b => a + b) 0

/-- The load of head link `l` (R284), in thousandths of bit/s. -/
def linkLoad (s : Sys) (l : Nat) : Nat :=
  (s.grpsOn.flatMap (fun g => ((s.grpHeads g).filter (fun h => decide (s.rd (Key.Head.LINK h) = l))).map (fun h =>
    s.loadOf g (8 * (headBytes (s.rd (Key.Head.NOZZLES h)) (s.rd (Key.Head.DEPTH h)) + 34))))).foldl (fun a b => a + b) 0

/-- The loads as entries show them (R284). -/
def showLoads (s : Sys) : Sys :=
  let s := s.wr Key.Pen.NOZZLE_LOAD (s.nozzleLoad / 1000)
  s.each (List.range 8) (fun s l => s.wr (Key.Link.LOAD l) (s.linkLoad l / 1000000000))

/-- The entries at fault in the print engine (R203, R246, R248, R251, R275, R284, R366), in the order of the rules;
`bad` are the picot sets whose read has bad parity. -/
def penFaults (s : Sys) (bad : Nat) : List Nat :=
  let on := s.grpsOn
  let hs := (List.range 32).filter (fun h => s.rdB (Key.Head.ENABLE h))
  let eps (g : Nat) : Nat := ((List.range 8).filter (fun n => s.rdB (Key.Ep.ENABLE n) && decide (s.rd (Key.Ep.CONSUMER n) = 2 ∧ s.rd (Key.Ep.CONSUMER_INDEX n) = g))).length
  let inTwo (f : Nat) : Bool := decide (1 < ((List.range 4).filter (fun g => s.rdBit (Key.Grp.FIRE_MASK g) f)).length)
  on.flatMap (fun g =>
    let m := s.rd (Key.Grp.MTU g)
    let colBytes := (s.grpHeads g).foldl (fun n h => n + headBytes (s.rd (Key.Head.NOZZLES h)) (s.rd (Key.Head.DEPTH h))) 0
    failing [(decide (4 ≤ m ∨ s.rd (Key.Mtu.MODE m) ≠ 0), Key.Grp.MTU g),
      (decide (s.rd (Key.GrpCfg.LINE_BUF_LEN g) < 2 * (64 + pad64 colBytes)), Key.GrpCfg.LINE_BUF_LEN g)]) ++
  (List.range 4).flatMap (fun g =>
    let t := s.rd (Key.GrpCfg.READY_TRIGGER g)
    failing [(decide (t < 32 ∧ s.rd (Key.Trig.MODE t) ≠ 3), Key.Trig.MODE t)]) ++
  (List.range 4).flatMap (fun g => failing [((List.range 16).any (fun f => s.rdBit (Key.Grp.FIRE_MASK g) f && inTwo f), Key.Grp.FIRE_MASK g)]) ++
  failing [(decide (on.length ≠ ((List.range 4).filter (fun g => decide (eps g ≠ 0))).length), Key.Ep.CONSUMER 0)] ++
  hs.flatMap (fun h =>
    let g := s.rd (Key.Head.GROUP h)
    failing [(!s.rdBit (Key.Grp.FIRE_MASK g) (s.rd (Key.Head.FIRE h)), Key.Head.FIRE h), (decide (s.grpState g = 0), Key.Head.GROUP h),
      (hs.any (fun i => decide (i < h ∧ s.rd (Key.Head.LINK i) = s.rd (Key.Head.LINK h) ∧ s.rd (Key.Head.PORT i) = s.rd (Key.Head.PORT h))), Key.Head.PORT h),
      (!s.rdB (Key.Link.ENABLE (s.rd (Key.Head.LINK h))), Key.Head.LINK h), (!s.headPicotOk h (!bad.testBit (s.rd (Key.Head.WAVESET h))), Key.Head.WAVESET h),
      (!s.rdBit (Key.HeadSt.FLAGS h) 0, Key.HeadSt.FLAGS h)]) ++
  (List.range 32).flatMap (fun h => failing [(s.rdB (Key.Map.MAP_ENABLE h) && !s.rdB (Key.Map.MAP_OK h), Key.Map.MAP_OK h)]) ++
  (List.range 32).flatMap (fun h => s.endFaults h) ++
  failing [(decide (25000000000000 < s.nozzleLoad), Key.Pen.NOZZLE_LOAD)] ++
  (List.range 8).flatMap (fun l => failing [(decide ((if s.rdB (Key.Link.RATE l) then 10000000000000 else 5000000000000) < s.linkLoad l), Key.Link.RATE l)])

end Sys

/-- FIX_INSTANT (R220, R262). -/
def execFixInstant (g : Fin 4) (s : State) : Host.Outcome State Fault Refusal := onBlock 12 (fun s => s.fixInstant g) s

/-- SLICE_FETCH (R261): `ok` is the byte parity of the read. -/
def execSliceFetch (g : Fin 4) (ok : Bool) (s : State) : Host.Outcome State Fault Refusal := onBlock 12 (fun s => s.sliceFetch g ok) s

/-- DATA_SEND (R270): `ok` is the byte parity of the line buffer. -/
def execDataSend (h : Fin 32) (ok : Bool) (s : State) : Host.Outcome State Fault Refusal := onBlock 12 (fun s => s.dataSend h ok) s

/-- ACK (R270): the payload of the frame. -/
def execAckFrame (l : Fin 8) (body : List Nat) (s : State) : Host.Outcome State Fault Refusal := onBlock 12 (fun s => s.acked l body) s

/-- ACK_TIMEOUT (R270). -/
def execAckTimeout (h : Fin 32) (s : State) : Host.Outcome State Fault Refusal := onBlock 12 (fun s => s.ackExpired h) s

end Sys2Proof.Machine
end

