-- ==== Sys2Proof/Machine/HeadLink.lean ====
section
/-! DEFINITION. HeadLink: what head boards send (R269 to R273, R280), head link states (R268), head temperatures and gate inputs (R277, R278), and picot sets (R266, R267). -/

namespace Sys2Proof.Machine

open Sys2Proof

/-- The base-2 logarithm of `n / d` with 32 fraction bits, truncated. -/
def log2Fix (n d : Nat) : Int :=
  let e : Int := (Nat.log2 (n * 2 ^ 64 / d) : Int) - 64
  let m : Nat := if 0 ≤ e then n * 2 ^ 40 / (d * 2 ^ e.toNat) else n * 2 ^ (40 + (-e).toNat) / d
  let r := iter (fun (p : Nat × Nat) =>
    let q := p.1 * p.1 / 2 ^ 40
    if 2 ^ 41 ≤ q then (q / 2, 2 * p.2 + 1) else (q, 2 * p.2)) 32 (m, 0)
  e * 2 ^ 32 + r.2

/-- The natural logarithm of `n / d` with 32 fraction bits: ln 2 is 2,977,044,472 / 2^32. -/
def lnFix (n d : Nat) : Int := log2Fix n d * 2977044472 / 2 ^ 32

/-- The temperature in 1/16 degree C of a thermistor that reads a 12-bit code, by its pull-up, its resistance at 25 degrees
and BETA (R277); none where the code gives no temperature. -/
def thermistor (code pullup ntc beta : Nat) : Option Int :=
  if code = 0 ∨ 4096 ≤ code ∨ ntc = 0 ∨ beta = 0 then none
  else
    let l := lnFix (pullup * code) ((4096 - code) * ntc)
    let den : Int := 100 * beta * 2 ^ 32 + 29815 * l
    if den ≤ 0 then none
    else some (rdiv (16 * (29815 * beta * 2 ^ 32 * 100 - 27315 * den)) (100 * den.toNat))

namespace Sys

/-! ### Link states (R268, R273) -/

/-- The enabled heads of link `l`. -/
def linkHeads (s : Sys) (l : Nat) : List Nat := (List.range 32).filter (fun h => s.rdB (Key.Head.ENABLE h) && decide (s.rd (Key.Head.LINK h) = l))

/-- Send picot set `w` over link `l` (R269, R273). -/
def sendSet (s : Sys) (l w : Nat) : Sys :=
  let g := s.grant 0x40 false (s.picotAddr w) 1088
  if !s.linkUp l then s else if g.2 then g.1.sendLink l 2 0 0 ([w, 0, 0, 0] ++ g.1.bytes (s.picotAddr w) 1088) else g.1

/-- Link `l` enters UP (R268, R273): the sets that its heads use are sent. -/
def linkRise (s : Sys) (l : Nat) : Sys :=
  let s := s.wr (Key.Link.STATE l) 3
  let s := s.each (s.linkHeads l) (fun s h => s.wrBit (Key.HeadSt.FLAGS h) 1 true)
  s.each ((List.range 32).filter (fun w => (s.linkHeads l).any (fun h => decide (s.rd (Key.Head.WAVESET h) = w)))) (fun s w => s.sendSet l w)

/-- Link `l` leaves UP or its training (R268, R273): its heads have no data from the next Commit on. -/
def linkFall (s : Sys) (l st : Nat) : Sys :=
  let up := s.linkUp l
  let s := (s.wr (Key.Link.STATE l) st).modLink l (fun q => { q with trained := false })
  if up then
    let s := s.inc (Key.LinkSt.DOWN_EVENTS l)
    let s := s.each (s.linkHeads l) (fun s h => (s.wrBit (Key.HeadSt.FLAGS h) 1 false).wrBit (Key.HeadSt.FLAGS h) 0 false)
    s.faultNow 0x35 10 l
  else s

/-- ENABLE of link `l` is written (R268, R273). -/
def linkEnable (s : Sys) (l v : Nat) : Sys :=
  if v = 0 then s.linkFall l 0 else if s.rd (Key.Link.STATE l) = 0 then s.wr (Key.Link.STATE l) 1 else s

/-- LANE or RATE of link `l` has changed: a link in use leaves UP, and trains again (R268). -/
def linkMoved (s : Sys) (l : Nat) : Sys :=
  if s.rdB (Key.Link.ENABLE l) then
    let s := s.linkFall l 1
    let k := s.rd (Key.Link.LANE l)
    let s := s.when (decide (s.rd (Key.Lane.STAGE k) = 2 ∨ s.rd (Key.Lane.STAGE k) = 3)) (fun s => s.inc (Key.LaneCnt.TRAIN_FAILS k))
    s.when (decide (s.rd (Key.Lane.STAGE k) ≠ 0)) (fun s => s.laneStage k 1)
  else s

/-- LINK_UP of a head (R268). -/
def showLink (s : Sys) (h : Nat) : Sys :=
  s.wrBit (Key.HeadSt.FLAGS h) 1 (s.rdB (Key.Head.ENABLE h) && s.linkUp (s.rd (Key.Head.LINK h)))

/-- A Heartbeat of the head board (R268): its link version, DEPTH and ports. -/
def linkBeat (s : Sys) (l depth ports : Nat) : Sys :=
  if s.rd (Key.Link.STATE l) < 2 then s
  else
    let s := ((s.wr (Key.Link.DEPTH l) depth).wr (Key.Link.PORTS l) (ports % 16)).modLink l (fun q => { q with heardAt := s.clk })
    if s.rd (Key.Link.STATE l) = 2 ∧ (s.hlink l).trained then s.linkRise l else s

/-- No heartbeat for 40 us (R268). -/
def linkSilent (s : Sys) (l : Nat) : Sys :=
  if s.linkUp l && decide ((s.hlink l).heardAt + 40000 ≤ s.clk) then (s.linkFall l 1).laneStage (s.rd (Key.Link.LANE l)) 1 else s

/-- PEN's Heartbeat on link `l` (R268). -/
def linkBeatSend (s : Sys) (l : Nat) : Sys :=
  if s.linkUp l || (s.hlink l).trained then s.emit (.link l 0x101 [1, 0, 0]) else s

/-- A CRC error on link `l` (R269); sixteen within 1 ms raise HEAD_LINK_CRC and empty the count (R273). -/
def linkCrc (s : Sys) (l : Nat) : Sys :=
  let s := s.inc (Key.LinkSt.CRC_ERRORS l)
  let times := s.clk :: ((s.hlink l).crcTimes.filter (fun t => decide (s.clk < t + 1000000)))
  let burst := decide (16 ≤ times.length)
  (s.modLink l (fun q => { q with crcTimes := if burst then [] else times })).when burst (fun s => s.faultNow 0x36 10 l)

/-- A malformed frame on link `l`, which is discarded (R269): 0 a bad HCRC, 1 a bad CRC-32 or end (R80 cases 1, 6 and 7); 2 a frame that
arrives with bad end, which no counter counts (case 8); 3 an unknown type, which counts as a frame received (DESIGN CHOICE, log entry 51). -/
def linkBad (s : Sys) (l kind : Nat) : Sys :=
  if !s.linkUp l then s
  else match kind with
    | 0 => s.linkCrc l
    | 1 => s.linkCrc l
    | 2 => s
    | _ => s.inc64 (Key.LinkSt.FRAMES_RX l)

/-! ### Frames from the board (R269, R272, R273, R280) -/

/-- The column that an EVENT of the board names: the one at or before the last column fired. -/
def eventColumn (s : Sys) (g ev : Nat) : Nat :=
  let last := s.rd (Key.GrpMask.COLUMN g)
  let back := (last + 65536 - ev % 65536) % 65536
  if back ≤ last then last - back else ev % 65536

/-- The columns of `n` misses that head `h` reports at once (R272): the last is LAST_MISS. STATUS does not give those of the misses before
it: each is open (DESIGN CHOICE, log entry 51). -/
def missColumns (s : Sys) (h n ev : Nat) : List Nat :=
  if n = 0 then []
  else (List.range (n - 1)).map (fun (j : Nat) => (Config.openValue 8 [(s.free : Int), (h : Int), (j : Int)]).toNat % 2 ^ 20) ++
    [s.eventColumn (s.rd (Key.Head.GROUP h)) ev]

/-- The part of a STATUS frame that belongs to head `h` (R269, R272): 16 bytes at `i`. -/
def headStatus (s : Sys) (h i : Nat) (body : List Nat) : Sys :=
  let flags := u8At body (i + 2)
  let misses := u16At body (i + 4)
  let fresh := (misses + 65536 - (s.head h).misses) % 65536
  let was := s.rdBit (Key.HeadSt.FLAGS h) 3
  let s := s.modHead h (fun q => { q with statusTemp := if flags.testBit 0 then some (sext 16 (u16At body i)) else none, misses := misses })
  let s := ((s.wrBit (Key.HeadSt.FLAGS h) 2 (flags.testBit 1)).wrBit (Key.HeadSt.FLAGS h) 3 (flags.testBit 2)).add (Key.HeadSt.COMMIT_MISSES h) 32 fresh
  let s := s.when (decide (1 < fresh)) useFree
  let s := s.each (s.missColumns h fresh (u16At body (i + 6))) (fun s k => s.spanRecord (s.rd (Key.Head.GROUP h)) h 7 k k s.now)
  s.when (flags.testBit 2 && !was) (fun s => s.faultNow 0x3A 4 h)

/-- A STATUS frame on link `l` (R269). -/
def linkStatus (s : Sys) (l : Nat) (body : List Nat) : Sys :=
  if !s.linkUp l then s
  else
    let s := s.inc64 (Key.LinkSt.FRAMES_RX l)
    (s.each (s.linkHeads l) (fun s h => s.headStatus h (16 * s.rd (Key.Head.PORT h)) body)).showGates

/-- A NOZZLE frame on link `l` (R280): a record for each item, and the count of failed nozzles. -/
def linkNozzle (s : Sys) (l : Nat) (body : List Nat) : Sys :=
  if !s.linkUp l then s
  else
    let s := s.inc64 (Key.LinkSt.FRAMES_RX l)
    s.each ((s.linkHeads l).filter (fun h => decide (s.rd (Key.Head.PORT h) = u8At body 0))) (fun s h =>
      s.each (List.range (min 64 (u8At body 1))) (fun s i =>
        let w := u16At body (4 + 2 * i)
        let n := w % 4096
        let bad := w.testBit 15
        let s := s.modHead h (fun q => { q with failed := if bad then (if n ∈ q.failed then q.failed else q.failed ++ [n]) else q.failed.filter (fun x => decide (x ≠ n)) })
        let s := s.wr (Key.HeadSt.FAILED_NOZZLES h) (s.head h).failed.length
        (s.ringRecord 0x40 Key.Nz.NZ_ADDR Key.Nz.NZ_LEN Key.Nz.NZ_HEAD Key.Nz.NZ_TAIL Key.Nz.NZ_LOST
          ([h, if bad then 1 else 2] ++ le 2 n ++ [0, 0, 0, 0] ++ le 8 s.now)).raise 33))

/-- A WACK frame on link `l` (R273): WAVE_OK of the heads that use the set, where the CRC loaded is the set's. -/
def linkWack (s : Sys) (l : Nat) (body : List Nat) : Sys :=
  if !s.linkUp l then s
  else
    let s := s.inc64 (Key.LinkSt.FRAMES_RX l)
    let w := u8At body 0
    let good := decide (u8At body 1 = 0 ∧ u32At body 4 = s.ld (s.picotAddr w + 1032) 4)
    if good then s.each ((s.linkHeads l).filter (fun h => decide (s.rd (Key.Head.WAVESET h) = w))) (fun s h => s.wrBit (Key.HeadSt.FLAGS h) 0 true) else s

/-- A CTRL_RSP frame on link `l` (R269): it completes the access under way. -/
def ctrlDone (s : Sys) (l : Nat) (body : List Nat) : Sys :=
  if !s.linkUp l then s
  else
    let s := s.inc64 (Key.LinkSt.FRAMES_RX l)
    if (s.hlink l).ctrlAt.isNone then s
    else ((s.wr (Key.LinkSt.CTRL_VALUE l) (u32At body 4)).wr (Key.LinkSt.CTRL_STATUS l) (u16At body 8)).modLink l (fun q => { q with ctrlAt := none })

/-- CTRL_COMMAND (R269): 0x0805 while an access is under way. -/
def ctrlAbort (s : Sys) (l : Nat) : Nat := if (s.hlink l).ctrlAt.isSome then 0x0805 else 0

/-- CTRL_COMMAND sends its CTRL frame (R269). -/
def ctrlSend (s : Sys) (l : Nat) (read : Bool) : Sys :=
  let p := s.rd (Key.LinkSt.CTRL_PORT l)
  let s := s.when (s.linkUp l) (fun s =>
    s.sendLink l 3 p 0 ([p, b2n read] ++ le 2 (s.rd (Key.LinkSt.CTRL_REG l)) ++ le 4 (s.rd (Key.LinkSt.CTRL_VALUE l))))
  s.modLink l (fun q => { q with ctrlAt := some s.clk })

/-- No CTRL_RSP within 10 ms (R269). -/
def ctrlExpired (s : Sys) (l : Nat) : Sys :=
  match (s.hlink l).ctrlAt with
  | some t => if t + 10000000 ≤ s.clk then (s.wr (Key.LinkSt.CTRL_STATUS l) 0xFFFF).modLink l (fun q => { q with ctrlAt := none }) else s
  | none => s

/-! ### Temperatures (R277) -/

/-- The reading of the source of head `h`, from a converter code where it is a thermistor. -/
def headReading (s : Sys) (h code : Nat) : Sys × Option Int :=
  let src := s.rd (Key.HeadTemp.TEMP_SRC h)
  if src = 0 then (s, if s.linkUp (s.rd (Key.Head.LINK h)) then (s.head h).statusTemp else none)
  else
    let n := src - 1
    match thermistor code (s.rd (Key.Th.PULLUP n)) (s.rd (Key.Th.NTC_25 n)) (s.rd (Key.Th.BETA n)) with
    | some t => (s.wrI (Key.Th.TEMP n) t, some t)
    | none => (s, none)

/-- The source of head `h` is written (R277): none ends its supervision, any other has 10 ms for its first reading. -/
def headTempSource (s : Sys) (h : Nat) : Sys :=
  if s.rd (Key.HeadTemp.TEMP_SRC h) = 0xFF then
    (((s.wrI (Key.HeadTemp.TEMP h) 0).wr (Key.HeadTemp.TSTATE h) 0).modHead h (fun q => { q with sensorLost := false })).showGates
  else s.modHead h (fun q => { q with validAt := s.clk })

/-- The 1 ms reading of head `h` (R277); `code` is the converter's, for a thermistor. -/
def headTemp (s : Sys) (h code : Nat) : Sys :=
  if !s.domainOn 12 then s
  else if s.rd (Key.HeadTemp.TEMP_SRC h) = 0xFF then s.headTempSource h
  else
    let (s, r) := s.headReading h code
    let on := s.rdB (Key.Head.ENABLE h)
    let st := s.rd (Key.HeadTemp.TSTATE h)
    let s := match r with
      | none =>
        if on && !(s.head h).sensorLost && decide ((s.head h).validAt + 10000000 ≤ s.clk) then
          ((s.modHead h (fun q => { q with sensorLost := true })).wr (Key.HeadTemp.TSTATE h) 2).faultNow 0x39 4 h
        else s
      | some t =>
        let s := (s.wrI (Key.HeadTemp.TEMP h) t).modHead h (fun q => { q with validAt := s.clk, sensorLost := false })
        if !on then s
        else if s.rdI (Key.HeadTemp.HARD h) ≤ t then (if st = 2 then s else (s.wr (Key.HeadTemp.TSTATE h) 2).faultNow 0x38 4 h)
        else if st = 2 then (if s.grpState (s.rd (Key.Head.GROUP h)) = 3 then s else s.leaveHard h)
        else if s.rdI (Key.HeadTemp.WARN h) ≤ t then (if st = 1 then s else (s.wr (Key.HeadTemp.TSTATE h) 1).faultNow 0x37 4 h)
        else if t < s.rdI (Key.HeadTemp.WARN h) - (s.rd (Key.HeadTemp.HYST h) : Int) then s.wr (Key.HeadTemp.TSTATE h) 0
        else s
    s.showGates

/-! ### Gate inputs (R278) -/

/-- The input GATE[n] as its entry configures it, brought up to date with its level (R278). -/
def gateEval (s : Sys) (n : Nat) : Sys :=
  let w := s.rd (Key.GateIn.GATE n)
  let active := w.testBit 0 && (s.pads.gate.testBit n != w.testBit 1)
  let was := s.rdBit Key.GateIn.GATE_ACTIVE n
  let s := (s.wrBit Key.GateIn.GATE_ACTIVE n active).showGates
  if active && !was && decide (w / 4 % 4 ≠ 0) then
    let s := s.when (decide (w / 4 % 4 = 3)) (fun s =>
      s.each (List.range 4) (fun s g => s.when (w.testBit (4 + g)) (fun s => s.grpStop g 6)))
    s.faultNow 0x3B 0 n
  else s

/-- The input GATE[n] has changed, after its filter (R278, R367). -/
def gateInput (s : Sys) (n : Nat) (level : Bool) : Sys :=
  let s := s.capturePin (0x10 + n) level
  let s : Sys := { s with pads := { s.pads with gate := putBit s.pads.gate n level } }
  if s.runs 12 then s.gateEval n else s

/-! ### Picot sets (R266, R267) -/

/-- The retained copy of picot set `w` (R267). -/
def picotSlot (w : Nat) : Nat := 0x20800000 + 0x22B000 + 0x480 * w

/-- STORE writes the retained copy of the selected set through CAL's staging slot (R222, R267); `ok` tells whether its
verification passes. -/
def picotStore (s : Sys) (ok : Bool) : Sys :=
  let w := s.rd Key.Picot.SEL
  if ok then
    let head := le 4 0x50494331 ++ [w] ++ List.replicate 59 0
    let image := s.bytes (s.picotAddr w) 1088
    let s := (s.setBytes (stagingAddr + 64) image).setBytes stagingAddr head
    let s := (s.setBytes (picotSlot w + 64) image).setBytes (picotSlot w) head
    (s.setBytes stagingAddr [0, 0, 0, 0]).wrBit Key.Picot.COPY_OK w true
  else ((s.slotSpoilt stagingAddr 1088).wrBit Key.Picot.COPY_OK w false).faultNow 0x2B 0 0

/-- PEN loads the picot sets during START (R267, R223). -/
def picotRestore (s : Sys) : Sys :=
  if s.rd Key.Picot.SETS_ADDR = 0 then s
  else s.each (List.range 32) (fun s w =>
    let a := picotSlot w
    let staged := decide (s.ld stagingAddr 4 = 0x50494331 ∧ s.ld (stagingAddr + 4) 1 = w) && s.picotCrcOk (stagingAddr + 64)
    if decide (s.ld a 4 = 0x50494331 ∧ s.ld (a + 4) 1 = w) && s.picotCrcOk (a + 64) then
      ((s.deviceWrite 0x40 (s.picotAddr w) (s.bytes (a + 64) 1088)).wrBit Key.Picot.COPY_OK w true).wrBit Key.Picot.SET_OK w true
    else if staged then
      let image := s.bytes (stagingAddr + 64) 1088
      (((s.setBytes (a + 64) image).setBytes a (s.bytes stagingAddr 64)).deviceWrite 0x40 (s.picotAddr w) image |>.wrBit Key.Picot.COPY_OK w true).wrBit Key.Picot.SET_OK w true
    else
      let s := (s.wrBit Key.Picot.COPY_OK w false).wrBit Key.Picot.SET_OK w false
      s.when (decide (s.ld a 4 = 0x50494331 ∨ (s.ld stagingAddr 4 = 0x50494331 ∧ s.ld (stagingAddr + 4) 1 = w))) (fun s => s.faultNow 0x2C 0 0))

/-- SEND gives the selected set to every link with a head that uses it (R273). -/
def picotSend (s : Sys) : Sys :=
  let w := s.rd Key.Picot.SEL
  s.each ((List.range 8).filter (fun l => (s.linkHeads l).any (fun h => decide (s.rd (Key.Head.WAVESET h) = w)))) (fun s l => s.sendSet l w)

/-- CHECK checks every set (R266); bit w of `bad` is a parity error in the read of set w (R552). -/
def picotCheckAll (s : Sys) (bad : Nat) : Sys := s.each (List.range 32) (fun s w => s.picotCheck w (!bad.testBit w))

end Sys

/-- STATUS (R269, R272): the payload of the frame. -/
def execStatusFrame (l : Fin 8) (body : List Nat) (s : State) : Host.Outcome State Fault Refusal := onBlock 12 (fun s => s.linkStatus l body) s

/-- NOZZLE (R280). -/
def execNozzleFrame (l : Fin 8) (body : List Nat) (s : State) : Host.Outcome State Fault Refusal := onBlock 12 (fun s => s.linkNozzle l body) s

/-- WACK (R273). -/
def execWackFrame (l : Fin 8) (body : List Nat) (s : State) : Host.Outcome State Fault Refusal := onBlock 12 (fun s => s.linkWack l body) s

/-- CTRL_RSP (R269). -/
def execCtrlRsp (l : Fin 8) (body : List Nat) (s : State) : Host.Outcome State Fault Refusal := onBlock 12 (fun s => s.ctrlDone l body) s

/-- LINK_HEARTBEAT (R268). -/
def execLinkHeartbeat (l : Fin 8) (depth ports : Nat) (s : State) : Host.Outcome State Fault Refusal := onBlock 12 (fun s => s.linkBeat l depth ports) s

/-- LINK_HEARTBEAT_TIMEOUT (R268). -/
def execLinkHeartbeatTimeout (l : Fin 8) (s : State) : Host.Outcome State Fault Refusal := onBlock 12 (fun s => s.linkSilent l) s

/-- LINK_HEARTBEAT_SEND (R268). -/
def execLinkHeartbeatSend (l : Fin 8) (s : State) : Host.Outcome State Fault Refusal := onBlock 12 (fun s => s.linkBeatSend l) s

/-- MALFORMED_LINK_FRAME (R269). -/
def execMalformedLinkFrame (l : Fin 8) (kind : Fin 4) (s : State) : Host.Outcome State Fault Refusal := onBlock 12 (fun s => s.linkBad l kind) s

/-- CTRL_TIMEOUT (R269). -/
def execCtrlTimeout (l : Fin 8) (s : State) : Host.Outcome State Fault Refusal := onBlock 12 (fun s => s.ctrlExpired l) s

/-- HEAD_TEMP_READING (R277). -/
def execHeadTempReading (h : Fin 32) (code : Fin 4096) (s : State) : Host.Outcome State Fault Refusal := onBlock 12 (fun s => s.headTemp h code) s

/-- GATE_INPUT_CHANGE (R278). -/
def execGateInputChange (n : Fin 12) (level : Bool) (s : State) : Host.Outcome State Fault Refusal := 
  onUnit (fun s => if s.powered then s.gateInput n level else { s with pads := { s.pads with gate := putBit s.pads.gate n level } }) s

end Sys2Proof.Machine
end

