-- ==== Sys2Proof/Machine/Stitch.lean ====
section
/-! DEFINITION. Stitch: the states of stitch zones and head overlaps, takeover, JOIN and the reports of both (R204 to R216, R276). A zone or overlap end is numbered w: 8 c + z for zone z of channel c, 128 + 2 h + e for end e of head h. -/

namespace Sys2Proof.Machine

open Sys2Proof

/-! ### Keys of a zone or an overlap end (R215, R276) -/

/-- The channel or head of `w`, and its zone or end. -/
def zwOwner (w : Nat) : Nat := if w < 128 then w / 8 else (w - 128) / 2
def zwPart (w : Nat) : Nat := if w < 128 then w % 8 else (w - 128) % 2

/-- An entry of a zone where `w` is one, and the like entry of an overlap end. -/
def zwKey (zone end_ : Nat → Nat → Nat) (w : Nat) : Nat := if w < 128 then zone (zwOwner w) (zwPart w) else end_ (zwOwner w) (zwPart w)

def zwEnable (w : Nat) : Nat := zwKey Key.Zone.ENABLE Key.HeadEnd.ENABLE w
def zwState (w : Nat) : Nat := zwKey Key.Zone.STATE Key.HeadEnd.STATE w
def zwEvent (w : Nat) : Nat := zwKey Key.Zone.EVENT_TIME Key.HeadEnd.EVENT_TIME w
def zwJoin (w : Nat) : Nat := zwKey Key.Zone.JOIN_TIME Key.HeadEnd.JOIN_TIME w
def zwArm (w : Nat) : Nat := zwKey Key.Zone.TAKEOVER_ARM Key.HeadEnd.TAKEOVER_ARM w
def zwTakes (w : Nat) : Nat := zwKey Key.Zone.TAKEOVERS Key.HeadEnd.TAKEOVERS w
def zwAddr (w : Nat) : Nat := zwKey Key.Zone.PARTNER_ADDR Key.HeadEnd.PARTNER_ADDR w
def zwPartner (w : Nat) : Nat := zwKey Key.Zone.PARTNER_CH Key.HeadEnd.PARTNER_HEAD w

namespace Sys

/-- What no entry shows of a zone or overlap end. -/
def zw (s : Sys) (w : Nat) : ZoneRun := s.stitch.zones.getD w {}

/-- Change what no entry shows of a zone or overlap end. -/
def modZw (s : Sys) (w : Nat) (f : ZoneRun → ZoneRun) : Sys :=
  { s with stitch := { s.stitch with zones := s.stitch.zones.setIfInBounds w (f (s.zw w)) } }

/-! ### What follows from a change of ownership (R210, R276) -/

/-- DATA of head `h` that is not yet committed is built anew and sent again (R276). -/
def rebuildHead (s : Sys) (h : Nat) : Sys :=
  let g := s.rd (Key.Head.GROUP h)
  let l := s.rd (Key.Head.LINK h)
  let q := s.fire (s.rd (Key.Head.FIRE h))
  if s.grpState g ≠ 3 ∨ !s.linkUp l then s
  else
    ((s.head h).evs.filter (fun e => !e.dead && (decide (q.k < e.col) || (decide (q.k = e.col) && q.commitAt.isNone)))).foldl (fun s (e : Ev) =>
      match s.sliceOf g e.col with
      | none => s
      | some sl =>
        let body := s.dataPayload g sl h e.col
        (s.sendLink l 1 (s.rd (Key.Head.PORT h)) (e.col % 65536) body).modHead h (fun q => { q with
          evs := q.evs.map (fun x => if x.col = e.col then { x with body := body, acked := false, tries := 0, sentAt := s.clk } else x) })) s

/-- The owner of `w` acts on a change of its ownership. -/
def zwChanged (s : Sys) (w : Nat) : Sys :=
  if w < 128 then s.refreshGate (zwOwner w) else s.rebuildHead (zwOwner w)

/-- A record about `w` (R214, R276): 3 TAKEN, 4 WITHDRAWN or 5 UNCOVERED, at its instant. -/
def zwReport (s : Sys) (kind w t : Nat) : Sys :=
  if w < 128 then s.zoneReport kind (zwOwner w) (zwPart w) t
  else
    let h := zwOwner w
    let g := s.rd (Key.Head.GROUP h)
    let k := (s.fire (s.rd (Key.Head.FIRE h))).k
    let k := if (s.group g).armed then k + 1 else k
    s.spanRecord g h (kind + 7) k k t

/-! ### ENABLE, JOIN and CANCEL_JOIN (R205, R211) -/

/-- A write to ENABLE (R205). A SCHEDULED zone that it withdraws still owes an UNCOVERED record at its instant (R209). -/
def zwEnabled (s : Sys) (w v : Nat) : Sys :=
  let late := if v = 0 then none else if s.rd (zwState w) = 2 then (s.zw w).instant else (s.zw w).lost
  (((s.wr (zwState w) (if v = 0 then 0 else 4)).wr (zwEvent w) s.now).modZw w (fun z => { tookAt := z.tookAt, lost := late })).zwChanged w

/-- The abort of a command of a zone or overlap end (R211), 0 where it is accepted. -/
def zwCmdAbort (s : Sys) (w cmd : Nat) : Nat :=
  let st := s.rd (zwState w)
  match cmd with
  | 1 => if st = 0 ∨ st = 2 ∨ st = 6 then 0x0803 else if s.rd (zwJoin w) ≤ s.now + 1000 then 0x0604 else 0
  | 2 => 0
  | _ => 0x0604

/-- A pending JOIN is cancelled (R209, R211): the state before JOIN comes back. -/
def zwUnjoin (s : Sys) (w : Nat) : Sys :=
  if s.rd (zwState w) = 6 then ((s.wr (zwState w) (s.zw w).before).wr (zwEvent w) s.now).modZw w (fun z => { z with joinAt := none })
  else s

/-- The effect of an accepted command of a zone or overlap end (R211). -/
def zwCmd (s : Sys) (w cmd : Nat) : Sys :=
  let st := s.rd (zwState w)
  match cmd with
  | 1 => if st = 3 ∨ st = 4 ∨ st = 5 then
      ((s.wr (zwState w) 6).wr (zwEvent w) (s.rd (zwJoin w))).modZw w (fun z => { z with before := st, joinAt := some (s.rd (zwJoin w)) })
    else s
  | 2 => s.zwUnjoin w
  | _ => s

/-- Device time reaches the JOIN_TIME of every JOINING zone that has come due (R211). -/
def joinDue (s : Sys) : Sys :=
  s.each (List.range 192) (fun s w =>
    s.when (decide (s.rd (zwState w) = 6) && (s.zw w).joinAt.any (fun t => decide (t ≤ s.now))) (fun s =>
      ((s.wr (zwState w) 1).modZw w (fun z => { z with joinAt := none })).zwChanged w))

/-! ### Takeover (R205 to R209, R276) -/

/-- The owner of `w` can take it over (R209, R276). -/
def zwCanTake (s : Sys) (w : Nat) : Bool :=
  s.rdB (zwArm w) &&
    (if w < 128 then decide (1 ≤ s.chState (zwOwner w) ∧ s.chState (zwOwner w) ≤ 3)
     else decide (2 ≤ s.grpState (s.rd (Key.Head.GROUP (zwOwner w))) ∧ s.grpState (s.rd (Key.Head.GROUP (zwOwner w))) ≤ 5))

/-- The earlier of an instant and one already set. -/
def earlier (o : Option Nat) (t : Nat) : Nat := o.elim t (fun u => min u t)

/-- A matched zone changes as R209 states; whether the ALARM has changed it, and whether it is one that R209 counts as
ignored. -/
def zwTake (s : Sys) (w t : Nat) : Sys × Bool × Bool :=
  let was := decide (s.rd (zwState w) = 6)
  let s := s.zwUnjoin w
  let st := s.rd (zwState w)
  if st = 0 then (s, false, false)
  else if st = 1 ∨ st = 2 then
    let can := st = 2 || s.zwCanTake w
    let u := earlier (s.zw w).instant t
    (((s.wr (zwState w) (if can then 2 else 1)).wr (zwEvent w) u).modZw w (fun z => { z with instant := some u, uncovered := !can }), true, false)
  else if st = 4 then (s.zwReport 5 w t, was, false)
  else (s, was, true)

/-- A zone is to enter WITHDRAWN at an instant (R89, R206). -/
def zwLeave (s : Sys) (w t : Nat) : Sys :=
  if s.rd (zwState w) = 0 then s
  else
    let s := s.when (decide (s.rd (zwState w) ≠ 4 ∧ s.rd (zwState w) ≠ 6)) (fun s => s.wr (zwEvent w) (earlier (s.zw w).instant (earlier (s.zw w).leave t)))
    s.modZw w (fun z => { z with leave := some (earlier z.leave t) })

/-- The partner of a zone or overlap end is the unit an ALARM came from (R207, R209): `none` is the unit itself, which PARTNER_ADDR names as
0x00 or by its address. -/
def zwFrom (s : Sys) (w : Nat) (src : Option Nat) : Bool :=
  match src with
  | none => decide (s.rd (zwAddr w) = 0 ∨ s.rd (zwAddr w) = s.address)
  | some a => decide (a ≠ 0 ∧ s.rd (zwAddr w) = a)

/-- The zones and overlap ends that an ALARM of a kind matches (R209, R276): 1 channels, 2 heads, 3 a unit. -/
def zwMatches (s : Sys) (kind : Nat) (src : Option Nat) (items : List Nat) : List Nat :=
  (List.range 192).filter (fun w =>
    match kind with
    | 1 => decide (w < 128 ∧ s.rd (zwPartner w) ∈ items) && s.zwFrom w src
    | 2 => decide (128 ≤ w ∧ s.rd (zwPartner w) ∈ items) && s.zwFrom w src
    | 3 => decide (s.rd (zwAddr w) ≠ 0 ∧ s.rd (zwAddr w) ∈ items)
    | _ => false)

/-- What is due of a zone at the present time (R205, R209): TAKEN or UNCOVERED at its instant, WITHDRAWN at its own, in the
order of time; a takeover that a withdrawal has overtaken leaves its record. -/
def zwDue (s : Sys) (w : Nat) : Sys :=
  let z := s.zw w
  let due (o : Option Nat) : Bool := o.any (fun t => decide (t ≤ s.now))
  let first := due z.instant && !(due z.leave && decide (z.leave.getD 0 < z.instant.getD 0))
  let s := match z.instant with
    | some t => if first then
        let s := s.modZw w (fun z => { z with instant := none, uncovered := false, tookAt := some t })
        let s := if z.uncovered then (s.wr (zwState w) 5).zwReport 5 w t else ((s.wr (zwState w) 3).inc (zwTakes w)).zwReport 3 w t
        (s.wr (zwEvent w) t).zwChanged w
      else s
    | none => s
  let s := match (s.zw w).leave with
    | some t => if t ≤ s.now then
        let st := s.rd (zwState w)
        let s := s.modZw w (fun z => { z with leave := none, joinAt := none, instant := none, uncovered := false, tookAt := some t, lost := if st = 2 then z.instant else z.lost })
        if st = 4 then s else (((s.wr (zwState w) 4).wr (zwEvent w) t).zwReport 4 w t).zwChanged w
      else s
    | none => s
  match (s.zw w).lost with
  | some t => if t ≤ s.now then (s.modZw w (fun z => { z with lost := none })).zwReport 5 w t else s
  | none => s

/-- The zones and overlap ends of the channels or heads that the unit's own ALARM lists (R206, R276). -/
def zwListed (kind : Nat) (items : List Nat) : List Nat :=
  (List.range 192).filter (fun w => if w < 128 then decide (kind = 1 ∧ zwOwner w ∈ items) else decide (kind = 2 ∧ zwOwner w ∈ items))

/-- An ALARM acts on the unit's zones and overlaps (R207, R209): with the takeover instant, or on receipt where it has passed (R29). No `src`
is the unit's own ALARM, at whose instant the zones of the listed channels and heads enter WITHDRAWN (R206). -/
def applyAlarm (s : Sys) (kind : Nat) (src : Option Nat) (instant : Nat) (items : List Nat) : Sys :=
  let t := max instant s.now
  let leaving := if kind = 3 ∧ s.address ∈ items ∧ s.address ≠ 0 then List.range 192 else if src.isNone then zwListed kind items else []
  let taking := if kind = 3 ∧ s.address ∈ items ∧ s.address ≠ 0 then [] else s.zwMatches kind src items
  let left := leaving.any (fun w => decide (s.rd (zwState w) ≠ 0 ∧ s.rd (zwState w) ≠ 4))
  let (s, changed, ignored) := taking.foldl (fun (acc : Sys × Bool × Bool) w =>
    let (s, b, i) := acc.1.zwTake w t
    (s, acc.2.1 || b, acc.2.2 || i)) (s, false, false)
  let s := (s.each leaving (fun s w => s.zwLeave w t)).each (taking ++ leaving) zwDue
  (s.when (changed || left) (fun s => s.inc Key.Take.ZONE_EVENTS)).when ignored (fun s => s.inc Key.Take.ALARMS_IGNORED)

/-- Every takeover that is due acts (R210). -/
def takeoverDue (s : Sys) : Sys := s.each (List.range 192) zwDue

/-! ### The collection of takeover events (R206, R214) -/

/-- The owned stretches of a span between two path times (R201): ownership is that of the set-points of the channel's samples, and a change
falls at the first 2 ns instant on the straight line between two of them. `true` marks a stretch that a lost point ends. -/
def ownedRuns (s : Sys) (c : Nat) (path : List Seg) (p : Span) (u0 u1 : Nat) : List (Nat × Nat × Bool) :=
  let per := max 2 (s.trigPeriod (s.rd (Key.Ch.TRIGGER c)))
  let g0 := u0 - (u0 + per - (s.ch c).sampled % per) % per
  let point (u : Nat) : Int × Int :=
    match segAt path u with
    | some g => let q := g.point (g.along u); (rdiv q.1 65536, rdiv q.2.1 65536)
    | none => (0, 0)
  let owns (place : Nat) : Bool := s.placeOwned c (decide (p.d.op = 9)) place
  let at_ (u : Nat) : Bool := owns (s.placeOf c p.d.layer (point u).1 (point u).2)
  let changes := (List.range ((u1 - g0 + per - 1) / per)).filterMap (fun i =>
    let a := g0 + per * i
    let v := at_ (a + per)
    if at_ a = v then none
    else some (s.lineEdge c p.d.layer a (a + per) (point a).1 (point a).2 (point (a + per)).1 (point (a + per)).2 (fun x => owns x == v), v))
  let first := ((changes.filter (fun e => decide (e.1 ≤ u0))).getLast?).elim (at_ g0) (fun e => e.2)
  let r := (changes.filter (fun e => decide (u0 < e.1 ∧ e.1 < u1))).foldl (fun (acc : List (Nat × Nat × Bool) × Option Nat) e =>
    match acc.2, e.2 with
    | none, true => (acc.1, some e.1)
    | some a, false => (acc.1 ++ [(a, e.1, true)], none)
    | _, _ => acc) ([], if first then some u0 else none)
  r.1 ++ (r.2.map (fun a => (a, u1, false))).toList

/-- The GAP records of a failed channel (R214), up to the takeover instant; a CAL_MARK leaves none (R230). -/
def gapReports (s : Sys) (c instant : Nat) : Sys :=
  let s := s.stopReports c
  let q := s.ch c
  let on := s.rd (Key.Mark.LASER_ON_SHIFT c)
  let off := s.rd (Key.Mark.LASER_OFF_SHIFT c)
  let recs := (q.gap.filter (fun p => decide (p.openAt < instant) && decide (p.d.op ≠ 9))).flatMap (fun p =>
    (s.ownedRuns c q.gapPath p p.pathFrom (if p.closeAt ≤ instant then p.pathTo else min p.closeAt instant - on)).map (fun r => (p, r)))
  let n := recs.length
  let s := (recs.zip (List.range n)).foldl (fun s (x : (Span × Nat × Nat × Bool) × Nat) =>
    let p := x.1.1
    let (a, b, lost) := x.1.2
    s.pathReport 2 c (if x.2 + 1 = n ∧ q.gapEnd then 1 else 0) q.gapPath p (a + on) (min instant (if lost then b + off else p.closeAt)) a b) s
  s.modCh c (fun q => { q with gap := [], gapPath := [], gapEnd := false })

/-- 1 us after its first event a collection closes (R206, R207, R276): the ALARMs leave, they act on the unit's own zones,
and the zones of the listed channels and heads will be WITHDRAWN at the instant. -/
def collectionClose (s : Sys) : Sys :=
  match s.stitch.collects with
  | [] => s
  | k :: rest =>
    if s.now < k.at_ + 1000 then s
    else
      let s : Sys := { s with stitch := { s.stitch with collects := rest } }
      let instant := k.at_ + s.rd Key.Take.TAKEOVER_LEAD
      let send (s : Sys) (kind : Nat) (items : List Nat) : Sys :=
        if items = [] then s
        else ((s.sendAlarm kind k.code k.at_ instant items).inc Key.Take.ALARMS_SENT).applyAlarm kind none instant items
      let s := send (send s 1 k.channels) 2 k.heads
      s.each k.channels (fun s c => s.gapReports c instant)

/-! ### The report queue (R216) -/

/-- POP removes the oldest record (R212, R216). -/
def reportPop (s : Sys) (v : Nat) : Sys :=
  if v = 0 then s
  else
    let rest := s.stitch.reports.tail
    let s : Sys := { s with stitch := { s.stitch with reports := rest } }
    (s.wr Key.Rep.COUNT rest.length).when rest.isEmpty (fun s => s.wrB Key.Rep.OVERFLOW false)

end Sys

/-- JOIN_TIME_REACHED (R211). -/
def execJoinTimeReached (s : State) : Host.Outcome State Fault Refusal := onSys (fun s => s.joinDue) s

/-- TAKEOVER_COLLECTION_CLOSE (R206). -/
def execTakeoverCollectionClose (s : State) : Host.Outcome State Fault Refusal := onSys (fun s => s.collectionClose) s

/-- TAKEOVER_INSTANT (R210). -/
def execTakeoverInstant (s : State) : Host.Outcome State Fault Refusal := onSys (fun s => s.takeoverDue) s

end Sys2Proof.Machine
end

