-- ==== Sys2Proof/Machine/Time.lean ====
section
/-! DEFINITION. Time: the accumulator of device time, triggers, captures, and the link delay and SYNC measurements (R358 to R374). -/

namespace Sys2Proof.Machine

open Sys2Proof

namespace Sys

/-! ### The accumulator (R358 to R360) -/

/-- The increment in force (R359), in units of 2^-32 ns. -/
def increment (s : Sys) : Nat := if s.rdB Key.Inc.ADJ_TICKS then s.rd Key.Inc.ADJ_INCREMENT else s.rd Key.Inc.INCREMENT

/-- Device time in 2^-32 ns after the next tick: 96 bits. -/
def nextTick (s : Sys) : Nat := (s.tb.t * 2 ^ 32 + s.tb.f + s.increment) % 2 ^ 96

/-- Trigger `n` as TMB holds it. -/
def trig (s : Sys) (n : Nat) : Trigger := s.tb.triggers.getD n {}

/-- Change trigger `n`. -/
def modTrig (s : Sys) (n : Nat) (f : Trigger → Trigger) : Sys :=
  { s with tb := { s.tb with triggers := s.tb.triggers.setIfInBounds n (f (s.trig n)) } }

/-- A step of device time by the amount that waits (R360, R362): every sequence goes on strictly after the new time. Steps that are each
in order and together would take T below zero leave it at zero (DESIGN CHOICE, log entry 27). -/
def applyStep (s : Sys) : Sys :=
  match s.tb.step with
  | none => s
  | some v =>
    let t := ((s.tb.t : Int) + v).toNat % 2 ^ 64
    let s : Sys := { s with tb := { s.tb with t := t, step := none } }
    (s.each (List.range 32) (fun s n => s.modTrig n (fun q => { q with seen := t }))).wrBit Key.TimeSt.TIME_STATUS 1 true

/-- What waits for a tick at trigger `n` (R362 to R364): a sequence begins after the device time of this tick, an arming counts from it,
and a pulse request gives its edge at it, where the trigger is PULSED. -/
def trigTick (s : Sys) (n : Nat) : Sys :=
  s.modTrig n (fun q => { q with
    seen := if q.fresh then s.now else q.seen, fresh := false, pulse := false
    due := if q.pulse && decide (s.rd (Key.Trig.MODE n) = 3) then some s.now else q.due })

/-- The balls that triggers drive, one TCLK cycle on (R365). -/
def ballsTick (s : Sys) : Sys :=
  s.each ((List.range 32).filter (fun n => decide (0 < (s.trig n).highFor))) (fun s n =>
    let left := (s.trig n).highFor - 1
    let s := s.modTrig n (fun q => { q with highFor := left })
    if left = 0 ∧ !s.rdBit Key.Pad.HELD 15 then { s with pads := { s.pads with gpio := putBit s.pads.gpio n false } } else s)

/-- ADJ_TICKS has counted down to zero (R359). -/
def adjExpired (s : Sys) : Sys := if s.rd Key.Inc.ADJ_TICKS = 0 then s.wrBit Key.TimeSt.TIME_STATUS 2 false else s

/-- One TCLK tick (R358, R359). -/
def tickTime (s : Sys) : Sys :=
  if !s.timeRuns then s
  else
    let x := s.nextTick
    let adj := s.rd Key.Inc.ADJ_TICKS
    let s : Sys := { s with tb := { s.tb with t := x / 2 ^ 32, f := x % 2 ^ 32, last := s.increment } }
    ((((s.wr Key.Inc.ADJ_TICKS (adj - 1)).when (decide (adj = 1)) adjExpired).applyStep).each (List.range 32) trigTick).ballsTick.each (List.range 32) captureTick

/-- Device time restarts from zero, with its triggers and FIFOs (R358). -/
def restartTime (s : Sys) : Sys := { s with tb := {} }

/-- The abort of a TIME_STEP (R360): it is judged against T as it stands, whatever step waits. -/
def stepAbort (s : Sys) (v : Int) : Nat := if (s.tb.t : Int) + v < 0 then 0x0604 else 0

/-- A TIME_STEP waits for the next tick (R360). -/
def timeStep (s : Sys) (v : Int) : Sys := { s with tb := { s.tb with step := some (s.tb.step.getD 0 + v) } }

/-- A write to ADJ_TICKS (R359). -/
def adjTicks (s : Sys) (v : Nat) : Sys := (s.wr Key.Inc.ADJ_TICKS v).wrBit Key.TimeSt.TIME_STATUS 2 (decide (v ≠ 0))

/-! ### Triggers (R361 to R366) -/

/-- The first instant of a PERIODIC grid strictly after a time (R362). -/
def gridAfter (start period t : Nat) : Nat :=
  let p : Int := max 1 period
  ((start : Int) + (((t : Int) - start) / p + 1) * p).toNat

/-- The instant of the next edge of trigger `n`, if one has come (R361 to R364). -/
def edgeInstant (s : Sys) (n : Nat) : Option Nat :=
  match s.rd (Key.Trig.MODE n) with
  | 1 =>
    let t := gridAfter (s.rd (Key.Trig.START n)) (s.rd (Key.Trig.PERIOD n)) (s.trig n).seen
    if t ≤ s.now ∧ !(s.trig n).fresh then some t else none
  | 2 => if s.rdBit (Key.Trig.FLAGS n) 0 && !(s.trig n).fresh && decide (s.rd (Key.Trig.AT n) ≤ s.now) then some (s.rd (Key.Trig.AT n)) else none
  | 3 => (s.trig n).due
  | _ => none

/-- A sample of slot `n` begins at a trigger instant (R21, R150): its count is latched, and the set-point that its owner
has written becomes visible to it. -/
def slotTriggered (s : Sys) (n t : Nat) : Sys :=
  let fb := s.rd (Key.Slot.FB_SOURCE n)
  let count : Int := if fb = 0 then 0 else s.rdI (Key.Enc.COUNT (fb - 1))
  let rc : Int := if s.rd (Key.SlotRc.RC_SOURCE n) = 2 then s.rdI (Key.Enc.COUNT (s.rd (Key.SlotRc.RC_PARAM n))) else 0
  s.modSlot n (fun q => { q with due := q.due ++ [{ at_ := t, count := count, mail := q.mail, rcCount := rc, arrives := s.clk - (s.now - t) + 250 }] })

/-- What an edge of trigger `n` at its instant does in TMB and in the slots (R21, R361, R363, R365, R367). An edge more than one tick, as
the last one was long, after its instant is LATE. A slot whose clock stands begins no sample (R14). -/
def edgeAt (s : Sys) (n t : Nat) : Sys :=
  let late := decide (s.rd (Key.Trig.MODE n) = 2 ∧ t * 2 ^ 32 + s.tb.last < s.now * 2 ^ 32 + s.tb.f)
  let s := (s.wr (Key.Trig.LAST_TIME n) t).inc64 (Key.Trig.EDGES n)
  let s := s.modTrig n (fun q => { q with seen := max q.seen t, due := none })
  let s := s.when (decide (s.rd (Key.Trig.MODE n) = 2)) (fun s => s.wr (Key.Trig.FLAGS n) (2 * b2n late))
  let s := if s.rdB (Key.Trig.OUT_EN n) && !s.rdBit Key.Pad.HELD 15 then
      { (s.modTrig n (fun q => { q with highFor := s.rd (Key.Trig.OUT_WIDTH n) })) with pads := { s.pads with gpio := putBit s.pads.gpio n true } }
    else s
  let s := s.captureSource (0x60 + n) t
  s.each ((List.range 64).filter (fun k => s.rdB (Key.Slot.ENABLE k) && decide (s.slotTrigger k = n) && s.runs (slotDomain k))) (fun s k => s.slotTriggered k t)

/-- A write to MODE, START or PERIOD begins a new sequence, strictly after the device time of the next tick (R362). -/
def trigRestart (s : Sys) (n : Nat) : Sys := s.modTrig n (fun q => { q with fresh := true })

/-- A write to AT arms a ONE_SHOT trigger from the next tick on (R363). -/
def trigArm (s : Sys) (n : Nat) : Sys :=
  if s.rd (Key.Trig.MODE n) = 2 then (s.wr (Key.Trig.FLAGS n) 1).modTrig n (fun q => { q with fresh := true }) else s

/-- The abort of a trigger command (R364). -/
def trigCmdAbort (s : Sys) (n cmd : Nat) : Nat :=
  if cmd = 1 then (if s.rd (Key.Trig.MODE n) = 3 then 0 else 0x0803) else if cmd = 2 then 0 else 0x0604

/-- A trigger command: PULSE asks for an edge at the next tick, unless TCLK stands (R364); CANCEL disarms (R363). -/
def trigCmd (s : Sys) (n cmd : Nat) : Sys :=
  if cmd = 1 then s.when s.timeRuns (fun s => s.modTrig n (fun q => { q with pulse := true }))
  else if cmd = 2 then s.wr (Key.Trig.FLAGS n) 0
  else s

/-! ### Captures (R367, R368) -/

/-- POP removes the oldest stamp of capture unit `n`. -/
def capPop (s : Sys) (n v : Nat) : Sys :=
  if v = 0 then s else { s with tb := { s.tb with fifos := s.tb.fifos.setIfInBounds n (s.tb.fifos.getD n []).tail } }

/-- A write to SOURCE or EDGE empties the FIFO of capture unit `n`. -/
def capEmpty (s : Sys) (n : Nat) : Sys := { s with tb := { s.tb with fifos := s.tb.fifos.setIfInBounds n [], edges := s.tb.edges.setIfInBounds n none } }

/-! ### Link delays and SYNC (R370 to R373) -/

/-- DELAY_INTERVAL has passed on port `p` (R370): a DELAY_REQ is sent. It is stamped as t1 where it leaves. -/
def delaySend (s : Sys) (p : Nat) : Sys :=
  let nb := s.rd (Key.Port.NEIGHBOUR p)
  if !s.portUp p || !s.runs 6 || decide (nb = 0 ∨ s.address = 0) then s
  else
    let q := s.port p
    let s := s.modPort p (fun r => { r with reqSeq := (q.reqSeq + 1) % 65536 })
    s.originateAt p nb 7 false 0 (le 2 q.reqSeq ++ [p, 0, 0, 0, 0, 0])

/-- No DELAY_RSP within 10 us (R370). -/
def delayExpired (s : Sys) (p : Nat) : Sys :=
  match (s.port p).asked with
  | some _ => if (s.port p).askedAt + 10000 ≤ s.clk then (s.modPort p (fun r => { r with asked := none })).inc Key.Delay.DELAY_FAILS else s
  | none => s

/-- A DELAY_REQ has arrived on port `p` at stamp `t2` (R370): from 10 us after the port came UP it is answered. CORR takes what is left to
the departure as the answer leaves. -/
def delayAnswer (s : Sys) (p src : Nat) (t2 : Int) (body : List Nat) : Sys :=
  if !s.portUp p || !s.runs 6 || decide (s.clk < (s.port p).upAt + 10000) then s
  else s.originateAt p src 8 true ((s.stamp : Int) - t2) (le 2 (u16At body 0) ++ List.replicate 6 0 ++ le 8 (trunc 64 (t2 / 65536)) ++ le 2 (trunc 16 t2) ++ List.replicate 6 0)

/-- A DELAY_RSP has arrived on port `p` at stamp `t4` with its CORR (R370). -/
def delayTake (s : Sys) (p : Nat) (t4 corr : Int) (body : List Nat) : Sys :=
  match (s.port p).asked with
  | none => s
  | some (seq, t1) =>
    if u16At body 0 ≠ seq then s
    else
      let d := (t4 - t1 - corr) / 2
      let s := s.modPort p (fun r => { r with asked := none })
      if d < 0 ∨ 100000 * 65536 < d then s
      else
        let l := (d.toNat :: (s.port p).delays).take 16
        (s.modPort p (fun r => { r with delays := l })).wr (delayKey p) (l.foldl (fun a b => a + b) 0 / l.length)

/-- A SYNC master sends a SYNC for the last whole multiple of SYNC_INTERVAL (R371). CORR is the time from ORIGIN to now, and takes what is
left to the departure as the frame leaves. -/
def syncSend (s : Sys) : Sys :=
  if !s.rdB Key.Sync.SYNC_MASTER || !s.timeRuns then s
  else
    let step := max 1 (s.rd Key.Sync.SYNC_INTERVAL * 1000)
    let origin := s.now / step * step
    let seq := (s.chain.syncSeq.elim 0 (fun n => n + 1)) % 65536
    let s : Sys := { s with chain := { s.chain with syncSeq := some seq } }
    let s := (s.wr Key.Sync.SYNC_SEQ seq).inc Key.Sync.SYNCS
    s.originate 0xFF 6 true ((s.stamp : Int) - origin * 65536) (le 8 origin ++ le 2 seq ++ [0, 0] ++ le 4 (s.rd Key.Sync.SYNC_INTERVAL))

/-- A SYNC has arrived on port `p` at stamp `t` from `src` (R373). -/
def syncTake (s : Sys) (p src : Nat) (t corr : Int) (body : List Nat) : Sys :=
  if s.rdB Key.Sync.SYNC_MASTER || !s.runs 6 then s
  else if src ≠ s.rd Key.Sync.SYNC_SRC then s.inc Key.Sync.SYNC_IGNORED
  else
    let seq := u16At body 8
    if s.chain.syncSeq = some seq then s
    else
      let off : Int := t - ((u64At body 0 : Int) * 65536 + corr + (if p < 2 then s.rd (delayKey p) else 0))
      let s : Sys := { s with chain := { s.chain with syncSeq := some seq, syncAt := some s.clk } }
      ((((s.wrI Key.Sync.OFFSET off).wr Key.Sync.SYNC_RX_TIME (trunc 64 (t / 65536))).wr Key.Sync.SYNC_SEQ seq).inc Key.Sync.SYNCS).raise 52

end Sys

/-- ADJ_TICKS_EXPIRY (R359). -/
def execAdjTicksExpiry (s : State) : Host.Outcome State Fault Refusal := onSys (fun s => s.adjExpired) s

/-- CAPTURE_EVENT (R367, R368): an edge at the ball GPIO[pin], as an input. The other sources stamp within the commands
that bring their events. -/
def execCaptureEvent (pin : Fin 32) (rising : Bool) (s : State) : Host.Outcome State Fault Refusal :=
  onSys (fun s => s.capturePin (0x20 + pin) rising) s

/-- DELAY_REQ_SEND (R370). -/
def execDelayReqSend (p : Fin 2) (s : State) : Host.Outcome State Fault Refusal := onSys (fun s => s.delaySend p) s

/-- DELAY_RSP_TIMEOUT (R370). -/
def execDelayRspTimeout (p : Fin 2) (s : State) : Host.Outcome State Fault Refusal := onSys (fun s => s.delayExpired p) s

/-- SYNC_SEND (R371). -/
def execSyncSend (s : State) : Host.Outcome State Fault Refusal := onSys (fun s => s.syncSend) s

end Sys2Proof.Machine
end

