-- ==== Sys2Proof/Machine/Chain.lean ====
section
/-! DEFINITION. Chain: the arrival and forwarding of chain frames (R68 to R81), the states of the ports with credits and heartbeats (R74, R82 to R88), enumeration (R86), stream endpoints (R94 to R96) and what the chain controller does in hardware with SYNC, delay and ALARM frames. -/

namespace Sys2Proof.Machine

open Sys2Proof

/-! ### Frames -/

/-- The serial form of a frame, as a datagram carries it, read back (R76, R99). -/
def parseFrame (d : List Nat) : Frame :=
  let len := u16At d 6
  { dest := u8At d 0, src := u8At d 1, cls := u8At d 2 / 64, typ := u8At d 2 % 64, looped := (u8At d 3).testBit 0
    ts := (u8At d 3).testBit 1, flags := u8At d 3 / 4, seq := u16At d 4, len := len, corr := sext 48 (unle ((d.drop 8).take 6))
    hcrc := u16At d 14, payload := ((d.drop 16).take len).map (fun b => b % 256), crc := u32At d (16 + len) }

/-- A frame with a changed payload, its check values formed anew (the COUNT of R86). -/
def reform (f : Frame) (payload : List Nat) : Frame :=
  let g := { f with payload := payload }
  { g with crc := crcOf g }

/-- R80 case 2 and the classes of R79. -/
def badClass (f : Frame) : Bool :=
  decide (2048 < f.len) || decide (3 ≤ f.cls) || ((classOf f.typ).elim false (fun c => decide (c ≠ f.cls)))

/-- Types that only the host may send (R80 case 9, R86, R92, R94, R101). -/
def hostOnly (f : Frame) : Bool :=
  decide (f.typ = 2 ∨ f.typ = 4 ∨ f.typ = 0x0B) || (decide (f.typ = 1) && decide (1 ≤ u8At f.payload 0 ∧ u8At f.payload 0 ≤ 5))

namespace Sys

/-- Count one more discard of R80 cases 3, 4 and 9, R68, R92 and R94 at port `p`; a frame from the gateway (2) came through none. -/
def otherDiscard (s : Sys) (p : Nat) : Sys := if p < 2 then s.inc (Key.Port.OTHER_DISCARDS p) else s

/-- Idle ticks of 4 ns that a NAP entry takes, and those before the wake logic is not armed (R462, R469; log entry 5). -/
def napTicks : Nat := 62500
def napArmed : Nat := 39612

/-- Idle ticks of 4 ns in the last 3 cycles of SRC of an entry to HOLD (R465, R469). -/
def holdTicks : Nat := 22888

/-- The wake logic sees edges: not before an entry, and not in its last 3 cycles of SRC (R469, R470). -/
def wakeArmed (s : Sys) : Bool :=
  match s.pw.state with
  | .nap | .hold => true
  | .run => s.pw.holdPending
  | .napEntry => decide (s.pw.ticks < napArmed)
  | _ => false

/-- An edge event for the wake logic (R468, R470). -/
def wakeEdge (s : Sys) (b : Nat) : Sys := if s.wakeArmed then { s with pw := { s.pw with latched := putBit s.pw.latched b true } } else s

/-! ### Leaving and entering UP (R74, R81, R83, R88) -/

/-- A UNIT_LOST ALARM that names an address (R88, R208), which also acts on the unit's own zones (R207). -/
def unitLost (s : Sys) (code addr : Nat) : Sys :=
  let instant := s.now + s.rd Key.Take.TAKEOVER_LEAD
  (s.sendAlarm 3 code s.now instant [addr]).applyAlarm 3 none instant [addr]

/-- A forwarded frame leaves the unit through port `q`, or is looped back there (R68): a port that is not UP turns it back once. With both
ports looped, the frame that one has turned back reaches the other with LOOPED set, which discards and counts it (DEDUCED, log entry
47). -/
def leave (s : Sys) (q : Nat) (i : TxItem) : Sys :=
  let lost (p : Nat) : Sys := i.held.elim (s.otherDiscard p) (fun h => (s.otherDiscard p).freeCells h i.f.cls (cellsOf i.f.len))
  if s.portUp q then s.enqueue q i
  else if i.f.looped then lost q
  else if !s.portUp (1 - q) then lost (1 - q)
  else (s.queue q i).pump (1 - q)

/-- The lanes of a port (R67). -/
def portLanes (s : Sys) (p : Nat) : List Nat :=
  (List.range (s.rd (Key.Port.LANE_COUNT p))).map (fun i => (s.rd (Key.Port.LANE_FIRST p) + i) % 16)

/-- The lanes of a port that has gone DOWN train anew from DETECT; those of a disabled port are OFF (R74, R341). A lane in
TEST stays there. -/
def portLanesTo (s : Sys) (p stage : Nat) : Sys :=
  let s := s.modPort p (fun r => { r with trained := false, mask := 0, partner := 0, offer := 0, firstAt := none, hold := false })
  s.each ((s.portLanes p).filter (fun l => decide (s.rd (Key.Lane.STAGE l) ≠ 5 ∧ s.rd (Key.Lane.STAGE l) ≠ 0))) (fun s l =>
    (s.when (decide (stage = 1 ∧ (s.rd (Key.Lane.STAGE l) = 2 ∨ s.rd (Key.Lane.STAGE l) = 3))) (fun s => s.inc (Key.LaneCnt.TRAIN_FAILS l))).laneStage l stage)

/-- The frames that wait at a port, in the order of their classes: those it forwards, or the unit's own. -/
def portWaits (q : Port) (own : Bool) : List TxItem :=
  [q.txIndigo, q.txOchre, q.txSlate].flatMap (fun t => if own then t.loc else t.fwd)

/-- A port leaves UP (R74, R81, R83, R88): loopback closed, credits zero, PORT_DOWN, UNIT_LOST. Forwarded frames that waited turn back, at
the other port too where that is looped; frames of the unit's own leave by the other port, unless that one has had its copy (R70). The
cells that waiting frames hold are the loopback's from now on (R82). -/
def portExit (s : Sys) (p state : Nat) : Sys :=
  if !s.portUp p then s.wr (Key.Port.STATE p) state
  else
    let back := portWaits (s.port p) false
    let own := (portWaits (s.port p) true).filter (fun i => !i.twin)
    let other := if s.portUp (1 - p) then [] else portWaits (s.port (1 - p)) false
    let s := ((s.wr (Key.Port.STATE p) state).wrB (Key.Port.LOOPBACK p) true).inc (Key.Port.DOWN_EVENTS p)
    let empty (r : Port) : Port := { r with txIndigo := {}, txOchre := {}, txSlate := {} }
    let s := s.modPort p (fun r => { empty r with credit := {}, freed := {}, ochreRun := 0, trained := false, asked := none })
    let s := s.when (!s.portUp (1 - p)) (fun s => s.modPort (1 - p) empty)
    let s := back.foldl (fun s i => s.leave p i) s
    let s := other.foldl (fun s i => s.leave (1 - p) i) s
    let s := s.when (s.portUp (1 - p)) (fun s => own.foldl (fun s i => s.enqueue (1 - p) i) s)
    let s := (s.faultNow 0x51 7 p).wakeEdge 7
    if s.rdB (Key.Port.NEIGHBOUR p) && s.rdB (Key.Port.ALARM_ON_LOSS p) then s.unitLost 0x51 (s.rd (Key.Port.NEIGHBOUR p)) else s

/-- The waiting frames of a port give up the cells of port `h`, all of which are granted anew. -/
def dropCells (h : Nat) (q : Port) : Port :=
  let f (t : TxQ) : TxQ := { t with fwd := t.fwd.map (fun i => if i.held = some h then { i with held := none } else i) }
  { q with txIndigo := f q.txIndigo, txOchre := f q.txOchre, txSlate := f q.txSlate }

/-- A port reaches UP (R74, R83): loopback open, full credit. The grant of the full cell counts on both sides is taken as made with the
entry itself: the counts are set, and no Credit symbol is sent or awaited for it (DESIGN CHOICE, log entry 47). -/
def portEnter (s : Sys) (p : Nat) : Sys :=
  let s := ((s.wr (Key.Port.STATE p) 3).wrB (Key.Port.LOOPBACK p) false).clearActive 0x51 7 p
  let s := s.modPort (1 - p) (dropCells p)
  (s.modPort p (fun r => { r with credit := fullCells, held := {}, freed := {}, upAt := s.clk, nbState := 4 })).wakeEdge 7

/-! ### Heartbeats and credits (R82 to R84) -/

/-- A heartbeat has arrived on port `p` (R74, R84, R208). -/
def heartbeatIn (s : Sys) (p addr st : Nat) (gateway : Bool) : Sys :=
  if s.rd (Key.Port.STATE p) < 2 ∨ (s.rd (Key.Port.STATE p) = 2 ∧ !(s.port p).trained) then s
  else
    let s := if s.rd (Key.Port.STATE p) = 2 then s.portEnter p else s
    let was := (s.port p).nbState
    let s := (s.wr (Key.Port.NEIGHBOUR p) (addr % 256)).modPort p (fun r => { r with nbState := st, nbGateway := gateway, heardAt := s.clk })
    let s := if st = 4 ∧ was ≠ 4 ∧ s.rdB (Key.Port.ALARM_ON_LOSS p) then (s.unitLost 0 (addr % 256)).inc Key.Take.ALARMS_SENT else s
    s.pump p

/-- The unit sends its Heartbeat on port `p` (R84), once the port is trained. -/
def heartbeatOut (s : Sys) (p : Nat) : Sys :=
  if s.portUp p || (s.port p).trained then s.emit (.heartbeat p s.address (devCode s.dev) s.isGateway) else s

/-- No heartbeat for 40 us (R74). -/
def heartbeatLost (s : Sys) (p : Nat) : Sys :=
  if s.portUp p && decide ((s.port p).heardAt + 40000 ≤ s.clk) then (s.portExit p 1).portLanesTo p 1 else s

/-- A Credit symbol has arrived on port `p` (R83). -/
def creditIn (s : Sys) (p cls cells : Nat) : Sys :=
  if s.portUp p then (s.modPort p (fun r => { r with credit := r.credit.set cls (r.credit.get cls + cells) })).pump p else s

/-- 1 us after its first freed cell a class returns its cells (R83). -/
def creditOut (s : Sys) (p cls : Nat) : Sys :=
  let n := (s.port p).freed.get cls
  if s.portUp p && decide (0 < n) then
    (s.modPort p (fun r => { r with freed := r.freed.set cls 0 })).emit (.credit p cls n)
  else s

/-- A write to ENABLE of a port (R74). -/
def portEnable (s : Sys) (p v : Nat) : Sys :=
  if v = 0 then (s.portExit p 0).portLanesTo p 0
  else if s.rd (Key.Port.STATE p) = 0 then s.wr (Key.Port.STATE p) 1
  else s

/-! ### Boot requests (R101) -/

/-- The ROM asks for the next part of its image, once the unit has an address (R101). It asks for 2,040 bytes each time, and numbers the
attempts of a request from 0 (DESIGN CHOICE, log entry 48). -/
def bootAsk (s : Sys) : Sys :=
  let b := s.chain.boot
  if !b.active || b.asked.isSome || b.pause.isSome || decide (s.address = 0) then s
  else
    let s := s.originate 0xFE 0x0A false 0 (le 4 b.offset ++ le 2 2040 ++ [b.attempt % 256, 0] ++
      le 8 (s.rd Key.Ident.SERIAL) ++ le 2 (s.rd Key.Alias.ALIAS))
    { s with chain := { s.chain with boot := { b with asked := some s.clk } } }

/-! ### Enumeration (R86) -/

/-- An answer to an ENUM request, out of the port it came on. Every answer carries the unit's own POSITION (for ASSIGN_ALIAS and RELEASE a
DESIGN CHOICE, log entry 52). -/
def enumAnswer (s : Sys) (p sub status : Nat) (body : List Nat) : Sys :=
  s.originateAt p 0xFE 1 false 0 ([0x80 + sub, status] ++ le 2 (s.rd Key.Pos.POSITION) ++ body)

/-- A unit takes an address, or returns to 0x00, and answers with the status (R86). Where status 2 and status 1 both apply, it is 2
(DESIGN CHOICE, log entry 48). -/
def enumTake (s : Sys) (p sub addr : Nat) : Sys :=
  let status : Nat :=
    if s.address ≠ 0 ∧ ¬ (s.dev = .start ∨ s.dev = .config ∨ s.dev = .service) then 2
    else if sub ≠ 5 ∧ (addr = 0 ∨ 0xFA < addr) then 1
    else 0
  let s := if status = 0 then s.wr Key.Chain.CHAIN_ADDRESS (if sub = 5 then 0 else addr) else s
  (s.enumAnswer p sub status [s.address]).bootAsk

/-- COUNT (R86): the unit is the next one counted. -/
def enumCount (s : Sys) (p : Nat) (f : Frame) : Sys :=
  (s.wr Key.Pos.POSITION ((u16At f.payload 2 + 1) % 65536)).wr Key.Pos.POSITION_PORT p

/-- IDENTIFY (R86). -/
def enumIdentify (s : Sys) (p : Nat) (f : Frame) : Sys :=
  if u16At f.payload 2 = s.rd Key.Pos.POSITION then
    s.enumAnswer p 2 (devCode s.dev) ([s.address, 0] ++ le 2 (s.rd Key.Alias.ALIAS) ++ le 8 (s.rd Key.Ident.SERIAL) ++ le 2 0x7440 ++
      le 2 (s.rd Key.Ident.REVISION))
  else s

/-- ASSIGN (R86): the unit at the position takes the address. -/
def enumAssign (s : Sys) (p : Nat) (f : Frame) : Sys :=
  if 5 ≤ f.payload.length ∧ u16At f.payload 2 = s.rd Key.Pos.POSITION then
    s.enumTake p 3 (u8At f.payload 4)
  else s

/-- ASSIGN_ALIAS (R86): the unit with the alias takes the address. -/
def enumAlias (s : Sys) (p : Nat) (f : Frame) : Sys :=
  if 8 ≤ f.payload.length ∧ u16At f.payload 6 ≠ 0 ∧ u16At f.payload 6 = s.rd Key.Alias.ALIAS then
    s.enumTake p 4 (u8At f.payload 4)
  else s

/-- RELEASE (R86): the unit returns to address 0x00. -/
def enumRelease (s : Sys) (p : Nat) (f : Frame) : Sys :=
  if f.dest = s.address ∧ s.address ≠ 0 then s.enumTake p 5 0 else s

/-- The unit handles ENUM on port `p`: from 10 us after it reached UP (R86). -/
def enumOpen (s : Sys) (p : Nat) : Bool := decide ((s.port p).upAt + 10000 ≤ s.clk)

/-- An ENUM request of subtype `sub`, with its DEST (R86). -/
def isEnum (f : Frame) (sub : Nat) : Bool :=
  decide (f.typ = 1 ∧ u8At f.payload 0 = sub ∧ 4 ≤ f.payload.length) && (decide (sub = 5) || decide (f.dest = 0xFF))

/-- The frame as the unit passes it on: a COUNT leaves with its counter one higher (R86). -/
def passOn (s : Sys) (p : Nat) (f : Frame) : Frame :=
  if isEnum f 1 && s.enumOpen p then
    sealFrame (reform f (f.payload.take 2 ++ le 2 ((u16At f.payload 2 + 1) % 65536) ++ f.payload.drop 4))
  else f

/-! ### Streams (R94 to R96, R419) -/

/-- Endpoint `n` answers a frame out of order with a CREDIT of reason 1, at most one per 10 us (R95). -/
def resync (s : Sys) (n : Nat) : Sys :=
  match (s.endpoint n).resyncAt with
  | some t => if t + 10000 ≤ s.clk then (s.sendCredit n 1).modEndpoint n (fun e => { e with resyncAt := some s.clk, resyncDue := false })
              else s.modEndpoint n (fun e => { e with resyncDue := true })
  | none => (s.sendCredit n 1).modEndpoint n (fun e => { e with resyncAt := some s.clk, resyncDue := false })

/-- A CREDIT of reason 1 that is owed leaves once 10 us have passed since the last (R95). -/
def resyncTick (s : Sys) : Sys :=
  s.each ((List.range 8).filter (fun n => (s.endpoint n).resyncDue)) (fun s n =>
    s.when ((s.endpoint n).resyncAt.any (fun t => decide (t + 10000 ≤ s.clk))) (fun s => s.resync n))

/-- The channel of endpoint `n` writes stream data into its ring at the write position (R94, R419): it wraps at the ring length, where the
transfer is split in two. False is a bus error. -/
def ringStore (s : Sys) (n : Nat) (data : List Nat) : Sys × Bool :=
  let m := 0x28 + n
  let len := s.rd (Key.Ep.RING_LEN n)
  let at_ := (s.endpoint n).wpos % max 1 len
  let base := s.rd (Key.Ep.RING_ADDR n)
  let put (s : Sys) (a : Nat) (l : List Nat) : Sys × Bool :=
    if l = [] then (s, true)
    else
      let g := s.grant m true a l.length
      if g.2 then (g.1.busStore m a l 0, true) else (g.1, false)
  let x := put s (base + at_) (data.take (len - at_))
  let y := if x.2 then put x.1 base (data.drop (len - at_)) else x
  if y.2 then (y.1.modEndpoint n (fun e => { e with wpos := (at_ + data.length) % max 1 len }), true) else y

/-- A STREAM frame for the unit has arrived on port `p` (R94, R95, R419). -/
def streamIn (s : Sys) (p : Nat) (f : Frame) : Sys :=
  let n := u8At f.payload 0
  if 7 < n ∨ f.len < 9 then s.otherDiscard p
  else
    let off := u32At f.payload 4
    let data := f.payload.drop 8
    let next := s.rd (Key.EpSt.NEXT_OFFSET n)
    let limit := (s.rd (Key.EpSt.RELEASE_OFFSET n) + s.rd (Key.Ep.RING_LEN n)) % 2 ^ 32
    if s.dev = .start ∨ s.dev = .fault ∨ !s.rdB (Key.Ep.ENABLE n) then s.inc (Key.EpSt.DISCARD_STATE n)
    else if off ≠ next ∨ !newer32 limit (off + data.length) then (s.inc (Key.EpSt.DISCARD_ORDER n)).resync n
    else
      let g := s.ringStore n data
      let s := g.1
      -- the bus error of R419: the offset stays
      if !g.2 then (((s.inc (Key.DmaRing.BUS_ERRORS (24 + n))).inc (Key.DmaRing.BAD (24 + n))).wrBit (Key.Dma.FLAGS (24 + n)) 1 true).faultNow 0x60 8 (24 + n)
      else
        let s := (s.wr (Key.EpSt.NEXT_OFFSET n) ((next + data.length) % 2 ^ 32)).inc64 (Key.EpSt.FRAMES_ACCEPTED n)
        (s.inc64 (Key.DmaRing.DESCRIPTORS (24 + n))).add Key.DmaTot.BYTES_MOVED 64 data.length

/-- What a write to ENABLE of endpoint `n` requires (R96, `E.01`). -/
def epEnableAbort (s : Sys) (n v : Nat) : Nat :=
  if v ≠ 0 ∧ (s.rd (Key.Ep.RING_LEN n) = 0 ∨ s.rd (Key.Ep.RING_LEN n) < s.rd (Key.Ep.CREDIT_STEP n)) then 0x0604 else 0

/-- A write to ENABLE of endpoint `n` (R18, R96, R419): 1 sets both offsets to 0 and sends the CREDIT of reason 2. -/
def epEnable (s : Sys) (n v : Nat) : Sys :=
  let d := 24 + n
  if v = 0 then (((s.wr (Key.Dma.MODE d) 0).wr (Key.Dma.STATE d) 0).wr (Key.Dma.ENABLE d) 0).modEndpoint n (fun _ => {})
  else
    let s := ((s.wr (Key.Dma.MODE d) 2).wr (Key.Dma.STATE d) 1).wr (Key.Dma.ENABLE d) 1
    let s := (s.wr (Key.EpSt.NEXT_OFFSET n) 0).wr (Key.EpSt.RELEASE_OFFSET n) 0
    -- CAL takes load records again (R224)
    let s := s.when (decide (s.rd (Key.Ep.CONSUMER n) = 3)) (fun s => s.wr Key.Cal.LOAD_STATE 0)
    (s.modEndpoint n (fun _ => {})).sendCredit n 2

/-- Every enabled endpoint sends a CREDIT as the unit enters CONFIG (R96): reason 2 from START, else 1. A restored ENABLE
has its channel in STREAM mode (R419). -/
def creditsOnConfig (s : Sys) (reason : Nat) : Sys :=
  s.each ((List.range 8).filter (fun n => s.rdB (Key.Ep.ENABLE n))) (fun s n =>
    let d := 24 + n
    (((s.wr (Key.Dma.MODE d) 2).wr (Key.Dma.STATE d) 1).wr (Key.Dma.ENABLE d) 1).sendCredit n reason)

/-- What a write to RELEASE_OFFSET requires besides its rights (`F.02`). -/
def releaseAbort (s : Sys) (n v : Nat) : Nat :=
  if s.rd (Key.Ep.CONSUMER n) ≠ 0 then 0x0803
  else if !newer32 (s.rd (Key.EpSt.NEXT_OFFSET n)) v then 0x0604
  else 0

/-- CREDIT_PERIOD of endpoint `n` is over (R96). -/
def creditPeriod (s : Sys) (n : Nat) : Sys :=
  let e := s.endpoint n
  if e.periodRuns && decide (e.creditAt + 1000 * s.rd (Key.Ep.CREDIT_PERIOD n) ≤ s.clk) then
    (s.modEndpoint n (fun e => { e with periodRuns := false })).maybeCredit n
  else s

/-! ### ALARM (R89, R91, R209) -/

/-- An ALARM has arrived (R91, R209): kinds 1 to 3 with a takeover instant act on zones and overlaps; and it wakes. -/
def alarmIn (s : Sys) (f : Frame) : Sys :=
  let kind := u8At f.payload 0
  let items := ((f.payload.drop 20).take (min 64 (u8At f.payload 1))).map (fun b => b % 256)
  let instant := u64At f.payload 12
  let s := s.wakeEdge 6
  if 1 ≤ kind ∧ kind ≤ 3 ∧ instant ≠ 0 then s.applyAlarm kind (some f.src) instant items else s

/-! ### Arrival (R68 to R70, R78 to R81, R98) -/

/-- A CRC error on port `p` (R80 cases 6 and 7, R81): sixteen within 1 ms raise LINK_CRC_BURST and empty the count. -/
def crcError (s : Sys) (p : Nat) : Sys :=
  let s := s.inc (Key.Port.CRC_ERRORS p)
  let times := s.clk :: ((s.port p).crcTimes.filter (fun t => decide (s.clk < t + 1000000)))
  if 16 ≤ times.length then (s.modPort p (fun r => { r with crcTimes := [] })).faultNow 0x50 7 p
  else s.modPort p (fun r => { r with crcTimes := times })

/-- The unit passes a frame on that arrived on port `p` (R68, R69, R72). A gateway passes nothing from port to port: it
gives frames to 0xFE and 0xFF to the host (R98). -/
def forward (s : Sys) (p : Nat) (t : Int) (f : Frame) : Sys :=
  if s.isGateway then
    (s.when (decide (f.dest = 0xFE ∨ f.dest = 0xFF) && !f.badEnd) (fun s => s.sendDatagram (frameBytes f))).freeCells p f.cls (cellsOf f.len)
  else s.leave (1 - p) { f := { f with phase := 0, slip := 0 }, from_ := some p, held := some p, arrived := t }

/-- A frame arrives at port `p` (R80): the cases in their order, then the own SRC and LOOPED of R69, processing by `proc`
and forwarding. A frame of case 9 that is addressed to the unit itself is forwarded, as the case says (DESIGN CHOICE, log entry 52). A frame with the unit's own SRC ends here, whatever case it meets; one that is LOOPED is forwarded even to the unit
itself (R69). -/
def receive (s : Sys) (p : Nat) (f : Frame) (proc : Sys → Nat → Frame → Sys) : Sys :=
  if !s.portUp p then s
  else
    let t := s.stampIn p f
    let n := cellsOf f.len
    let s := s.inc64 (Key.Port.FRAMES_RX p)
    let q := s.port p
    let take (s : Sys) : Sys := s.modPort p (fun r => { r with held := r.held.set f.cls (r.held.get f.cls + n) })
    let drop (s : Sys) : Sys := (take s).freeCells p f.cls n
    let mine := decide (f.dest = s.address) && decide (s.address ≠ 0)
    let own := decide (f.src = s.address) && decide (s.address ≠ 0)
    let pass (s : Sys) (g : Frame) : Sys := if own || (mine && !f.looped) then s.freeCells p f.cls n else s.forward p t g
    let bad := { f with badEnd := true }
    if f.hcrc ≠ hcrcOf f ∨ badClass f then
      let s := s.inc (Key.Port.HEADER_DISCARDS p)
      if 3 ≤ f.cls ∨ 2048 < f.len then s else drop s
    else if f.dest = 0 ∨ (0xFB ≤ f.dest ∧ f.dest ≤ 0xFD) ∨ (f.cls = 0 ∧ 8 < n) then drop (s.otherDiscard p)
    else if fullCells.get f.cls < q.held.get f.cls + q.freed.get f.cls + n then (s.inc (Key.Port.CREDIT_VIOLATIONS p)).faultNow 0x52 7 p
    else if f.broken ∨ f.len < f.payload.length ∨ (!f.badEnd ∧ (f.payload.length < f.len ∨ f.crc ≠ crcOf f)) then pass ((take s).crcError p) bad
    else if f.badEnd then pass (take s) bad
    else if classOf f.typ = none ∨ (f.src ≠ 0xFE ∧ hostOnly f) then
      let s := (take s).otherDiscard p
      if own then s.freeCells p f.cls n else s.forward p t f
    else if own || f.looped then pass (take s) f
    else
      let s := take s
      let g := s.passOn p f
      let s := s.when (decide (f.src = 0xFE)) (fun s => s.wr Key.Pos.HOST_PORT p)
      let s := if mine || decide (f.dest = 0xFF) then proc s p f else s
      if mine then s.freeCells p f.cls n else s.forward p t g

/-- A frame that a row of its own names arrives: it is processed as that row states, and a frame of another kind is not that
command. -/
def receiveIf (s : Sys) (p : Nat) (f : Frame) (kind : Bool) (proc : Sys → Nat → Frame → Sys) : Sys :=
  if kind then s.receive p f proc else s

/-- What the unit does with an ENUM frame (R86). -/
def enumIn (s : Sys) (p : Nat) (f : Frame) : Sys :=
  if !s.enumOpen p then s
  else if isEnum f 1 then s.enumCount p f
  else if isEnum f 2 then s.enumIdentify p f
  else if isEnum f 3 then s.enumAssign p f
  else if isEnum f 4 then s.enumAlias p f
  else if isEnum f 5 then s.enumRelease p f
  else s

/-- The gateway accepts the frame of a datagram as a host frame (R98): it acts on it as on any frame of the host, and
sends it out under R70. -/
def inject (s : Sys) (f : Frame) (proc : Sys → Nat → Frame → Sys) : Sys :=
  let mine := decide (f.dest = s.address) && decide (s.address ≠ 0)
  let counts := isEnum f 1
  let g := if counts then sealFrame (reform f (f.payload.take 2 ++ le 2 ((u16At f.payload 2 + 1) % 65536) ++ f.payload.drop 4)) else f
  let s := if mine || decide (f.dest = 0xFF) then proc s 2 f else s
  if mine then s else s.sendPorts [0, 1] g

end Sys

/-! ### Datagrams (R99) -/

/-- What a gateway makes of a received Ethernet frame (R99). -/
inductive Datagram
  /-- The frame goes to the MAC. -/
  | other
  /-- An IPv4 datagram to LOCAL_IP that is discarded and counted. -/
  | refused
  /-- A host frame. -/
  | frame (f : Frame)
  deriving DecidableEq, Repr

/-- A big-endian value of `n` bytes. -/
def beAt (d : List Nat) (i n : Nat) : Nat := unle ((d.drop i).take n).reverse

/-- Judge a received Ethernet frame by the list of R99. -/
def judgeDatagram (localIp hostIp port : Nat) (d : List Nat) : Datagram :=
  if beAt d 12 2 ≠ 0x0800 ∨ u8At d 14 / 16 ≠ 4 ∨ beAt d 30 4 ≠ localIp then .other
  else
    let ulen := beAt d 38 2
    let f := parseFrame (d.drop 42)
    let udp := (d.drop 34).take ulen
    let sum := Sys.ipSum ((d.drop 26).take 8 ++ [0, 17] ++ Sys.be 2 ulen ++ udp)
    let ok := decide (u8At d 14 = 0x45)
      && decide (beAt d 20 2 % 16384 = 0)
      && decide (u8At d 23 = 17)
      && (decide (hostIp = 0) || decide (beAt d 26 4 = hostIp))
      && decide (beAt d 36 2 = port)
      && (decide (beAt d 40 2 = 0) || decide (iter (fun x => x % 65536 + x / 65536) 3 sum = 65535))
      && decide (f.hcrc = hcrcOf f) && decide (f.crc = crcOf f) && decide (f.src = 0xFE)
      && decide (ulen = 28 + f.len) && decide (f.payload.length = f.len)
    if ok then .frame f else .refused

namespace Sys

/-- An ARP request for LOCAL_IP is answered in hardware (R99). -/
def arpIn (s : Sys) (m : Nat) (d : List Nat) : Sys :=
  if s.isGateway && decide (s.rd Key.Gw.MAC = m ∧ beAt d 12 2 = 0x0806 ∧ beAt d 14 2 = 1 ∧ beAt d 16 2 = 0x0800 ∧ u8At d 18 = 6 ∧
      u8At d 19 = 4 ∧ beAt d 20 2 = 1 ∧ beAt d 38 4 = s.rd Key.Gw.LOCAL_IP) then
    let me := be 6 (s.rd Key.Gw.LOCAL_MAC)
    let them := (d.drop 22).take 6
    s.gatewayFrame m (them ++ me ++ [0x08, 0x06] ++ be 2 1 ++ be 2 0x0800 ++ [6, 4] ++ be 2 2 ++ me ++ be 4 (s.rd Key.Gw.LOCAL_IP) ++ them ++ (d.drop 28).take 4)
  else s

end Sys

/-! ### Commands -/

/-- COUNT (R86). -/
def execCount (p : Fin 2) (f : Frame) (s : State) : Host.Outcome State Fault Refusal :=
  onSys (fun s => s.receiveIf p f (Sys.isEnum f 1) (fun s p f => if s.enumOpen p then s.enumCount p f else s)) s

/-- IDENTIFY (R86). -/
def execIdentify (p : Fin 2) (f : Frame) (s : State) : Host.Outcome State Fault Refusal :=
  onSys (fun s => s.receiveIf p f (Sys.isEnum f 2) (fun s p f => if s.enumOpen p then s.enumIdentify p f else s)) s

/-- ASSIGN (R86). -/
def execAssign (p : Fin 2) (f : Frame) (s : State) : Host.Outcome State Fault Refusal :=
  onSys (fun s => s.receiveIf p f (Sys.isEnum f 3) (fun s p f => if s.enumOpen p then s.enumAssign p f else s)) s

/-- ASSIGN_ALIAS (R86). -/
def execAssignAlias (p : Fin 2) (f : Frame) (s : State) : Host.Outcome State Fault Refusal :=
  onSys (fun s => s.receiveIf p f (Sys.isEnum f 4) (fun s p f => if s.enumOpen p then s.enumAlias p f else s)) s

/-- RELEASE (R86). -/
def execRelease (p : Fin 2) (f : Frame) (s : State) : Host.Outcome State Fault Refusal :=
  onSys (fun s => s.receiveIf p f (Sys.isEnum f 5) (fun s p f => if s.enumOpen p then s.enumRelease p f else s)) s

/-- STREAM (R94, R95). -/
def execStream (p : Fin 2) (f : Frame) (s : State) : Host.Outcome State Fault Refusal :=
  onSys (fun s => s.receiveIf p f (decide (f.typ = 4)) (fun s p f => if f.dest = s.address then s.streamIn p f else s)) s

/-- ALARM (R91, R209). -/
def execAlarm (p : Fin 2) (f : Frame) (s : State) : Host.Outcome State Fault Refusal :=
  onSys (fun s => s.receiveIf p f (decide (f.typ = 9)) (fun s _ f => s.alarmIn f)) s

/-- SYNC (R373). -/
def execSync (p : Fin 2) (f : Frame) (s : State) : Host.Outcome State Fault Refusal :=
  onSys (fun s => s.receiveIf p f (decide (f.typ = 6)) (fun s p f => s.syncTake p f.src (s.stampIn p f) f.corr f.payload)) s

/-- DELAY_REQ (R370). -/
def execDelayReq (p : Fin 2) (f : Frame) (s : State) : Host.Outcome State Fault Refusal :=
  onSys (fun s => s.receiveIf p f (decide (f.typ = 7)) (fun s p f =>
    if f.dest = s.address then s.delayAnswer p f.src (s.stampIn p f) f.payload else s)) s

/-- DELAY_RSP (R370). -/
def execDelayRsp (p : Fin 2) (f : Frame) (s : State) : Host.Outcome State Fault Refusal :=
  onSys (fun s => s.receiveIf p f (decide (f.typ = 8)) (fun s p f =>
    if f.dest = s.address then s.delayTake p (s.stampIn p f) f.corr f.payload else s)) s

/-- CREDIT_SYMBOL (R83). -/
def execCreditSymbol (p : Fin 2) (cls : Fin 3) (cells : Nat) (s : State) : Host.Outcome State Fault Refusal :=
  onSys (fun s => s.creditIn p cls cells) s

/-- CREDIT_RETURN_TIMER (R83). -/
def execCreditReturnTimer (p : Fin 2) (cls : Fin 3) (s : State) : Host.Outcome State Fault Refusal :=
  onSys (fun s => s.creditOut p cls) s

/-- HEARTBEAT (R84, R208). -/
def execHeartbeat (p : Fin 2) (addr st : Nat) (gateway : Bool) (s : State) : Host.Outcome State Fault Refusal :=
  onSys (fun s => s.heartbeatIn p addr st gateway) s

/-- HEARTBEAT_SEND (R84). -/
def execHeartbeatSend (p : Fin 2) (s : State) : Host.Outcome State Fault Refusal := onSys (fun s => s.heartbeatOut p) s

/-- HEARTBEAT_TIMEOUT (R74). -/
def execHeartbeatTimeout (p : Fin 2) (s : State) : Host.Outcome State Fault Refusal := onSys (fun s => s.heartbeatLost p) s

/-- CREDIT_PERIOD_EXPIRY (R96). -/
def execCreditPeriodExpiry (n : Fin 8) (s : State) : Host.Outcome State Fault Refusal := onSys (fun s => s.creditPeriod n) s

/-- ARP_REQUEST (R99). -/
def execArpRequest (m : Fin 2) (d : List Nat) (s : State) : Host.Outcome State Fault Refusal := onSys (fun s => s.arpIn m d) s

end Sys2Proof.Machine
end

