-- ==== Sys2Proof/Machine/Lanes.lean ====
section
/-! DEFINITION. Lanes: the sixteen serial lanes: users and rates (R335 to R338), the board equalisation table (R339, R340), bring-up and capability exchange (R341 to R346), degraded two-lane ports (R347, R348) and lane tests (R354). -/

namespace Sys2Proof.Machine

open Sys2Proof

/-- The rate family of a rate code (R336): A 0, B 1, C 2, D 3. -/
def rateFamily (code : Nat) : Nat :=
  if code = 7 then 0 else if code = 5 then 3 else if code = 2 ∨ code = 4 ∨ code = 6 then 1 else 2

/-- The entry of the defaults of R340: PRE 0, MAIN 48, POST -8, CTLE 6, DFE 0, no inversion. -/
def eqDefault : List Nat := [0, 48, 0xF8, 6, 0, 0, 0, 0, 0, 0]

/-- An entry of the board table keeps the ranges and the cursor sum of R339. -/
def eqEntryOk (e : List Nat) : Bool :=
  let pre := sext 8 (u8At e 0)
  let post := sext 8 (u8At e 2)
  let d (i lim_ : Nat) : Bool := decide ((sext 8 (u8At e (4 + i))).natAbs ≤ lim_)
  decide (-15 ≤ pre ∧ pre ≤ 0) && decide (24 ≤ u8At e 1 ∧ u8At e 1 ≤ 63) && decide (-31 ≤ post ∧ post ≤ 0)
    && decide (u8At e 3 ≤ 15) && d 0 63 && d 1 31 && d 2 31 && d 3 31 && d 4 31 && decide (pre.natAbs + u8At e 1 + post.natAbs ≤ 63)

namespace Sys

/-! ### Users (R335 to R337) -/

/-- The user of a lane, as FUNCTION and USER show it (R335): 1 chain, 2 Ethernet, 3 head link, 4 test, 0 none. -/
def laneUser (s : Sys) (l : Nat) : Nat × Nat :=
  if s.rd (Key.Lane.STAGE l) = 5 then (4, 0xFF)
  else match [0, 1].find? (fun p => decide (l ∈ s.portLanes p)) with
    | some p => (1, p)
    | none => match [0, 1].find? (fun m => s.rdB (Key.Mac.ENABLE m) && decide (s.rd (Key.Mac.LANE m) = l)) with
      | some m => (2, m)
      | none => match (List.range 8).find? (fun k => s.rdB (Key.Link.ENABLE k) && decide (s.rd (Key.Link.LANE k) = l)) with
        | some k => (3, k)
        | none => (0, 0xFF)

/-- The rate code of a lane for its user, 0xFF with none (R336, R337). -/
def laneRate (s : Sys) (l : Nat) : Nat :=
  match s.laneUser l with
  | (1, p) => (s.port p).rate
  | (2, m) => if s.rd (Key.Mac.SPEED m) = 0 then 5 else 7
  | (3, k) => if s.rd (Key.Link.RATE k) = 0 then 4 else 6
  | (4, _) => s.rd (Key.LaneTest.TEST_RATE l)
  | _ => 0xFF

/-- The families that the lanes in use of a group take, one lane counted at a given rate (R336, R338, R354). -/
def groupFamilies (s : Sys) (g l rate : Nat) : List Nat :=
  (List.range 4).filter (fun fam => (List.range 4).any (fun i =>
    let k := 4 * g + i
    let r := if k = l then rate else s.laneRate k
    decide (r ≠ 0xFF ∧ rateFamily r = fam)))

/-! ### Equalisation (R339, R340) -/

/-- A copy of the board table in the read map of the MRAM: its offset counts from the calibration region at 0x80_0000 (R339, R433). -/
def eqBase (copy : Nat) : Nat := 0x20A34000 + 0x1000 * copy

/-- The entry of a copy for a lane and rate. -/
def eqEntry (s : Sys) (copy l r : Nat) : List Nat := s.bytes (eqBase copy + 64 + 16 * (8 * l + r)) 10

/-- A copy of the board table is valid (R340). -/
def eqValid (s : Sys) (copy : Nat) : Bool :=
  decide (s.ld (eqBase copy) 4 = 0x4C455131) && decide (s.ld (eqBase copy + 4) 2 = 1)
    && (List.range 128).all (fun i => eqEntryOk (s.eqEntry copy (i / 8) (i % 8)))
    && decide (s.ld (eqBase copy + 60) 4 = crc32 (s.bytes (eqBase copy) 60 ++ s.bytes (eqBase copy + 64) 2048))

/-- The lane controller reads the table for some lanes (R340); whether it has to use the defaults. -/
def eqRead (s : Sys) (ls : List Nat) : Sys :=
  let src := if s.eqValid 0 then 0 else if s.eqValid 1 then 1 else 2
  let s := s.each ls (fun s l =>
    (s.wr (Key.Lane.EQ_SOURCE l) src).modLane l (fun q => { q with table := if src = 2 then [] else (List.range 8).map (fun r => s.eqEntry src l r) }))
  if src = 2 then s.faultNow 0x55 7 (ls.headD 0) else s

/-- A lane applies the taps of its rate (R340). -/
def eqApply (s : Sys) (l : Nat) : Sys :=
  let r := s.laneRate l
  let e := (s.lane l).table.getD r eqDefault
  let s := (((s.wrI (Key.LaneEq.PRE l) (sext 8 (u8At e 0))).wr (Key.LaneEq.MAIN l) (u8At e 1)).wrI (Key.LaneEq.POST l) (sext 8 (u8At e 2))).wr
    (Key.LaneEq.CTLE l) (u8At e 3)
  let s := s.each (List.range 5) (fun s i => s.wrI (Key.LaneEq.DFE l i) (sext 8 (u8At e (4 + i))))
  s.wr (Key.LaneEq.POLARITY l) (u8At e 9 % 4)

/-! ### Stages (R341) -/

/-- A chain port that is not UP shows TRAINING while one of its lanes trains, and DOWN otherwise; so does a head link. -/
def userStage (s : Sys) (l : Nat) : Sys :=
  match s.laneUser l with
  | (1, p) =>
    if s.rd (Key.Port.STATE p) = 1 ∨ s.rd (Key.Port.STATE p) = 2 then
      s.wr (Key.Port.STATE p) (if (s.portLanes p).any (fun l => decide (2 ≤ s.rd (Key.Lane.STAGE l) ∧ s.rd (Key.Lane.STAGE l) ≤ 4)) then 2 else 1)
    else s
  | (3, k) =>
    if s.rd (Key.Link.STATE k) = 1 ∨ s.rd (Key.Link.STATE k) = 2 then
      s.wr (Key.Link.STATE k) (if 2 ≤ s.rd (Key.Lane.STAGE l) then 2 else 1)
    else s
  | _ => s

/-- The clock of the lanes runs: the chain waits for FCLK and TCLK on PLL_SYS (R74), and the group is powered. -/
def laneClock (s : Sys) (l : Nat) : Bool :=
  s.domainOn (2 + l / 4) && (decide ((s.laneUser l).1 ≠ 1) || decide (s.rd Key.Pll.SOURCE % 4 = 3))

/-- A lane with a user leaves OFF; one without returns to it (R335, R341). An Ethernet lane trains at once. -/
def laneRefresh (s : Sys) : Sys :=
  s.each (List.range 16) (fun s l =>
    let st := s.rd (Key.Lane.STAGE l)
    match s.laneUser l with
    | (0, _) => if st = 0 then s else s.laneStage l 0
    | (1, p) => if st = 0 ∧ s.laneClock l ∧ s.rdB (Key.Port.ENABLE p) ∧ s.rd (Key.Port.STATE p) ≠ 0 then s.laneStage l 1 else s
    | (2, _) => if st = 0 ∧ s.laneClock l then (s.laneStage l 2).eqApply l else s
    | (3, k) => if st = 0 ∧ s.laneClock l then (s.laneStage l 1).wr (Key.Link.STATE k) 1 else s
    | _ => s)

/-- FUNCTION, USER and RATE of a lane, as they read. -/
def laneShows (s : Sys) (l sub : Nat) : Nat :=
  match sub with
  | 1 => (s.laneUser l).1
  | 2 => (s.laneUser l).2
  | _ => s.laneRate l

/-- The far end of a lane in DETECT is terminated, or not (R341). A lane that has a user by now leaves OFF first. -/
def detectProbe (s : Sys) (l : Nat) (present : Bool) : Sys :=
  let s := s.laneRefresh
  if s.rd (Key.Lane.STAGE l) = 1 ∧ present then ((s.laneStage l 2).eqApply l).userStage l else s

/-- A lane returns from TRAIN or CAPABILITY to DETECT (R341). -/
def trainFail (s : Sys) (l : Nat) : Sys := ((s.inc (Key.LaneCnt.TRAIN_FAILS l)).laneStage l 1).userStage l

/-! ### Capability exchange (R343 to R346) -/

/-- The index of a lane in its port, and whether the port has two lanes. -/
def laneIndex (s : Sys) (l p : Nat) : Nat := (l + 16 - s.rd (Key.Port.LANE_FIRST p)) % 16

def twoLanes (s : Sys) (p : Nat) : Bool := decide (s.rd (Key.Port.LANE_COUNT p) = 2)

/-- The lanes of a two-lane port that have succeeded on its receive side (R346): 4 equal CAPs have come, and the skew is absorbed. -/
def ownMask (s : Sys) (p : Nat) : Nat :=
  if !s.twoLanes p then 1
  else ((s.portLanes p).zip [1, 2]).foldl (fun n x =>
    n + if s.rd (Key.Lane.STAGE x.1) = 4 ∨ (s.rd (Key.Lane.STAGE x.1) = 3 ∧ (s.lane x.1).seen ∧ !(s.lane x.1).skewed) then x.2 else 0) 0

/-- MASK as the unit sends it for a port: what has succeeded, and once the port carries traffic what it is to be carried on (R346 to R348). -/
def capMask (s : Sys) (p : Nat) : Nat := if s.twoLanes p && (s.port p).trained then (s.port p).offer else s.ownMask p

/-- The CAP that a lane sends (R343). -/
def capOf (s : Sys) (l : Nat) (seen : Bool) : List Nat :=
  match s.laneUser l with
  | (1, p) => [0x11, s.laneIndex l p + 2 * s.capMask p + 8 * b2n (s.twoLanes p), b2n seen]
  | _ => [0x12, 2, b2n seen]

/-- One CAP leaves lane `l`. -/
def capOut (s : Sys) (l : Nat) : Sys :=
  let seen := (s.lane l).seen || decide (s.rd (Key.Lane.STAGE l) = 4)
  (s.emit (.cap l (s.capOf l seen))).modLane l (fun q => { q with sent := q.sent + b2n seen, capAt := s.clk })

/-- Send one CAP for a lane in CAPABILITY: on a two-lane port every CAP leaves on both lanes in the same position (R346). -/
def sendCap (s : Sys) (l : Nat) : Sys :=
  match s.laneUser l with
  | (1, p) =>
    if s.twoLanes p then s.each ((s.portLanes p).filter (fun k => decide (s.rd (Key.Lane.STAGE k) = 3 ∨ s.rd (Key.Lane.STAGE k) = 4))) capOut
    else s.capOut l
  | _ => s.capOut l

/-- Send the four CAPs of a change of MASK, on every lane of a port (R347, R348). -/
def sendMask (s : Sys) (p : Nat) : Sys :=
  s.each (s.portLanes p) (fun s l => iter (fun s => s.emit (.cap l (s.capOf l true))) 4 s)

/-- The lanes of a MASK come into use, and frames start again (R346 to R348). -/
def useMask (s : Sys) (p m : Nat) : Sys :=
  let s := ((s.portLanes p).zip [1, 2]).foldl (fun s x => s.wrB (Key.Lane.IN_USE x.1) (decide (m / x.2 % 2 = 1))) s
  let s := if m = 3 then (s.portLanes p).foldl (fun s l => s.clearActive 0x53 7 l) s else s
  (s.modPort p (fun r => { r with mask := m, offer := m, hold := false, firstAt := none })).pump p

/-- A two-lane port goes on with the lanes of a MASK, without lane `l` (R346, R347). -/
def degrade (s : Sys) (p l m : Nat) : Sys :=
  let s := ((s.inc (Key.LaneCnt.DEGRADE_EVENTS l)).faultNow 0x53 7 l).modPort p (fun r => { r with mask := m, offer := m, hold := true })
  let s := s.sendMask p
  if (s.port p).partner = m then s.useMask p m else s

/-- The lane of a two-lane port that is not in a MASK of one lane. -/
def lostLane (s : Sys) (p m : Nat) : Nat := (s.portLanes p).getD (if m = 1 then 1 else 0) 0

/-- The lanes of port `p` that are ACTIVE, as a MASK. -/
def activeMask (s : Sys) (p : Nat) : Nat :=
  ((s.portLanes p).zip [1, 2]).foldl (fun n x => n + if s.rd (Key.Lane.STAGE x.1) = 4 then x.2 else 0) 0

/-- A two-lane port that has not come up yet does so on both lanes, once both have succeeded and the partner's latest CAP says the same
(R346). -/
def bothUp (s : Sys) (p : Nat) : Sys :=
  if !(s.port p).trained ∧ s.activeMask p = 3 ∧ (s.port p).partner = 3 then (s.modPort p (fun r => { r with trained := true })).useMask p 3
  else s

/-- A lane has succeeded and enters ACTIVE (R344, R346, R348). The second lane of a port that already carries traffic is offered in MASK,
and used once the partner offers it too. -/
def laneActive (s : Sys) (l : Nat) : Sys :=
  let s := (s.laneStage l 4).userStage l
  match s.laneUser l with
  | (3, k) => s.modLink k (fun q => { q with trained := true })
  | (1, p) =>
    if !s.twoLanes p then s.modPort p (fun r => { r with trained := true, mask := 1 })
    else
      let s := s.wrB (Key.Lane.IN_USE l) false
      if (s.port p).trained then
        let s := (s.modPort p (fun r => { r with offer := 3 })).sendMask p
        if (s.port p).partner = 3 then s.useMask p 3 else s
      else (s.modPort p (fun r => { r with firstAt := r.firstAt.orElse (fun _ => some s.clk) })).bothUp p
  | _ => s

/-- A lane in CAPABILITY has received SEEN and sent 4 CAPs with SEEN: it succeeds, unless its skew is over 32 ns (R344, R346). -/
def capDone (s : Sys) (l : Nat) : Sys :=
  let q := s.lane l
  if s.rd (Key.Lane.STAGE l) ≠ 3 ∨ !q.gotSeen ∨ q.sent < 4 then s
  else if !q.skewed then s.laneActive l
  else if q.skewFail then s
  else (s.inc (Key.LaneCnt.SKEW_FAILS l)).modLane l (fun q => { q with skewFail := true })

/-- A CAP and the idle after it have passed since the last one left lane `l` (R344). -/
def capNext (s : Sys) (l : Nat) : Bool :=
  let code := s.laneRate l
  decide ((if code = 5 ∨ code = 7 then 132 else 120) * 1000000 ≤ (s.clk - (s.lane l).capAt) * rateKbit code)

/-- As time passes the lanes in CAPABILITY send one CAP after another (R344). -/
def capTick (s : Sys) : Sys :=
  s.each (List.range 16) (fun s l => if s.rd (Key.Lane.STAGE l) = 3 && s.capNext l then (s.sendCap l).capDone l else s)

/-- A CAP keeps the rule of R344 on lane `l`. -/
def capGood (s : Sys) (l d1 d2 : Nat) : Bool :=
  match s.laneUser l with
  | (1, p) => decide (d1 = 0x11 ∧ d2 % 2 = s.laneIndex l p ∧ d2 / 8 % 2 = b2n (s.twoLanes p))
  | (3, _) => decide (d1 = 0x12 ∧ d2 % 2 = 0 ∧ d2 / 8 % 2 = 0)
  | _ => false

/-- A good CAP with a MASK has arrived for a two-lane port (R346 to R348). -/
def maskIn (s : Sys) (p m : Nat) : Sys :=
  let s := s.modPort p (fun r => { r with partner := m })
  if !(s.port p).trained then s.bothUp p
  else if m = (s.port p).mask then (if (s.port p).hold then s.useMask p m else s)
  else if m = 3 then (if (s.port p).offer = 3 then s.useMask p 3 else s)
  else if m = 1 ∨ m = 2 then s.degrade p (s.lostLane p m) m
  else s

/-- A CAP has arrived (R344, R346 to R348). -/
def capIn (s : Sys) (l d1 d2 d3 : Nat) (skewOk : Bool) : Sys :=
  let st := s.rd (Key.Lane.STAGE l)
  let masked (s : Sys) : Sys :=
    match s.laneUser l with
    | (1, p) => if s.twoLanes p then s.maskIn p (d2 / 2 % 4) else s
    | _ => s
  if st = 3 then
    if !s.capGood l d1 d2 then (s.inc (Key.LaneCnt.CAP_MISMATCHES l)).modLane l (fun q => { q with caps := 0, seen := false, sent := 0 })
    else
      let q := s.lane l
      let n := if q.caps ≠ 0 ∧ q.last = (d1, d2, d3) then q.caps + 1 else 1
      let s := s.modLane l (fun q => { q with
        caps := n, last := (d1, d2, d3), seen := q.seen || decide (4 ≤ n), gotSeen := q.gotSeen || d3.testBit 0, skewed := !skewOk })
      (masked s).capDone l
  else if st = 4 ∧ s.capGood l d1 d2 then masked s
  else s

/-- 4 ms after the first lane of a port succeeded alone, the port comes up on it (R346). -/
def singleLane (s : Sys) (p : Nat) : Sys :=
  match (s.port p).firstAt with
  | some t =>
    if t + 4000000 ≤ s.clk ∧ !(s.port p).trained then
      let own := s.activeMask p
      let both := own &&& (s.port p).partner
      let m := if both = 1 ∨ both = 2 then both else if own = 2 then 2 else 1
      let l := s.lostLane p m
      let s := (s.inc (Key.LaneCnt.DEGRADE_EVENTS l)).faultNow 0x53 7 l
      (s.modPort p (fun r => { r with trained := true })).useMask p m
    else s
  | none => s

/-! ### Loss of a lane (R341, R347, R355) -/

/-- The link of MAC `m` goes DOWN with its lane or its ENABLE (R350, R355). -/
def macDown (s : Sys) (m : Nat) : Sys :=
  let up := decide (s.rd (Key.Mac.LINK m) = 3)
  ((s.dropDatagrams m).wr (Key.Mac.LINK m) 0).when up (fun s => s.faultNow 0x56 7 (s.rd (Key.Mac.LANE m)))

/-- An Ethernet lane trains anew (R340, R349). -/
def macTrain (s : Sys) (l : Nat) : Sys := (s.laneStage l 2).eqApply l

/-- A lane leaves CAPABILITY or ACTIVE for DETECT, at a loss of lock, of its PLL or at RETRAIN. An Ethernet lane trains anew, and its MAC
goes DOWN (R349, R355). -/
def laneLost (s : Sys) (l : Nat) : Sys :=
  let st := s.rd (Key.Lane.STAGE l)
  match s.laneUser l with
  | (2, m) =>
    if st = 4 then ((s.macTrain l).inc (Key.MacCnt.LOCK_LOSSES m)).macDown m else if st = 2 then s.macTrain l else s
  | (1, p) =>
    if st = 2 ∨ st = 3 then s.trainFail l
    else if st ≠ 4 then s
    else
      let m := (s.port p).mask
      let bit := if l = (s.portLanes p).getD 0 0 then 1 else 2
      let s := s.laneStage l 1
      if s.twoLanes p && s.portUp p && decide (m = 3) then s.degrade p l (3 - bit)
      else if s.twoLanes p && s.portUp p && decide (m / bit % 2 = 0) then
        -- it was on its way back, and the port stays on one lane (R348)
        if (s.port p).offer = 3 then (s.modPort p (fun r => { r with offer := m })).sendMask p else s
      else if s.portUp p || (s.port p).trained then ((s.portExit p 1).portLanesTo p 1).userStage l
      else (s.modPort p (fun r => { r with firstAt := if s.activeMask p = 0 then none else r.firstAt })).userStage l
  | (3, k) => if st = 2 ∨ st = 3 then s.trainFail l else if st ≠ 4 then s else (s.laneStage l 1).linkFall k 1
  | _ => s

/-- So many of the positions lie within so many consecutive ones. -/
def crowded (n span : Nat) (l : List Nat) : Bool :=
  (List.range l.length).any (fun i => decide (i + n ≤ l.length ∧ l.getD (i + n - 1) 0 < l.getD i 0 + span))

/-- Errors at these places of the received stream cost lane `l` its lock (R342): 4 in 16 symbols, or 24 sync headers in 64 blocks. An
Ethernet lane follows its clause: 16 in 64 (R349; PRESUMED, log entry 33). -/
def lockGone (s : Sys) (l : Nat) (errs : List Nat) : Bool :=
  if (s.laneUser l).1 = 2 then crowded 16 64 errs
  else if s.laneRate l = 5 ∨ s.laneRate l = 7 then crowded 24 64 errs
  else crowded 4 16 errs

/-- These bit positions, of commas or of valid sync headers one after another, give a lane in TRAIN its lock (R342): three commas on one
10-bit boundary, or 64 consecutive headers. -/
def lockFound (s : Sys) (l : Nat) (marks : List Nat) : Bool :=
  let same (n : Nat) (f : Nat → Nat → Bool) : Bool :=
    (List.range marks.length).any (fun i => decide (i + n ≤ marks.length) &&
      (List.range (n - 1)).all (fun j => f (marks.getD (i + j) 0) (marks.getD (i + j + 1) 0)))
  if s.laneRate l = 5 ∨ s.laneRate l = 7 then same 64 (fun a b => decide (b = a + 66)) else same 3 (fun a b => decide (a % 10 = b % 10))

/-- A lane finds code, disparity or sync-header errors at these places, in the middle of a frame or not (R342): in ACTIVE they count, and
where there are too many of them lock is lost. A chain frame under way ends badly (R80 case 7, R347). -/
def lockLost (s : Sys) (l : Nat) (errs : List Nat) (cut : Option Frame) : Sys :=
  let st := s.rd (Key.Lane.STAGE l)
  if st ≠ 3 ∧ st ≠ 4 then s
  else
    let s := s.when (decide (st = 4)) (fun s => s.add (Key.LaneCnt.CODE_ERRORS l) 32 errs.length)
    if !s.lockGone l errs then s
    else
      let s := s.inc (Key.LaneCnt.LOCK_LOSSES l)
      let s := match s.laneUser l, cut with
        | (1, p), some f => s.receive p { f with broken := true } (fun s _ _ => s)
        | (3, k), some _ => s.when (s.linkUp k) (fun s => s.linkCrc k)
        | _, _ => s
      s.laneLost l

/-! ### Lane commands and tests (R354, R356) -/

/-- The abort of a lane command (R354, R356), 0 where it is accepted. -/
def laneCmdAbort (s : Sys) (l cmd : Nat) : Nat :=
  let chain := [0, 1].find? (fun p => decide (l ∈ s.portLanes p))
  match cmd with
  | 1 => if chain.isSome ∧ s.dev ≠ .service then 0x0803 else 0
  | 2 => 0
  | 3 =>
    if s.dev ≠ .service ∨ (chain.any (fun p => s.rdB (Key.Port.ENABLE p))) then 0x0803
    else if 2 < (s.groupFamilies (l / 4) l (s.rd (Key.LaneTest.TEST_RATE l))).length then 0x0803
    else 0
  | 4 => 0
  | _ => 0x0604

/-- The test of a lane ends (R354). -/
def testEnd (s : Sys) (l : Nat) : Sys := if s.rd (Key.Lane.STAGE l) = 5 then (s.testOver l).laneRefresh else s

/-- Every test ends (R354: LEAVE_SERVICE and entry to FAULT). -/
def testsEnd (s : Sys) : Sys := s.each (List.range 16) testEnd

/-- A lane leaves its user for a test (R354): that is no return to DETECT. -/
def leaveUser (s : Sys) (l : Nat) : Sys :=
  match s.laneUser l with
  | (2, m) => s.macDown m
  | (3, k) => if s.rd (Key.Lane.STAGE l) = 4 then s.laneLost l else s.when (decide (s.rd (Key.Link.STATE k) ≠ 0)) (fun s => s.wr (Key.Link.STATE k) 1)
  | _ => s.when (decide (s.rd (Key.Lane.STAGE l) = 4)) (fun s => s.laneLost l)

/-- The effect of an accepted lane command (R354, R356). -/
def laneCmd (s : Sys) (l cmd : Nat) : Sys :=
  match cmd with
  | 1 => s.laneLost l
  | 2 => s.eqRead [l]
  | 3 => (((((s.leaveUser l).laneStage l 5).eqApply l).wrB (Key.LaneTest.TEST_LOCK l) false).wr (Key.LaneTest.BITS l) 0).wr (Key.LaneTest.BIT_ERRORS l) 0
  | 4 => s.testEnd l
  | _ => s

/-- A lane PLL of group `g` loses lock: the lanes in use of its family enter DETECT, one in TEST with the end of its test (R355). -/
def pllLost (s : Sys) (g fam : Nat) : Sys :=
  let ls := (List.range 4).map (fun i => 4 * g + i)
  let s := s.faultNow 0x54 7 (4 * g)
  s.each (ls.filter (fun l => decide (2 ≤ s.rd (Key.Lane.STAGE l) ∧ rateFamily (s.laneRate l) = fam))) (fun s l =>
    if s.rd (Key.Lane.STAGE l) = 5 then
      let s := s.testOver l
      match s.laneUser l with
      | (0, _) => s
      | (2, _) => s.macTrain l
      | _ => s.laneStage l 1
    else s.laneLost l)

/-- The delays that a PRBS adds up (R354): 7 and 6, 15 and 14, 23 and 18, 31 and 28. -/
def prbsTaps (pattern : Nat) : Nat × Nat := [(7, 6), (15, 14), (23, 18), (31, 28)].getD pattern (0, 0)

/-- The last 64 of the received bits, oldest first, are each what the pattern makes of the bits before them (R354); a line that stands at
zero is no pattern. -/
def patternRun (pattern : Nat) (bits : List Bool) : Bool :=
  let n := bits.length
  let taps := prbsTaps pattern
  let back := if pattern = 4 then 8 else taps.1
  decide (64 + back ≤ n) && bits.any id && (List.range 64).all (fun j =>
    let i := n - 64 + j
    decide (bits.getD i false = if pattern = 4 then !bits.getD (i - 8) false else (bits.getD (i - taps.1) false != bits.getD (i - taps.2) false)))

/-- The checker of lane `l` locks on these bits at the pins (R354): under near-end loopback it gets those of the own serialiser, which are in
order. -/
def testLocks (s : Sys) (l : Nat) (bits : List Bool) : Bool :=
  decide (s.rd (Key.LaneTest.LOOPBACK l) = 1) || patternRun (s.rd (Key.LaneTest.PATTERN l)) bits

/-- The checker of a lane in TEST locks, and counts from there (R354). -/
def checkerLock (s : Sys) (l : Nat) (bits : List Bool) : Sys :=
  if s.rd (Key.Lane.STAGE l) ≠ 5 ∨ s.rdB (Key.LaneTest.TEST_LOCK l) ∨ !s.testLocks l bits then s
  else (((s.wrB (Key.LaneTest.TEST_LOCK l) true).wr (Key.LaneTest.BITS l) 0).wr (Key.LaneTest.BIT_ERRORS l) 0).modLane l (fun q => { q with lockAt := s.clk })

/-- Errors at these places of the bits at the pins (R354): they count while the checker is locked, and 32 within 64 bits cost it the lock.
Under near-end loopback the checker does not see them. -/
def checkerLoss (s : Sys) (l : Nat) (errs : List Nat) : Sys :=
  if s.rd (Key.Lane.STAGE l) ≠ 5 ∨ !s.rdB (Key.LaneTest.TEST_LOCK l) ∨ s.rd (Key.LaneTest.LOOPBACK l) = 1 then s
  else
    let s := s.add (Key.LaneTest.BIT_ERRORS l) 64 errs.length
    if crowded 32 64 errs then (s.wr (Key.LaneTest.BITS l) (s.bitsSince l)).wrB (Key.LaneTest.TEST_LOCK l) false else s

/-! ### What the transmitters send (R341, R342, R354) -/

/-- What a lane sends: nothing, the symbols of the training pattern as (K, byte), idle blocks, CAPs, traffic, a test pattern, or the data it
has recovered. -/
inductive LaneTx
  | quiet | symbols (l : List (Bool × Nat)) | idleBlocks | caps | traffic | pattern (n : Nat) | recovered
  deriving DecidableEq, Repr

/-- The training pattern of an 8b/10b lane: K28.5 D10.2 D10.2 D21.5 (R342). -/
def trainSymbols : List (Bool × Nat) := [(true, 0xBC), (false, 0x4A), (false, 0x4A), (false, 0xB5)]

/-- What lane `l` sends in its stage. -/
def laneSends (s : Sys) (l : Nat) : LaneTx :=
  match s.rd (Key.Lane.STAGE l) with
  | 2 => if s.laneRate l = 5 ∨ s.laneRate l = 7 then .idleBlocks else .symbols trainSymbols
  | 3 => .caps
  | 4 => .traffic
  | 5 => if s.rd (Key.LaneTest.LOOPBACK l) = 2 then .recovered else .pattern (s.rd (Key.LaneTest.PATTERN l))
  | _ => .quiet

end Sys

/-- DETECT_PROBE (R341). -/
def execDetectProbe (l : Fin 16) (present : Bool) (s : State) : Host.Outcome State Fault Refusal := onSys (fun s => s.detectProbe l present) s

/-- SYMBOL_LOCK (R342): with commas or sync headers at these bit positions a lane in TRAIN enters CAPABILITY and sends CAPs; an Ethernet
lane shows block lock. -/
def execSymbolLock (l : LaneMarks) (s : State) : Host.Outcome State Fault Refusal :=
  onSys (fun s =>
    if s.rd (Key.Lane.STAGE l.l) = 2 && s.lockFound l.l l.marks then
      if (s.laneUser l.l).1 = 2 then s.laneStage l.l 4 else ((s.laneStage l.l 3).userStage l.l).sendCap l.l
    else s) s

/-- TRAIN_TIMEOUT (R341): 20 ms in TRAIN without lock. -/
def execTrainTimeout (l : Fin 16) (s : State) : Host.Outcome State Fault Refusal :=
  onSys (fun s =>
    if s.rd (Key.Lane.STAGE l) = 2 ∧ (s.laneUser l).1 ≠ 2 ∧ (s.lane l).since + 20000000 ≤ s.clk then s.trainFail l else s) s

/-- CAP (R344). -/
def execCapSet (l : Fin 16) (d1 d2 d3 : Nat) (skewOk : Bool) (s : State) : Host.Outcome State Fault Refusal :=
  onSys (fun s => s.capIn l d1 d2 d3 skewOk) s

/-- CAPABILITY_TIMEOUT (R341): 4 ms in CAPABILITY without success. -/
def execCapabilityTimeout (l : Fin 16) (s : State) : Host.Outcome State Fault Refusal :=
  onSys (fun s => if s.rd (Key.Lane.STAGE l) = 3 ∧ (s.lane l).since + 4000000 ≤ s.clk then s.trainFail l else s) s

/-- LOSS_OF_LOCK (R342). -/
def execLossOfLock (l : Fin 16) (errs : List Nat) (cut : Option Frame) (s : State) : Host.Outcome State Fault Refusal :=
  onSys (fun s => s.lockLost l errs cut) s

/-- SINGLE_LANE_TIMEOUT (R346). -/
def execSingleLaneTimeout (p : Fin 2) (s : State) : Host.Outcome State Fault Refusal := onSys (fun s => s.singleLane p) s

/-- LANE_PLL (R355). -/
def execLanePll (g fam : Fin 4) (s : State) : Host.Outcome State Fault Refusal := onSys (fun s => s.pllLost g fam) s

/-- CHECKER_LOCK (R354). -/
def execCheckerLock (l : LaneBits) (s : State) : Host.Outcome State Fault Refusal := onSys (fun s => s.checkerLock l.l l.bits) s

/-- CHECKER_LOCK_LOSS (R354). -/
def execCheckerLockLoss (l : Fin 16) (errs : List Nat) (s : State) : Host.Outcome State Fault Refusal := onSys (fun s => s.checkerLoss l errs) s

end Sys2Proof.Machine
end

