-- ==== Sys2Proof/Machine/Crypto.lean ====
section
/-! DEFINITION. Crypto: SHA-256 and the verification of ECDSA signatures on P-256, which image checks use (R437). Both are the published standards (FIPS 180-4, FIPS 186-4), which the spec names (log entry 33). -/

namespace Sys2Proof.Machine

/-! ### SHA-256 -/

/-- The round constants. -/
def shaK : List Nat :=
  [0x428a2f98, 0x71374491, 0xb5c0fbcf, 0xe9b5dba5, 0x3956c25b, 0x59f111f1, 0x923f82a4, 0xab1c5ed5] ++
  [0xd807aa98, 0x12835b01, 0x243185be, 0x550c7dc3, 0x72be5d74, 0x80deb1fe, 0x9bdc06a7, 0xc19bf174] ++
  [0xe49b69c1, 0xefbe4786, 0x0fc19dc6, 0x240ca1cc, 0x2de92c6f, 0x4a7484aa, 0x5cb0a9dc, 0x76f988da] ++
  [0x983e5152, 0xa831c66d, 0xb00327c8, 0xbf597fc7, 0xc6e00bf3, 0xd5a79147, 0x06ca6351, 0x14292967] ++
  [0x27b70a85, 0x2e1b2138, 0x4d2c6dfc, 0x53380d13, 0x650a7354, 0x766a0abb, 0x81c2c92e, 0x92722c85] ++
  [0xa2bfe8a1, 0xa81a664b, 0xc24b8b70, 0xc76c51a3, 0xd192e819, 0xd6990624, 0xf40e3585, 0x106aa070] ++
  [0x19a4c116, 0x1e376c08, 0x2748774c, 0x34b0bcb5, 0x391c0cb3, 0x4ed8aa4a, 0x5b9cca4f, 0x682e6ff3] ++
  [0x748f82ee, 0x78a5636f, 0x84c87814, 0x8cc70208, 0x90befffa, 0xa4506ceb, 0xbef9a3f7, 0xc67178f2]

/-- The initial hash value. -/
def shaInit : List Nat := [0x6a09e667, 0xbb67ae85, 0x3c6ef372, 0xa54ff53a, 0x510e527f, 0x9b05688c, 0x1f83d9ab, 0x5be0cd19]

/-- Rotate a 32-bit word to the right. -/
def rotr (x n : Nat) : Nat := (x / 2 ^ n) ||| (x * 2 ^ (32 - n) % 2 ^ 32)

/-- A word value in 32 bits. -/
def w32 (x : Nat) : Nat := x % 2 ^ 32

/-- The message schedule of a block of 64 bytes. -/
def shaSchedule (block : List Nat) : List Nat :=
  let w0 := (List.range 16).map (fun i => unle ((block.drop (4 * i)).take 4).reverse)
  (List.range 48).foldl (fun w k =>
    let i := k + 16
    let a := w.getD (i - 15) 0
    let b := w.getD (i - 2) 0
    let s0 := (rotr a 7 ^^^ rotr a 18) ^^^ a / 8
    let s1 := (rotr b 17 ^^^ rotr b 19) ^^^ b / 1024
    w ++ [w32 (w.getD (i - 16) 0 + s0 + w.getD (i - 7) 0 + s1)]) w0

/-- One round. -/
def shaRound (v : List Nat) (kw : Nat × Nat) : List Nat :=
  let x (i : Nat) : Nat := v.getD i 0
  let s1 := (rotr (x 4) 6 ^^^ rotr (x 4) 11) ^^^ rotr (x 4) 25
  let ch := (x 4 &&& x 5) ^^^ ((2 ^ 32 - 1 - x 4) &&& x 6)
  let t1 := w32 (x 7 + s1 + ch + kw.1 + kw.2)
  let s0 := (rotr (x 0) 2 ^^^ rotr (x 0) 13) ^^^ rotr (x 0) 22
  let maj := ((x 0 &&& x 1) ^^^ (x 0 &&& x 2)) ^^^ (x 1 &&& x 2)
  [w32 (t1 + s0 + maj), x 0, x 1, x 2, w32 (x 3 + t1), x 4, x 5, x 6]

/-- The compression of one block. -/
def shaBlock (h block : List Nat) : List Nat :=
  List.zipWith (fun a b => w32 (a + b)) h ((List.zip shaK (shaSchedule block)).foldl shaRound h)

/-- The padded message. -/
def shaPad (m : List Nat) : List Nat :=
  m ++ [0x80] ++ List.replicate ((119 - m.length % 64) % 64) 0 ++ (le 8 (8 * m.length)).reverse

/-- The SHA-256 of bytes. -/
def sha256 (m : List Nat) : List Nat :=
  let p := shaPad m
  let h := (List.range (p.length / 64)).foldl (fun h i => shaBlock h ((p.drop (64 * i)).take 64)) shaInit
  h.flatMap (fun w => (le 4 w).reverse)

/-! ### ECDSA on P-256 -/

/-- The field, the order and the curve. -/
def p256P : Nat := 0xffffffff00000001000000000000000000000000ffffffffffffffffffffffff
def p256N : Nat := 0xffffffff00000000ffffffffffffffffbce6faada7179e84f3b9cac2fc632551
def p256B : Nat := 0x5ac635d8aa3a93e7b3ebbd55769886bc651d06b0cc53b0f63bce3c3e27d2604b
def p256G : Nat × Nat :=
  (0x6b17d1f2e12c4247f8bce6e563a440f277037d812deb33a0f4a13945d898c296,
   0x4fe342e2fe1a7f9b8ee7eb4a7c0f9e162bce33576b315ececbb6406837bf51f5)

/-- A power modulo `m`, for exponents below 2^256. -/
def powMod (b e m : Nat) : Nat :=
  ((List.range 256).foldl (fun (r : Nat × Nat) i => (if e.testBit i then r.1 * r.2 % m else r.1, r.2 * r.2 % m)) (1, b % m)).1

/-- An inverse modulo a prime. -/
def invMod (a m : Nat) : Nat := powMod a (m - 2) m

/-- A point on the curve. -/
def p256On (q : Nat × Nat) : Bool :=
  decide (q.1 < p256P ∧ q.2 < p256P) && decide (q.2 * q.2 % p256P = (q.1 * q.1 * q.1 + (p256P - 3) * q.1 + p256B) % p256P)

/-- The sum of two points; none is the point at infinity. -/
def p256Add : Option (Nat × Nat) → Option (Nat × Nat) → Option (Nat × Nat)
  | none, q => q
  | q, none => q
  | some (x1, y1), some (x2, y2) =>
    if x1 = x2 ∧ (y1 + y2) % p256P = 0 then none
    else
      let l := if x1 = x2 then (3 * x1 * x1 + (p256P - 3)) * invMod (2 * y1) p256P % p256P
        else (y2 + p256P - y1) * invMod (x2 + p256P - x1) p256P % p256P
      let x3 := (l * l + 2 * p256P - x1 - x2) % p256P
      some (x3, (l * (x1 + p256P - x3) + p256P - y1) % p256P)

/-- A multiple of a point. -/
def p256Mul (k : Nat) (q : Nat × Nat) : Option (Nat × Nat) :=
  ((List.range 256).foldl (fun (r : Option (Nat × Nat) × Option (Nat × Nat)) i =>
    (if k.testBit i then p256Add r.1 r.2 else r.1, p256Add r.2 r.2)) (none, some q)).1

/-- A signature of a hash verifies under a public key. -/
def ecdsaVerify (key : Nat × Nat) (r sg : Nat) (hash : List Nat) : Bool :=
  if !p256On key || r = 0 || sg = 0 || p256N ≤ r || p256N ≤ sg then false
  else
    let e := unle hash.reverse
    let w := invMod sg p256N
    match p256Add (p256Mul (e * w % p256N) p256G) (p256Mul (r * w % p256N) key) with
    | some q => decide (q.1 % p256N = r)
    | none => false

end Sys2Proof.Machine
end

