-- ==== Sys2Proof/Machine/Store.lean ====
section
/-! DEFINITION. Store: the bank pairs of the retained store (R61 to R64, R553), their contents and what MRAM shows of them. -/

namespace Sys2Proof.Machine

open Sys2Proof

/-- The pair of the retained store that an index lies in (R63). -/
def pairOf (idx : Nat) : Nat :=
  ([0x300, 0x500, 0x800, 0xC00, 0x1000, 0x1400, 0x1800, 0x1C00, 0x2000, 0x3000, 0x3800, 0x4000, 0x5000].filter (fun b => decide (b ≤ idx))).length

/-- A stored entry of pair `p`. -/
def inPair (p k : Nat) : Bool := isKept k && decide (pairOf (keyIdx k) = p)

namespace Sys

/-- Bank pair `p`. -/
def pair (s : Sys) (p : Nat) : Pair := s.eng.pairs.getD p {}

/-- Change bank pair `p`. -/
def modPair (s : Sys) (p : Nat) (f : Pair → Pair) : Sys :=
  { s with eng := { s.eng with pairs := s.eng.pairs.setIfInBounds p (f (s.pair p)) } }

/-- Copy A or B of pair `p` is marked failed and rebuilt from the other one; a RESTORE_ACK is owed (R62, R65). -/
def markCopy (s : Sys) (p : Nat) (b : Bool) : Sys :=
  let s := (s.wrBit Key.StoreFail.FAILED_NOW (2 * p + b2n b) true).wrB Key.Restore.ACK_REQUIRED true
  (s.modPair p (fun q => { q with okA := q.okA && b, okB := q.okB && !b, building := true, blank := false })).faultNow 0x68 0 0

/-- What a cell of pair `p` holds where it is not listed. -/
def storeDefault (p k : Nat) : Word := if p < 14 then odDefaultWord k else 0

/-- A write to pair `p` goes to both copies, and their generation counts advance (R61). -/
def storeWrite (s : Sys) (p : Nat) (cells : List (Nat × Word)) : Sys :=
  let put (d : List (Nat × Word)) : List (Nat × Word) := cells.foldl (fun d c => Kv.put (storeDefault p) c.1 c.2 d) d
  s.modPair p (fun q => { q with
    genA := (q.genA + 1) % 2 ^ 32, genB := (q.genB + 1) % 2 ^ 32, dataA := put q.dataA, dataB := put q.dataB })

/-- The firmware store bytes of P14 or P15. -/
def inFws (p k : Nat) : Bool := (decide (p = 14) && decide (k < 65536)) || (decide (p = 15) && decide (65536 ≤ k))

/-- The live values of pair `p`, as a copy holds them. -/
def liveData (s : Sys) (p : Nat) : List (Nat × Word) :=
  if p < 14 then s.od.filter (fun c => inPair p c.1)
  else (s.eng.fws.filter (fun c => inFws p c.1)).map (fun c => (c.1, c.2.zeroExtend 64))

/-- The live values of pair `p` become those of a copy (R64). -/
def loadPair (s : Sys) (p : Nat) (data : List (Nat × Word)) : Sys :=
  if p < 14 then
    { s with od := data.foldl (fun l c => Kv.put odDefaultWord c.1 c.2 l) (s.od.filter (fun c => !inPair p c.1)) }
  else
    { s with eng := { s.eng with
      fws := data.foldl (fun l c => Kv.put (fun _ => (0 : Byte)) c.1 (c.2.truncate 8) l) (s.eng.fws.filter (fun c => !inFws p c.1)) } }

/-- The copy of a pair that the restore takes: its contents and count (R64). -/
def chosenCopy (q : Pair) : List (Nat × Word) × Nat :=
  if q.okA && (!q.okB || decide (q.genA = q.genB) || newer32 q.genA q.genB) then (q.dataA, q.genA) else (q.dataB, q.genB)

/-- Both banks of pair `p` are good again, written from the good copy, or from the live values where there is none: marks go, and
STORE_COPY clears once none is left (R62, R496, R551, R553). Where both copies failed, the pair keeps the higher of their counts, and a
rebuild adds nothing to a count (DESIGN CHOICE, log entry 52). -/
def pairGood (s : Sys) (p : Nat) : Sys :=
  let q := s.pair p
  let (d, g) := if q.okA || q.okB then chosenCopy q else (s.liveData p, max q.genA q.genB)
  let s := s.modPair p (fun q => { q with okA := true, okB := true, blank := false, building := false, genA := g, genB := g, dataA := d, dataB := d })
  let s := (s.wrBit Key.StoreFail.FAILED_NOW (2 * p) false).wrBit Key.StoreFail.FAILED_NOW (2 * p + 1) false
  s.when (decide (s.rd Key.StoreFail.FAILED_NOW = 0)) (fun s => s.clearCode 0x68)

/-- The rebuild of pair `p` ends (R62, R553). -/
def rebuildDone (s : Sys) (p : Nat) : Sys := if (s.pair p).building then s.pairGood p else s

/-- Stored values of pair `p` take their factory defaults (R64, R65). -/
def pairDefaults (s : Sys) (p : Nat) : Sys :=
  let s := s.clearEntries (inPair p)
  { s with eng := { s.eng with fws := s.eng.fws.filter (fun c => !inFws p c.1) } }

/-! ### Loading and reading -/

/-- What a domain that powers up loads from the store: the stored entries of domain `d`, from copy A, or from copy B where A is marked
failed (R457). -/
def reloadKept (s : Sys) (d : Nat) : Sys :=
  let mine (k : Nat) : Bool := isKept k && decide (domainOf (keyIdx k) = d)
  s.each ((List.range 14).filter (fun p => (s.pair p).okA || (s.pair p).okB)) (fun s p =>
    let q := s.pair p
    let data := (if q.okA then q.dataA else q.dataB).filter (fun c => mine c.1)
    { s with od := data.foldl (fun l c => Kv.put odDefaultWord c.1 c.2 l) (s.od.filter (fun c => !(inPair p c.1 && mine c.1))) })

/-- Byte `off` of bank SBb (R61). Where a value lies in its bank is open (log entry 49), as is every byte of a failed copy that has not been zeroed (R442); a bank ends
with the CRC-32 over what stands before it, and its generation count. -/
def bankByte (s : Sys) (b off : Nat) : Nat :=
  let q := s.pair (b / 2)
  let (ok, gen, data) := if b % 2 = 0 then (q.okA, q.genA, q.dataA) else (q.okB, q.genB, q.dataB)
  let cell (i : Nat) : Nat :=
    (Config.openValue 4 (([b / 2, i] ++ data.flatMap (fun c => [c.1, c.2.toNat])).map Int.ofNat)).toNat % 256
  if !ok && q.blank then 0
  else if !ok then (Config.openValue 5 ([b, gen, off].map Int.ofNat)).toNat % 256
  else if off < 65528 then cell off
  else if off < 65532 then crc32 ((List.range 65528).map cell) / 256 ^ (off - 65528) % 256
  else gen / 256 ^ (off - 65532) % 256

/-- A byte of memory as the fabric reads it: the banks of the store lie in MRAM (R61, R433). -/
def busByte (s : Sys) (a : Nat) : Nat :=
  if 0x20B00000 ≤ a ∧ a < 0x20D00000 then s.bankByte ((a - 0x20B00000) / 65536) (a % 65536) else (s.byte a).toNat

/-- The bytes from an address as the fabric reads them. -/
def busBytes (s : Sys) (a n : Nat) : List Nat := (List.range n).map (fun i => s.busByte (a + i))

end Sys

end Sys2Proof.Machine
end

