-- ==== Sys2Proof/Machine/Cores.lean ====
section
/-! DEFINITION. Cores: the harts as the rest of the unit sees them: AP_RUN (R423), caches and fences (R425 to R428), core-local registers and interrupts (R430 to R432), PMP (R444 to R446), images (R436 to R438), MRAM commands (R439, R440) and OTP (R441). -/

namespace Sys2Proof.Machine

open Sys2Proof

namespace Sys

/-- Change the harts' part of the state. -/
def modCore (s : Sys) (f : CoreUnit → CoreUnit) : Sys := { s with core := f s.core }

/-! ### AP_RUN and RESET_VECTOR (R423) -/

/-- The master code of a hart (`0300.06`). -/
def hartMaster (hart : Nat) : Nat := if hart = 4 then 0 else hart + 1

/-- The master that has issued a held operation. -/
def heldBy : HeldOp → Nat
  | .access m _ _ _ _ _ _ _ => m
  | .clean h _ => hartMaster h
  | .flush h _ => hartMaster h
  | .inval h _ _ => hartMaster h
  | .fenceWO h => hartMaster h
  | .fenceIR h => hartMaster h
  | .fenceI h => hartMaster h

/-- A hart is out of reset and its clock runs (R422, R423, R462). -/
def hartOut (s : Sys) (h : Nat) : Bool := (decide (h = 4) && !s.engineStops) || (s.core.apRun.testBit h && s.runs 0)

/-- A write to AP_RUN: a hart that is put back in reset loses its store buffer, the contents of its L1 caches, its reservation and what it
holds back; its CBIE fields reset (R428), and the debug module sees that it has been reset. -/
def setApRun (s : Sys) (v : Nat) : Sys :=
  let keep (h : Nat) : Bool := decide (3 < h) || v.testBit h
  let fields (l : List Nat) : List Nat := l.mapIdx (fun h x => if keep h then x else 3)
  s.modCore (fun c => { c with
    apRun := v % 16
    lines := c.lines.filter (fun l => keep l.hart)
    stores := c.stores.filter (fun e => keep e.hart)
    held := c.held.filter (fun e => decide (4 < heldBy e ∨ heldBy e = 0) || keep (heldBy e - 1))
    reserved := c.reserved.filter (fun r => keep r.1)
    menvCbie := fields c.menvCbie
    senvCbie := fields c.senvCbie
    dbg := { c.dbg with
      halted := c.dbg.halted &&& (v % 16 + 16)
      haveReset := c.dbg.haveReset ||| (c.apRun &&& (15 - v % 16))
      regs := c.dbg.regs.filter (fun e => keep (e.1 / 65536)) }
    fetched := c.fetched.filter (fun e => keep e.1) })

/-- Whether a write to a core-local register of R423 or R445 comes from SV in M-mode; any other raises a bus error. -/
def fromSv (hart : Nat) (machine : Bool) : Bool := decide (hart = 4) && machine

/-- A bus error to a hart on its own access, which it takes as an access fault (R424, R485). -/
def hartFault (s : Sys) (hart cause addr : Nat) : Sys := s.emit (.trap hart cause addr)

/-! ### PMP (R444 to R446) -/

/-- A PMP register of a hart: 0 and 1 pmpcfg0 and pmpcfg2, 2 + i pmpaddr i. -/
def pmpReg (s : Sys) (h r : Nat) : Nat := Kv.nat s.core.pmp (h * 32 + r)

/-- One configuration byte as it is held: L reads 0, reserved bits 0, and a write of NA4 leaves the field OFF (R444). -/
def pmpByte (b : Nat) : Nat := b % 8 + (if b / 8 % 4 = 2 then 0 else b / 8 % 4 * 8)

/-- A write to a PMP register. -/
def setPmp (s : Sys) (h r v : Nat) : Sys :=
  let w := if r < 2 then unle ((le 8 v).map pmpByte) else v % 2 ^ 54
  s.modCore (fun c => { c with pmp := Kv.setNat (h * 32 + r) w c.pmp })

/-- The configuration byte of entry `i`. -/
def pmpCfg (s : Sys) (h i : Nat) : Nat := s.pmpReg h (i / 8) / 256 ^ (i % 8) % 256

/-- The bytes an entry covers, from and up to, with the granule of 64 bytes (R422, R444). -/
def pmpRange (s : Sys) (h i : Nat) : Option (Nat × Nat) :=
  let a := s.pmpReg h (2 + i)
  let at_ (v : Nat) : Nat := v / 16 * 64
  match s.pmpCfg h i / 8 % 4 with
  | 1 => some (if i = 0 then 0 else at_ (s.pmpReg h (1 + i)), at_ a)
  | 3 =>
    let x := a ||| 7
    let ones := ((List.range 54).find? (fun k => !x.testBit k)).getD 54
    let size := 2 ^ (ones + 3)
    some (x * 4 / size * size, x * 4 / size * size + size)
  | _ => none

/-- The PMP of a hart allows an access from S or U mode (R444): the lowest-numbered entry that matches decides. Bits of the
configuration: 0 read, 1 write, 2 execute. -/
def pmpAllows (s : Sys) (h kind a len : Nat) : Bool :=
  let n := if h = 4 then 8 else 16
  match (List.range n).find? (fun i => match s.pmpRange h i with
      | some (lo, hi) => decide (a < hi ∧ lo < a + len)
      | none => false) with
  | some i =>
    (match s.pmpRange h i with | some (lo, hi) => decide (lo ≤ a ∧ a + len ≤ hi) | none => false) && (s.pmpCfg h i).testBit kind
  | none => false

/-- A write through the remote PMP block of hart `h` (R445). -/
def remotePmp (s : Sys) (hart : Nat) (machine : Bool) (h off v : Nat) : Sys :=
  let a := 0x40410000 + 0x100 * h + off
  let r := if off = 0 then some 0 else if off = 8 then some 1 else if 0x80 ≤ off ∧ off < 0x100 ∧ off % 8 = 0 then some (2 + (off - 0x80) / 8) else none
  match fromSv hart machine, r with
  | true, some r => s.setPmp h r v
  | _, _ => (s.captureError 0x6A a (hartMaster hart)).hartFault hart 7 a

/-! ### L1 data caches, store buffers and instruction caches (R422, R425 to R428)

The spec gives no replacement rule and no time at which a buffered store leaves: a full set gives up a line that is a free value, and each
idle tick takes the oldest store of each hart (log entry 34). -/

/-- The line at an address in the L1 of AP hart `h`. -/
def lineAt (s : Sys) (h a : Nat) : Option CacheLine := s.core.lines.find? (fun l => decide (l.hart = h ∧ l.at_ = a / 64 * 64))

/-- The line at an address that some AP hart holds dirty. -/
def dirtyLine (s : Sys) (a : Nat) : Option CacheLine := s.core.lines.find? (fun l => decide (l.at_ = a / 64 * 64) && l.dirty)

/-- Write a dirty line back to the L2 and keep it (R428). -/
def writeBack (s : Sys) (l : CacheLine) : Sys :=
  if l.dirty then
    (s.setBytes l.at_ l.data).modCore (fun c => { c with lines := c.lines.map (fun x => if x = l then { x with dirty := false } else x) })
  else s

/-- A set of the L1 of hart `h` makes room for a line: 32 KiB in 8 ways are 64 sets (R422). The line given up is a free value. -/
def evictLine (s : Sys) (h a : Nat) : Sys :=
  let full := s.core.lines.filter (fun l => decide (l.hart = h ∧ l.at_ / 64 % 64 = a / 64 % 64))
  if full.length < 8 then s
  else match full[s.freeVal.toNat % full.length]? with
    | none => s
    | some l => (s.useFree.writeBack l).modCore (fun c => { c with lines := c.lines.filter (fun x => !decide (x.hart = h ∧ x.at_ = l.at_)) })

/-- Bring a line into the L1 of hart `h`: from the L1 that holds it dirty, else from the L2 or memory (R425, R426). -/
def fillLine (s : Sys) (h a : Nat) : Sys :=
  match s.lineAt h a with
  | some _ => s
  | none =>
    let data := match s.dirtyLine a with | some l => l.data | none => s.busBytes (a / 64 * 64) 64
    (s.evictLine h a).modCore (fun c => { c with lines := c.lines ++ [{ hart := h, at_ := a / 64 * 64, data := data }] })

/-- Store bytes into a line, which hart `h` then holds dirty and no other hart holds; their reservations on it are lost (R424, R425). -/
def storeLine (s : Sys) (h a : Nat) (data : List Nat) : Sys :=
  let s := s.fillLine h a
  let here (x : Nat) : Bool := decide (x / 64 = a / 64)
  s.modCore (fun c => { c with
    lines := (c.lines.filter (fun l => !(here l.at_ && decide (l.hart ≠ h)))).map (fun l =>
      if here l.at_ then { l with data := l.data.take (a % 64) ++ data ++ l.data.drop (a % 64 + data.length), dirty := true } else l)
    reserved := c.reserved.filter (fun r => !(here r.2.1 && decide (r.1 ≠ h))) })

/-- The oldest store of a hart leaves its buffer: that of an AP hart into its L1, that of SV to its target (R422, R426). -/
def drainOne (s : Sys) (h : Nat) : Sys :=
  match s.core.stores.find? (fun e => decide (e.hart = h)) with
  | none => s
  | some e =>
    let s := s.modCore (fun c => { c with stores := c.stores.erase e })
    if h ≠ 4 then s.storeLine h e.at_ e.data
    else if regionOf e.at_ = 7 ∧ !s.dramServes ∧ !s.inL2 e.at_ e.data.length then (s.emit (.busError 0 e.at_)).hartFault 4 7 e.at_
    else s.busStore 0 e.at_ e.data e.bad

/-- Every store of a hart leaves its buffer. -/
def drainStores (s : Sys) (h : Nat) : Sys := iter (fun s => s.drainOne h) (s.core.stores.filter (fun e => decide (e.hart = h))).length s

/-- A hart stores to memory: into its buffer, of 8 entries on an AP hart and 4 on SV (R422). Data of one entry lies in one line. -/
def bufferStore (s : Sys) (h a : Nat) (data : List Nat) (bad : Nat) : Sys :=
  let room (s : Sys) : Sys := if (if h = 4 then 4 else 8) ≤ (s.core.stores.filter (fun e => decide (e.hart = h))).length then s.drainOne h else s
  let put (s : Sys) (e : BufStore) : Sys := (room s).modCore (fun c => { c with stores := c.stores ++ [e] })
  let first := data.take (64 - a % 64)
  let s := put s { hart := h, at_ := a, data := first, bad := bad % 2 ^ first.length }
  if first.length = data.length then s
  else put s { hart := h, at_ := a + first.length, data := data.drop first.length, bad := bad / 2 ^ first.length }

/-- Each idle tick the oldest store of each hart leaves its buffer (log entry 34). -/
def bufferTick (s : Sys) : Sys := s.each (List.range 5) drainOne

/-- The byte a hart loads: its own newest store, else its L1 line, else the L2 or memory. -/
def hartByte (s : Sys) (h a : Nat) : Nat :=
  match (s.core.stores.filter (fun e => decide (e.hart = h ∧ e.at_ ≤ a ∧ a < e.at_ + e.data.length))).getLast? with
  | some e => e.data.getD (a - e.at_) 0
  | none => match s.lineAt h a with
    | some l => l.data.getD (a % 64) 0
    | none => s.busByte a

/-- Write the dirty line at an address, of whichever hart, back to the L2. -/
def cleanLine (s : Sys) (a : Nat) : Sys := (s.dirtyLine a).elim s s.writeBack

/-- Drop a line from every AP L1. -/
def dropLine (s : Sys) (a : Nat) : Sys := s.modCore (fun c => { c with
  lines := c.lines.filter (fun l => decide (l.at_ ≠ a / 64 * 64)), reserved := c.reserved.filter (fun r => decide (r.1 = 4 ∨ r.2.1 / 64 ≠ a / 64)) })

/-- cbo.clean of hart `h` (R428). -/
def cboClean (s : Sys) (h addr : Nat) : Sys :=
  let s := s.drainStores h
  (s.lineAt h (fullAddr addr)).elim s s.writeBack

/-- cbo.flush of hart `h` (R428). -/
def cboFlush (s : Sys) (h addr : Nat) : Sys :=
  let a := fullAddr addr
  ((s.drainStores h).cleanLine a).dropLine a

/-- The CBIE that applies to a hart in a mode (0 U, 1 S, 3 M): 0 illegal, 1 flush, 3 invalidate (R428; the mode rule is that of
Zicbom, log entry 34). -/
def cbie (s : Sys) (h mode : Nat) : Nat :=
  let m := s.core.menvCbie.getD h 3
  let u := s.core.senvCbie.getD h 3
  if mode = 3 then 3 else if m = 0 ∨ (mode = 0 ∧ u = 0) then 0 else if m = 1 ∨ (mode = 0 ∧ u = 1) then 1 else 3

/-- cbo.inval of hart `h` (R428). -/
def cboInval (s : Sys) (h mode addr : Nat) : Sys :=
  let a := fullAddr addr
  match s.cbie h mode with
  | 0 => s.hartFault h 2 addr
  | 1 => s.cboFlush h addr
  | _ => (s.drainStores h).dropLine a

/-- A window access of hart `h` waits for the engine. -/
def windowWaits (h : Nat) (q : WaitReq) : Bool :=
  match q.acc.who with | .window (.ap k) _ => decide (k.val = h) | .window .sv _ => decide (h = 4) | _ => false

/-- A read of hart `h` in the window waits for the engine. -/
def readWaits (h : Nat) (q : WaitReq) : Bool := !q.write && windowWaits h q

/-- A `fence i,r` of hart `h` waits for a read before it, and holds later loads and cbo operations (R428). -/
def loadsHeld (s : Sys) (h : Nat) : Bool := s.eng.waits.any (fun q => q.fenced && readWaits h q)

/-- `fence i,r` of a hart (R428): it waits for the I/O reads that have not returned. -/
def fenceIR (s : Sys) (h : Nat) : Sys :=
  { s with eng := { s.eng with waits := s.eng.waits.map (fun q => { q with fenced := q.fenced || readWaits h q }) } }

/-- `fence w,o` of a hart (R428, R429): its earlier writes reach their targets. -/
def fenceWO (s : Sys) (h : Nat) : Sys := s.drainStores h

/-- fence.i of a hart (R425): what it fetches next comes from the L2 or memory. -/
def fenceI (s : Sys) (h : Nat) : Sys :=
  (s.drainStores h).modCore (fun c => { c with fetched := c.fetched.filter (fun e => decide (e.1 ≠ h)) })

/-- The instruction cache of hart `h` makes room for a line (R422): 32 KiB in 4 ways are 128 sets of an AP hart, 16 KiB of SV, whose ways the
spec does not give, 256 lines. The line given up is a free value. -/
def evictFetched (s : Sys) (h b : Nat) : Sys :=
  let full := s.core.fetched.filter (fun e => decide (e.1 = h ∧ (h = 4 ∨ e.2.1 / 64 % 128 = b / 64 % 128)))
  if full.length < (if h = 4 then 256 else 4) then s
  else match full[s.freeVal.toNat % full.length]? with
    | none => s
    | some e => s.useFree.modCore (fun c => { c with fetched := c.fetched.filter (fun x => !decide (x.1 = h ∧ x.2.1 = e.2.1)) })

/-- The bytes a hart fetches: its instruction cache holds a line until fence.i or its eviction (R425). The L2 gives an AP hart what an L1 holds
dirty; SV sees no L1 (R426). -/
def fetchBytes (s : Sys) (h a len : Nat) : Sys × List Nat :=
  let fill (s : Sys) (b : Nat) : Sys :=
    if s.core.fetched.any (fun e => decide (e.1 = h ∧ e.2.1 = b)) then s
    else
      let data := match (if h = 4 then none else s.dirtyLine b) with | some l => l.data | none => s.busBytes b 64
      (s.evictFetched h b).modCore (fun c => { c with fetched := c.fetched ++ [(h, b, data)] })
  let s := fill s (a / 64 * 64)
  let s := fill s ((a + len - 1) / 64 * 64)
  let get (x : Nat) : Nat :=
    ((s.core.fetched.find? (fun e => decide (e.1 = h ∧ e.2.1 = x / 64 * 64))).map (fun e => e.2.2.getD (x % 64) 0)).getD 0
  (s, (List.range len).map (fun i => get (a + i)))

/-! ### Timers and interrupts (R430 to R432) -/

/-- One idle tick of 4 ns of mtime, which counts XTAL at 25 MHz (R431). -/
def mtimeTick (s : Sys) : Sys :=
  let n := s.core.mtimeNs + 4
  s.modCore (fun c => if 40 ≤ n then { c with mtimeNs := n - 40, mtime := (c.mtime + 1) % 2 ^ 64 } else { c with mtimeNs := n })

/-- Source `src` is enabled for context `ctx`. -/
def plicEnabled (s : Sys) (ctx src : Nat) : Bool := (Kv.nat s.plic.enables (4 * ctx + src / 32)).testBit (src % 32)

/-- The priority of a source. -/
def plicPriority (s : Sys) (src : Nat) : Nat := Kv.nat s.plic.priorities src

/-- The pending source that a claim of context `ctx` takes: the highest priority above 0, then the lowest number. -/
def plicBest (s : Sys) (ctx : Nat) : Nat :=
  (List.range 128).foldl (fun best src =>
    if src ∈ s.plic.pending ∧ s.plicEnabled ctx src ∧ s.plicPriority best < s.plicPriority src then src else best) 0

/-- An interrupt stands at SV: from PLIC context 8 above its threshold, or from the ACLINT (R468). -/
def svInterrupt (s : Sys) : Bool :=
  decide (Kv.nat s.plic.thresholds 8 < s.plicPriority (s.plicBest 8) ∧ s.plicBest 8 ≠ 0) || s.core.msip.testBit 4 ||
    decide (s.core.mtimecmp.getD 4 0 ≤ s.core.mtime)

/-- A read of the claim register (R432). -/
def plicClaim (s : Sys) (ctx : Nat) : Sys × Nat :=
  let src := s.plicBest ctx
  (if src = 0 then s else { s with plic := { s.plic with pending := s.plic.pending.erase src, claimed := s.plic.claimed ++ [(src, ctx)] } }, src)

/-- A write of the complete register (R432). -/
def plicComplete (s : Sys) (ctx src : Nat) : Sys := { s with plic := { s.plic with claimed := s.plic.claimed.erase (src, ctx) } }

/-- The hart of a PLIC context: contexts 2h and 2h + 1 are AP hart h, context 8 is SV. -/
def ctxHart (ctx : Nat) : Nat := if ctx = 8 then 4 else ctx / 2

/-- A read of a core-local register (R423, R430, R445) of `len` bytes by a hart or the debug module; none where the offset is
not listed. -/
def coreLocalRead (s : Sys) (hart : Nat) (machine : Bool) (a : Nat) : Sys × Option Nat :=
  let o := a - 0x40000000
  if o < 0x400000 then
    -- the PLIC in its published layout
    if o < 0x200 then (s, some (s.plicPriority (o / 4)))
    else if 0x1000 ≤ o ∧ o < 0x1010 then
      (s, some ((List.range 32).foldl (fun n i => n + (if (o - 0x1000) / 4 * 32 + i ∈ s.plic.pending then 2 ^ i else 0)) 0))
    else if 0x2000 ≤ o ∧ o < 0x2000 + 0x80 * 9 ∧ o % 0x80 < 16 then (s, some (Kv.nat s.plic.enables (4 * ((o - 0x2000) / 0x80) + o % 0x80 / 4)))
    else if 0x200000 ≤ o ∧ o < 0x200000 + 0x1000 * 9 ∧ o % 0x1000 = 0 then (s, some (Kv.nat s.plic.thresholds ((o - 0x200000) / 0x1000)))
    else if 0x200000 ≤ o ∧ o < 0x200000 + 0x1000 * 9 ∧ o % 0x1000 = 4 then
      let r := s.plicClaim ((o - 0x200000) / 0x1000)
      (r.1, some r.2)
    else (s, none)
  else if 0x400000 ≤ o ∧ o < 0x400014 then (s, some (b2n (s.core.msip.testBit ((o - 0x400000) / 4))))
  else if 0x404000 ≤ o ∧ o < 0x404028 then (s, some (s.core.mtimecmp.getD ((o - 0x404000) / 8) 0 / (if o % 8 = 4 then 2 ^ 32 else 1)))
  else if o = 0x40BFF8 then (s, some s.core.mtime)
  else if o = 0x40BFFC then (s, some (s.core.mtime / 2 ^ 32))
  else if 0x40C000 ≤ o ∧ o < 0x40C010 then (s, some 0)
  else if 0x410000 ≤ o ∧ o < 0x410400 then
    let h := (o - 0x410000) / 0x100
    let r := o % 0x100
    if !fromSv hart machine then (s, none)
    else if r = 0 ∨ r = 8 then (s, some (s.pmpReg h (r / 8)))
    else if r = 4 ∨ r = 12 then (s, some (s.pmpReg h (r / 8) / 2 ^ 32))
    else if 0x80 ≤ r then (s, some (s.pmpReg h (2 + (r - 0x80) / 8) / (if r % 8 = 4 then 2 ^ 32 else 1)))
    else (s, none)
  else if o = 0x420000 then (s, some s.core.apRun)
  else if 0x420008 ≤ o ∧ o < 0x420028 then (s, some (s.core.vectors.getD ((o - 0x420008) / 8) 0 / (if o % 8 = 4 then 2 ^ 32 else 1)))
  else if 0x800000 ≤ o ∧ o < 0x810000 ∧ s.core.dbg.halted.testBit hart then (s, some (s.core.dbg.progbuf.getD (o % 64 / 4) 0))
  else (s, none)

/-- Half of a 64-bit register, or all of it. -/
def putHalf (old len o v : Nat) : Nat :=
  if len = 8 then v % 2 ^ 64 else if o % 8 = 4 then old % 2 ^ 32 + v % 2 ^ 32 * 2 ^ 32 else old / 2 ^ 32 * 2 ^ 32 + v % 2 ^ 32

/-- A write of a core-local register; none where it raises a bus error. -/
def coreLocalWrite (s : Sys) (hart : Nat) (machine : Bool) (a len v : Nat) : Option Sys :=
  let o := a - 0x40000000
  if o < 0x400000 then
    if 0 < o ∧ o < 0x200 then some { s with plic := { s.plic with priorities := Kv.setNat (o / 4) (v % 8) s.plic.priorities } }
    else if o < 0x200 ∨ (0x1000 ≤ o ∧ o < 0x1010) then some s
    else if 0x2000 ≤ o ∧ o < 0x2000 + 0x80 * 9 ∧ o % 0x80 < 16 then
      let k := 4 * ((o - 0x2000) / 0x80) + o % 0x80 / 4
      some { s with plic := { s.plic with enables := Kv.setNat k (v % 2 ^ 32) s.plic.enables } }
    else if 0x200000 ≤ o ∧ o < 0x200000 + 0x1000 * 9 ∧ o % 0x1000 = 0 then
      some { s with plic := { s.plic with thresholds := Kv.setNat ((o - 0x200000) / 0x1000) (v % 8) s.plic.thresholds } }
    else if 0x200000 ≤ o ∧ o < 0x200000 + 0x1000 * 9 ∧ o % 0x1000 = 4 then some (s.plicComplete ((o - 0x200000) / 0x1000) v)
    else none
  else if 0x40BFF8 ≤ o ∧ o < 0x40C000 then some s
  else if 0x400000 ≤ o ∧ o < 0x400014 then some (s.modCore (fun c => { c with msip := putBit c.msip ((o - 0x400000) / 4) (v.testBit 0) }))
  else if 0x404000 ≤ o ∧ o < 0x404028 then
    let i := (o - 0x404000) / 8
    some (s.modCore (fun c => { c with mtimecmp := c.mtimecmp.set i (putHalf (c.mtimecmp.getD i 0) len o v) }))
  else if 0x40C000 ≤ o ∧ o < 0x40C010 then some (s.modCore (fun c => { c with ssip := putBit c.ssip ((o - 0x40C000) / 4) (c.ssip.testBit ((o - 0x40C000) / 4) || v.testBit 0) }))
  else if 0x410000 ≤ o ∧ o < 0x410400 then
    let h := (o - 0x410000) / 0x100
    let r := o % 0x100
    if !fromSv hart machine then none
    else if r < 16 then some (s.setPmp h (r / 8) (putHalf (s.pmpReg h (r / 8)) len o v))
    else if 0x80 ≤ r then
      let k := 2 + (r - 0x80) / 8
      some (s.setPmp h k (putHalf (s.pmpReg h k) len o v))
    else none
  else if o = 0x420000 then if fromSv hart machine then some (s.setApRun v) else none
  else if 0x420008 ≤ o ∧ o < 0x420028 then
    let i := (o - 0x420008) / 8
    if fromSv hart machine then some (s.modCore (fun c => { c with vectors := c.vectors.set i (putHalf (c.vectors.getD i 0) len o v) })) else none
  else if 0x800000 ≤ o ∧ o < 0x810000 ∧ s.core.dbg.halted.testBit hart then
    some (s.modCore (fun c => { c with dbg := { c.dbg with progbuf := c.dbg.progbuf.set (o % 64 / 4) (v % 2 ^ 32) } }))
  else none

/-- A write to AP_RUN by a hart (R423). -/
def apRunWrite (s : Sys) (hart : Nat) (machine : Bool) (v : Nat) : Sys :=
  if fromSv hart machine then s.setApRun v
  else (s.captureError 0x6A 0x40420000 (hartMaster hart)).hartFault hart 7 0x40420000

/-! ### Images (R436 to R438, R452) -/

/-- A byte of the fuses (R441). -/
def otpByte (otp : Nat → Nat) (k : Nat) : Nat := otp (k / 4) / 256 ^ (k % 4) % 256

/-- The lifecycle that the LIFECYCLE bits give (R442): 0 DEVELOP, 1 SECURED, 2 LOCKED, 3 RMA. -/
def lifecycleOf (bits : Nat) : Nat := if bits.testBit 2 then 3 else if !bits.testBit 0 then 0 else if bits.testBit 1 then 2 else 1

/-- ROLLBACK_MIN: the number of set bits of its field (R441). -/
def rollbackMin (otp : Nat → Nat) : Nat := (List.range 64).foldl (fun n i => n + b2n ((otpByte otp (0x20 + i / 8)).testBit (i % 8))) 0

/-- KEYS of `0A30.07`: the key hashes programmed and the keys revoked. -/
def otpKeys (otp : Nat → Nat) : Nat :=
  (List.range 4).foldl (fun n k => n + (if (List.range 32).any (fun i => decide (otpByte otp (0x40 + 32 * k + i) ≠ 0)) then 2 ^ k else 0)
    + (if (otpByte otp 0xD).testBit k then 2 ^ (k + 4) else 0)) 0

/-- The check of an image (R436, R437): 1 VALID, 2 BAD_HEADER, 3 BAD_KEY, 4 BAD_SIGNATURE, 5 ROLLBACK. The first condition of
R437 that fails decides. -/
def imageCheck (img : List Nat) (otp : Nat → Nat) (life : Nat) : Nat :=
  let size := u32At img 8
  let entry := u32At img 12
  let key := u8At img 6
  if u32At img 0 ≠ 0x5A465731 ∨ u16At img 4 ≠ 1 ∨ size % 64 ≠ 0 ∨ size < 512 ∨ 4194304 < size ∨ entry % 4 ≠ 0 ∨ size ≤ entry ∨ u8At img 7 ≠ 0 ∨
      ((img.drop 32).take 96).any (fun b => decide (b ≠ 0)) then 2
  else if u32At img 20 < rollbackMin otp then 5
  else if key = 0xFF then (if life = 0 then 1 else 3)
  else if 3 < key ∨ sha256 ((img.drop 192).take 64) ≠ (List.range 32).map (fun i => otpByte otp (0x40 + 32 * key + i)) ∨
      (otpByte otp 0xD).testBit key then 3
  else
    let num (o : Nat) : Nat := unle ((img.drop o).take 32).reverse
    if ecdsaVerify (num 192, num 224) (num 128) (num 160) (sha256 (img.take 128 ++ (img.take size).drop 256)) then 1 else 4

/-- The address of image slot A or B (R433). -/
def imageAt (slot : Nat) : Nat := 0x20000000 + 0x400000 * slot

/-- The check of an MRAM slot. -/
def slotCheck (s : Sys) (slot : Nat) (otp : Nat → Nat) : Nat :=
  let size := s.ld (imageAt slot + 8) 4
  imageCheck (s.bytes (imageAt slot) (if 512 ≤ size ∧ size ≤ 4194304 then size else 256)) otp (s.rd Key.Otp.LIFECYCLE)

/-- The abort of an image command (`0A20.01`): 1 CHECK_A, 2 CHECK_B, 3 INVALIDATE_A, 4 INVALIDATE_B, 5 CONFIRM. -/
def imageAbort (s : Sys) (cmd : Nat) : Nat :=
  if (cmd = 3 ∨ cmd = 4) ∧ s.rd Key.Image.RUNNING = cmd - 3 then 0x0803
  else if cmd < 1 ∨ 5 < cmd then 0x0604
  else if s.core.check.isSome then 0x0805 else 0

/-- An image command (R438, R452). -/
def imageCmd (s : Sys) (cmd : Nat) : Sys :=
  if cmd = 1 ∨ cmd = 2 then (s.wr (if cmd = 1 then Key.Image.RESULT_A else Key.Image.RESULT_B) 6).modCore (fun c => { c with check := some (cmd - 1) })
  else if cmd = 3 ∨ cmd = 4 then s.setBytes (imageAt (cmd - 3)) [0, 0, 0, 0]
  else if s.rdBit Key.Image.BOOT_STATE 0 then (s.wrBit Key.Image.BOOT_STATE 1 true).modCore (fun c => { c with trialAt := none })
  else s

/-- A running image check completes (R437). -/
def imageDone (s : Sys) (otp : Nat → Nat) : Sys :=
  match s.core.check with
  | none => s
  | some slot =>
    let s := s.modCore (fun c => { c with check := none })
    let s := s.wr (if slot = 0 then Key.Image.RESULT_A else Key.Image.RESULT_B) (s.slotCheck slot otp)
    let s := s.wr (if slot = 0 then Key.Image.SEQ_A else Key.Image.SEQ_B) (s.ld (imageAt slot + 24) 4)
    (s.wr (if slot = 0 then Key.Image.VERSION_A else Key.Image.VERSION_B) (s.ld (imageAt slot + 16) 4)).raise 65

/-- ms since the trial began, by mtime. -/
def trialGone (s : Sys) : Nat := match s.core.trialAt with | some t => (s.core.mtime - t) / 25000 | none => 0

/-- TRIAL_LEFT. -/
def trialLeft (s : Sys) : Nat := if s.core.trialAt.isSome then s.core.trialMs - s.trialGone else 0

/-! ### MRAM commands (R439, R440) -/

/-- The abort of an MRAM command (`0A10.04`): 1 WRITE, 2 COMPARE, 3 ZERO. -/
def mramAbort (s : Sys) (cmd : Nat) : Nat :=
  let o := s.rd Key.Mram.DST_OFFSET
  let n := s.rd Key.Mram.SRC_LEN
  let run := s.rd Key.Image.RUNNING
  if run < 2 ∧ o < 0x400000 * (run + 1) ∧ 0x400000 * run < o + n then 0x0803
  else if cmd < 1 ∨ 3 < cmd ∨ n = 0 ∨ n % 64 ≠ 0 ∨ 0x1000000 < o + n ∨ ¬(o + n ≤ 0xB00000 ∨ 0xE40000 ≤ o) then 0x0604
  else if s.core.mram.isSome then 0x0805 else 0

/-- An MRAM command starts (R439), with the span that its entries hold now. What PROGRESS reads while it runs is open. -/
def mramCmd (s : Sys) (cmd : Nat) : Sys :=
  ((s.wr Key.Mram.PROGRESS (s.freeVal.toNat % 101)).useFree).modCore (fun c => { c with
    mram := some cmd, mramSrc := s.rd Key.Mram.SRC_ADDR, mramLen := s.rd Key.Mram.SRC_LEN, mramDst := s.rd Key.Mram.DST_OFFSET })

/-- The running MRAM command ends (R439). `fail` is the first 64-byte piece whose readback failed: what it then holds is open. -/
def mramDone (s : Sys) (fail : Option Nat) : Sys :=
  match s.core.mram with
  | none => s
  | some cmd =>
    let a := 0x20000000 + s.core.mramDst
    let src := s.core.mramSrc
    let n := s.core.mramLen
    let s := (s.modCore (fun c => { c with mram := none })).wr Key.Mram.PROGRESS 100
    let finish (s : Sys) (res : Nat) : Sys := (s.wr Key.Mram.RESULT res).raise 64
    if cmd ≠ 3 ∧ !s.reaches src n then finish s 0x0901
    else
      let data := if cmd = 3 then List.replicate n 0 else s.bytes src n
      if cmd = 2 then
        match (List.range n).find? (fun i => decide (data.getD i 0 ≠ s.busByte (a + i))) with
        | some i => finish (s.wr Key.Mram.MISMATCH_OFFSET i) 0x0901
        | none => finish s 0
      else match fail with
        | none => finish (s.setBytes a data) 0
        | some k =>
          let s := s.setBytes a (data.take (64 * k))
          if n ≤ 64 * k then finish s 0
          else
            let s := s.each (List.range 8) (fun s i => (s.st (a + 64 * k + 8 * i) 8 s.freeVal.toNat).useFree)
            finish (s.wr Key.Mram.MISMATCH_OFFSET (64 * k)) 0x0901

/-! ### OTP (R441, R452) -/

/-- A byte of the fuses lies in a factory field. -/
def factoryByte (k : Nat) : Bool := decide (k ≤ 8) || decide (0x10 ≤ k ∧ k < 0x16) || decide (0xC0 ≤ k ∧ k < 0x140)

/-- The abort of an OTP command (`0A30.04`): 1 READ, 2 PROGRAM. -/
def otpAbort (s : Sys) (cls : Cls) (cmd : Nat) : Nat :=
  let w := s.rd Key.Otp.OTP_ADDR
  if cmd = 2 ∧ cls ≠ .fm then 0x0701
  else if cmd = 2 ∧ s.dev ≠ .service then 0x0803
  else if cmd < 1 ∨ 2 < cmd then 0x0604
  else if cmd = 2 ∧ (List.range 32).any (fun i => (s.rd Key.Otp.OTP_DATA).testBit i && factoryByte (4 * w + i / 8)) then 0x0604
  else 0

end Sys

/-- The word that a PROGRAM leaves: set bits stay set (R441). -/
def programmed (old data : Nat) : Nat := old ||| data % 2 ^ 32

/-! ### Commands -/

/-- AP_RUN_WRITE (R423). -/
def execApRunWrite (hart : Fin 5) (machine : Bool) (v : Nat) (s : State) : Host.Outcome State Fault Refusal :=
  onSys (fun s => s.apRunWrite hart machine v) s

/-- REMOTE_PMP_WRITE (R445). -/
def execRemotePmpWrite (hart : Fin 5) (machine : Bool) (h : Fin 4) (off : Fin 256) (v : Nat) (s : State) : Host.Outcome State Fault Refusal :=
  onSys (fun s => s.remotePmp hart machine h off v) s

/-- PLIC_CLAIM (R432): the value read goes to the hart of the context. -/
def execPlicClaim (ctx : Fin 9) (s : State) : Host.Outcome State Fault Refusal :=
  onSys (fun s => let r := s.plicClaim ctx; r.1.emit (.data (Sys.hartMaster (Sys.ctxHart ctx)) r.2)) s

/-- PLIC_COMPLETE (R432). -/
def execPlicComplete (ctx : Fin 9) (src : Fin 128) (s : State) : Host.Outcome State Fault Refusal := onSys (fun s => s.plicComplete ctx src) s

/-- IMAGE_CHECK_COMPLETE (R437). -/
def execImageCheckComplete (s : State) : Host.Outcome State Fault Refusal := onSys (fun t => t.imageDone s.otpWord) s

/-- MRAM_COMMAND_COMPLETE (R439). -/
def execMramCommandComplete (fail : Option Nat) (s : State) : Host.Outcome State Fault Refusal := onSys (fun s => s.mramDone fail) s

end Sys2Proof.Machine
end

