-- ==== Sys2Proof/Machine/Sampler.lean ====
section
/-! DEFINITION. Sampler: the Sampler and its records (R498 to R507), and what the gatherer does besides recording (R486, R492,
R493, R496). -/

namespace Sys2Proof.Machine

open Sys2Proof

/-- The addresses of the permanent and circulating slots in the read map of the MRAM (R433, R503). -/
def permanentAt (n : Nat) : Nat := 0x20D00000 + 512 * n
def circulatingAt (n : Nat) : Nat := 0x20D08000 + 512 * n

/-- The bin of a linear histogram (R501). -/
def linearBin (v lo : Int) (w : Nat) : Nat := (clamp ((v - lo) / (w : Int)) 0 15).toNat

/-- The bin of a log2 histogram (R501). -/
def logBin (v : Nat) : Nat := if v = 0 then 0 else min 15 (Nat.log2 v + 1)

namespace Sys

/-- Change the Sampler. -/
def modSmp (s : Sys) (f : Sampler → Sampler) : Sys := { s with smp := f s.smp }

/-- An extreme of quantity `q` of the interval in progress; the spec states none where nothing was binned (log entry 36). -/
def smpExtreme (s : Sys) (min_ : Bool) (q : Nat) : Nat :=
  trunc 32 ((((if min_ then s.smp.minima else s.smp.maxima).getD q none)).getD
    (Config.openValue 2 [(s.smp.nextSeq : Int), b2n min_, q]))

/-- The record of the interval in progress (R502). -/
def smpRecord (s : Sys) (flags : Nat) : List Nat :=
  let q := s.smp
  let body := le 4 q.nextSeq ++ le 4 q.openMinutes ++ le 4 (s.rd Key.OpHours.OPERATING_HOURS) ++ le 4 (s.rd Key.PwrCycles.POWER_CYCLES) ++
    le 8 s.now ++ le 2 q.ticks ++ le 2 (flags + b2n (decide (q.nextSeq < 64))) ++ le 2 q.interval ++ le 2 0 ++
    (List.range 192).flatMap (fun i => le 2 (Kv.nat q.bins i)) ++ (List.range 12).flatMap (fun i => le 4 (s.smpExtreme false i)) ++
    (List.range 4).flatMap (fun i => le 4 (s.smpExtreme true i)) ++ le 4 q.faults ++ le 4 q.entries ++ le 4 q.alarms ++ le 2 q.armed ++
    le 2 q.naps ++ le 4 0 ++ le 8 0
  body ++ le 4 (crc32 body)

/-- A new interval opens (R500, R504). -/
def smpOpen (s : Sys) : Sys :=
  s.modSmp (fun q => { q with
    bins := [], maxima := List.replicate 12 none, minima := List.replicate 4 none, openMinutes := s.rd Key.OpHours.OPERATING_HOURS
    interval := s.rd Key.Smp.INTERVAL, ticks := 0, armed := 0, naps := 0, faults := 0, entries := 0, alarms := 0 })

/-- The interval in progress closes as a record (R500, R503, R504), with PARTIAL or SHORT in its flags. -/
def smpClose (s : Sys) (flags : Nat) : Sys :=
  let rec_ := s.smpRecord flags
  let n := s.smp.nextSeq
  let s := if n < 64 then (s.setBytes (permanentAt n) rec_).modSmp (fun q => { q with permanent := n + 1 })
    else (s.setBytes (circulatingAt s.smp.next) rec_).modSmp (fun q => { q with
      circulating := min 1024 (q.circulating + 1), next := (q.next + 1) % 1024 })
  let s := s.modSmp (fun q => { q with nextSeq := (n + 1) % 2 ^ 32, wrote := q.wrote || decide (s.pw.state = .nap) })
  (s.when (decide (s.pw.state ≠ .nap)) (fun s => s.raise 62)).smpOpen

/-- CLOSE_NOW (R504). An interval without a tick has no record to write. -/
def smpCloseNow (s : Sys) : Sys := if s.smp.ticks = 0 then s else s.smpClose 4

/-- Put a value in its bin with its extremes (R501). -/
def smpBin (s : Sys) (q bin : Nat) (hi lo : Int) : Sys :=
  s.modSmp (fun m => { m with
    bins := Kv.setNat (16 * q + bin) (Kv.nat m.bins (16 * q + bin) + 1) m.bins
    maxima := m.maxima.set q (some ((m.maxima.getD q none).elim hi (fun v => max v hi)))
    minima := m.minima.set q (some ((m.minima.getD q none).elim lo (fun v => min v lo))) })

/-- Whether a quantity has a source (R500): its domain is on and something it measures is enabled. -/
def smpSource (s : Sys) (q : Nat) : Bool :=
  let slots := (List.range 64).filter (fun n => s.rdB (Key.Slot.ENABLE n) && s.domainOn (slotDomain n))
  match q with
  | 3 => s.domainOn 13 && (List.range 8).any (fun a => decide (s.axState a ≠ 0))
  | 4 => s.domainOn 12 && (List.range 32).any (fun h => s.rdB (Key.Head.ENABLE h) && decide (s.rd (Key.HeadTemp.TEMP_SRC h) ≠ 0xFF))
  | 5 => slots.any (fun n => decide (n < 48))
  | 6 => s.domainOn 11 && (List.range 16).any (fun c => decide (s.chState c ≠ 0))
  | 7 => !slots.isEmpty
  | 10 => s.domainOn 1 && decide (s.rd Key.DmcSt.STATE = 2)
  | _ => true

/-- The counts of quantities 8 and 9: CRC_ERRORS of both ports and CODE_ERRORS of all lanes. -/
def crcSum (s : Sys) : Nat := s.rd (Key.Port.CRC_ERRORS 0) + s.rd (Key.Port.CRC_ERRORS 1)
def codeSum (s : Sys) : Nat := (List.range 16).foldl (fun t l => t + s.rd (Key.LaneCnt.CODE_ERRORS l)) 0

/-- The bytes that the DRAM could have moved between two ticks (R382, R500). -/
def dramPeak (s : Sys) : Nat := s.rd Key.Dmc.CHANNELS * s.rd Key.Dmc.RATE * 4 * s.smp.interval * 29296875 / 2000

/-- The quantities that a tick bins (R501); `lin` are the mean, largest and smallest 1 ms readings of quantities 0 to 4. -/
def smpQuantities (s : Sys) (lin : List (Int × Int × Int)) : Sys :=
  let r (q : Nat) : Int × Int × Int := lin.getD q (0, 0, 0)
  let s := s.each [(0 : Nat), 1, 2, 3, 4] (fun s q => s.when (s.smpSource q) (fun s =>
    s.smpBin q (linearBin (r q).1 ([-640, 690, 1580, 0, 0].getD q 0) ([160, 8, 30, 4000, 80].getD q 1)) (r q).2.1 (r q).2.2))
  let v (q : Nat) : Nat := match q with
    | 5 => s.smp.maxFe
    | 6 => s.smp.maxCorr
    | 7 => s.smp.maxWait
    | 8 => s.crcSum - s.smp.crcBase
    | 9 => s.codeSum - s.smp.codeBase
    | 10 => s.smp.dramBytes * 1024 / max 1 s.dramPeak
    | _ => s.smp.faultsTick
  s.each [5, 6, 7, 8, 9, 10, 11] (fun s q => s.when (s.smpSource q) (fun s =>
    s.smpBin q (if q = 10 then linearBin (v q) 0 64 else logBin (v q)) (v q) (v q)))

/-- A sample tick (R500). -/
def smpTick (s : Sys) (lin : List (Int × Int × Int)) : Sys :=
  if s.pw.state = .off ∨ s.pw.state = .hold then s
  else
    let s := if s.pw.state = .nap then s.modSmp (fun q => { q with naps := q.naps + 1 }) else s.smpQuantities lin
    let s := s.modSmp (fun q => { q with
      ticks := q.ticks + 1, armed := q.armed + b2n (decide (s.dev = .armed)), maxFe := 0, maxCorr := 0, maxWait := 0, dramBytes := 0
      faultsTick := 0, crcBase := s.crcSum, codeBase := s.codeSum })
    if s.smp.ticks < 4096 then s else s.smpClose 0

/-- The Sampler writes the operating time to its work area (R498, R499); `a` and `b` tell whether the copies are good. -/
def workWrite (s : Sys) (a b : Bool) : Sys :=
  s.modSmp (fun q => { q with workMinutes := s.rd Key.OpHours.OPERATING_HOURS, workResidue := q.residue, workOkA := a, workOkB := b })

/-- The newest valid record, in the read map of the MRAM (R499). -/
def newestRecord (s : Sys) : Option Nat :=
  let a := if 0 < s.smp.circulating then some (circulatingAt ((s.smp.next + 1023) % 1024))
    else if 0 < s.smp.permanent then some (permanentAt (s.smp.permanent - 1)) else none
  a.filter (fun a => decide (s.ld (a + 508) 4 = crc32 (s.bytes a 508)))

/-- The operating time and the count of power cycles come back from the work area at a cold start, or from the newest valid
record where both of its copies fail (R498, R499); POWER_CYCLES counts the cold start. -/
def workRestore (s : Sys) : Sys :=
  if s.smp.workOkA || s.smp.workOkB then
    ((s.wr Key.OpHours.OPERATING_HOURS s.smp.workMinutes).modSmp (fun q => { q with residue := q.workResidue })).inc Key.PwrCycles.POWER_CYCLES
  else
    let at_ (o : Nat) : Nat := s.newestRecord.elim 0 (fun a => s.ld (a + o) 4)
    (((s.wr Key.OpHours.OPERATING_HOURS (at_ 8)).wr Key.PwrCycles.POWER_CYCLES ((at_ 12 + 1) % 2 ^ 32)).modSmp (fun q => { q with residue := 0 })).faultNow
      0x6C 0 0

/-- 4 ns of operating time pass (R498). -/
def operate (s : Sys) : Sys :=
  if s.smp.residue + 4 < 60000000000 then s.modSmp (fun q => { q with residue := q.residue + 4 })
  else (s.modSmp (fun q => { q with residue := q.residue + 4 - 60000000000 })).inc Key.OpHours.OPERATING_HOURS

/-- A write to AREA or INDEX takes the snapshot (R505). -/
def smpSelect (s : Sys) (index : Bool) (v : Nat) : Sys :=
  let s := s.wr (if index then Key.SmpSel.INDEX else Key.SmpSel.AREA) v
  let i := s.rd Key.SmpSel.INDEX
  let a := if s.rd Key.SmpSel.AREA = 0 then (if i < s.smp.permanent then some (permanentAt i) else none)
    else if i < s.smp.circulating then some (circulatingAt ((s.smp.next + 1024 - s.smp.circulating + i) % 1024)) else none
  let s := s.wrB Key.SmpSel.VALID a.isSome
  s.each (List.range 64) (fun s n => s.wr (Key.SmpRec.WORD n) (a.elim 0 (fun a => s.ld (a + 8 * n) 8)))

/-- What a write to `0580.02` COMMAND is refused with (R506, R507): the class and the state of CLEAR_CIRCULATING. -/
def smpCmdAbort (s : Sys) (cls : Cls) (cmd : Nat) : Nat :=
  if cmd = 2 ∧ cls ≠ .fm then 0x0701
  else if cmd = 2 ∧ s.dev ≠ .service then 0x0803
  else if cmd ≠ 1 ∧ cmd ≠ 2 then 0x0604
  else if s.smp.clearing then 0x0805
  else 0

/-- COMMAND of the Sampler (R504, R506). -/
def smpCmd (s : Sys) (cmd : Nat) : Sys := if cmd = 1 then s.smpCloseNow else s.modSmp (fun q => { q with clearing := true })

/-- CLEAR_CIRCULATING ends (R506): the circulating area is empty. -/
def smpCleared (s : Sys) : Sys :=
  if s.smp.clearing then
    { s with mem := s.mem.filter (fun c => decide (c.1 < circulatingAt 0 ∨ circulatingAt 1024 ≤ c.1)) }.modSmp (fun q => { q with
      clearing := false, circulating := 0, next := 0 })
  else s

/-! ### The gatherer -/

/-- The codes that R495 assigns. -/
def assignedCode (code : Nat) : Bool :=
  [(0x01, 0x0B), (0x10, 0x1A), (0x20, 0x24), (0x28, 0x2C), (0x30, 0x3C), (0x40, 0x45), (0x48, 0x4A), (0x50, 0x56), (0x58, 0x5C), (0x60, 0x64),
    (0x68, 0x6F)].any (fun r => decide (r.1 ≤ code ∧ code ≤ r.2))

/-- The millisecond of a code ends (R493). -/
def mergeExpiry (s : Sys) (code : Nat) : Sys :=
  match s.gath.merges.find? (fun m => decide (m.code = code ∧ m.since + 1000000 ≤ s.clk)) with
  | some { merged := some t, .. } => s.report code t
  | some _ => { s with gath := { s.gath with merges := s.gath.merges.filter (fun m => decide (m.code ≠ code)) } }
  | none => s

/-- POP of the fault log (R497). -/
def logPop (s : Sys) (v : Nat) : Sys := if v = 0 then s else { s with gath := { s.gath with log := s.gath.log.drop 1 } }

/-- A read of ERR_ADDR or ERR_MASTER: the capture is re-armed once both have been read (R497). -/
def errRead (s : Sys) (master : Bool) : Sys :=
  if !s.gath.captured then s
  else
    let g := { s.gath with addrRead := s.gath.addrRead || !master, masterRead := s.gath.masterRead || master }
    { s with gath := if g.addrRead && g.masterRead then { g with captured := false, addrRead := false, masterRead := false } else g }

/-- An emission ball has been at a level for 20 ns, or a FIRE strobe was not seen high at its ball (R486). -/
def emissionPin (s : Sys) (o : Nat) (level missed : Bool) : Sys :=
  let balls := s.pads.balls.filter (fun b => decide (b.1 ≠ o))
  let s : Sys := { s with pads := { s.pads with balls := if level = s.driven o then balls else balls ++ [(o, level)] } }
  if s.ballDiffers o ∨ (missed ∧ 32 ≤ o) then (if o < 32 then s.faultNow 0x6D 1 (o % 16) else s.faultNow 0x6D 13 (o - 32)) else s

/-- The limit of DIE_TEMP in 1/16 degC (R496). -/
def dieLimit (s : Sys) : Int := if s.rd Key.Ident.SCREENING = 0 then 1600 else 1680

/-- The mean junction temperature over 10 ms, in 1/16 degC (R496). -/
def dieTemp (s : Sys) (t : Int) : Sys :=
  if s.dieLimit < t ∧ !s.pw.hot then ({ s with pw := { s.pw with hot := true } } : Sys).faultNow 0x6E 0 0
  else if t < s.dieLimit - 80 ∧ s.pw.hot then ({ s with pw := { s.pw with hot := false } } : Sys).clearActive 0x6E 0 0
  else s

end Sys

/-- FAULT_OCCURRENCE (R487 to R493): the gatherer's part; a block's own action is its own command. -/
def execFaultOccurrence (code : Fin 128) (kind : Fin 14) (inst t : Nat) (s : State) : Host.Outcome State Fault Refusal :=
  onSys (fun s => if Sys.assignedCode code then s.fault code kind inst t else s) s

/-- REPORT_MERGE_EXPIRY (R493). -/
def execReportMergeExpiry (code : Fin 128) (s : State) : Host.Outcome State Fault Refusal := onSys (fun s => s.mergeExpiry code) s

/-- EMISSION_PIN (R486, R496). -/
def execEmissionPin (out : Fin 48) (level missed : Bool) (s : State) : Host.Outcome State Fault Refusal :=
  onSys (fun s => s.emissionPin out level missed) s

/-- DIE_TEMP (R496). -/
def execDieTemp (t : Int) (s : State) : Host.Outcome State Fault Refusal := onSys (fun s => s.dieTemp t) s

/-- The mean junction temperature falls below the limit less 5 degC (R496). -/
def execDieTempClear (t : Int) (s : State) : Host.Outcome State Fault Refusal := onSys (fun s => s.dieTemp t) s

/-- SAMPLER_TICK (R500, R501). -/
def execSamplerTick (lin : List (Int × Int × Int)) (s : State) : Host.Outcome State Fault Refusal := onSys (fun s => s.smpTick lin) s

/-- WORK_AREA_WRITE (R498, R499). -/
def execWorkAreaWrite (a b : Bool) (s : State) : Host.Outcome State Fault Refusal :=
  onSys (fun s => if s.pw.state = .run then s.workWrite a b else s) s

/-- SAMPLER_CLEAR_COMPLETE (R506). -/
def execSamplerClearComplete (s : State) : Host.Outcome State Fault Refusal := onSys (fun s => s.smpCleared) s

end Sys2Proof.Machine
end

