-- ==== Sys2Proof/Machine/Boot.lean ====
section
/-! DEFINITION. Boot: what a reset keeps (R58, R59, R497), the identity from the fuses (R441), and the sources the boot ROM
tries (R434 to R438). -/

namespace Sys2Proof.Machine

open Sys2Proof

namespace Sys

/-! ### What a reset leaves -/

/-- The lane groups that carry an active chain port, as a mask (R34, R456): the port is not DISABLED (log entry 35). -/
def chainGroups (s : Sys) : Nat :=
  (List.range 2).foldl (fun m p => if s.rd (Key.Port.STATE p) = 0 then m else (s.portLanes p).foldl (fun m l => putBit m (l / 4) true) m) 0

/-- A lane entry of a group that carries an active chain port, or one that the equalisation table has set (R58, R340). -/
def keptLane (s : Sys) (k : Nat) : Bool :=
  decide (0xC00 ≤ keyIdx k ∧ keyIdx k < 0xC80) && (s.chainGroups.testBit ((keyIdx k - 0xC00) / 32) || (List.range 16).any (fun l => decide (k = Key.Lane.EQ_SOURCE l)))

/-- An entry that WARM_RESET keeps (R58, R85, R438, R497): stored ones, counts since cold start, STATE_CAUSE, the gatherer's
FIRST_FREEZE, capture, log and counts, AON entries, the ports and address of the chain, identity from OTP and BOOT_STATE. -/
def warmEntry (s : Sys) (k : Nat) : Bool :=
  isKept k || countsSinceCold k || decide (keyIdx k ∈ [0x100, 0x112, 0x120, 0x121, 0x200, 0x202, 0x210, 0x211, 0x404, 0x501, 0x502]) ||
    decide (k ∈ [Key.Gath.FIRST_FREEZE, Key.Gath.RECORDED, Key.Gath.ERR_ADDR, Key.Gath.ERR_MASTER, Key.PwrSt.HOLDS, Key.Pad.HELD,
      Key.Gw.LOCAL_MAC, Key.Mac.MAC_ADDR 0, Key.Mac.MAC_ADDR 1, Key.Otp.LIFECYCLE, Key.Otp.ROLLBACK_MIN, Key.Otp.KEYS, Key.Image.BOOT_STATE]) ||
    s.keptLane k

/-- Contents of shared SRAM and DRAM are lost. -/
def loseMemory (s : Sys) : Sys :=
  { s with sramEpoch := s.sramEpoch + 1, dramEpoch := s.dramEpoch + 1
           mem := s.mem.filter (fun c => decide (c.1 < 0x10000000 ∨ (0x10800000 ≤ c.1 ∧ c.1 < dramBase))) }

/-- The parts that no reset of the core logic touches: the retained store, the Sampler's areas and counts, what stands on the
balls, the power island and the record of what was sent. -/
def resetBase (s : Sys) (keep : Nat → Bool) : Sys :=
  { od := s.od.filter (fun c => keep c.1), clk := s.clk, mem := s.mem, sramEpoch := s.sramEpoch, dramEpoch := s.dramEpoch, aonEpoch := s.aonEpoch, sent := s.sent, free := s.free
    eng := { pairs := s.eng.pairs.map (fun p => { p with building := false }), fws := s.eng.fws }
    smp := { s.smp with clearing := false }
    pads := { lsafe := s.pads.lsafe, lpSts := s.pads.lpSts, gate := s.pads.gate, balls := s.pads.balls }
    pw := { s.pw with state := .run, napPending := false, holdPending := false, latched := 0, gated := 0, faultSeen := false, waking := 0 }
    core := { flash := s.core.flash, flashMode := s.core.flashMode } : Sys }.loseMemory

/-- A link that the unit keeps through WARM_RESET: measurements of its delay begin again (R358, R370). -/
def warmPort (q : Port) : Port := { q with delays := [], asked := none }

/-- WARM_RESET of every block (R58): AON, chain forwarding and the lane groups of active chain ports go on; the gatherer keeps
its log and capture, and the faults whose condition a reset does not touch. -/
def resetWarm (s : Sys) : Sys :=
  let r := s.resetBase s.warmEntry
  { r with
    chain := { s.chain with ports := s.chain.ports.map warmPort, eps := Vector.replicate 8 {}, svcq := [], macs := Vector.replicate 2 {}, boot := {}, syncSeq := none, syncAt := none }
    vbus := s.vbus
    lanes := (s.lanes.mapIdx (fun l q => if s.chainGroups.testBit (l / 4) then q else { table := q.table }))
    gath := { s.gath with merges := [], active := s.gath.active.filter (fun a =>
      decide (a.1 = 0x6F ∨ a.1 = 0x6E) || (decide (a.1 = 0x51) && !s.portUp a.2.2)) } }

/-- A cold start of every block (R59, R475, R497): stored entries and the count of HOLD entries stay. -/
def resetCold (s : Sys) : Sys :=
  let r := s.resetBase (fun k => isKept k || decide (k = Key.PwrSt.HOLDS))
  { r with pw := { r.pw with pmic := 15, napBanks := false, holdBanks := false, nap := {}, hold := {}, hot := false, timerDone := false } }

/-! ### Identity (R441, R442) -/

/-- The lanes and rate of chain port `p` from its fuse byte (R67, R337, R441). -/
def portFuse (s : Sys) (p b : Nat) : Sys :=
  if b.testBit 0 then
    ((s.wr (Key.Port.LANE_FIRST p) (b / 2 % 16)).wr (Key.Port.LANE_COUNT p) (if b.testBit 5 then 1 else 2)).modPort p (fun q => { q with
      rate := 7 - b / 64 % 4 })
  else ((s.wr (Key.Port.LANE_FIRST p) (2 * p)).wr (Key.Port.LANE_COUNT p) 2).modPort p (fun q => { q with rate := 7 })

/-- LOCAL_MAC is the address of the MAC that the gateway uses (R100, `0240.08`). -/
def gatewayMac (s : Sys) : Sys := s.wr Key.Gw.LOCAL_MAC (s.rd (Key.Mac.MAC_ADDR (s.rd Key.Gw.MAC)))

/-- The entries that OTP gives are read from the fuses (R441, R442). -/
def readFuses (s : Sys) (otp : Nat → Nat) : Sys :=
  let field (o n : Nat) : Nat := unle ((List.range n).map (fun i => otpByte otp (o + i)))
  let s := ((s.wr Key.Ident.SCREENING (otpByte otp 8 % 2)).wr Key.Ident.SERIAL (field 0 8)).wr Key.Otp.LIFECYCLE (lifecycleOf (otpByte otp 9))
  let s := (s.wr Key.Otp.ROLLBACK_MIN (rollbackMin otp)).wr Key.Otp.KEYS (otpKeys otp)
  let s := (s.portFuse 0 (otpByte otp 0xA)).portFuse 1 (otpByte otp 0xB)
  ((s.wr (Key.Mac.MAC_ADDR 0) (field 0x10 6)).wr (Key.Mac.MAC_ADDR 1) ((field 0x10 6 + 1) % 2 ^ 48)).gatewayMac

/-! ### Sources (R434 to R438) -/

/-- The strap value as the ROM acts on it (R434). -/
def strapActs (s : Sys) (otp : Nat → Nat) : Nat :=
  let b := s.rd Key.Image.BOOT_STATE / 16 % 4
  let life := s.rd Key.Otp.LIFECYCLE
  if (b ≠ 0 ∧ (otpByte otp 0xC).testBit b) ∨ (b = 3 ∧ (life = 1 ∨ life = 2)) then 0 else b

/-- The MRAM slot that the ROM runs (R438): newer first, neither FAILED nor invalid. -/
def bootSlot (s : Sys) (otp : Nat → Nat) : Option Nat :=
  let seq (i : Nat) : Nat := s.ld (imageAt i + 24) 4
  let order := if seq 0 = seq 1 ∨ newer32 (seq 0) (seq 1) then [0, 1] else [1, 0]
  order.find? (fun i => !s.rdBit Key.Image.BOOT_STATE (2 + i) && decide (s.slotCheck i otp = 1))

/-- SV runs an image: RUNNING and FW_VERSION, with TRIAL and CONFIRMED as given. -/
def runImage (s : Sys) (source version : Nat) (trial : Bool) : Sys :=
  (((s.wr Key.Image.RUNNING source).wr Key.Ident.FW_VERSION version).wrBit Key.Image.BOOT_STATE 0 trial).wrBit Key.Image.BOOT_STATE 1 false

/-- The ROM runs an MRAM slot in place, as a trial (R435, R438). -/
def runSlot (s : Sys) (i : Nat) : Sys :=
  let ms := s.ld (imageAt i + 28) 4
  (s.runImage i (s.ld (imageAt i + 16) 4) true).modCore (fun c => { c with trialAt := some c.mtime, trialMs := if ms = 0 then 10000 else ms })

/-- An image copied to shared SRAM runs there (R435). -/
def runCopied (s : Sys) (source : Nat) (image : List Nat) : Sys := (s.setBytes 0x10000000 image).runImage source (u32At image 16) false

/-- The ROM reads the SFDP tables of the flash part, then the flash in the mode they give (R435). Whether the part advertises 8-8-8 lies
outside the unit: a free value, which then stays. -/
def flashOpen (s : Sys) : Sys :=
  let s := if s.core.flashMode = 0 then (s.modCore (fun c => { c with flashMode := if s.freeVal.toNat.testBit 0 then 2 else 1 })).useFree else s
  (s.emit (.flash 0 25000)).emit (.flash s.core.flashMode 100000)

/-- The boot list of the strap value (R434, R435): the first valid image runs; the chain asks for its image; a list that ends
without one is repeated after 1 s. -/
def bootList (s : Sys) (otp : Nat → Nat) : Sys :=
  let life := s.rd Key.Otp.LIFECYCLE
  let s := s.wr Key.Image.RUNNING 4
  let chain (s : Sys) : Sys := ({ s with chain := { s.chain with boot := { active := true } } } : Sys).bootAsk
  match s.strapActs otp with
  | 0 => (s.bootSlot otp).elim (chain s) (fun i => s.runSlot i)
  | 1 =>
    let s := s.flashOpen
    match (s.core.flash.take 2).find? (fun m => decide (imageCheck m otp life = 1)) with
    | some m => s.runCopied 2 (m.take (u32At m 8))
    | none => (s.bootSlot otp).elim ({ s with chain := { s.chain with boot := { pause := some s.clk } } } : Sys) (fun i => s.runSlot i)
  | 2 => chain s
  | _ => s

/-- The ROM starts again 1 s after the last source failed or an image was rejected (R101, R435). -/
def bootRestart (s : Sys) (otp : Nat → Nat) : Sys :=
  match s.chain.boot.pause with
  | some t => if t + 1000000000 ≤ s.clk then ({ s with chain := { s.chain with boot := {} } } : Sys).bootList otp else s
  | none => s

/-- A BOOT_REQ has had no answer for 10 ms (R101): it is repeated, up to 8 attempts, then the ROM pauses. -/
def bootTimeout (s : Sys) : Sys :=
  let b := s.chain.boot
  match b.asked with
  | some t =>
    if ¬ t + 10000000 ≤ s.clk then s
    else if b.attempt < 7 then
      ({ s with chain := { s.chain with boot := { b with asked := none, attempt := b.attempt + 1 } } } : Sys).bootAsk
    else { s with chain := { s.chain with boot := { active := true, pause := some s.clk } } }
  | none => s

/-- A BOOT_DATA has come (R101): its data goes to shared SRAM where it was asked for; the image that is complete is checked. -/
def bootTake (s : Sys) (otp : Nat → Nat) (payload : List Nat) : Sys :=
  let b := s.chain.boot
  let off := u32At payload 0
  let total := u32At payload 4
  let data := payload.drop 8
  if b.asked.isNone ∨ off ≠ b.offset ∨ 4194304 < total ∨ data = [] then s
  else
    let s := s.setBytes (0x10000000 + off) (data.take (total - off))
    if off + data.length < total then
      ({ s with chain := { s.chain with boot := { b with asked := none, attempt := 0, offset := off + data.length } } } : Sys).bootAsk
    else
      let image := s.bytes 0x10000000 total
      let s : Sys := { s with chain := { s.chain with boot := {} } }
      if imageCheck image otp (s.rd Key.Otp.LIFECYCLE) = 1 then s.runImage 3 (u32At image 16) false
      else
        let s := s.originate 0xFE 0x0A false 0 (le 4 0xFFFFFFFF ++ le 2 0 ++ [0, 0] ++ le 8 (s.rd Key.Ident.SERIAL) ++ le 2 (s.rd Key.Alias.ALIAS))
        { s with chain := { s.chain with boot := { active := true, pause := some s.clk } } }

/-! ### RMA (R442) -/

/-- The ROM zeroes both images, the calibration region, the retained store and the hold image (R442). -/
def rmaWipe (s : Sys) : Sys :=
  let gone (a : Nat) : Bool := decide (0x20000000 ≤ a ∧ a < 0x20D00000) || decide (0x20E00000 ≤ a ∧ a < 0x20E40000)
  { s with mem := s.mem.filter (fun c => !gone c.1), od := s.od.filter (fun c => !isKept c.1)
           eng := { s.eng with fws := [], pairs := Vector.replicate 16 { okA := false, okB := false, blank := true } }
           pw := { s.pw with hold := {}, holdBanks := false } }

end Sys

/-- BOOT_REQ_TIMEOUT (R101). -/
def execBootReqTimeout (s : State) : Host.Outcome State Fault Refusal := onSys (fun s => s.bootTimeout) s

/-- BOOT_RESTART (R101, R435). -/
def execBootRestart (s : State) : Host.Outcome State Fault Refusal := onSys (fun t => t.bootRestart s.otpWord) s

end Sys2Proof.Machine
end

