-- ==== Sys2Proof/Machine/Dma.lean ====
section
/-! DEFINITION. Dma: the DMA engine: descriptors (R401 to R407), shadow sets (R408 to R411), channel states (R412, R413), bursts (R414 to R416) and completion queues (R417, R418). -/

namespace Sys2Proof.Machine

open Sys2Proof

/-! ### Widths and conversion (R402, R403) -/

/-- Destination or source bytes of one element, or of one block of 16 for P18. -/
def widthBytes (w : Nat) : Nat :=
  if w = 0 then 1 else if w = 1 then 2 else if w = 2 then 4 else if w = 3 then 8 else if w = 4 then 36 else 3

/-- The alignment of a width (R402). -/
def widthAlign (w : Nat) : Nat := if w = 0 ∨ w = 5 then 1 else if w = 1 then 2 else if w = 3 then 8 else 4

/-- The fields of FORMAT (R406). -/
def fmtSrc (f : Nat) : Nat := f % 8
def fmtDst (f : Nat) : Nat := f / 16 % 8
def fmtSigned (f : Nat) : Bool := f.testBit 8
def fmtFence (f : Nat) : Bool := f.testBit 9
def fmtRecord (f : Nat) : Bool := f.testBit 10

/-- Elements that are read as one: a whole block where either side is P18. -/
def fmtUnit (f : Nat) : Nat := if fmtSrc f = 4 ∨ fmtDst f = 4 then 16 else 1

/-- The sample or value of source bytes as an integer, extended as SIGNED says (R403). -/
def srcValue (f : Nat) (bytes : List Nat) : Int :=
  let v := unle bytes
  if fmtSrc f = 5 then (if fmtSigned f then sext 18 (v % 2 ^ 18) else ((v % 2 ^ 18 : Nat) : Int))
  else if fmtSigned f then sext (8 * bytes.length) v else (v : Int)

/-- The samples of a P18 block (R402). -/
def blockValues (f : Nat) (bytes : List Nat) : List Int :=
  let v := unle bytes
  (List.range 16).map (fun j =>
    let x := v / 2 ^ (18 * j) % 2 ^ 18
    if fmtSigned f then sext 18 x else (x : Int))

/-- The bytes of one element at the destination, whose width is not P18 (R402, R403). -/
def dstElem (f : Nat) (v : Int) : List Nat :=
  let w := fmtDst f
  if w = 5 then
    let x := trunc 18 v
    le 3 (x + if fmtSigned f && x.testBit 17 then 0xFC0000 else 0)
  else le (widthBytes w) (trunc (8 * widthBytes w) v)

/-- A P18 block of 16 values. -/
def packBlock (vs : List Int) : List Nat :=
  le 36 (((List.range 16).map (fun (j : Nat) => trunc 18 (vs.getD j 0) * 2 ^ (18 * j))).foldl (· + ·) 0)

/-- Convert what a unit of the source holds: pieces of destination bytes, one for each element or one block (R403). -/
def convertUnit (f : Nat) (src : List (List Nat)) : List (List Nat) :=
  if fmtSrc f = fmtDst f then src
  else
    let vals := if fmtSrc f = 4 then src.flatMap (blockValues f) else src.map (srcValue f)
    if fmtDst f = 4 then [packBlock vals] else vals.map (dstElem f)

/-- Address arithmetic wraps (R401). -/
def addr64 (a : Nat) (o : Int) : Nat := trunc 64 ((a : Int) + o)

/-- The address of element `i` of a row on one side. -/
def elemAddr (w base : Nat) (inc : Int) (i : Nat) : Nat :=
  if w = 4 then addr64 base ((36 * (i / 16) : Nat) : Int) else addr64 base ((i : Int) * inc)

/-- An address of the OD window (R15). -/
def inWindow (a : Nat) : Bool := decide (0x60000000 ≤ a ∧ a < 0x68000000)

/-- Some of the numbers `s + r * st` with `r < n` lies from `lo` to `hi`: the first that reaches `lo` does not pass `hi`. -/
def stridesMeet (s st : Int) (n : Nat) (lo hi : Int) : Bool :=
  let up (s st lo hi : Int) : Bool :=
    let r := max 0 (-((s - lo) / st))
    decide (r < n) && decide (lo ≤ s + r * st ∧ s + r * st ≤ hi)
  if st = 0 then decide (lo ≤ s ∧ s ≤ hi) else if 0 < st then up s st lo hi else up (-s) (-st) (-hi) (-lo)

/-- A side has an address in the OD window (R401, R407), its addresses being taken modulo 2^64. An increment is less than the window, so that
a row that passes across it has an address in it. -/
def sideInWindow (w a count rows : Nat) (inc stride : Int) : Bool :=
  let span : Int := if w = 4 then 36 * (count / 16 : Nat) - 1 else (count - 1 : Nat) * inc
  [-1, 0, 1].any (fun (k : Int) => stridesMeet (a + k * 2 ^ 64) stride rows (0x60000000 - max 0 span) (0x67FFFFFF - min 0 span))

/-- A side that lies in the OD window keeps its accesses whole and aligned (R407, R51). -/
def windowSide (w a count rows : Nat) (inc stride : Int) : Bool :=
  !sideInWindow w a count rows inc stride ||
    (decide (w = 2 ∨ w = 3) && decide (a % widthBytes w = 0) && decide (count = 1 ∨ inc % (widthBytes w : Int) = 0)
      && decide (rows = 1 ∨ stride % (widthBytes w : Int) = 0))

namespace Sys

/-! ### Channels -/

/-- DMA channel `d`. -/
def dmaCh (s : Sys) (d : Nat) : DmaChan := s.dma.chans.getD d {}

/-- Change DMA channel `d`. -/
def modDma (s : Sys) (d : Nat) (f : DmaChan → DmaChan) : Sys :=
  { s with dma := { s.dma with chans := s.dma.chans.setIfInBounds d (f (s.dmaCh d)) } }

/-- The state of channel `d` (R412). -/
def dmaState (s : Sys) (d : Nat) : Nat := s.rd (Key.Dma.STATE d)

/-- A descriptor passes its check (R407); `d` is its channel. -/
def dmaGood (j : DmaJob) (d : Nat) : Bool :=
  let sw := fmtSrc j.fmt
  let dw := fmtDst j.fmt
  let per := if dw = 4 then 36 * j.count / 16 else widthBytes dw * j.count
  decide (sw ≤ 5 ∧ dw ≤ 5) && decide (1 ≤ j.count ∧ j.count ≤ 16777215 ∧ 1 ≤ j.rows ∧ j.rows ≤ 65535)
    && (decide (sw ≠ 4 ∧ dw ≠ 4) || decide (j.count % 16 = 0))
    && (decide (sw ≠ 4) || decide (j.srcInc = 0)) && (decide (dw ≠ 4) || decide (j.dstInc = 0))
    && decide (j.src % widthAlign sw = 0 ∧ j.dst % widthAlign dw = 0)
    && decide (per * j.rows ≤ 4294967295)
    && windowSide sw j.src j.count j.rows j.srcInc j.srcStride && windowSide dw j.dst j.count j.rows j.dstInc j.dstStride
    && (decide (d < 24) || (!sideInWindow sw j.src j.count j.rows j.srcInc j.srcStride && !sideInWindow dw j.dst j.count j.rows j.dstInc j.dstStride))
    && decide (j.fmt.testBit 3 = false ∧ j.fmt.testBit 7 = false ∧ j.fmt < 2048)

/-- The transfer that the shadow entries describe. -/
def shadowJob (s : Sys) (d : Nat) : DmaJob :=
  { src := s.rd (Key.DmaSh.SRC d), dst := s.rd (Key.DmaSh.DST d), count := s.rd (Key.DmaSh.COUNT d), rows := s.rd (Key.DmaSh.ROWS d)
    fmt := s.rd (Key.DmaSh.FORMAT d), srcInc := s.rdI (Key.DmaSh.SRC_INC d), dstInc := s.rdI (Key.DmaSh.DST_INC d)
    srcStride := s.rdI (Key.DmaSh.SRC_ROW_STRIDE d), dstStride := s.rdI (Key.DmaSh.DST_ROW_STRIDE d), seq := s.rd (Key.DmaSh.SEQ d)
    rest := s.rd (Key.DmaSh.COUNT d) * s.rd (Key.DmaSh.ROWS d) }

/-- The transfer that has reads left, if one has. -/
def dmaReads (s : Sys) (d : Nat) : Option DmaJob := (s.dmaCh d).jobs.find? (fun j => decide (j.rest ≠ 0))

/-- Show the active set of channel `d` (`D1`). -/
def showActive (s : Sys) (d : Nat) : Sys :=
  match (s.dmaReads d).orElse (fun _ => (s.dmaCh d).jobs.getLast?) with
  | none => s
  | some j =>
    let last := decide (j.rest = 0)
    let next := elemAddr (fmtDst j.fmt) j.dst j.dstInc j.i
    let s := (s.wr (Key.DmaAct.SRC d) (elemAddr (fmtSrc j.fmt) j.src j.srcInc j.i)).wr (Key.DmaAct.DST d) ((j.out.head?.map (fun c => c.1)).getD next)
    let s := (s.wr (Key.DmaAct.REMAIN d) (if last then 0 else j.count - j.i)).wr (Key.DmaAct.ROWS_LEFT d)
      (if last then 0 else j.rows - j.row - (if j.i = 0 then 0 else 1))
    (s.wr (Key.DmaAct.SEQ d) j.seq).wr (Key.DmaAct.BYTES d) j.done

/-- A record of the channel is held under WAIT (R418). -/
def dmaHeld (s : Sys) (d : Nat) : Bool := s.dma.held.any (fun h => decide (h.2.1 = d))

/-- The shadow becomes the active set (R408, R409, R414): paced rows wait for their edge. -/
def takeShadow (s : Sys) (d : Nat) (gap : Bool) : Sys :=
  let j := { s.shadowJob d with gap := gap, slot := (s.dmaCh d).shSlot, wait := decide (s.rd (Key.Dma.PACE d) < 32) }
  let s := ((s.wrB (Key.DmaSh.ARM d) false).wr (Key.Dma.STATE d) 2).modDma d (fun c => { c with jobs := c.jobs ++ [j], shSlot := none })
  (s.when gap (fun s => (s.wrBit (Key.Dma.FLAGS d) 0 true).inc (Key.DmaRing.GAPS d))).showActive d

/-- The hand-last cycle ends (R408 to R412): an ARM sampled as 1 makes the shadow the active set, unless a STOP or a held record
prevents it; otherwise the channel idles. -/
def handOver (s : Sys) (d : Nat) : Sys :=
  match (s.dmaCh d).edge with
  | none => s
  | some armed =>
    let s := s.modDma d (fun c => { c with edge := none })
    if s.dmaState d ≠ 2 then s
    else if armed && !s.dmaHeld d then s.takeShadow d false
    else s.wr (Key.Dma.STATE d) 1

/-- A channel takes an armed shadow at another edge (R409): no transfer has reads left, and neither a stop nor a failed fetch
is pending. -/
def shadowTake (s : Sys) (d : Nat) : Sys :=
  let s := s.handOver d
  if (s.dmaState d = 1 ∨ s.dmaState d = 2) ∧ s.rdB (Key.DmaSh.ARM d) ∧ (s.dmaReads d).isNone ∧ !s.dmaHeld d ∧
      !(s.dmaCh d).jobs.any (fun j => j.stop) then s.takeShadow d true
  else s

/-! ### Completion (R414, R416 to R418) -/

/-- Whether queue `q` has room for a record (R191). -/
def cqFull (s : Sys) (q : Nat) : Bool := decide ((s.rd (Key.Cq.HEAD q) + 16) % max 1 (s.rd (Key.Cq.LEN q)) = s.rd (Key.Cq.TAIL q))

/-- Write a record into queue `q`. -/
def cqWrite (s : Sys) (q d : Nat) (rec : List Nat) : Sys :=
  let a := s.rd (Key.Cq.ADDR q) + s.rd (Key.Cq.HEAD q)
  let g := s.grant (0x10 + d) true a 16
  let s := if g.2 then g.1.busStore (0x10 + d) a rec 0 else g.1
  ((s.wr (Key.Cq.HEAD q) ((s.rd (Key.Cq.HEAD q) + 16) % max 1 (s.rd (Key.Cq.LEN q)))).inc64 (Key.Cq.RECORDS q)).raise (53 + q)

/-- Channel `d` puts a record into its queue (R418). -/
def cqPut (s : Sys) (d : Nat) (rec : List Nat) : Sys :=
  let q := s.rd (Key.Dma.CQ d)
  if 7 < q ∨ s.rd (Key.Cq.LEN q) = 0 then s
  else if s.dma.held.any (fun h => decide (h.1 = q)) || s.cqFull q then
    if s.rd (Key.Cq.POLICY q) = 0 then ({ s with dma := { s.dma with held := s.dma.held ++ [(q, d, rec)] } }).inc (Key.Cq.WAITS q)
    else (s.inc (Key.Cq.LOST q)).faultNow 0x64 8 q
  else s.cqWrite q d rec

/-- STOPPING ends once the completion of the last transfer is written (R412). -/
def dmaSettle (s : Sys) (d : Nat) : Sys :=
  if (s.dmaCh d).jobs = [] ∧ !s.dmaHeld d then
    if s.dmaState d = 3 then (s.wr (Key.Dma.STATE d) 4).wr (Key.Dma.CAUSE d) 1
    else if s.dmaState d = 2 ∧ (s.dmaCh d).edge = none then s.wr (Key.Dma.STATE d) 1
    else s
  else s

/-- A write to TAIL of queue `q` has made room: records held under WAIT are written in order (R418). -/
def cqRelease (s : Sys) (q : Nat) : Sys :=
  let one (s : Sys) : Sys :=
    match s.dma.held.find? (fun h => decide (h.1 = q)) with
    | none => s
    | some h =>
      if s.cqFull q then s
      else (({ s with dma := { s.dma with held := s.dma.held.erase h } }).cqWrite q h.2.1 h.2.2).dmaSettle h.2.1
  iter one s.dma.held.length s

/-- The oldest transfer of channel `d` completes (R414, R416): writeback, HEAD and record. -/
def completeHead (s : Sys) (d : Nat) : Sys :=
  match (s.dmaCh d).jobs with
  | [] => s
  | j :: rest =>
    let e := widthBytes (fmtDst j.fmt)
    let bytes := if j.status = 0 then j.done else j.done / e * e
    let s := s.modDma d (fun c => { c with jobs := rest, unfenced := c.unfenced || (decide (j.status = 0) && !fmtFence j.fmt) })
    let s := match j.slot with
      | none => s
      | some off =>
        let a := s.rd (Key.DmaRing.RING_ADDR d) + off
        let g := s.grant (0x10 + d) true a 64
        let s := if g.2 then (g.1.busStore (0x10 + d) (a + 44) (le 4 bytes) 0).busStore (0x10 + d) (a + 40) [(if j.status = 0 then 1 else 2) + 16 * j.status] 0
          else g.1
        s.wr (Key.DmaRing.HEAD d) ((off + 64) % max 1 (s.rd (Key.DmaRing.RING_LEN d)))
    let s := if j.status = 0 then s.inc64 (Key.DmaRing.DESCRIPTORS d) else (s.inc (Key.DmaRing.BAD d)).wrBit (Key.Dma.FLAGS d) 1 true
    let s := s.when (fmtRecord j.fmt || decide (j.status ≠ 0)) (fun s =>
      s.cqPut d ([d, j.status + 16 * b2n j.gap + 32 * b2n (fmtFence j.fmt)] ++ le 4 j.seq ++ le 4 bytes ++ le 6 s.now))
    if j.stop then (s.wr (Key.Dma.STATE d) 4).wr (Key.Dma.CAUSE d) 2 else s.dmaSettle d

/-- The oldest transfer of channel `d` completes once its last write has left the engine (R414). -/
def transferComplete (s : Sys) (d : Nat) : Sys :=
  match (s.dmaCh d).jobs with
  | j :: _ => if j.rest = 0 ∧ j.out = [] then (s.handOver d).completeHead d else s
  | [] => s

/-- A write error response arrives after an unfenced completion (R416). -/
def lateError (s : Sys) (d addr : Nat) : Sys :=
  if (s.dmaCh d).unfenced then
    ((s.wrBit (Key.Dma.FLAGS d) 2 true).captureAt addr (0x10 + d)).faultNow 0x63 8 d
  else s

/-! ### Ring mode (R411, R416) -/

/-- The descriptor at an address (R406). -/
def ringJob (s : Sys) (a off : Nat) : DmaJob :=
  { slot := some off, src := s.ld a 8, dst := s.ld (a + 8) 8, count := s.ld (a + 16) 4, rows := s.ld (a + 20) 2, fmt := s.ld (a + 26) 2
    srcInc := s.ldI (a + 22) 2, dstInc := s.ldI (a + 24) 2, srcStride := s.ldI (a + 28) 4, dstStride := s.ldI (a + 32) 4
    seq := s.ld (a + 36) 4, rest := s.ld (a + 16) 4 * s.ld (a + 20) 2 }

/-- A descriptor that is not executed takes its place in the order of completions (R416). -/
def deadJob (s : Sys) (d : Nat) (j : DmaJob) (code : Nat) : Sys :=
  let s := (s.modDma d (fun c => { c with jobs := c.jobs ++ [{ j with rest := 0 }] })).faultNow code 8 d
  if (s.dmaCh d).jobs.length = 1 then s.completeHead d else s

/-- The engine fetches the next descriptor of a ring into the shadow (R411, R416); `ok` is its byte parity. HEAD moves at
completion, so the next descriptor lies past those taken and not completed. -/
def descriptorFetch (s : Sys) (d : Nat) (ok : Bool) : Sys :=
  let jobs := (s.dmaCh d).jobs
  let len := s.rd (Key.DmaRing.RING_LEN d)
  let off := (s.rd (Key.DmaRing.HEAD d) + 64 * (jobs.filter (fun j => j.slot.isSome)).length) % max 1 len
  if s.rd (Key.Dma.MODE d) ≠ 1 ∨ s.dmaState d = 0 ∨ s.dmaState d = 4 ∨ s.rdB (Key.DmaSh.ARM d) ∨ len = 0 ∨
      off = s.rd (Key.DmaRing.TAIL d) ∨ jobs.any (fun j => j.stop) ∨ s.engineStops then s
  else
    let a := s.rd (Key.DmaRing.RING_ADDR d) + off
    let g := s.grant (0x10 + d) false a 64
    let s := g.1
    if !g.2 then (s.inc (Key.DmaRing.BUS_ERRORS d)).deadJob d { seq := 0xFFFFFFFF, status := 1, stop := true } 0x60
    else if !ok ∧ regionOf (fullAddr a) = 7 then
      -- the DRAM freezes, and the fetch gets a bus error (R388)
      ((s.memParity (0x10 + d) a 64).inc (Key.DmaRing.BUS_ERRORS d)).deadJob d { seq := 0xFFFFFFFF, status := 1, stop := true } 0x60
    else if !ok then (s.inc (Key.DmaRing.PARITY_ERRORS d)).deadJob d { slot := some off, seq := 0xFFFFFFFF, status := 2 } 0x61
    else
      let j := s.ringJob a off
      let zero := decide (s.ld (a + 40) 4 = 0 ∧ s.ld (a + 48) 8 = 0 ∧ s.ld (a + 56) 8 = 0)
      if !(zero && dmaGood j d) then s.deadJob d { j with status := 3, fmt := j.fmt % 2048 } 0x62
      else
        let s := ((((s.wr (Key.DmaSh.SRC d) j.src).wr (Key.DmaSh.DST d) j.dst).wr (Key.DmaSh.COUNT d) j.count).wr (Key.DmaSh.ROWS d) j.rows).wr
          (Key.DmaSh.FORMAT d) j.fmt
        let s := ((((s.wrI (Key.DmaSh.SRC_INC d) j.srcInc).wrI (Key.DmaSh.DST_INC d) j.dstInc).wrI (Key.DmaSh.SRC_ROW_STRIDE d) j.srcStride).wrI
          (Key.DmaSh.DST_ROW_STRIDE d) j.dstStride).wr (Key.DmaSh.SEQ d) j.seq
        (s.wrB (Key.DmaSh.ARM d) true).modDma d (fun c => { c with shSlot := some off })

/-! ### Writes to the channel's entries (R410, R412, R413) -/

/-- The abort of a write to ARM (R410, R411). -/
def armAbort (s : Sys) (d v : Nat) : Nat :=
  if s.rd (Key.Dma.MODE d) = 1 then 0x0803
  else if v ≠ 0 ∧ !dmaGood (s.shadowJob d) d then 0x0604
  else 0

/-- A write to ARM (R410): in the hand-over cycle of an armed shadow it changes nothing. -/
def arm (s : Sys) (d v : Nat) : Sys :=
  if (s.dmaCh d).edge = some true then s else s.wrB (Key.DmaSh.ARM d) (decide (v ≠ 0))

/-- The abort of a write to another shadow entry (R410, R411). -/
def shadowAbort (s : Sys) (d : Nat) : Nat :=
  if s.rd (Key.Dma.MODE d) = 1 then 0x0803 else if s.rdB (Key.DmaSh.ARM d) then 0x0805 else 0

/-- The abort of a channel command (R412): 1 STOP, 2 START, 3 CLEAR. -/
def dmaCmdAbort (s : Sys) (d cmd : Nat) : Nat :=
  if cmd < 1 ∨ 3 < cmd then 0x0604 else if cmd ≠ 3 ∧ s.dmaState d = 0 then 0x0803 else 0

/-- A channel command (R412). -/
def dmaCmd (s : Sys) (d cmd : Nat) : Sys :=
  let st := s.dmaState d
  if cmd = 1 then
    if st = 1 then (s.wr (Key.Dma.STATE d) 4).wr (Key.Dma.CAUSE d) 1
    else if st = 2 then (s.wr (Key.Dma.STATE d) 3).dmaSettle d
    else s
  else if cmd = 2 then
    if st = 3 then s.wr (Key.Dma.STATE d) 2 else if st = 4 then s.wr (Key.Dma.STATE d) 1 else s
  else s.wr (Key.Dma.FLAGS d) 0

/-- A write to ENABLE (R413). The active set is undefined after a channel is stopped: free values. -/
def dmaEnable (s : Sys) (d v : Nat) : Sys :=
  if v = 0 then
    if s.dmaState d = 0 then s.wrB (Key.DmaSh.ARM d) false
    else
      let open_ (s : Sys) (k bits : Nat) : Sys := (s.wr k (s.freeVal.toNat % 2 ^ bits)).useFree
      let s := open_ (open_ (open_ s (Key.DmaAct.SRC d) 64) (Key.DmaAct.DST d) 64) (Key.DmaAct.REMAIN d) 32
      let s := open_ (open_ (open_ s (Key.DmaAct.ROWS_LEFT d) 16) (Key.DmaAct.SEQ d) 32) (Key.DmaAct.BYTES d) 32
      let s := ((s.wr (Key.Dma.ENABLE d) 0).wr (Key.Dma.STATE d) 0).wrB (Key.DmaSh.ARM d) false
      s.modDma d (fun c => { unfenced := c.unfenced })
  else if s.dmaState d = 0 then (s.wr (Key.Dma.ENABLE d) 1).wr (Key.Dma.STATE d) 1
  else s

/-- The ring entries and CQ of a channel are writable only while it is DISABLED or STOPPED (R421). -/
def dmaRestAbort (s : Sys) (d : Nat) : Nat := if s.dmaState d = 0 ∨ s.dmaState d = 4 then 0 else 0x0803

/-- ADDR of a queue that an enabled channel names (R421). -/
def cqAddrAbort (s : Sys) (q : Nat) : Nat :=
  if (List.range 32).any (fun d => s.rdB (Key.Dma.ENABLE d) && decide (s.rd (Key.Dma.CQ d) = q)) then 0x0803 else 0

/-- An edge of trigger `n` starts the rows that it paces (R414). -/
def dmaEdge (s : Sys) (n : Nat) : Sys :=
  s.each ((List.range 32).filter (fun d => decide (s.rd (Key.Dma.PACE d) = n))) (fun s d =>
    match s.dmaReads d with
    | none => s
    | some j =>
      if j.wait then s.modDma d (fun c => { c with jobs := c.jobs.map (fun x => if x.rest ≠ 0 then { x with wait := false } else x) })
      else s.wrBit (Key.Dma.FLAGS d) 3 true)

/-! ### Bursts (R404, R405, R415, R416)

An access goes through `acc`: the channel, address, write or read, length and bytes; it answers the bytes read, or none for a
bus error. -/

/-- What a unit's read returns: its pieces (elements, or one block), or none for a bus error. -/
def readUnit (acc : Sys → Nat → Nat → Bool → Nat → List Nat → Sys × Option (List Nat)) (s : Sys) (d : Nat) (j : DmaJob) (i : Nat) :
    Sys × Option (List (List Nat)) :=
  let w := fmtSrc j.fmt
  let n := if w = 4 then 1 else fmtUnit j.fmt
  (List.range n).foldl (fun (p : Sys × Option (List (List Nat))) k =>
    match p.2 with
    | none => p
    | some l =>
      let r := acc p.1 d (elemAddr w j.src j.srcInc (i + k)) false (widthBytes w) []
      (r.1, r.2.map (fun b => l ++ [b]))) (s, some [])

/-- How many units one read burst takes: those that lie in one 64-byte block, one after another (DESIGN CHOICE, log entry
32). -/
def burstUnits (j : DmaJob) : Nat :=
  let w := fmtSrc j.fmt
  let u := fmtUnit j.fmt
  let left := (j.count - j.i) / u
  if w = 4 ∨ (u = 1 ∧ j.srcInc = (widthBytes w : Int)) then
    max 1 (min left ((64 - elemAddr w j.src j.srcInc j.i % 64) / widthBytes w))
  else 1

/-- The destination cells of the elements of a unit from element `i` on. -/
def unitCells (j : DmaJob) (i : Nat) (pieces : List (List Nat)) : List (Nat × Nat) :=
  (pieces.zipIdx).flatMap (fun p =>
    let a := elemAddr (fmtDst j.fmt) j.dst j.dstInc (i + p.2)
    (p.1.zipIdx).map (fun b => (addr64 a (b.2 : Int), b.1)))

/-- The elements of a unit that precede the first bad source byte (R404); a destination block is whole or not at all. -/
def goodPieces (f : Nat) (bad : Nat → Bool) : Nat :=
  let all := if fmtDst f = 4 then 1 else if fmtSrc f = 4 then 16 else 1
  if fmtSrc f = 4 ∧ fmtDst f ≠ 4 then
    ((List.range 16).find? (fun j => (List.range 36).any (fun b => bad b && decide (18 * j / 8 ≤ b ∧ b ≤ (18 * j + 17) / 8)))).getD 16
  else if (List.range (if fmtSrc f = 4 then 36 else fmtUnit f * widthBytes (fmtSrc f))).any bad then 0
  else all

/-- Change the transfer of channel `d` that has reads left. -/
def modReading (s : Sys) (d : Nat) (f : DmaJob → DmaJob) : Sys :=
  s.modDma d (fun c => { c with jobs := c.jobs.map (fun x => if x.rest ≠ 0 then f x else x) })

/-- The position after a unit has been read (R401, R414). -/
def stepUnit (paced : Bool) (j : DmaJob) : DmaJob :=
  let u := fmtUnit j.fmt
  let j := { j with i := j.i + u, rest := j.rest - u }
  if j.i < j.count then j
  else { j with i := 0, row := j.row + 1, src := addr64 j.src j.srcStride, dst := addr64 j.dst j.dstStride, wait := paced && decide (j.rest ≠ 0) }

/-- The reads of the transfer end: this is the hand-over edge, on which ARM is sampled (R408). -/
def readsEnd (s : Sys) (d : Nat) : Sys :=
  if (s.dmaReads d).isNone then s.modDma d (fun c => { c with edge := some (s.rdB (Key.DmaSh.ARM d)) }) else s

/-- The transfer of channel `d` with reads left ends early with a status (R416). -/
def abandonReads (s : Sys) (d status : Nat) : Sys :=
  let s := s.modReading d (fun j => { j with rest := 0, status := status })
  if status = 2 then (s.inc (Key.DmaRing.PARITY_ERRORS d)).faultNow 0x61 8 d else (s.inc (Key.DmaRing.BUS_ERRORS d)).faultNow 0x60 8 d

/-- The addresses of the source bytes of a unit of `size` bytes that fail their parity. -/
def badSources (j : DmaJob) (size : Nat) (bad : Nat → Bool) : List Nat :=
  let w := fmtSrc j.fmt
  ((List.range size).filter bad).map (fun (b : Nat) =>
    let first : Nat := if w = 4 then j.i else j.i + b / widthBytes w
    let off : Nat := if w = 4 then b else b % widthBytes w
    fullAddr (addr64 (elemAddr w j.src j.srcInc first) (off : Int)))

/-- A unit is read with bad parity (R404): data of the DRAM freezes its controller, and the read gets a bus error (R388). -/
def badUnit (s : Sys) (d : Nat) (l : List Nat) : Sys :=
  match l.find? (fun a => decide (regionOf a = 7)) with
  | some a => (s.readFails (0x10 + d) a 1 (lanesOf (l.filter (fun x => decide (x / 64 = a / 64))))).abandonReads d 1
  | none => s.abandonReads d 2

/-- A read burst of channel `d`; `bad` has a bit for each source byte of the burst that fails its parity (R404). -/
def readBurst (acc : Sys → Nat → Nat → Bool → Nat → List Nat → Sys × Option (List Nat)) (s : Sys) (d bad : Nat) : Sys :=
  match s.dmaReads d with
  | none => s
  | some j0 =>
    let paced := decide (s.rd (Key.Dma.PACE d) < 32)
    let size := if fmtSrc j0.fmt = 4 then 36 else fmtUnit j0.fmt * widthBytes (fmtSrc j0.fmt)
    let s := s.each (List.range (burstUnits j0)) (fun s k =>
      match s.dmaReads d with
      | none => s
      | some j =>
        if j.wait ∨ j.seq ≠ j0.seq ∨ j.row ≠ j0.row then s
        else
          let r := readUnit acc s d j j.i
          match r.2 with
          | none => r.1.abandonReads d 1
          | some pieces =>
            let out := convertUnit j.fmt pieces
            let good := goodPieces j.fmt (fun b => bad.testBit (k * size + b))
            let s := r.1.modReading d (fun x => { x with out := x.out ++ unitCells j j.i (out.take good) })
            if good < out.length then s.badUnit d (badSources j size (fun b => bad.testBit (k * size + b))) else s.modReading d (stepUnit paced))
    s.readsEnd d

/-- The next write burst of a transfer: consecutive bytes that stay within one 64-byte block (R405); in the window one
access. -/
def nextWrites (j : DmaJob) : List (Nat × Nat) :=
  match j.out with
  | [] => []
  | (a, _) :: _ =>
    let most := if inWindow a then widthBytes (fmtDst j.fmt) else 64 - a % 64
    ((j.out.zipIdx).takeWhile (fun c => decide (c.2 < most ∧ c.1.1 = addr64 a (c.2 : Int)))).map (fun c => c.1)

/-- The writes of a transfer fill a burst, or nothing more can join it. -/
def writesReady (j : DmaJob) : Bool :=
  let w := nextWrites j
  decide (w ≠ []) && (decide (j.rest = 0) || j.wait || decide (w.length < j.out.length) ||
    (match w.getLast? with | some c => decide (c.1 % 64 = 63) || inWindow c.1 | none => false))

/-- A write burst of channel `d`, of its oldest transfer with bytes to write (R405, R416). -/
def writeBurst (acc : Sys → Nat → Nat → Bool → Nat → List Nat → Sys × Option (List Nat)) (s : Sys) (d : Nat) : Sys :=
  match (s.dmaCh d).jobs.findIdx? (fun j => decide (j.out ≠ [])) with
  | none => s
  | some k =>
    match (s.dmaCh d).jobs[k]? with
    | none => s
    | some j =>
      let w := nextWrites j
      let r := acc s d ((w.head?.map (fun c => c.1)).getD 0) true w.length (w.map (fun c => c.2))
      let change (s : Sys) (f : DmaJob → DmaJob) : Sys := s.modDma d (fun c => { c with jobs := c.jobs.modify k f })
      match r.2 with
      | some _ =>
        (change r.1 (fun x => { x with out := x.out.drop w.length, done := x.done + w.length })).add Key.DmaTot.BYTES_MOVED 64 w.length
      | none =>
        let reading := decide (j.rest ≠ 0)
        let s := change r.1 (fun x => { x with out := [], rest := 0, status := 1 })
        let s := (s.inc (Key.DmaRing.BUS_ERRORS d)).faultNow 0x60 8 d
        s.when reading (fun s => s.readsEnd d)

/-- Channel `d` has a read that may issue. -/
def mayRead (s : Sys) (d : Nat) : Bool := (s.dmaReads d).any (fun j => !j.wait)

/-- Channel `d` has a burst for the engine. -/
def dmaWants (s : Sys) (d : Nat) : Bool := decide (s.dmaState d ≠ 0) && (s.mayRead d || (s.dmaCh d).jobs.any (fun j => decide (j.out ≠ [])))

/-- The level of a channel (R415): 0 first. -/
def dmaLevel (s : Sys) (d : Nat) : Nat := if s.rd (Key.Dma.MODE d) = 2 then 0 else 4 - min 3 (s.rd (Key.Dma.PRIORITY d))

/-- The channel that is granted next (R415): the highest level that wants a burst, and round-robin within it. -/
def dmaNext (s : Sys) : Option (Nat × Nat) :=
  (List.range 5).findSome? (fun lv =>
    let after := s.dma.last.getD lv 31
    (((List.range 32).map (fun k => (after + 1 + k) % 32)).find? (fun d => s.dmaWants d && decide (s.dmaLevel d = lv))).map (fun d => (lv, d)))

/-- The engine grants one burst (R415). A hand-over cycle before it has ended. A channel's complete write burst goes before its
next read (DESIGN CHOICE, log entry 32). -/
def dmaBurst (acc : Sys → Nat → Nat → Bool → Nat → List Nat → Sys × Option (List Nat)) (s : Sys) (bad : Nat) : Sys :=
  if s.engineStops then s else
  let s := s.each (List.range 32) handOver
  match s.dmaNext with
  | none => s
  | some (lv, d) =>
    let s : Sys := { s with dma := { s.dma with last := s.dma.last.set lv d } }
    let first := (s.dmaCh d).jobs.find? (fun j => decide (j.out ≠ []))
    let s := if first.any writesReady || !s.mayRead d then writeBurst acc s d else readBurst acc s d bad
    s.showActive d

end Sys

/-! ### Commands -/

/-- HAND_OVER (R408). -/
def execHandOver (d : Fin 32) (s : State) : Host.Outcome State Fault Refusal := onSys (fun s => s.handOver d) s

/-- SHADOW_TAKE (R409). -/
def execShadowTake (d : Fin 32) (s : State) : Host.Outcome State Fault Refusal := onSys (fun s => s.shadowTake d) s

/-- DESCRIPTOR_FETCH (R411). -/
def execDescriptorFetch (d : Fin 32) (ok : Bool) (s : State) : Host.Outcome State Fault Refusal := onSys (fun s => s.descriptorFetch d ok) s

/-- TRANSFER_COMPLETE (R414). -/
def execTransferComplete (d : Fin 32) (s : State) : Host.Outcome State Fault Refusal := onSys (fun s => s.transferComplete d) s

/-- LATE_ERROR_RESPONSE (R416). -/
def execLateErrorResponse (d : Fin 32) (addr : Nat) (s : State) : Host.Outcome State Fault Refusal := onSys (fun s => s.lateError d addr) s

end Sys2Proof.Machine
end

