-- ==== Sys2Proof/Machine/Edges.lean ====
section
/-! DEFINITION. Edges: what an edge of a trigger starts, in every block (R361). -/

namespace Sys2Proof.Machine

open Sys2Proof

namespace Sys

/-- The next edge of trigger `n` falls, if its instant has come (R361): TMB and the slots, paced DMA rows (R414), and the wake
logic (R468). -/
def edgeFalls (s : Sys) (n : Nat) : Sys :=
  if !s.runs 6 then s
  else
    match s.edgeInstant n with
    | none => s
    | some t => ((s.edgeAt n t).dmaEdge n).when (decide (s.rd Key.Wake.WAKE_TRIGGER = n)) (fun s => s.wakeEdge 9)

end Sys

/-- TRIGGER_EDGE (R361). -/
def execTriggerEdge (n : Fin 32) (s : State) : Host.Outcome State Fault Refusal := onSys (fun s => s.edgeFalls n) s

end Sys2Proof.Machine
end

