-- ==== Sys2Proof/Machine/Pixel.lean ====
section
/-! DEFINITION. Pixel: what the camera pipeline computes from the lines of a frame (R323, R325, R329, R330), as plain functions. A pixel between stages is (R, G, B), or (Y, Cb, Cr) of a YUV line. -/

namespace Sys2Proof.Machine

/-- Limit a value to 0 to 65,535 (R323). -/
def clamp16 (v : Int) : Nat := (clamp v 0 65535).toNat

/-- The eight-bit form of a 16-bit value (R323). -/
def v8 (v : Nat) : Nat := min ((v + 128) / 256) 255

/-- Bits of one pixel of a data type (R317). -/
def dtBits (dt : Nat) : Nat :=
  if dt = 0x2A then 8 else if dt = 0x2B then 10 else if dt = 0x2C then 12 else if dt = 0x2D then 14 else 16

/-- Bytes of a line of `w` pixels. -/
def lineBytes (dt w : Nat) : Nat := (w * dtBits dt + 7) / 8

/-! ### Unpacking (R323 stage 1; the CSI-2 byte layouts are PRESUMED, log entry 30) -/

def rawPixel (dt : Nat) (d : List Nat) (x : Nat) : Nat :=
  let b (i : Nat) : Nat := u8At d i
  if dt = 0x2A then b x
  else if dt = 0x2B then
    let g := x / 4 * 5
    b (g + x % 4) * 4 + b (g + 4) / 4 ^ (x % 4) % 4
  else if dt = 0x2C then
    let g := x / 2 * 3
    b (g + x % 2) * 16 + b (g + 2) / 16 ^ (x % 2) % 16
  else if dt = 0x2D then
    let g := x / 4 * 7
    b (g + x % 4) * 64 + unle [b (g + 4), b (g + 5), b (g + 6)] / 64 ^ (x % 4) % 64
  else b (2 * x) * 256 + b (2 * x + 1)

/-- The unpacked line: RAW values in all three places, or Y, Cb and Cr of YUV422. -/
def unpackLine (dt w : Nat) (d : List Nat) : List (Nat × Nat × Nat) :=
  (List.range w).map (fun x =>
    if dt = 0x1E then (257 * u8At d (2 * x + 1), 257 * u8At d (x / 2 * 4), 257 * u8At d (x / 2 * 4 + 2))
    else
      let p := rawPixel dt d x * 2 ^ (16 - dtBits dt)
      (p, p, p))

/-- The colour of a pixel of a colour filter array: 0 R, 1 G, 2 B. -/
def cfaColour (cfa x y : Nat) : Nat :=
  let i := (if cfa = 1 then 0 else if cfa = 2 then 1 else if cfa = 3 then 2 else 3)
  -- RGGB seen from the corner that the array begins with
  let x' := x + i % 2
  let y' := y + i / 2
  if x' % 2 = 0 ∧ y' % 2 = 0 then 0 else if x' % 2 = 1 ∧ y' % 2 = 1 then 2 else 1

/-- Stage 2 on a line of RAW values (R323): black level and the gain of the pixel's colour. `par` holds BLACK, GAIN_R,
GAIN_G and GAIN_B first. -/
def blackGain (par : List Int) (cfa y : Nat) (l : List (Nat × Nat × Nat)) : List (Nat × Nat × Nat) :=
  (l.zip (List.range l.length)).map (fun e =>
    let c := if cfa = 0 then 1 else cfaColour cfa e.2 y
    let p := clamp16 (rdiv (((e.1.1 : Int) - par.getD 0 0) * par.getD (1 + c) 65536) 65536)
    (p, p, p))

/-- The mean of the pixels of one colour in the 3 x 3 window around (x, y), with edge pixels replicated (R323 stage 3). -/
def demosaicAt (cfa : Nat) (rows : List (List (Nat × Nat × Nat))) (y0 : Int) (top bottom w : Int) (x y c : Nat) : Nat :=
  let at_ (i j : Int) : Nat × Nat :=
    let xi := (clamp i 0 (w - 1)).toNat
    let yj := clamp j top bottom
    (cfaColour cfa xi yj.toNat, ((rows.getD (yj - y0).toNat []).getD xi (0, 0, 0)).1)
  let own := at_ x y
  if own.1 = c then own.2
  else
    let cells := ((List.range 9).map (fun k => at_ ((x : Int) + (k % 3 : Nat) - 1) ((y : Int) + (k / 3 : Nat) - 1))).filter (fun e => decide (e.1 = c))
    let sum := cells.foldl (fun n e => n + e.2) 0
    if cells.length = 0 then 0 else (2 * sum + cells.length) / (2 * cells.length)

/-- Stages 3 and 4 on line `y` (R323). `rows` are the stage 2 lines from line `y0` on, `last` the last line there is. -/
def colourLine (par : List Int) (dt cfa : Nat) (rows : List (List (Nat × Nat × Nat))) (y0 last y : Nat) : List (Nat × Nat × Nat) :=
  let l := rows.getD (y - y0) []
  (List.range l.length).map (fun x =>
    let p := l.getD x (0, 0, 0)
    let rgb : Nat × Nat × Nat :=
      if dt = 0x1E then
        let cb : Int := (p.2.1 : Int) - 32768
        let cr : Int := (p.2.2 : Int) - 32768
        (clamp16 (p.1 + rdiv (91881 * cr) 65536), clamp16 (p.1 - rdiv (22553 * cb + 46802 * cr) 65536),
          clamp16 (p.1 + rdiv (116130 * cb) 65536))
      else if cfa = 0 then p
      else
        let at_ := demosaicAt cfa rows y0 (if y = 0 then 0 else (y : Int) - 1) last l.length x y
        (at_ 0, at_ 1, at_ 2)
    let m (r : Nat) : Nat := clamp16 (rdiv (par.getD (4 + 3 * r) 0 * rgb.1 + par.getD (5 + 3 * r) 0 * rgb.2.1 + par.getD (6 + 3 * r) 0 * rgb.2.2) 65536)
    (m 0, m 1, m 2))

/-! ### Stage 5 -/

def lumaOf (p : Nat × Nat × Nat) : Nat := (19595 * p.1 + 38470 * p.2.1 + 7471 * p.2.2 + 32768) / 65536

def cbOf (p : Nat × Nat × Nat) : Nat :=
  clamp16 ((-11059 * (p.1 : Int) - 21709 * (p.2.1 : Int) + 32768 * (p.2.2 : Int)) / 65536 + 32768)

def crOf (p : Nat × Nat × Nat) : Nat :=
  clamp16 ((32768 * (p.1 : Int) - 27439 * (p.2.1 : Int) - 5329 * (p.2.2 : Int)) / 65536 + 32768)

/-- The gamma curve of R325: rnd(255 * (v / 65,535)^(5/11)), found by comparison of whole powers. -/
def gamma8 (v : Nat) : Nat :=
  ((List.range 255).filter (fun r => decide ((2 * r + 1) ^ 11 * 65535 ^ 5 ≤ 510 ^ 11 * v ^ 5))).length

/-- The mean of values, rounded. -/
def meanOf (l : List Nat) : Nat := let n := l.length; if n = 0 then 0 else (2 * l.foldl (fun a b => a + b) 0 + n) / (2 * n)

/-! ### Output lines (R325) -/

/-- A display line from the `d` finished lines of its boxes: FORMAT, DECIMATE and GAMMA. -/
def displayLine (fmt d : Nat) (gamma : Bool) (rows : List (List (Nat × Nat × Nat))) (w : Nat) : List Nat :=
  ((List.range (w / d)).map (fun i =>
    let box := rows.flatMap (fun r => (r.drop (i * d)).take d)
    let g (f : Nat × Nat × Nat → Nat) : Nat := let m := meanOf (box.map f); if gamma then gamma8 m else v8 m
    let r := g (fun p => p.1)
    let gr := g (fun p => p.2.1)
    let b := g (fun p => p.2.2)
    if fmt = 0 then [b, gr, r, 0] else le 2 (b / 8 + 32 * (gr / 4) + 2048 * (r / 8)))).flatten

/-- The Y line of the coding output. -/
def lumaLine (row : List (Nat × Nat × Nat)) : List Nat := row.map (fun p => v8 (lumaOf p))

/-- A line of the Cb, Cr plane from two finished lines. -/
def chromaLine (rows : List (List (Nat × Nat × Nat))) (w : Nat) : List Nat :=
  ((List.range (w / 2)).map (fun i =>
    let box := rows.flatMap (fun r => (r.drop (2 * i)).take 2)
    [v8 (meanOf (box.map cbOf)), v8 (meanOf (box.map crOf))])).flatten

/-- A line of the machine-vision output: the ROI columns of a finished line. -/
def visionLine (fmt x w : Nat) (row : List (Nat × Nat × Nat)) : List Nat :=
  (((row.drop x).take w).map (fun p => if fmt = 0 then [v8 (lumaOf p)] else le 2 (lumaOf p))).flatten

/-! ### Features (R329 to R331) -/

/-- A blob while it grows: its pixels as (x, y, Y), first scanned pixel first. -/
abbrev BlobPix := List (Nat × Nat × Nat)

/-- Add a pixel to the blobs: it joins every blob that holds one of its neighbours scanned before it (8-connected), at the
place of the first of them. -/
def blobAdd (blobs : List BlobPix) (p : Nat × Nat × Nat) : List BlobPix :=
  let touches (b : BlobPix) : Bool := b.any (fun q =>
    (decide (q.2.1 = p.2.1) && decide (q.1 + 1 = p.1)) || (decide (q.2.1 + 1 = p.2.1) && decide (q.1 ≤ p.1 + 1) && decide (p.1 ≤ q.1 + 1)))
  match blobs.filter touches with
  | [] => blobs ++ [[p]]
  | first :: more =>
    let merged := first ++ more.flatten ++ [p]
    (blobs.map (fun b => if b = first then merged else b)).filter (fun b => !touches b || decide (b = merged))

/-- The blobs of a ROI, in the order of their first scanned pixels (R329). `rows` are its lines as (frame row, (column, Y)). -/
def blobsOf (thresh : Nat) (dark : Bool) (rows : List (Nat × List (Nat × Nat))) : List BlobPix :=
  rows.foldl (fun bs r => r.2.foldl (fun bs c =>
    if (if dark then c.2 < thresh else thresh < c.2) then blobAdd bs (c.1, r.1, c.2) else bs) bs) []

/-- The BLOB record of a blob (R331). -/
def blobRecord (thresh : Nat) (dark : Bool) (edgeRow : Option Nat) (b : BlobPix) : List Nat :=
  let w (p : Nat × Nat × Nat) : Nat := ((p.2.2 : Int) - thresh).natAbs
  let sw := b.foldl (fun n p => n + w p) 0
  let cx := (2 * 256 * b.foldl (fun n p => n + p.1 * w p) 0 + sw) / (2 * max 1 sw)
  let cy := (2 * 256 * b.foldl (fun n p => n + p.2.1 * w p) 0 + sw) / (2 * max 1 sw)
  let lo (f : Nat × Nat × Nat → Nat) : Nat := b.foldl (fun m p => min m (f p)) 65535
  let hi (f : Nat × Nat × Nat → Nat) : Nat := b.foldl (fun m p => max m (f p)) 0
  let edge := edgeRow.any (fun y => b.any (fun p => decide (p.2.1 = y)))
  let peak := if dark then lo (fun p => p.2.2) else hi (fun p => p.2.2)
  [2, b2n edge, 0, 0] ++ le 4 b.length ++ le 4 cx ++ le 4 cy ++ le 2 (lo (fun p => p.1)) ++ le 2 (lo (fun p => p.2.1)) ++
    le 2 (hi (fun p => p.1)) ++ le 2 (hi (fun p => p.2.1)) ++ le 2 peak ++ List.replicate 6 0

/-- The values of the profile of one band (R330): sums down columns (`rows` are the lines of the band), or along rows of
the columns of the band. -/
def profileOf (alongRows : Bool) (band bands : Nat) (w h : Nat) (rows : List (List Nat)) : List Nat :=
  if alongRows then
    (List.range h).map (fun y => (((rows.getD y []).drop (band * (w / bands))).take (w / bands)).foldl (fun a b => a + b) 0 % 2 ^ 32)
  else
    let part := (rows.drop (band * (h / bands))).take (h / bands)
    (List.range w).map (fun x => part.foldl (fun n r => n + r.getD x 0) 0 % 2 ^ 32)

/-- The PROFILE record of a band (R331). -/
def profileRecord (band capture seq : Nat) (values : List Nat) : List Nat :=
  let body := 4 * values.length
  let len := 32 + (body + 31) / 32 * 32
  [3, band] ++ le 2 values.length ++ le 4 len ++ le 8 capture ++ le 4 seq ++ List.replicate 12 0 ++ (values.map (le 4)).flatten ++
    List.replicate (len - 32 - body) 0

end Sys2Proof.Machine
end

