-- ==== Sys2Proof/Machine/Camera.lean ====
section
/-! DEFINITION. Camera: ports, contexts, arbitration, outputs and records of CAM (R313 to R334). -/

namespace Sys2Proof.Machine

open Sys2Proof

namespace Sys

/-! ### Outputs (R325 to R328) -/

/-- The line size of an output (R325). -/
def outLine (s : Sys) (k n : Nat) : Nat :=
  if n = 0 then (if s.rd (Key.Out.FORMAT k 0) = 0 then 4 else 2) * s.rd (Key.Ctx.WIDTH k) / max 1 (s.rd (Key.Disp.DECIMATE k))
  else if n = 1 then s.rd (Key.Ctx.WIDTH k)
  else (if s.rd (Key.Out.FORMAT k 2) = 0 then 1 else 2) * s.rd (Key.Vis.ROI_W k)

/-- STRIDE of an output: its line size rounded up to 64. -/
def outStride (s : Sys) (k n : Nat) : Nat := (s.outLine k n + 63) / 64 * 64

/-- The least buffer size of an output (R325). -/
def outLeast (s : Sys) (k n : Nat) : Nat :=
  let h := s.rd (Key.Ctx.HEIGHT k)
  if n = 0 then s.outStride k 0 * (h / max 1 (s.rd (Key.Disp.DECIMATE k)))
  else if n = 1 then s.outStride k 1 * h * 3 / 2
  else s.outStride k 2 * s.rd (Key.Vis.ROI_H k)

/-- The buffer size S of an output. -/
def outSize (s : Sys) (k n : Nat) : Nat := s.rd (Key.Out.LEN k n) / max 1 (s.rd (Key.Out.COUNT k n))

/-- An output keeps the rules of R326. -/
def outOk (s : Sys) (k n : Nat) : Bool :=
  let c := s.rd (Key.Out.COUNT k n)
  let w := s.rd (Key.Ctx.WIDTH k)
  let h := s.rd (Key.Ctx.HEIGHT k)
  let d := max 1 (s.rd (Key.Disp.DECIMATE k))
  decide (2 ≤ c ∧ c ≤ 16 ∧ s.rd (Key.Out.LEN k n) % (64 * c) = 0 ∧ s.outLeast k n ≤ s.outSize k n)
    && (decide (n ≠ 0) || decide (w % d = 0 ∧ h % d = 0))
    && (decide (n ≠ 1) || decide (h % 2 = 0))
    && (decide (n ≠ 2) || decide (s.rd (Key.Vis.ROI_X k) + s.rd (Key.Vis.ROI_W k) ≤ w ∧ s.rd (Key.Vis.ROI_Y k) + s.rd (Key.Vis.ROI_H k) ≤ h))

/-- The abort of a write to ENABLE of an output (R326). -/
def outEnableAbort (s : Sys) (k n v : Nat) : Nat := if v ≠ 0 ∧ !s.outOk k n then 0x0604 else 0

/-- The abort of a write to PROF_ENABLE (R330). -/
def profEnableAbort (s : Sys) (k v : Nat) : Nat :=
  let len := if s.rd (Key.Profl.AXIS k) = 0 then s.rd (Key.Vis.ROI_H k) else s.rd (Key.Vis.ROI_W k)
  if v ≠ 0 ∧ len % max 1 (s.rd (Key.Profl.BANDS k)) ≠ 0 then 0x0604 else 0

/-- Write bytes of an output of a frame at an offset of its buffer, while the output is on. -/
def outWrite (s : Sys) (k n : Nat) (buf : Option (Nat × Nat)) (off : Nat) (data : List Nat) : Sys :=
  match buf with
  | some (_, a) =>
    if s.rdB (Key.Out.ENABLE k n) then
      let g := s.grant 0x41 true (a + off) data.length
      if g.2 then g.1.busStore 0x41 (a + off) data 0 else g.1
    else s
  | none => s

/-- The outputs of finished line `y` of a frame are written (R323, R325). `rows` are the finished lines up to `y`. -/
def writeLine (s : Sys) (k : Nat) (bufs : List (Option (Nat × Nat))) (rows : List (List (Nat × Nat × Nat))) (y : Nat) : Sys :=
  let w := s.rd (Key.Ctx.WIDTH k)
  let h := s.rd (Key.Ctx.HEIGHT k)
  let d := max 1 (s.rd (Key.Disp.DECIMATE k))
  let row := rows.getD y []
  let s := if (y + 1) % d = 0 then
      s.outWrite k 0 (bufs.getD 0 none) (y / d * s.outStride k 0)
        (displayLine (s.rd (Key.Out.FORMAT k 0)) d (s.rdB (Key.Disp.GAMMA k)) ((rows.drop (y + 1 - d)).take d) w)
    else s
  let s := s.outWrite k 1 (bufs.getD 1 none) (y * s.outStride k 1) (lumaLine row)
  let s := if y % 2 = 1 then
      s.outWrite k 1 (bufs.getD 1 none) ((h + y / 2) * s.outStride k 1) (chromaLine ((rows.drop (y - 1)).take 2) w)
    else s
  let ry := s.rd (Key.Vis.ROI_Y k)
  if ry ≤ y ∧ y < ry + s.rd (Key.Vis.ROI_H k) then
    s.outWrite k 2 (bufs.getD 2 none) ((y - ry) * s.outStride k 2)
      (visionLine (s.rd (Key.Out.FORMAT k 2)) (s.rd (Key.Vis.ROI_X k)) (s.rd (Key.Vis.ROI_W k)) row)
  else s

/-! ### Frames (R318 to R320, R327) -/

/-- The pipeline and feature parameters of a context as a frame reads them (R317): BLACK, three gains, nine of the matrix,
then THRESH, POLARITY, MIN_AREA, MAX_AREA, MAX_BLOBS, BLOB_ENABLE, PROF_ENABLE, AXIS and BANDS. -/
def frameParams (s : Sys) (k : Nat) : List Int :=
  [s.rdI (Key.CtxCol.BLACK k), s.rdI (Key.CtxCol.GAIN_R k), s.rdI (Key.CtxCol.GAIN_G k), s.rdI (Key.CtxCol.GAIN_B k)] ++
    (List.range 9).map (fun i => s.rdI (Key.CtxCol.CCM k i)) ++
    [s.rdI (Key.Blob.THRESH k), s.rdI (Key.Blob.POLARITY k), s.rdI (Key.Blob.MIN_AREA k), s.rdI (Key.Blob.MAX_AREA k),
      s.rdI (Key.Blob.MAX_BLOBS k), s.rdI (Key.Blob.BLOB_ENABLE k), s.rdI (Key.Profl.PROF_ENABLE k), s.rdI (Key.Profl.AXIS k),
      s.rdI (Key.Profl.BANDS k)]

/-- A frame opens in context `k` (R318, R320, R327, R328). -/
def openNew (s : Sys) (k number : Nat) : Sys :=
  let take (n : Nat) : Option (Option (Nat × Nat)) :=
    -- none: the output is off; some none: NO_BUF
    if !s.rdB (Key.Out.ENABLE k n) then none
    else
      let c := max 1 (s.rd (Key.Out.COUNT k n))
      let h := s.rd (Key.Out.HEAD k n)
      let a := s.rd (Key.Out.ADDR k n) + h * s.outSize k n
      if (h + 1) % c = s.rd (Key.Out.TAIL k n) ∨ (dramBase ≤ a ∧ s.rd Key.DmcSt.STATE = 3) then some none else some (some (h, a))
  let bufs := (List.range 3).map take
  let flags := ((List.range 3).filter (fun n => decide (bufs.getD n none = some none))).foldl (fun f n => putBit f (8 + n) true) 0
  let f : CamFrame := { seq := (s.ctx k).nextSeq, number := number
                        capture := ((s.now : Int) - s.rdI (Key.Ctx.CAPTURE_OFFSET k)).toNat, openAt := s.clk, flags := flags
                        bufs := bufs.map (fun b => b.getD none), par := s.frameParams k }
  (s.modCtx k (fun q => { q with frames := q.frames ++ [f], nextSeq := (q.nextSeq + 1) % 2 ^ 32 })).wr (Key.CtxSt.STATE k) 2

/-! ### The pipeline (R321 to R324) -/

/-- A line passes the pipeline for a frame (R323): it enters stage 2, and the line before it is finished and written. -/
def pipeLine (s : Sys) (k seq : Nat) (d : List Nat) : Sys :=
  match (s.ctx k).frames.find? (fun f => decide (f.seq = seq)) with
  | none => s
  | some f =>
    let dt := s.rd (Key.Ctx.DATA_TYPE k)
    let cfa := s.rd (Key.Ctx.CFA k)
    let y := f.done
    let l := unpackLine dt (s.rd (Key.Ctx.WIDTH k)) d
    let l := if dt = 0x1E then l else blackGain f.par cfa y l
    -- `raw` holds lines y - 2 and y - 1 where there are such lines
    let raw := f.raw ++ [l]
    let y0 := y + 1 - raw.length
    let rows := if y = 0 then f.rows else f.rows ++ [colourLine f.par dt cfa raw y0 y (y - 1)]
    let s := s.modFrame k seq (fun f => { f with done := y + 1, raw := raw.drop (raw.length - 2), rows := rows })
    if y = 0 then s else s.writeLine k f.bufs rows (y - 1)

/-- A line of `w` pixels takes the pipeline (R334). -/
def countLoad (s : Sys) (w : Nat) : Sys :=
  { s with cam := { s.cam with loads := (s.clk, w) :: s.cam.loads.filter (fun x => decide (s.clk < x.1 + 1000000)) } }

/-- Every line of context `k` still in its FIFO passes the pipeline. -/
def drainCtx (s : Sys) (k : Nat) : Sys :=
  let l := (s.ctx k).fifo
  l.foldl (fun s e => (s.countLoad (s.rd (Key.Ctx.WIDTH k))).pipeLine k e.1 e.2) (s.modCtx k (fun q => { q with fifo := [] }))

/-- No byte of a truncated frame is in the FIFO of context `k` when a new frame opens (R322). -/
def drainCut (s : Sys) (k : Nat) : Sys :=
  s.when ((s.ctx k).frames.any (fun f => f.flags.testBit 2 && (s.ctx k).fifo.any (fun e => decide (e.1 = f.seq)))) (fun s => s.drainCtx k)

/-- The context that the arbiter grants (R321). -/
def grantTo (s : Sys) : Option Nat :=
  let ready := (List.range 16).filter (fun k => decide ((s.ctx k).fifo ≠ []))
  let top := ready.foldl (fun m k => max m (s.rd (Key.Ctx.PRIORITY k))) 0
  let same := ready.filter (fun k => decide (s.rd (Key.Ctx.PRIORITY k) = top))
  let last := s.cam.granted.getD top 15
  (same.filter (fun k => decide (last < k))).head?.orElse (fun _ => same.head?)

/-- A parity error on a line of context `k` (R324). -/
def camParity (s : Sys) (k seq : Nat) : Sys :=
  let late := (s.ctx k).frames.any (fun f => decide (f.seq = seq) && f.closed && !f.flags.testBit 2)
  let s := (s.markFrame k seq [2, 13]).when late (fun s => s.inc (Key.CtxSt.TRUNCATED k))
  let s := s.modCtx k (fun q => { q with fifo := q.fifo.filter (fun e => decide (e.1 ≠ seq)) })
  let s := if (s.openFrame k).any (fun f => decide (f.seq = seq)) then s.wr (Key.CtxSt.STATE k) 3 else s
  s.faultNow 0x49 9 k

/-- The arbiter grants the pipeline for one line (R321, R323, R324). -/
def lineGrant (s : Sys) (ok : Bool) : Sys :=
  if s.clk < s.cam.busyUntil ∨ !s.runs 14 then s
  else match s.grantTo with
  | none => s
  | some k =>
    match (s.ctx k).fifo with
    | [] => s
    | e :: rest =>
      let w := s.rd (Key.Ctx.WIDTH k)
      let s : Sys := { s with cam := { s.cam with
        granted := s.cam.granted.set (s.rd (Key.Ctx.PRIORITY k)) k
        busyUntil := s.clk + (((w + 1) / 2 + 32) * 5 + 2) / 3 } }
      let s := (s.countLoad w).modCtx k (fun q => { q with fifo := rest })
      if ok then s.pipeLine k e.1 e.2 else s.camParity k e.1

/-- `5000.01` LOAD (R334): pixels per second over the last millisecond. -/
def camLoad (s : Sys) : Nat :=
  (1000 * ((s.cam.loads.filter (fun x => decide (s.clk < x.1 + 1000000))).foldl (fun n x => n + x.2) 0)) % 2 ^ 32

/-! ### Packets (R313 to R316) -/

/-- CAM handles packets of port `p`: it is powered, the unit has left START and the port is enabled. -/
def csiOn (s : Sys) (p : Nat) : Bool := s.runs 14 && decide (s.dev ≠ .start) && s.rdB (Key.Csi.ENABLE p)

/-- The enabled contexts of a port and virtual channel. -/
def ctxsOf (s : Sys) (p vc : Nat) : List Nat :=
  (List.range 16).filter (fun k => s.rdB (Key.Ctx.ENABLE k) && decide (s.rd (Key.Ctx.PORT k) = p ∧ s.rd (Key.Ctx.VC k) = vc))

/-- A single-bit header error was corrected (R314). -/
def eccFixed (s : Sys) (p : Nat) (ecc : Bool) : Sys := if ecc then s.inc (Key.Csi.ECC_CORRECTED p) else s

/-- A Frame Start (R318, R320). -/
def frameStart (s : Sys) (p vc num : Nat) (ecc : Bool) : Sys :=
  if !s.csiOn p then s
  else
    let s := s.eccFixed p ecc
    let ks := s.ctxsOf p vc
    if ks = [] then s.inc (Key.Csi.UNMATCHED p)
    else s.each ks (fun s k =>
      match s.ctxState k with
      | 1 => (s.drainCut k).openNew k num
      | 2 => (s.closeFrame k [3]).openNew k num
      | 3 => ((s.drainCtx k).closeFrame k []).openNew k num
      | _ => s)

/-- A Frame End (R318). -/
def frameEnd (s : Sys) (p vc : Nat) (ecc : Bool) : Sys :=
  if !s.csiOn p then s
  else
    let s := s.eccFixed p ecc
    let ks := s.ctxsOf p vc
    if ks = [] then s.inc (Key.Csi.UNMATCHED p)
    else s.each ks (fun s k => if 2 ≤ s.ctxState k then (s.closeFrame k []).wr (Key.CtxSt.STATE k) 1 else s)

/-- Bytes in the FIFO of context `k`. -/
def fifoFill (s : Sys) (k : Nat) : Nat := (s.ctx k).fifo.foldl (fun n e => n + e.2.length) 0

/-- A line of context `k` while a frame is open (R319, R322). -/
def lineIn (s : Sys) (k : Nat) (f : CamFrame) (d : List Nat) (crcOk : Bool) : Sys :=
  let fill := s.fifoFill k
  let peak (s : Sys) (n : Nat) : Sys := s.wr (Key.CtxSt.FIFO_PEAK k) (max (s.rd (Key.CtxSt.FIFO_PEAK k)) n)
  if s.rd (Key.Ctx.HEIGHT k) ≤ f.got then s.markFrame k f.seq [1]
  else if 65536 < fill + d.length then
    let s := (peak s 65536).markFrame k f.seq [2]
    ((s.wr (Key.CtxSt.STATE k) 3).inc Key.Cam.OVERFLOWS).faultNow 0x48 9 k
  else if d.length ≠ lineBytes (s.rd (Key.Ctx.DATA_TYPE k)) (s.rd (Key.Ctx.WIDTH k)) then s.markFrame k f.seq [7]
  else
    let s := s.when (!crcOk) (fun s => s.markFrame k f.seq [5])
    let s := s.modFrame k f.seq (fun f => { f with got := f.got + 1 })
    peak (s.modCtx k (fun q => { q with fifo := q.fifo ++ [(f.seq, d)] })) (fill + d.length)

/-- Data types that a port discards without counting them (R315). -/
def csiIgnored (dt : Nat) : Bool := decide (dt = 2 ∨ dt = 3 ∨ (8 ≤ dt ∧ dt ≤ 0x11))

/-- A long packet of a context's data type (R314, R318, R319). -/
def csiLine (s : Sys) (p vc dt : Nat) (d : List Nat) (crcOk ecc : Bool) : Sys :=
  if !s.csiOn p then s
  else
    let s := s.eccFixed p ecc
    let s := s.when (!crcOk) (fun s => s.inc (Key.Csi.CRC_ERRORS p))
    match (s.ctxsOf p vc).find? (fun k => decide (s.rd (Key.Ctx.DATA_TYPE k) = dt)) with
    | none => if csiIgnored dt then s else s.inc (Key.Csi.UNMATCHED p)
    | some k =>
      match s.ctxState k, s.openFrame k with
      | 1, _ => s.inc (Key.CtxSt.ORPHAN_LINES k)
      | 2, some f => s.lineIn k f d crcOk
      | _, _ => s

/-- An event of R316 on port `p`: sixteen within 1 ms raise CSI_LINK and empty the count. -/
def csiError (s : Sys) (p : Nat) : Sys :=
  let times := s.clk :: ((s.cam.errs.getD p []).filter (fun t => decide (s.clk < t + 1000000)))
  let keep (s : Sys) (l : List Nat) : Sys := { s with cam := { s.cam with errs := s.cam.errs.setIfInBounds p l } }
  if 16 ≤ times.length then (keep s []).faultNow 0x4A 9 p else keep s times

/-- A packet of another kind, or one that is damaged (R313 to R316). `ecc`: 0 good, 1 corrected, 2 uncorrectable. -/
def csiPacket (s : Sys) (p vc dt ecc : Nat) (sotOk crcOk : Bool) : Sys :=
  if !s.csiOn p then s
  else if !sotOk then (s.inc (Key.Csi.SOT_ERRORS p)).csiError p
  else if ecc = 2 then
    let s := (s.inc (Key.Csi.ECC_UNCORRECTABLE p)).csiError p
    s.each ((List.range 16).filter (fun k => decide (s.rd (Key.Ctx.PORT k) = p))) (fun s k =>
      match s.openFrame k with
      | some f => s.markFrame k f.seq [6]
      | none => s)
  else
    let s := s.eccFixed p (decide (ecc = 1))
    let s := s.when (decide (0x10 ≤ dt) && !crcOk) (fun s => s.inc (Key.Csi.CRC_ERRORS p))
    if dt ≤ 1 ∨ csiIgnored dt = true ∨ (s.ctxsOf p vc).any (fun k => decide (s.rd (Key.Ctx.DATA_TYPE k) = dt)) then s
    else s.inc (Key.Csi.UNMATCHED p)

/-! ### Timeout, ENABLE and freeze (R317, R318, R328) -/

/-- FRAME_TIMEOUT of context `k` is over (R318). -/
def frameTimeout (s : Sys) (k : Nat) : Sys :=
  match s.openFrame k with
  | some f =>
    let us := s.rd (Key.Ctx.FRAME_TIMEOUT k)
    if us ≠ 0 ∧ f.openAt + 1000 * us ≤ s.clk then (s.closeFrame k [4]).wr (Key.CtxSt.STATE k) 1 else s
  | none => s

/-- The abort of a write to ENABLE of a context (R317). -/
def ctxEnableAbort (s : Sys) (k v : Nat) : Nat :=
  if v = 0 ∨ s.rdB (Key.Ctx.ENABLE k) then 0
  else
    let clash := (List.range 16).any (fun j => decide (j ≠ k) && s.rdB (Key.Ctx.ENABLE j)
      && decide (s.rd (Key.Ctx.PORT j) = s.rd (Key.Ctx.PORT k) ∧ s.rd (Key.Ctx.VC j) = s.rd (Key.Ctx.VC k)
          ∧ s.rd (Key.Ctx.DATA_TYPE j) = s.rd (Key.Ctx.DATA_TYPE k)))
    if clash ∨ s.rd (Key.Ctx.WIDTH k) % 2 = 1 ∨ (List.range 3).any (fun n => s.rdB (Key.Out.ENABLE k n) && !s.outOk k n) then 0x0604 else 0

/-- Every enabled port receives, and every enabled context waits for a Frame Start, from the end of restore. -/
def camFromStart (s : Sys) : Sys :=
  (s.each ((List.range 2).filter (fun p => s.rdB (Key.Csi.ENABLE p))) (fun s p => s.wr (Key.Csi.STATE p) 1)).each ((List.range 16).filter (fun k => s.rdB (Key.Ctx.ENABLE k))) (fun s k => s.wr (Key.CtxSt.STATE k) 1)

/-- A write to ENABLE of a port. -/
def csiEnable (s : Sys) (p v : Nat) : Sys := s.wr (Key.Csi.STATE p) (if v = 0 then 0 else max 1 (s.rd (Key.Csi.STATE p)))

/-! ### Records (R329 to R332) -/

/-- Put a record into the feature ring of context `k`, wrapping at its end (R191, R331); whether it fitted. -/
def featurePut (s : Sys) (k : Nat) (rec : List Nat) : Sys × Bool :=
  let len := s.rd (Key.Feat.FEAT_LEN k)
  if len = 0 then (s, true)
  else
    let h := s.rd (Key.Feat.FEAT_HEAD k)
    let used := (h + len - s.rd (Key.Feat.FEAT_TAIL k) % len) % len
    let a := s.rd (Key.Feat.FEAT_ADDR k)
    let g := s.grant 0x41 true a len
    if len ≤ used + rec.length then (s.inc (Key.Feat.LOST k), false)
    else if !g.2 then (g.1.inc (Key.Feat.LOST k), false)
    else (((g.1.busStore 0x41 (a + h) (rec.take (len - h)) 0).busStore 0x41 a (rec.drop (len - h)) 0).wr (Key.Feat.FEAT_HEAD k) ((h + rec.length) % len), true)

/-- The ROI lines of a frame that were received, as frame row and (frame column, Y). -/
def roiRows (s : Sys) (k : Nat) (rows : List (List (Nat × Nat × Nat))) : List (Nat × List (Nat × Nat)) :=
  let rx := s.rd (Key.Vis.ROI_X k)
  let ry := s.rd (Key.Vis.ROI_Y k)
  let w := s.rd (Key.Vis.ROI_W k)
  ((rows.drop ry).take (s.rd (Key.Vis.ROI_H k))).zip (List.range (s.rd (Key.Vis.ROI_H k))) |>.map (fun e =>
    (ry + e.2, (((e.1.drop rx).take w).zip (List.range w)).map (fun c => (rx + c.2, lumaOf c.1))))

/-- The features of a closed frame (R329 to R331): the state after them, the bytes written and the frame's flags. -/
def writeFeatures (s : Sys) (k : Nat) (f : CamFrame) : Sys × Nat × Nat :=
  let par (i : Nat) : Nat := (f.par.getD i 0).toNat
  let rows := s.roiRows k f.rows
  let thresh := par 13
  let dark := decide (par 14 = 1)
  let all := if par 18 = 0 then [] else (blobsOf thresh dark rows).filter (fun b => decide (par 15 ≤ b.length ∧ b.length ≤ par 16))
  let kept := all.take (par 17)
  let flags := if kept.length < all.length then putBit f.flags 11 true else f.flags
  let cut := f.flags.testBit 0 || f.flags.testBit 2
  let edgeRow := if cut ∧ f.done ≠ 0 then some (f.done - 1) else none
  let head := [1, k] ++ le 2 kept.length ++ le 4 f.seq ++ le 8 f.capture ++ le 4 flags ++ List.replicate 12 0
  let bands := max 1 (par 21)
  let along := decide (par 20 = 1)
  let profs := if par 19 = 0 then [] else (List.range bands).map (fun b =>
    profileRecord b f.capture f.seq (profileOf along b bands (s.rd (Key.Vis.ROI_W k)) (s.rd (Key.Vis.ROI_H k)) (rows.map (fun r => r.2.map (fun c => c.2)))))
  let recs := if s.rd (Key.Feat.FEAT_LEN k) = 0 then [] else head :: (kept.map (blobRecord thresh dark edgeRow) ++ profs)
  recs.foldl (fun (acc : Sys × Nat × Nat) r =>
    let (t, ok) := acc.1.featurePut k r
    (t, acc.2.1 + (if ok then r.length else 0), if ok then acc.2.2 else putBit acc.2.2 12 true)) (s, 0, flags)

/-- The frame record of a closed frame whose lines have all passed (R332). -/
def frameRecord (s : Sys) (k : Nat) : Sys :=
  match (s.ctx k).frames with
  | [] => s
  | f :: rest =>
    if !f.closed ∨ (s.ctx k).fifo.any (fun e => decide (e.1 = f.seq)) then s
    else
      let dt := s.rd (Key.Ctx.DATA_TYPE k)
      let y := f.done - 1
      -- the last line is finished at the close
      let rows := if f.done = 0 then f.rows else f.rows ++ [colourLine f.par dt (s.rd (Key.Ctx.CFA k)) f.raw (f.done - f.raw.length) y y]
      let s := if f.done = 0 then s else s.writeLine k f.bufs rows y
      let (s, n, flags) := s.writeFeatures k { f with rows := rows }
      let idx := f.bufs.map (fun b => b.elim 0xFF (fun x => x.1))
      let rec_ := le 4 f.seq ++ le 2 f.number ++ le 2 f.done ++ le 4 flags ++ [k] ++ idx ++ le 8 f.capture ++ le 8 f.closeAt ++ le 4 n ++
        List.replicate 28 0
      let s := s.modCtx k (fun q => { q with frames := rest })
      (s.ringRecord 0x41 (Key.CamRec.REC_ADDR k) (Key.CamRec.REC_LEN k) (Key.CamRec.REC_HEAD k) (Key.CamRec.REC_TAIL k) (Key.CamRec.REC_LOST k) rec_).raise (34 + k)

/-- A write to ENABLE of a context (R317, R318). `was` is ENABLE before it. -/
def ctxEnable (s : Sys) (k : Nat) (was : Bool) (v : Nat) : Sys :=
  if v = 0 then
    let s := (s.modCtx k (fun q => { q with fifo := [] })).closeFrame k [2]
    s.wr (Key.CtxSt.STATE k) 0
  else if was then s
  else
    -- frames of the last ENABLE are recorded before numbers begin at 0 again
    let s := s.each (List.range (s.ctx k).frames.length) (fun s _ => s.frameRecord k)
    (s.modCtx k (fun q => { q with fifo := [], nextSeq := 0 })).wr (Key.CtxSt.STATE k) 1

end Sys

/-- FRAME_START (R318, R320). -/
def execFrameStart (p : Fin 2) (vc : Fin 16) (num : Fin 65536) (ecc : Bool) (s : State) : Host.Outcome State Fault Refusal :=
  onSys (fun s => s.frameStart p vc num ecc) s

/-- CSI_LINE (R319, R322). -/
def execCsiLine (p : Fin 2) (vc : Fin 16) (dt : Fin 64) (d : List Nat) (crcOk ecc : Bool) (s : State) : Host.Outcome State Fault Refusal :=
  onSys (fun s => s.csiLine p vc dt d crcOk ecc) s

/-- FRAME_END (R318). -/
def execFrameEnd (p : Fin 2) (vc : Fin 16) (ecc : Bool) (s : State) : Host.Outcome State Fault Refusal := onSys (fun s => s.frameEnd p vc ecc) s

/-- CSI_PACKET (R313 to R316). -/
def execCsiPacket (p : Fin 2) (vc : Fin 16) (dt : Fin 64) (ecc : Fin 3) (sotOk crcOk : Bool) (s : State) : Host.Outcome State Fault Refusal :=
  onSys (fun s => s.csiPacket p vc dt ecc sotOk crcOk) s

/-- FRAME_TIMEOUT (R318). -/
def execFrameTimeout (k : Fin 16) (s : State) : Host.Outcome State Fault Refusal := onSys (fun s => s.frameTimeout k) s

/-- LINE_GRANT (R321). -/
def execLineGrant (ok : Bool) (s : State) : Host.Outcome State Fault Refusal := onSys (fun s => s.lineGrant ok) s

/-- FRAME_RECORD (R332). -/
def execFrameRecord (k : Fin 16) (s : State) : Host.Outcome State Fault Refusal := onSys (fun s => s.frameRecord k) s

/-- SKEW_CALIBRATION (R313). -/
def execSkewCalibration (p : Fin 2) (s : State) : Host.Outcome State Fault Refusal :=
  onSys (fun s => if s.rdB (Key.Csi.ENABLE p) && s.runs 14 then s.inc (Key.Csi.DESKEWS p) else s) s

/-- ULPS (R313): a lane of the port enters or leaves ULPS. -/
def execUlps (p : Fin 2) (enter : Bool) (s : State) : Host.Outcome State Fault Refusal :=
  onSys (fun s => if s.rdB (Key.Csi.ENABLE p) && s.runs 14 then s.wr (Key.Csi.STATE p) (if enter then 3 else 1) else s) s

end Sys2Proof.Machine
end

