-- ==== Sys2Proof/Machine/Dmc.lean ====
section
/-! DEFINITION. Dmc: the DRAM controller: addresses (R381), the scheduler (R383, R384), refresh and drift (R386, R387), UNFREEZE and debug reads (R390, R391), repair (R394, R395) and training (R396, R397). -/

namespace Sys2Proof.Machine

open Sys2Proof

namespace Sys

/-- The contents of the DRAM are lost (R392, R397). -/
def loseDram (s : Sys) : Sys :=
  { s with dramEpoch := s.dramEpoch + 1, mem := s.mem.filter (fun c => decide (c.1 < dramBase)), dram := { s.dram with bad := [] } }

/-! ### Queues (R383 to R385) -/

/-- A master's access to the DRAM (R383 to R385, R392). It does not cross the end of its burst. A full queue holds the master; a read that
gets a bus error returns zero. -/
def dramRequest (s : Sys) (master : Nat) (write : Bool) (addr len : Nat) (data : List Nat) : Sys :=
  let a := fullAddr addr
  let n := min len (64 - a % 64)
  if a < dramBase ∨ n = 0 then s
  else
    let g := s.busGate master false write addr n
    let s := g.1
    if !g.2 then (s.emit (.busError master a)).when (!write) (fun s => s.emit (.data master 0))
    else if 64 ≤ (s.dch (s.dramPlace a).ch).queue.length then s
    else s.dramEnter master write a n data 0

/-- A request may be issued (R383, R384): its bank is free, and in in-order mode it is the oldest of its bank. -/
def mayIssue (s : Sys) (c : Nat) (before : List DramReq) (r : DramReq) : Bool :=
  let b := bankOf (s.dramPlace r.addr)
  let same (x : DramReq) : Bool := decide (bankOf (s.dramPlace x.addr) = b)
  let ordered := (s.dch c).queue.any (fun x => same x && x.during)
  !(s.dch c).flight.any same && !(ordered && before.any same)

/-- The index of the oldest request of one kind that may be issued. -/
def pickFrom (s : Sys) (c : Nat) (write : Bool) : Option Nat :=
  let q := (s.dch c).queue
  (List.range q.length).find? (fun i =>
    match q[i]? with
    | some r => decide (r.write = write) && s.mayIssue c (q.take i) r
    | none => false)

/-- The scheduler of a channel issues one burst (R383). `ok` is false where the queue entry fails its parity (R388). -/
def dramIssue (s : Sys) (c : Nat) (ok : Bool) : Sys :=
  if !s.dramServes then s
  else
    let q := (s.dch c).queue
    let writes := q.filter (fun r => r.write)
    let due := decide (16 ≤ writes.length) || writes.any (fun r => decide (r.at_ + 2000 ≤ s.clk))
    let writing := if (s.dch c).writing then decide (4 ≤ writes.length) else due
    let s := s.modDch c (fun d => { d with writing := writing })
    match (s.pickFrom c writing).orElse (fun _ => s.pickFrom c (!writing)) with
    | none => s
    | some i =>
      match q[i]? with
      | none => s
      | some r =>
        let short := r.write && decide (r.len < 64)
        if !ok then s.freezeAt 0x59 3 r 0 (if !r.write then 0 else if short then 2 else 1)
        else
          let s := s.modDch c (fun d => { d with queue := d.queue.eraseIdx i })
          let s : Sys := { s with smp := { s.smp with dramBytes := s.smp.dramBytes + (if short then 128 else 64) } }
          if r.write && !short then s.inc64 Key.DmcCnt.WRITES
          else s.modDch c (fun d => { d with flight := d.flight ++ [r] })

/-- The oldest read that is issued on a channel returns (R388): `bad` has a bit for each byte that fails its parity, besides those stored so.
In FROZEN an error counts as a later one (R389). -/
def dramReadData (s : Sys) (c bad : Nat) : Sys :=
  match (s.dch c).flight with
  | [] => s
  | r :: rest =>
    let base := r.addr / 64 * 64
    let lanes := lanesOf (maskAddrs base 64 bad ++ s.badStored base 64)
    let drop (s : Sys) : Sys := s.modDch c (fun d => { d with flight := d.flight.drop 1 })
    if r.void then (drop s).when (decide (lanes ≠ 0)) (fun s => s.inc Key.DmcErr.FURTHER)
    else if lanes ≠ 0 then drop (s.freezeAt 0x58 (if r.write then 2 else 1) r lanes (if r.write then 2 else 0))
    else
      let s := (s.modDch c (fun d => { d with flight := rest })).dramServed r
      if rest.all (fun x => !x.write) then s.refreshOwed c else s

/-- ALERT_n of a channel changes (R388, R389). -/
def dramAlert (s : Sys) (c : Nat) (low : Bool) : Sys :=
  let s : Sys := { s with dram := if c = 0 then { s.dram with alertA := low } else { s.dram with alertB := low } }
  if !low then s
  else if s.rd Key.DmcSt.STATE = 2 then s.dramFreeze 0x5A c (4 + c) 0 0 0 0 5 0xFF
  else if s.rd Key.DmcSt.STATE = 3 then s.inc Key.DmcErr.FURTHER
  else s

/-- The abort of UNFREEZE (R391). -/
def unfreezeAbort (s : Sys) : Nat :=
  if s.rd Key.DmcSt.STATE = 3 ∧ (s.dev = .fault ∨ s.dev = .service) ∧ !s.dram.alertA ∧ !s.dram.alertB then 0 else 0x0803

/-- UNFREEZE (R391). -/
def unfreeze (s : Sys) : Sys :=
  let s : Sys := { s with dram := { s.dram with chans := Vector.replicate 2 {} } }
  (((s.clearCode 0x58).clearCode 0x59).clearCode 0x5A).dramRun

/-- The abort of a debug read (R390). -/
def debugAbort (s : Sys) : Nat := if s.rd Key.DmcSt.STATE = 2 ∨ s.rd Key.DmcSt.STATE = 3 then 0 else 0x0803

/-- A debug read (R390): the bytes of the array, which a write not yet issued has not reached, and their parity bits as stored, of which
those of `bad` and those stored with bad parity fail. -/
def debugRead (s : Sys) (bad : Nat) : Sys :=
  let a := s.rd Key.DmcDbg.DEBUG_ADDR
  let t := s.undoWrites
  let b := t.bytes a 64
  let fails := lanesOf (maskAddrs (a / 64 * 64) 64 bad ++ t.badStored a 64)
  let odd (v : Nat) : Bool := (List.range 8).foldl (fun p i => p != v.testBit i) true
  let par := (List.range 64).foldl (fun n i => n + (if (odd (b.getD i 0)) != fails.testBit i then 2 ^ i else 0)) 0
  let s := s.each (List.range 8) (fun s i => s.wr (Key.DmcDbg.DATA i) (u64At b (8 * i)))
  (s.wr Key.DmcDbg.PARITY par).wr Key.DmcDbg.BAD_BYTES fails

/-! ### Refresh and drift (R386, R387) -/

/-- A refresh interval falls due (R386). The controller postpones it while requests wait, at most four at once (DESIGN
CHOICE, log entry 31), and serves it with those postponed otherwise; on a channel with a read-modify-write under way it follows the write
(R383). -/
def refreshDue (s : Sys) : Sys :=
  let st := s.rd Key.DmcSt.STATE
  if st = 0 ∨ st = 4 ∨ !s.runs 1 then s
  else
    let waits := (s.dch 0).queue ≠ [] ∨ (s.dch 1).queue ≠ []
    if waits ∧ s.dram.postponed < 4 then
      let n := s.dram.postponed + 1
      ({ s with dram := { s.dram with postponed := n } }).wr Key.DmcRef.POSTPONED_MAX (max n (s.rd Key.DmcRef.POSTPONED_MAX))
    else
      let n := s.dram.postponed + 1
      let s : Sys := { s with dram := { s.dram with postponed := 0 } }
      let s := s.each (List.range (s.rd Key.Dmc.CHANNELS)) (fun s c =>
        if (s.dch c).flight.any (fun r => r.write && !r.void) then s.modDch c (fun d => { d with owed := d.owed + n }) else s.refreshOut c n)
      s.add Key.DmcRef.REFRESHES 64 n

/-- MR4 is read on every device (R386). -/
def mr4 (s : Sys) (hot : Bool) : Sys :=
  if s.rd Key.DmcSt.STATE = 0 ∨ s.rd Key.DmcSt.STATE = 4 ∨ !s.runs 1 then s else s.wr Key.DmcRef.TREFI (if hot then 1950 else 3900)

/-- Kinds of delays (`0821.01` to `0821.07`) and where each is kept: CS_DELAY by channel and rank, CA_DELAY by channel, the
others by channel, rank and lane, RD_VREF by channel and lane. -/
def delaySlot (sub ch rank lane : Nat) : Nat :=
  sub * 64 + ch * 32 + (if sub = 2 ∨ sub = 7 then 0 else rank * 8) + (if sub ≤ 2 then 0 else lane)

/-- The default of a delay. -/
def delayDefault (slot : Nat) : Nat :=
  let sub := slot / 64
  if sub = 1 ∨ sub = 2 ∨ sub = 5 then 128 else if sub = 7 then 64 else 0

/-- A trained delay. -/
def delayAt (s : Sys) (slot : Nat) : Nat := Kv.get delayDefault s.dram.delays slot

/-- Set a trained delay. -/
def setDelay (s : Sys) (slot v : Nat) : Sys := { s with dram := { s.dram with delays := Kv.put delayDefault slot v s.dram.delays } }

/-- The delay that an entry of `0821` shows, for the selection of `0820`. -/
def selectedDelay (s : Sys) (sub : Nat) : Nat := delaySlot sub (s.rd Key.Train.SEL_CHANNEL) (s.rd Key.Train.SEL_RANK) (s.rd Key.Train.SEL_LANE)

/-- One oscillator result (R387), for the lane of index `i` (20 by channel, 10 by rank and lane): the delay moves by the
fraction of tCK that the count has changed by. -/
def oscLane (s : Sys) (i count : Nat) : Sys :=
  let base := s.dram.oscBase.getD i 0
  let slot := delaySlot 6 (i / 10) (i % 10 / 5) (i % 5)
  if base = 0 then s
  else
    let t := Kv.get delayDefault s.dram.trained slot
    let step := rdiv (128 * ((count : Int) - base)) base
    let v := (t : Int) + step
    if (s.rd Key.Dmc.TRACK_LIMIT : Int) < step.natAbs ∨ v < 0 ∨ 1023 < v then s.faultNow 0x5C 12 (i / 10)
    else if v.toNat = s.delayAt slot then s
    else (s.setDelay slot v.toNat).inc Key.DmcCnt.OSC_ADJUSTS

/-- The DQS oscillator runs on every rank (R387). -/
def oscRun (s : Sys) (counts : List Nat) : Sys :=
  if s.rd Key.DmcSt.STATE ≠ 2 ∨ !s.runs 1 then s
  else (counts.zip (List.range counts.length)).foldl (fun s (x : Nat × Nat) =>
    if x.2 / 10 < s.rd Key.Dmc.CHANNELS ∧ x.2 % 10 / 5 < s.rd Key.Dmc.RANKS then s.oscLane x.2 x.1 else s) s

/-! ### Repair (R394, R395) -/

/-- A valid entry of SOFT_REPAIRS is applied again (R395). -/
def applyRepairs (s : Sys) : Sys :=
  s.each ((List.range 8).filter (fun i => (s.rd (Key.Soft.SOFT_REPAIRS i)).testBit 63)) (fun s i =>
    s.emit (.dram (s.rd (Key.Soft.SOFT_REPAIRS i) % 2) 6 (s.rd (Key.Soft.SOFT_REPAIRS i))))

/-- The abort of PPR_COMMAND (R394, R395). -/
def pprAbort (s : Sys) (hard : Bool) : Nat :=
  if s.rd Key.DmcSt.STATE ≠ 2 then 0x0803
  else if s.rd Key.Ppr.PPR_RESULT = 3 then 0x0805
  else if !hard && (List.range 8).all (fun i => (s.rd (Key.Soft.SOFT_REPAIRS i)).testBit 63) then 0x0805
  else 0

/-- The controller leaves its queues for an operation of its own: reads that wait are answered as in R388, and answered writes are issued
(DEDUCED from R385: it does not freeze). -/
def clearQueues (s : Sys) : Sys :=
  let ws := s.unissued
  let s := s.refuseReads
  let s := (ws.foldl dramServed s).each (List.range 2) refreshOwed
  { s with dram := { s.dram with chans := Vector.replicate 2 {} } }

/-- A repair begins (R394): of the row and device that are set now. -/
def pprStart (s : Sys) (hard : Bool) : Sys :=
  let s := s.clearQueues
  { s.wr Key.Ppr.PPR_RESULT 3 with dram := { s.dram with ppr := some (hard, s.pprWord) } }

/-- A repair ends (R394, R395): with a resource, its sequence has run. -/
def pprEnd (s : Sys) (resource verified : Bool) : Sys :=
  match s.dram.ppr with
  | none => s
  | some (hard, word) =>
    let s : Sys := { s with dram := { s.dram with ppr := none } }
    if !resource then s.wr Key.Ppr.PPR_RESULT 1
    else
      let s := (s.emit (.dram (word % 2) (if hard then 10 else 6) word)).loseRow word
      if !verified then s.wr Key.Ppr.PPR_RESULT 2
      else
        let s := s.wr Key.Ppr.PPR_RESULT 0
        if hard then s
        else match (List.range 8).find? (fun i => !(s.rd (Key.Soft.SOFT_REPAIRS i)).testBit 63) with
          | some i => (s.wr (Key.Soft.SOFT_REPAIRS i) word).storeWrite 3 [(Key.Soft.SOFT_REPAIRS i, BitVec.ofNat 64 word)]
          | none => s

/-! ### Training (R392, R396, R397) -/

/-- The abort of a helper write (R396). -/
def helperAbort (s : Sys) : Nat := if s.rd Key.DmcSt.STATE = 1 then 0 else 0x0803

/-- The abort of a PAT_COMMAND (R396, `0823.05`). -/
def patternAbort (s : Sys) (v : Nat) : Nat :=
  if s.helperAbort ≠ 0 then 0x0803 else if v < 1 ∨ 3 < v then 0x0604 else if s.rdB Key.TPat.PAT_BUSY then 0x0805 else 0

/-- The abort of BEGIN (R392). -/
def beginAbort (s : Sys) : Nat :=
  if s.rd Key.DmcSt.STATE = 0 ∨ (s.rd Key.DmcSt.STATE = 2 ∧ s.dev = .service) then 0 else 0x0803

/-- BEGIN (R392): requests still queued or on their way get a bus error. -/
def trainBegin (s : Sys) : Sys := s.clearQueues.wr Key.DmcSt.STATE 1

/-- END (R397): it overwrites 4,096 bursts of every rank, the spec does not say which, so that the contents of every burst are open (log
entry 28); where they all compare equal, the baselines are taken, the soft repairs applied and the controller runs. -/
def trainEnd (s : Sys) (pass : Bool) (osc : List Nat) : Sys :=
  let s := s.loseDram
  if !pass then s.wrB Key.DmcSt.TRAIN_VALID false
  else
    let s : Sys := { s with dram := { s.dram with oscBase := osc, trained := s.dram.delays } }
    ((s.applyRepairs).wrB Key.DmcSt.TRAIN_VALID true).dramRun

/-- ABORT (R392). -/
def trainAbort (s : Sys) : Sys := ((s.wr Key.DmcSt.STATE 0).wrB Key.TPat.PAT_BUSY false)

/-- The abort of ABORT and of END (R392). -/
def inTraining (s : Sys) : Nat := if s.rd Key.DmcSt.STATE = 1 then 0 else 0x0803

/-- A mode register command (R396): 1 MRW, 2 MRR, 3 MPC, 4 MRW_LANE. -/
def mrCmd (s : Sys) (cmd val : Nat) : Sys :=
  let ch := s.rd Key.Train.SEL_CHANNEL
  let arg := s.rd Key.Mr.MR_ADDR * 256 + s.rd Key.Mr.MR_DATA
  match cmd with
  | 1 => s.emit (.dram ch 2 (arg + 65536 * s.rd Key.Train.SEL_RANK))
  | 2 => (s.emit (.dram ch 3 (arg + 65536 * s.rd Key.Train.SEL_RANK))).wr Key.Mr.MR_READ (val % 2 ^ 64)
  | 3 => s.emit (.dram ch 4 (s.rd Key.Mr.MR_DATA + 65536 * s.rd Key.Train.SEL_RANK))
  | _ => s.emit (.dram ch 5 (arg + 65536 * s.rd Key.Train.SEL_RANK + 131072 * s.rd Key.Train.SEL_LANE))

/-- A pattern command begins (R396): 1 WRITE, 2 COMPARE, 3 SAMPLE. -/
def patternCmd (s : Sys) (cmd : Nat) : Sys :=
  let s : Sys := { s.wrB Key.TPat.PAT_BUSY true with dram := { s.dram with pat := cmd } }
  s.emit (.dram (s.rd Key.Train.SEL_CHANNEL) (6 + cmd) (s.rd Key.Train.MODE))

/-- WRITE of the pattern engine (R396): PAT_BURSTS bursts from PAT_OFFSET on. The fixed pattern fills them with PAT_SEED (DEDUCED, log entry
28); of PRBS31 and the walking one the spec gives no bytes, so that theirs are free values. -/
def patternWrite (s : Sys) : Sys :=
  let a := dramBase + s.rd Key.TPat.PAT_OFFSET
  let n := 64 * s.rd Key.TPat.PAT_BURSTS
  let s := s.setBad a n []
  if s.rd Key.TPat.PAT_KIND = 0 then s.setBytes a ((List.range n).map (fun i => s.rd Key.TPat.PAT_SEED / 256 ^ (i % 4) % 256))
  else (s.loseBytes a n).useFree

/-- A pattern command ends (R396): the bits that failed, or the levels sampled, and the failing bursts. -/
def patternEnd (s : Sys) (bits errs : Nat) : Sys :=
  if !s.rdB Key.TPat.PAT_BUSY then s
  else
    let s := s.wrB Key.TPat.PAT_BUSY false
    match s.dram.pat with
    | 1 => s.patternWrite
    | 2 => (s.wr Key.TPat.PAT_BITS (bits % 2 ^ 36)).wr Key.TPat.PAT_ERRORS (min errs (s.rd Key.TPat.PAT_BURSTS))
    | _ => s.wr Key.TPat.PAT_BITS (bits % 2 ^ 36)

/-- The controller loses its power or is reset: UNTRAINED, with contents lost (R392). -/
def dmcReset (s : Sys) : Sys := { s.loseDram with dram := { alertA := s.dram.alertA, alertB := s.dram.alertB } }

end Sys

/-- DRAM_REQUEST (R383 to R385). -/
def execDramRequest (master : Fin 256) (write : Bool) (addr len : Nat) (data : List Nat) (s : State) : Host.Outcome State Fault Refusal :=
  onSys (fun s => s.dramRequest master write addr len data) s

/-- DRAM_ISSUE (R383, R388). -/
def execDramIssue (ch : Fin 2) (ok : Bool) (s : State) : Host.Outcome State Fault Refusal := onSys (fun s => s.dramIssue ch ok) s

/-- DRAM_READ_DATA (R388). -/
def execDramReadData (ch : Fin 2) (bad : Nat) (s : State) : Host.Outcome State Fault Refusal := onSys (fun s => s.dramReadData ch bad) s

/-- DRAM_ALERT (R388). -/
def execDramAlert (ch : Fin 2) (low : Bool) (s : State) : Host.Outcome State Fault Refusal := onSys (fun s => s.dramAlert ch low) s

/-- REFRESH_INTERVAL (R386). -/
def execRefreshInterval (s : State) : Host.Outcome State Fault Refusal := onSys (fun s => s.refreshDue) s

/-- MR4_POLL (R386). -/
def execMr4Poll (hot : Bool) (s : State) : Host.Outcome State Fault Refusal := onSys (fun s => s.mr4 hot) s

/-- OSC_RUN (R387). -/
def execOscRun (counts : List Nat) (s : State) : Host.Outcome State Fault Refusal := onSys (fun s => s.oscRun counts) s

/-- PPR_COMPLETE (R394). -/
def execPprComplete (resource verified : Bool) (s : State) : Host.Outcome State Fault Refusal := onSys (fun s => s.pprEnd resource verified) s

/-- PAT_COMPLETE (R396). -/
def execPatComplete (bits errs : Nat) (s : State) : Host.Outcome State Fault Refusal := onSys (fun s => s.patternEnd bits errs) s

end Sys2Proof.Machine
end

