-- ==== Sys2Proof/Machine/Mac.lean ====
section
/-! DEFINITION. Mac: the Ethernet MACs: reception and its filter (R350, R351), the receive and transmit rings (R352) and the link state (R350). -/

namespace Sys2Proof.Machine

open Sys2Proof

namespace Sys

/-- SLOT_SIZE of MAC `m` (R352). -/
def macSlot (s : Sys) (m : Nat) : Nat := 64 * ((16 + s.rd (Key.Mac.MAX_FRAME m) + 63) / 64)

/-- The slots of the receive ring and of the transmit ring of MAC `m`. -/
def rxSlots (s : Sys) (m : Nat) : Nat := s.rd (Key.MacRing.RX_LEN m) / s.macSlot m
def txSlots (s : Sys) (m : Nat) : Nat := s.rd (Key.MacRing.TX_LEN m) / s.macSlot m

/-- The MAC accepts the destination of a frame (R351). -/
def macAccepts (s : Sys) (m : Nat) (d : List Nat) : Bool :=
  let dest := beAt d 0 6
  decide (dest = s.rd (Key.Mac.MAC_ADDR m)) || decide (dest = 2 ^ 48 - 1)
    || ((u8At d 0).testBit 0 && (s.rd (Key.Mac.MCAST_HASH m)).testBit (crc32 (d.take 6) / 2 ^ 26))

/-- The device time at which the first bit after the SFD of a frame passed the MAC, of which `n` bytes have passed since, in whole ns (R374):
the bytes go at 10 or 25 Gbit/s, and device time meanwhile by the present increment. -/
def sfdStamp (s : Sys) (m n : Nat) : Nat :=
  let ps := n * (if s.rd (Key.Mac.SPEED m) = 0 then 800 else 320)
  (s.tb.t * 2 ^ 32 + s.tb.f - (if s.timeRuns then ps * s.increment / 4000 else 0)) / 2 ^ 32

/-- What the transmitter of MAC `m` holds. -/
def mac (s : Sys) (m : Nat) : MacRun := s.chain.macs.getD m {}

/-- An accepted frame is written to the receive ring (R352), with its stamp. -/
def macToRing (s : Sys) (m : Nat) (d : List Nat) : Sys :=
  let n := s.rxSlots m
  let h := s.rd (Key.MacRing.RX_HEAD m)
  let h' := if n = 0 then 0 else (h + 1) % n
  if n = 0 ∨ h' = s.rd (Key.MacRing.RX_TAIL m) then s.inc (Key.MacCnt.RX_DROPPED m)
  else
    let a := s.rd (Key.MacRing.RX_ADDR m) + h * s.macSlot m
    let g := s.grant (0x44 + m) true a (s.macSlot m)
    if !g.2 then g.1.inc (Key.MacCnt.RX_DROPPED m)
    else
      let s := g.1.busStore (0x44 + m) a (le 2 d.length ++ le 2 2 ++ le 4 0 ++ le 8 (s.sfdStamp m (d.length + 4)) ++ d) 0
      (s.wr (Key.MacRing.RX_HEAD m) h').raise (50 + m)

/-- The gateway is enabled on MAC `m` (R351). -/
def gatewayOn (s : Sys) (m : Nat) : Bool := s.isGateway && decide (s.rd Key.Gw.MAC = m)

/-- Reception up to routing (R350, R351): whether the frame `d` (without FCS) is accepted. -/
def macIn (s : Sys) (m : Nat) (d : List Nat) (fcsOk : Bool) (fec : Nat) : Sys × Bool :=
  if !s.rdB (Key.Mac.ENABLE m) || decide (s.rd (Key.Mac.LINK m) ≠ 3) then (s, false)
  else
    let s := s.when (s.rdB (Key.Mac.RS_FEC m)) (fun s => s.add (Key.MacCnt.FEC_CORRECTED m) 64 fec)
    let n := d.length + 4
    if n < 64 ∨ s.rd (Key.Mac.MAX_FRAME m) < n then (s.inc (Key.MacCnt.LENGTH_ERRORS m), false)
    else if !fcsOk then (s.inc (Key.MacCnt.FCS_ERRORS m), false)
    else if beAt d 12 2 = 0x8808 then (s.inc (Key.MacCnt.PAUSE_FRAMES m), false)
    else if !s.macAccepts m d then (s, false)
    else (s.inc64 (Key.MacCnt.RX_FRAMES m), true)

/-- Set the flags of a transmit slot: BAD and DONE. -/
def txDone (s : Sys) (m a flags : Nat) : Sys := (s.busStore (0x44 + m) (a + 2) (le 2 flags) 0).raise (50 + m)

/-- A ring frame waits at MAC `m`. -/
def ringWaits (s : Sys) (m : Nat) : Bool := decide (s.txSlots m ≠ 0 ∧ s.rd (Key.MacRing.TX_HEAD m) ≠ s.rd (Key.MacRing.TX_TAIL m))

/-- The slot at TX_HEAD is dealt with (R352): its frame leaves and is stamped, or it is found bad. -/
def ringOut (s : Sys) (m : Nat) (ok : Bool) : Sys :=
  let h := s.rd (Key.MacRing.TX_HEAD m)
  let n := s.txSlots m
  if !s.ringWaits m then s
  else
    let s := s.modMac m (fun q => { q with passed := 0 })
    let a := s.rd (Key.MacRing.TX_ADDR m) + h * s.macSlot m
    let next (s : Sys) : Sys := s.wr (Key.MacRing.TX_HEAD m) ((h + 1) % n)
    let g := s.grant (0x44 + m) false a (s.macSlot m)
    let s := g.1
    if !g.2 then next (s.inc (Key.MacCnt.TX_BAD m))
    else
      let len := s.ld a 2
      let flags := s.ld (a + 2) 2
      if len < 14 ∨ s.rd (Key.Mac.MAX_FRAME m) - 4 < len then
        next ((s.inc (Key.MacCnt.TX_BAD m)).txDone m a ((flags % 4) + 4 + 0x8000))
      else
        let data := s.bytes (a + 16) len
        let s := s.when (!ok) (fun s => (s.memParity (0x44 + m) a (16 + len)).captureError 0x6B a (0x44 + m))
        let s := (s.inc64 (Key.MacCnt.TX_FRAMES m)).emit (.eth m (data ++ List.replicate (60 - len) 0) (!ok))
        let stamp := flags.testBit 0
        let s := if stamp then s.busStore (0x44 + m) (a + 8) (le 8 (s.sfdStamp m (max 60 len + 4))) 0 else s
        next (s.txDone m a ((flags % 2) + 2 * b2n stamp + 0x8000))

/-- The next frame of MAC `m` leaves (R352, R353): ARP replies and gateway datagrams before ring frames, of which one that waits lets at most
four pass. -/
def macOut (s : Sys) (m : Nat) (ok : Bool) : Sys :=
  let q := s.mac m
  if !s.rdB (Key.Mac.ENABLE m) ∨ s.rd (Key.Mac.LINK m) ≠ 3 then s
  else match q.gw with
    | d :: rest =>
      if s.ringWaits m ∧ 4 ≤ q.passed then s.ringOut m ok
      else ((s.modMac m (fun q => { q with gw := rest, passed := if s.ringWaits m then q.passed + 1 else 0 })).inc64 (Key.MacCnt.TX_FRAMES m)).emit
        (.eth m (d ++ List.replicate (60 - d.length) 0) (!ok))
    | [] => s.ringOut m ok

/-- The state of the link of MAC `m` changes (R350, R355), with a hi_ber entry or not, after codewords that could not be corrected. Without
block lock it does not come UP (R349). On local fault the MAC sends remote fault, on a received remote fault idle (R350). -/
def ethLink (s : Sys) (m st : Nat) (hiBer : Bool) (fecBad : Nat) : Sys :=
  if !s.rdB (Key.Mac.ENABLE m) ∨ (2 ≤ st ∧ s.rd (Key.Lane.STAGE (s.rd (Key.Mac.LANE m))) ≠ 4) then s
  else
    let was := s.rd (Key.Mac.LINK m)
    let l := s.rd (Key.Mac.LANE m)
    let s := (s.when hiBer (fun s => s.inc (Key.MacCnt.HI_BER_EVENTS m))).when (s.rdB (Key.Mac.RS_FEC m)) (fun s => s.add (Key.MacCnt.FEC_UNCORRECTED m) 32 fecBad)
    let s := s.wr (Key.Mac.LINK m) st
    let s := s.when (decide (st = 1 ∨ st = 2)) (fun s => s.emit (.ethFault m (decide (st = 1))))
    let s := s.when (decide (st ≠ 3)) (fun s => s.dropDatagrams m)
    if was = 3 ∧ st ≠ 3 then s.faultNow 0x56 7 l
    else if st = 3 then s.clearActive 0x56 7 l
    else s

/-- A write to ENABLE of a MAC: its lane gets or loses its user (R335). -/
def macEnable (s : Sys) (m v : Nat) : Sys :=
  (if v = 0 then s.macDown m else s).laneRefresh

/-- LANE or SPEED of MAC `m` has changed: a MAC in use goes DOWN, and its lane trains at the rate now asked for. -/
def macMoved (s : Sys) (m : Nat) : Sys :=
  let l := s.rd (Key.Mac.LANE m)
  let s := (if s.rdB (Key.Mac.ENABLE m) then s.macDown m else s).laneRefresh
  if (s.laneUser l).1 = 2 ∧ (s.rd (Key.Lane.STAGE l) = 2 ∨ s.rd (Key.Lane.STAGE l) = 4) then s.macTrain l else s

/-- What a write to RX_TAIL or TX_TAIL requires besides its rights (R357). -/
def tailAbort (s : Sys) (m v : Nat) (tx : Bool) : Nat := if v < (if tx then s.txSlots m else s.rxSlots m) then 0 else 0x0604

end Sys

/-- MAC_FRAME_SENT (R352, R353). -/
def execMacFrameSent (m : Fin 2) (ok : Bool) (s : State) : Host.Outcome State Fault Refusal := onSys (fun s => s.macOut m ok) s

/-- ETH_LINK (R350). -/
def execEthLink (m : Fin 2) (st : Fin 4) (hiBer : Bool) (fecBad : Nat) (s : State) : Host.Outcome State Fault Refusal :=
  onSys (fun s => s.ethLink m st hiBer fecBad) s

end Sys2Proof.Machine
end

