-- ==== Sys2Proof/Machine/Domains.lean ====
section
/-! DEFINITION. Domains: what power-gating and powering up a domain do to its entries and blocks (R454 to R457, R463, R471). -/

namespace Sys2Proof.Machine

open Sys2Proof

namespace Sys

/-- An entry of domain `d` that is not stored and so takes its default when the domain cold-initialises (R457). The place a lane's
taps came from stays with its table (R340). -/
def coldEntry (d k : Nat) : Bool :=
  decide (domainOf (keyIdx k) = d) && !isKept k && !(List.range 16).any (fun l => decide (k = Key.Lane.EQ_SOURCE l))

/-- The parts of domain `d` that no entry shows lose their state. -/
def coldHidden (s : Sys) (d : Nat) : Sys :=
  if d = 0 then (s.setApRun 0).modCore (fun c => { c with
    vectors := [0, 0, 0, 0], pmp := [], ssip := 0, menvCbie := [3, 3, 3, 3], senvCbie := [3, 3, 3, 3], lines := [] })
  else if d = 1 then s.dmcReset
  else if 2 ≤ d ∧ d ≤ 5 then s.each (List.range 4) (fun s i => s.modLane (4 * (d - 2) + i) (fun q => { table := q.table }))
  else if d = 6 then
    let s : Sys := { s.restartTime with chain := { s.chain with ports := s.chain.ports.map warmPort, syncSeq := none, syncAt := none } }
    s.wrBit Key.TimeSt.TIME_STATUS 0 (s.rdBit Key.Pll.SOURCE 1)
  else if 7 ≤ d ∧ d ≤ 10 then
    let s := s.each ((List.range 4).map (fun i => 4 * (d - 7) + i)) (fun s c =>
      (s.each (List.range 8) (fun s z => s.modZone c z (fun _ => {}))).modCh c (fun _ => {}) |>.modUpdate c (fun _ => {}))
    s.each (engineSlots (d - 7)) (fun s n => s.modSlot n (fun _ => {}))
  else if d = 11 then { s with mpl := Vector.replicate 16 {} }
  else if d = 12 then
    let s : Sys := { s with groups := Vector.replicate 4 {}, pen := { heads := Vector.replicate 32 { validAt := s.clk } } }
    s.each ((List.range 64).map (fun i => 128 + i)) (fun s w => s.modZw w (fun _ => {}))
  else if d = 13 then { s with axes := Vector.replicate 8 {}, vbus := Vector.replicate 2 [] }
  else if d = 14 then { s with cam := {} }
  else s

/-- Domain `d` loses its power or cold-initialises (R456, R457): entries that are not stored take their defaults, stored ones what the
store holds. -/
def domainCold (s : Sys) (d : Nat) : Sys := (((s.clearEntries (coldEntry d)).reloadKept d).coldHidden d).refresh

/-- The state that an enabled stitch zone or overlap takes at START, at WARM_RESET and where its domain powers up (R205, R554). -/
def zonesStart (s : Sys) (ws : List Nat) : Sys := s.each ws (fun s w => s.wr (zwState w) (if s.rdB (zwEnable w) then 4 else 0))

/-- The zones and overlaps of a domain. -/
def domainZones (d : Nat) : List Nat :=
  if 7 ≤ d ∧ d ≤ 10 then (List.range 32).map (fun i => 32 * (d - 7) + i) else if d = 12 then (List.range 64).map (fun i => 128 + i) else []

/-- The effects of the stored values in a domain that has powered up (R205, R323, R335, R457, R554). -/
def domainStart (s : Sys) (d : Nat) : Sys :=
  let s := s.zonesStart (domainZones d)
  let s := s.when (decide (d = 14)) camFromStart
  let s := s.when (decide (d = 12)) (fun s => s.each (List.range 12) gateEval)
  (s.when (decide (2 ≤ d ∧ d ≤ 5)) laneRefresh).refresh

end Sys

end Sys2Proof.Machine
end

