-- ==== Sys2Proof/Machine/System.lean ====
section
/-! DEFINITION. System: the device states and their transitions (R56 to R60), the checks of GO_READY (R58), resets (R58, R59, R458,
R459), and the retained store with its commands (R61 to R65, R551, R553, R554). -/

namespace Sys2Proof.Machine

open Sys2Proof

/-- REQUESTER of a class (`0112.06`). -/
def clsCode : Cls → Nat
  | .host => 0xFE | .fm => 0xF1 | .fs => 0xF2

namespace Sys

/-! ### The retained store -/

/-- The blocks follow entries that a store command has taken to their defaults (R65): endpoints, zones, contexts, ports, lanes,
gate inputs and domains that still act on other values. -/
def followDefaults (s : Sys) : Sys :=
  let s := s.each ((List.range 8).filter (fun n => decide (s.rd (Key.Dma.MODE (24 + n)) = 2) && !s.rdB (Key.Ep.ENABLE n))) (fun s n => s.epEnable n 0)
  let s := s.each ((List.range 192).filter (fun w => s.rdB (zwState w) && !s.rdB (zwEnable w))) (fun s w => s.zwEnabled w 0)
  let s := s.each ((List.range 16).filter (fun k => s.rdB (Key.CtxSt.STATE k) && !s.rdB (Key.Ctx.ENABLE k))) (fun s k => s.ctxEnable k true 0)
  let s := s.each ((List.range 2).filter (fun p => decide (s.rd (Key.Port.STATE p) = 0) && s.rdB (Key.Port.ENABLE p))) (fun s p => s.portEnable p 1)
  let s := s.each ((List.range 15).filter (fun d => !s.rdBit Key.Dom.POWERED d && !s.pw.waking.testBit d && s.rdBit Key.Dom.ENABLE d)) (fun s d =>
    { s.domainCold d with pw := { s.pw with waking := putBit s.pw.waking d true } })
  let s := s.when (s.domainOn 12) (fun s => s.each (List.range 12) gateEval)
  let s := s.each ((List.range 16).filter (fun c => s.rdB (Key.Hoop.TABLE_OK c) && decide (s.rd (Key.Hoop.ACTIVE_ADDR c) = 0))) tableStale
  let s := s.each ((List.range 16).filter (fun h => s.rdB (Key.Map.MAP_OK h) && decide (s.rd (Key.Map.ACTIVE_ADDR h) = 0))) (fun s h => s.tableStale (16 + h))
  s.gatewayMac.laneRefresh

/-- What a write to STORE_COMMAND is refused with (R65): DEFAULTS_ALL is for SERVICE only. -/
def storeAbort (s : Sys) (cmd : Nat) : Nat :=
  if cmd = 2 ∧ s.dev ≠ .service then 0x0803
  else if cmd < 1 ∨ 4 < cmd then 0x0604
  else if s.eng.command.isSome then 0x0805 else 0

/-- A store command is accepted (R551). REBUILD with no copy marked failed is complete at once. -/
def storeStart (s : Sys) (cmd : Nat) : Sys :=
  if cmd = 4 ∧ s.rd Key.StoreFail.FAILED_NOW = 0 then ((s.wr Key.Store.STORE_PROGRESS 100).wr Key.Store.STORE_RESULT 0).raise 63
  else
    let failed := (List.range 16).filter (fun p => s.rdBit Key.StoreFail.FAILED_NOW (2 * p) || s.rdBit Key.StoreFail.FAILED_NOW (2 * p + 1))
    let total := if cmd = 1 then 13 else if cmd = 2 then 16 else if cmd = 3 then 32 else failed.length
    { s.wr Key.Store.STORE_PROGRESS 0 with eng := { s.eng with command := some cmd, units := 0, total := total } }

/-- The pairs that DEFAULTS_KEEP_IDENTITY or DEFAULTS_ALL takes, in their order (R65, R551). -/
def defaultPairs (cmd : Nat) : List Nat := if cmd = 1 then (List.range 13).map (fun i => i + 1) else List.range 16

/-- A store command writes the defaults of pair `p`; `bad` are the banks whose write fails its verification (R62, R551). The result
is whether copy A failed. -/
def defaultPair (s : Sys) (p bad : Nat) : Sys × Bool :=
  if bad.testBit (2 * p) then (s.markCopy p false, true)
  else
    let s := (s.pairDefaults p).modPair p (fun q => { q with
      genA := (q.genA + 1) % 2 ^ 32, genB := (q.genB + 1) % 2 ^ 32, dataA := [], dataB := [] })
    (s.when (bad.testBit (2 * p + 1)) (fun s => s.markCopy p true), false)

/-- The next unit of the running store command finishes, with every copy good (R551): a pair takes its defaults, a bank has passed its
check, or a failed pair is good again. STORE_PROGRESS follows. -/
def storeUnit (s : Sys) (cmd : Nat) : Sys :=
  let u := s.eng.units
  let s :=
    if cmd = 1 ∨ cmd = 2 then (s.defaultPair ((defaultPairs cmd).getD u 0) 0).1
    else if cmd = 4 then
      ((List.range 16).find? (fun p => s.rdBit Key.StoreFail.FAILED_NOW (2 * p) || s.rdBit Key.StoreFail.FAILED_NOW (2 * p + 1))).elim s (fun p => s.pairGood p)
    else s
  { s.wrI Key.Store.STORE_PROGRESS (rdiv (100 * (u + 1 : Nat)) (max 1 s.eng.total)) with eng := { s.eng with units := u + 1 } }

/-- While a store command runs, whether its next unit finishes in an idle tick is open; the last one finishes with the command (R551,
log entry 6). -/
def storeTick (s : Sys) : Sys :=
  match s.eng.command with
  | none => s
  | some cmd =>
    if s.freeVal.toNat.testBit 0 && decide (s.eng.units + 1 < s.eng.total) then s.useFree.storeUnit cmd else s.useFree

/-- The running store command completes (R551); `bad` are the banks that fail. -/
def storeDone (s : Sys) (bad : Nat) : Sys :=
  match s.eng.command with
  | none => s
  | some cmd =>
    let s : Sys := { s.wr Key.Store.STORE_PROGRESS 100 with eng := { s.eng with command := none } }
    let (s, failed) :=
      if cmd = 1 ∨ cmd = 2 then
        let r := ((defaultPairs cmd).drop s.eng.units).foldl (fun r p =>
          let x := r.1.defaultPair p bad
          (x.1, r.2 || x.2)) (s, false)
        (r.1.followDefaults, r.2)
      else if cmd = 3 then
        (s.each ((List.range 32).filter (fun b => bad.testBit b)) (fun s b => s.markCopy (b / 2) (decide (b % 2 = 1))), false)
      else
        let ps := (List.range 16).filter (fun p => s.rdBit Key.StoreFail.FAILED_NOW (2 * p) || s.rdBit Key.StoreFail.FAILED_NOW (2 * p + 1))
        let again (p b : Nat) : Bool := bad.testBit (2 * p + b) && s.rdBit Key.StoreFail.FAILED_NOW (2 * p + b)
        (s.each ps (fun s p => if again p 0 || again p 1 then s else s.pairGood p), ps.any (fun p => again p 0))
    (s.wr Key.Store.STORE_RESULT (if failed then 0x0A01 else 0)).raise 63

/-- RESTORE_ACK (R65): it acknowledges every failure recorded so far. -/
def restoreAck (s : Sys) (v : Nat) : Sys := if v = 0 then s else (s.wrB Key.Restore.ACK_REQUIRED false).clearCode 0x6C

/-! ### The checks of GO_READY -/

/-- The users of lanes in index order: the LANE entry of each and its lanes (R335, R338). -/
def laneUsers (s : Sys) : List (Nat × List Nat) :=
  ((List.range 16).filter (fun l => decide (s.rd (Key.Lane.STAGE l) = 5) && !([0, 1].any (fun p => decide (l ∈ s.portLanes p))))).map (fun l => (Key.Lane.COMMAND l, [l])) ++
  (List.range 2).map (fun p => (Key.Port.LANE_FIRST p, s.portLanes p)) ++
    ((List.range 2).filter (fun m => s.rdB (Key.Mac.ENABLE m))).map (fun m => (Key.Mac.LANE m, [s.rd (Key.Mac.LANE m)])) ++
    ((List.range 8).filter (fun l => s.rdB (Key.Link.ENABLE l))).map (fun l => (Key.Link.LANE l, [s.rd (Key.Link.LANE l)]))

/-- The entries at fault under R338: the LANE entry of the user that is later in index order. -/
def laneFaults (s : Sys) : List Nat :=
  let us := s.laneUsers
  let inGroup (g : Nat) : List (Nat × List Nat) := us.filter (fun u => u.2.any (fun l => decide (l / 4 = g)))
  (List.range us.length).flatMap (fun j => match us[j]? with
    | some u => failing [((us.take j).any (fun v => v.2.any (fun l => decide (l ∈ u.2))), u.1)]
    | none => []) ++
  (List.range 4).flatMap (fun g =>
    (if 2 < (s.groupFamilies g 16 0xFF).length then ((inGroup g).getLast?.map (fun u => u.1)).toList else []) ++
    (if s.domainOn (2 + g) then [] else (inGroup g).map (fun u => u.1)))

/-- The entries at fault of slots (R12, R148, R152, R366). -/
def slotFaults (s : Sys) : List Nat :=
  ((List.range 64).filter (fun n => s.rdB (Key.Slot.ENABLE n))).flatMap (fun n =>
    failing [(decide (s.trigPeriod (s.slotTrigger n) < 1000), Key.Slot.TRIGGER n),
      (decide (s.rd (Key.Trig.MODE (s.slotTrigger n)) ≠ 1), Key.Trig.MODE (s.slotTrigger n))]) ++
  (List.range 64).flatMap (fun n => failing [(decide (s.rdI (Key.SlotFb.RANGE_MAX n) ≤ s.rdI (Key.SlotFb.RANGE_MIN n)), Key.SlotFb.RANGE_MAX n)]) ++
  ((List.range 16).map (fun i => 48 + i)).flatMap (fun n => failing
    [(((List.range (n - 48)).map (fun i => 48 + i)).any (fun m => decide (s.rd (Key.Slot.OWNER_AXIS n) < 8 ∧ s.rd (Key.Slot.OWNER_AXIS m) = s.rd (Key.Slot.OWNER_AXIS n))),
      Key.Slot.OWNER_AXIS n)]) ++
  (List.range 4).flatMap (fun k => failing [(s.engineOver k, Key.Slot.ENABLE (51 + 4 * k))])

/-- The entries at fault of an enabled axis (R297, R302, R366). -/
def axisFaults (s : Sys) (a : Nat) : List Nat :=
  let tu := s.axPeriod a
  let closed := s.axClosed a
  failing
    [(closed && (s.axSlot a).isNone, Key.Axis.LOOP a),
     (closed && (s.axSlot a).any (fun n => decide (s.rd (Key.Slot.TRIGGER n) ≠ s.rd (Key.Axis.TRIGGER a))), Key.Axis.TRIGGER a),
     (!closed && (s.axSlot a).isSome, Key.Axis.LOOP a),
     (!closed && decide (s.rd (Key.Axis.DRIVE a) = 1), Key.Axis.DRIVE a),
     (decide (tu < 1000 ∨ 1000000 < tu), Key.Axis.TRIGGER a),
     (decide (s.rd (Key.Trig.MODE (s.rd (Key.Axis.TRIGGER a))) ≠ 1), Key.Trig.MODE (s.rd (Key.Axis.TRIGGER a))),
     (decide (s.rd (Key.AxStop.ESTOP_DECEL a) < s.rd (Key.AxStop.STOP_DECEL a)), Key.AxStop.ESTOP_DECEL a)]

/-- The entries of any axis that GO_READY checks (R312). -/
def axisEntryFaults (s : Sys) (a : Nat) : List Nat :=
  failing
    [(decide (s.rdI (Key.AxMove.POS_MAX a) ≤ s.rdI (Key.AxMove.POS_MIN a)), Key.AxMove.POS_MAX a),
     (s.axClosed a && decide (s.rd (Key.AxEnc.ENC_MON a) ≠ 0xFF), Key.AxEnc.ENC_MON a)]

/-- The entries at fault of endpoints and MACs (`E.07`, R224, R349, R352). -/
def feedMacFaults (s : Sys) : List Nat :=
  (List.range 8).flatMap (fun n => failing
    [(s.rdB (Key.Ep.ENABLE n) && decide (s.rd (Key.Ep.RING_LEN n) < s.rd (Key.Ep.CREDIT_STEP n)), Key.Ep.CREDIT_STEP n),
     (decide (s.rd (Key.Ep.CONSUMER n) = 3) && (List.range n).any (fun m => decide (s.rd (Key.Ep.CONSUMER m) = 3)), Key.Ep.CONSUMER n)]) ++
  ((List.range 2).filter (fun m => s.rdB (Key.Mac.ENABLE m))).flatMap (fun m =>
    let bad (k : Nat) : Bool := decide (s.rd k ≠ 0 ∧ (s.rd k % s.macSlot m ≠ 0 ∨ s.rd k < 2 * s.macSlot m))
    failing [(s.rdB (Key.Mac.RS_FEC m) && decide (s.rd (Key.Mac.SPEED m) = 0), Key.Mac.RS_FEC m),
      (bad (Key.MacRing.RX_LEN m), Key.MacRing.RX_LEN m), (bad (Key.MacRing.TX_LEN m), Key.MacRing.TX_LEN m)])

/-- The table checks that GO_READY runs (R128, R246, R266): hoop tables of enabled channels, maps of all heads, and picot sets of enabled heads.
Bits of `bad` tell reads with bad parity: 0 to 15 hoop tables, 16 to 47 maps, 48 to 79 picot sets. -/
def tableChecks (s : Sys) (bad : Nat) : Sys :=
  let hs := (List.range 32).filter (fun h => s.rdB (Key.Head.ENABLE h))
  let s := s.each ((List.range 16).filter (fun c => decide (s.chState c ≠ 0))) (fun s c => s.chChecks c (!bad.testBit c))
  let s := s.each (List.range 32) (fun s h => s.mapCheck h (!bad.testBit (16 + h)))
  s.each ((List.range 32).filter (fun w => hs.any (fun h => decide (s.rd (Key.Head.WAVESET h) = w)))) (fun s w => s.picotCheck w (!bad.testBit (48 + w)))

/-- Every entry at fault of those that GO_READY checks (R58), after the table checks. -/
def readyFaults (s : Sys) (bad : Nat) : List Nat :=
  (List.range 16).flatMap (fun c => if s.chState c = 0 then s.areaFaults c else s.channelFaults c) ++
  s.slotFaults ++ ((List.range 8).filter (fun a => decide (s.axState a ≠ 0))).flatMap (fun a => s.axisFaults a) ++ (List.range 8).flatMap (fun a => s.axisEntryFaults a) ++ s.penFaults (bad / 2 ^ 48) ++
  s.feedMacFaults ++ s.laneFaults

/-! ### Device commands (R57, R58) -/

/-- The causes that take the unit out of ARMED stop channels and groups (R56, R142, R282). -/
def disarmed (s : Sys) : Sys :=
  let s := s.each (List.range 16) (fun s c => s.safeStop c 16)
  let s := s.each (List.range 4) (fun s g => s.grpStop g 7)
  (s.setDev .ready).refresh

/-- Entry to CONFIG; the credits that it sends carry this reason, none for GO_CONFIG (R96). -/
def enterConfig (s : Sys) (reason : Option Nat) : Sys :=
  let s := s.setDev .config
  (reason.elim s (fun r => s.creditsOnConfig r)).refresh

/-- The detection time that the gatherer has recorded for a code: that of its newest log entry (R367, R492). -/
def recordedAt (s : Sys) (code : Nat) : Nat := ((s.gath.log.reverse.find? (fun e => decide (e.code = code))).map (fun e => e.at_)).getD s.now

/-- Entry to FAULT from START or SERVICE, for a fault detected at `t` (R57, R59, R367). -/
def enterFaultState (s : Sys) (code t : Nat) : Sys :=
  let s : Sys := { s with dev := .fault, pendState := none, smp := { s.smp with entries := s.smp.entries + 1 } }
  ((s.wr Key.Gath.FIRST_FREEZE code).captureSource 0x51 t).faultEffects code

/-- Every slot is OFF or COAST, and every axis (R170, R310). -/
def allRest (s : Sys) : Bool :=
  (List.range 64).all (fun n => decide (s.slotState n = 0 ∨ s.slotState n = 3)) && (List.range 8).all (fun a => decide (s.axState a = 0 ∨ s.axState a = 7))

/-- The lowest of some numbers. -/
def lowest (l : List Nat) : Nat := (l.min?).getD 0

/-- The matrix of R57 in device state `d`: none refuses, false has no effect, true acts or is tested further. -/
def devMatrix (d : DevState) (cmd : Nat) : Option Bool :=
  match d, cmd with
  | .start, _ => none
  | _, 8 => some true
  | .armed, 4 => some true
  | _, 4 => some false
  | .fault, 7 => some true
  | _, 7 => some false
  | .config, 1 => some false
  | .ready, 1 => some true
  | .config, 2 => some true
  | .ready, 2 => some false
  | .ready, 3 => some true
  | .armed, 3 => some false
  | .config, 5 => some true
  | .fault, 5 => some true
  | .service, 5 => some false
  | .service, 6 => some true
  | _, _ => none

/-- What a DEVICE_COMMAND is refused with beyond the checks every write has, and STATE_CAUSE for the refusals that set it (R46,
R57 to R59). -/
def devAbort (s : Sys) (cls : Cls) (cmd bad : Nat) : Sys × Nat :=
  let refuse (s : Sys) (cause detail : Nat) : Sys × Nat := (s.setCause cause detail (devCode s.dev) (devCode s.dev) (clsCode cls), 0x0803)
  let busy : Nat := if s.pendState.isSome ∧ cmd ≠ 8 then 0x0805 else 0
  if (cmd = 5 ∨ cmd = 6) ∧ cls = .fs then (s, 0x0701)
  else if cmd < 1 ∨ 8 < cmd then (s, 0x0604)
  else match devMatrix s.dev cmd with
    | none => (s, 0x0803)
    | some false => (s, busy)
    | some true =>
      if cmd = 2 then
        let t := (s.tableChecks bad).showLoads
        match t.readyFaults bad with
        | [] => (t, busy)
        | l => refuse t 0x11 (lowest l)
      else if cmd = 3 then
        if !s.pads.lsafe then refuse s 0x12 3
        else if s.rdB Key.Restore.ACK_REQUIRED then refuse s 0x13 3
        else (s, busy)
      else if cmd = 7 ∧ s.freezeActive ≠ [] then refuse s 0x22 (lowest s.freezeActive)
      else (s, busy)

/-- The effect of an accepted DEVICE_COMMAND (R57, R58), on the state that its checks have left. -/
def devAct (s : Sys) (cls : Cls) (cmd : Nat) : Sys :=
  if devMatrix s.dev cmd ≠ some true then s
  else
    let from_ := devCode s.dev
    let cause (s : Sys) (to_ : Nat) : Sys := s.setCause 0x10 cmd from_ to_ (clsCode cls)
    match cmd with
    | 1 =>
      let s : Sys := { s with pendState := some .config, eng := { s.eng with pendReq := clsCode cls } }
      let s := s.each (List.range 64) slotLeave
      s.each (List.range 8) (fun s a => if s.axState a = 2 ∨ s.axState a = 3 then s.axCause a false 10 else s.axDevice a)
    | 2 => (((cause s 2).each (List.range 16) fixGeometry).setDev .ready).refresh
    | 3 => ((cause s 3).setDev .armed).refresh
    | 4 => (cause s 2).disarmed
    | 5 =>
      let s := (cause s 5).setDev .service
      let s := s.each (List.range 64) (fun s n => if s.slotState n = 0 then s else s.slotOff n 3)
      (s.each (List.range 8) axOff).refresh
    | 6 =>
      let s := s.testsEnd
      if s.freezeActive = [] then (cause s 1).enterConfig (some 1) else ((cause s 4).enterFaultState (lowest s.freezeActive) (s.recordedAt (lowest s.freezeActive)))
    | 7 => (cause s 1).enterConfig (some 1)
    | _ => { s.setCause 2 8 from_ 0 (clsCode cls) with pendState := some .start, eng := { s.eng with warmPending := true } }

/-- The pending transition to CONFIG completes when the last slot or axis has stopped (R58). -/
def goConfigDone (s : Sys) : Sys :=
  if s.pendState = some .config ∧ s.dev = .ready ∧ s.allRest then
    let s := s.setCause 0x10 1 2 1 s.eng.pendReq
    let halts := (List.range 48).any (fun u => s.updRuns u)
    let s := ({ s with pendState := none } : Sys).calDeviceState.enterConfig none
    -- CAL_SWAP of the halted updates may carry the FAULT reaction (R240, R489)
    s.when (halts && decide (s.reaction 0x29 = 4)) (fun s => s.enterFault 0x29 s.now)
  else s

/-- LSAFE_N falls (R23, R58, R59, R496). -/
def lsafeLow (s : Sys) : Sys :=
  if !s.pads.lsafe then s
  else
    let s : Sys := { s with pads := { s.pads with lsafe := false } }
    let s := s.refresh.capturePin 0x40 false
    -- the stop of R142 has its own cause, whatever the reaction of the fault does after it
    (if s.dev = .armed then (s.setCause 0x21 0 3 2 0).disarmed else s).faultNow 0x6F 0 0

/-- LSAFE_N rises (R23, R496). -/
def lsafeHigh (s : Sys) : Sys :=
  if s.pads.lsafe then s
  else (({ s with pads := { s.pads with lsafe := true } } : Sys).clearActive 0x6F 0 0).refresh.capturePin 0x40 true

/-! ### Resets (R58, R59, R458, R459) -/

/-- WARM_RESET acts (R58): blocks are reset, and firmware starts again from the boot sources. -/
def warmReset (s : Sys) (otp : Nat → Nat) : Sys := (s.resetWarm.bootList otp).laneRefresh

/-- The trial of an image ends unconfirmed (R438). -/
def trialReset (s : Sys) (otp : Nat → Nat) : Sys :=
  let run := s.rd Key.Image.RUNNING
  let s := s.setCause 2 8 (devCode s.dev) 0 0
  (s.when (decide (run < 2)) (fun s => s.wrBit Key.Image.BOOT_STATE (2 + run) true)).warmReset otp

/-- The trial has run out. -/
def trialOver (s : Sys) : Bool := s.core.trialAt.isSome && decide (s.core.trialMs ≤ s.trialGone)

/-- POR_N or RST_N is low (R459, R522, R534): every block is in reset, and the rails are on. -/
def inReset (s : Sys) : Sys :=
  if s.pw.state = .off ∧ s.pw.pmic ≠ 15 then s
  else
    let r := s.resetCold
    ({ r with pw := { r.pw with state := .reset } } : Sys).floatAnalog

/-- VAON has fallen (R459, R535): the AON registers and the retention SRAM are lost with everything but MRAM and fuses. -/
def vaonLost (s : Sys) : Sys :=
  let r := s.resetBase isKept
  ({ r with pw := { state := .off, pmic := 0, wakePins := s.pw.wakePins }, aonEpoch := s.aonEpoch + 1
            mem := r.mem.filter (fun c => decide (c.1 < 0x30000000 ∨ 0x30004000 ≤ c.1)) } : Sys).floatAnalog

/-- One output of PMIC_EN changes, `ns` after the one before it. -/
def railStep (s : Sys) (ns b : Nat) (on : Bool) : Sys :=
  ({ s with pw := { s.pw with pmic := putBit s.pw.pmic b on } } : Sys).emit (.rails ns (putBit s.pw.pmic b on))

/-- The outputs of PMIC_EN that are low rise in their order (R458). -/
def railsOn (s : Sys) (ns : Nat) : Sys := s.each ([3, 0, 1, 2].filter (fun b => !s.pw.pmic.testBit b)) (fun s b => s.railStep ns b true)

/-- The outputs of PMIC_EN fall in their order, the last one unless KEEP_IO is set (R458, R465). -/
def railsOff (s : Sys) (ns : Nat) (keep : Bool) : Sys := s.each (if keep then [2, 1, 0] else [2, 1, 0, 3]) (fun s b => s.railStep ns b false)

/-- VAON is in its range, and AON raises the rails at intervals of 1 ms (R458, R459). -/
def vaonRisen (s : Sys) : Sys := if s.pw.state = .off then s.railsOn 1000000 else s

/-- Release of POR_N or RST_N (R59, R97, R434, R441, R498, R504): START, with the strap value sampled and the flash that the ROM can
read. The first cold start in RMA wipes. -/
def coldStart (s : Sys) (otp : Nat → Nat) (strap : Nat) (flash : List (List Nat)) : Sys :=
  let s := s.resetCold.modCore (fun c => { c with flash := flash })
  let s := ((s.readFuses otp).wr Key.Image.BOOT_STATE (16 * strap)).setCause 1 0 0 0 0
  let s := s.workRestore
  let s := if s.smp.ticks = 0 then s.smpOpen else s.smpClose 2
  let s := s.when ((Sys.otpByte otp 9).testBit 2 && !(otpByte otp 9).testBit 3) rmaWipe
  ((s.eqRead (List.range 16)).bootList otp).laneRefresh

/-! ### The end of the restore (R59, R64, R554) -/

/-- The generation count of a pair both of whose copies failed, from the counts that could be read (R553). -/
def reformed : List Nat → Nat
  | [] => 1
  | g :: t => (t.foldl max g + 1) % 2 ^ 32

/-- The banks and pairs that the restore finds (R64, R553): bits 31 to 0 of `bad` are the banks that fail their check, bits 63 to 32
those whose generation count cannot be read either. -/
def restorePairs (s : Sys) (bad : Nat) : Sys :=
  s.each (List.range 16) (fun s p =>
    let a := (s.pair p).okA && !bad.testBit (2 * p)
    let b := (s.pair p).okB && !bad.testBit (2 * p + 1)
    let s := (s.wrBit Key.StoreFail.FAILED_AT_RESTORE (2 * p) (!a)).wrBit Key.StoreFail.FAILED_AT_RESTORE (2 * p + 1) (!b)
    let s := (s.wrBit Key.StoreFail.FAILED_NOW (2 * p) (!a)).wrBit Key.StoreFail.FAILED_NOW (2 * p + 1) (!b)
    let s := s.modPair p (fun q => { q with okA := a, okB := b, building := !a || !b })
    let q := s.pair p
    if a || b then s.loadPair p (chosenCopy q).1
    else
      let g := reformed ((if bad.testBit (32 + 2 * p) then [] else [q.genA]) ++ (if bad.testBit (33 + 2 * p) then [] else [q.genB]))
      ((s.pairDefaults p).wrBit Key.StoreFail.DEFAULTED_PAIRS p true).modPair p (fun q => { q with genA := g, genB := g }))

/-- A domain whose stored ENABLE bit is clear is gated at the end of the restore; the others follow their stored values (R457, R554). -/
def restoreDomains (s : Sys) : Sys :=
  s.each (List.range 15) (fun s d =>
    if s.rdBit Key.Dom.ENABLE d then (s.wrBit Key.Dom.POWERED d true).domainStart d else (s.domainCold d).wrBit Key.Dom.POWERED d false)

/-- The restore ends (R59, R64, R223, R267, R393). -/
def restored (s : Sys) (us bad : Nat) : Sys :=
  if s.dev ≠ .start ∨ s.rd Key.Restore.RESTORE_STATUS ≠ 0 ∨ s.pw.state ≠ .run then s
  else
    let s := s.restorePairs bad
    let failed := s.rd Key.StoreFail.FAILED_AT_RESTORE
    let s := (s.wr Key.Restore.RESTORE_STATUS (if s.rd Key.StoreFail.DEFAULTED_PAIRS = 0 then 1 else 2)).wr Key.Restore.RESTORE_TIME (us % 2 ^ 32)
    let s := s.when (decide (failed ≠ 0)) (fun s => (s.wrB Key.Restore.ACK_REQUIRED true).faultNow 0x6C 0 0)
    let s := (s.each (List.range 48) calRestore).picotRestore.gatewayMac
    let s := s.restoreDomains
    let s := (s.each ((List.range 2).filter (fun p => !s.rdB (Key.Port.ENABLE p))) (fun s p => s.portEnable p 0)).laneRefresh
    let s := s.when (decide (s.rd Key.DmcSt.STATE ≠ 2)) (fun s => s.faultNow 0x5B 12 0)
    match s.eng.freezeInStart with
    | some (code, t) => (s.setCause 0x20 code 0 4 0).enterFaultState code t
    | none => (s.setCause 4 0 0 1 0).enterConfig (some 2)

end Sys

/-! ### Commands -/

/-- VAON_RISE (R458, R459). -/
def execVaonRise (s : State) : Host.Outcome State Fault Refusal := onUnit (fun s => s.vaonRisen) s

/-- VAON_LOSS (R459, R535). -/
def execVaonLoss (s : State) : Host.Outcome State Fault Refusal := onUnit (fun s => s.vaonLost) s

/-- RESET_ASSERT (R459, R534). -/
def execResetAssert (s : State) : Host.Outcome State Fault Refusal := onUnit (fun s => s.inReset) s

/-- COLD_START (R59, R434). The first one in RMA sets RMA_WIPED (R442). -/
def execColdStart (boot : Fin 4) (flash : List (List Nat)) (s : State) : Host.Outcome State Fault Refusal :=
  if s.pw.state = .off ∧ s.pw.pmic ≠ 15 then .next s
  else
    let wipe := (Sys.otpByte s.otpWord 9).testBit 2 && !(Sys.otpByte s.otpWord 9).testBit 3
    let t : State := { s with toSys := s.toSys.coldStart s.otpWord boot flash }
    .next (if wipe then { t with otp := Kv.put (fun _ => (0 : Word)) 2 (BitVec.ofNat 64 (programmed (s.otpWord 2) 0x800)) t.otp } else t)

/-- WARM_RESET_ACTS (R58). -/
def execWarmResetActs (s : State) : Host.Outcome State Fault Refusal :=
  onSys (fun t => if t.eng.warmPending then t.warmReset s.otpWord else t) s

/-- RESTORED (R64). -/
def execRestored (us bad : Nat) (s : State) : Host.Outcome State Fault Refusal := onSys (fun s => s.restored us bad) s

/-- GO_CONFIG_COMPLETE (R58). -/
def execGoConfigComplete (s : State) : Host.Outcome State Fault Refusal := onSys (fun s => s.goConfigDone) s

/-- LSAFE_FALL (R23, R59). -/
def execLsafeFall (s : State) : Host.Outcome State Fault Refusal := onUnit (fun s => if s.powered then s.lsafeLow else { s with pads := { s.pads with lsafe := false } }) s

/-- LSAFE_RISE (R23, R496). -/
def execLsafeRise (s : State) : Host.Outcome State Fault Refusal := onUnit (fun s => if s.powered then s.lsafeHigh else { s with pads := { s.pads with lsafe := true } }) s

/-- STORE_COMMAND_COMPLETE (R551). -/
def execStoreCommandComplete (bad : Nat) (s : State) : Host.Outcome State Fault Refusal := onSys (fun s => s.storeDone bad) s

end Sys2Proof.Machine
end

