-- ==== Sys2Proof/Machine/Power.lean ====
section
/-! DEFINITION. Power: the power commands NAP and HOLD, gating and powering of domains, wake sources and wake, retention banks, pads and clocks
(R453 to R482). -/

namespace Sys2Proof.Machine

open Sys2Proof

namespace Sys

/-! ### Freedom of domains (R456, R461) -/

/-- The numbers below `n` for which `p` holds. -/
def which (n : Nat) (p : Nat → Bool) : List Nat := (List.range n).filter p

/-- The operations of the last row of R461 that run, by their command entries. -/
def runningOps (s : Sys) : List Nat :=
  failing [(s.eng.command.isSome, Key.Store.STORE_COMMAND), (s.core.mram.isSome, Key.Mram.COMMAND), (s.core.check.isSome, Key.Image.COMMAND)] ++
    ((which 48 (fun u => decide (u ∈ s.cal.copies) || decide (1 ≤ s.rd (updKey u 0x0A) ∧ s.rd (updKey u 0x0A) ≤ 3))).map (fun u => updKey u 0x0A))

/-- The entries that keep the domains of mask `m` from being gated, with their aborts, in the order of R461. For NAP every block is
judged, and `m` is NAP_DOMAINS; for a write of `0402.01` the blocks of the domains that it clears (log entry 37). -/
def notFree (s : Sys) (m : Nat) (nap : Bool) : List (Nat × Nat) :=
  let at_ (d : Nat) : Bool := nap || m.testBit d
  let ce (c : Nat) : Bool := at_ (7 + c / 4) || at_ 11
  let group (l : Nat) : Bool := at_ (2 + l / 4)
  let blocks : List Nat :=
    (which 16 (fun c => (ce c || (at_ 12 && decide (s.rd (Key.Ch.MODE c) = 1))) && decide (s.chState c ≠ 0))).map Key.Ch.STATE ++
    (which 64 (fun n => at_ (if n < 48 then 7 + n / 12 else 7 + (n - 48) / 4) && decide (s.slotState n ≠ 0))).map Key.Slot.STATE ++
    (which 8 (fun a => at_ 13 && decide (s.axState a ≠ 0))).map Key.Axis.STATE ++
    (which 4 (fun g => at_ 12 && decide (s.grpState g ≠ 0))).map Key.Grp.STATE ++
    (which 2 (fun p => at_ 14 && s.rdB (Key.Csi.ENABLE p))).map Key.Csi.ENABLE ++
    (which 16 (fun k => at_ 14 && s.rdB (Key.Ctx.ENABLE k))).map Key.Ctx.ENABLE ++
    (which 8 (fun n => nap && s.rdB (Key.Ep.ENABLE n))).map Key.Ep.ENABLE ++
    (which 2 (fun n => group (s.rd (Key.Mac.LANE n)) && s.rdB (Key.Mac.ENABLE n))).map Key.Mac.ENABLE ++
    (which 8 (fun l => (at_ 12 || group (s.rd (Key.Link.LANE l))) && s.rdB (Key.Link.ENABLE l))).map Key.Link.ENABLE ++
    (which 16 (fun l => group l && decide (s.rd (Key.Lane.STAGE l) = 5))).map Key.Lane.STAGE ++
    (which 32 (fun d => nap && decide (s.dmaState d = 2 ∨ s.dmaState d = 3))).map Key.Dma.STATE ++
    failing [(m.testBit 0 && decide (s.core.apRun ≠ 0), if nap then Key.Pwr.NAP_DOMAINS else Key.Dom.ENABLE),
      (at_ 1 && decide (s.rd Key.DmcSt.STATE = 1 ∨ s.rd Key.DmcSt.STATE = 3), Key.DmcSt.STATE),
      (nap && !m.testBit 1 && decide (s.rd Key.DmcSt.STATE = 2), Key.DmcSt.STATE)]
  blocks.map (fun k => (k, 0x0803)) ++ s.runningOps.map (fun k => (k, 0x0805))

/-- A command of `0400.01` waits to act (R460, R465). -/
def powerPending (s : Sys) : Bool := s.pw.napPending || s.pw.holdPending

/-- What NAP is refused with (R460, R461), with BLOCKER. -/
def napAbort (s : Sys) (cls : Cls) : Sys × Nat :=
  if cls ≠ .fm then (s, 0x0701)
  else if s.dev = .start ∨ s.dev = .armed then (s.wr Key.PwrSt.BLOCKER 0x11100, 0x0803)
  else match s.notFree (s.rd Key.Pwr.NAP_DOMAINS) true with
    | (k, code) :: _ => (s.wr Key.PwrSt.BLOCKER k, code)
    | [] => (s, if s.powerPending then 0x0805 else 0)

/-- What HOLD is refused with (R465). -/
def holdAbort (s : Sys) (cls : Cls) : Nat :=
  if cls = .fs then 0x0701
  else if s.dev ≠ .config ∧ s.dev ≠ .service then 0x0803
  else if s.runningOps ≠ [] ∨ s.powerPending then 0x0805 else 0

/-- NAP is accepted: entry begins at the next wfi of SV (R460). -/
def napStart (s : Sys) : Sys := { s with pw := { s.pw with napPending := true, napAt := s.core.mtime } }

/-- SV has not executed wfi within 10 ms of NAP (R460). -/
def napAbandon (s : Sys) : Sys :=
  if s.pw.napPending ∧ s.pw.napAt + 250000 ≤ s.core.mtime then
    { s.wr Key.PwrSt.RESULT 0x0805 with pw := { s.pw with napPending := false } }
  else s

/-- What a write of `0402.01` is refused with (R456): a cleared domain is not free, or carries an active chain port. -/
def domAbort (s : Sys) (v : Nat) : Sys × Nat :=
  let off (d : Nat) : Bool := s.rdBit Key.Dom.ENABLE d && !v.testBit d
  let m := (which 15 off).foldl (fun m d => putBit m d true) 0
  if m ≠ 0 ∧ (s.dev = .start ∨ s.dev = .armed) then (s.wr Key.PwrSt.BLOCKER 0x11100, 0x0803)
  else if (which 4 (fun g => off (2 + g) && s.chainGroups.testBit g)) ≠ [] then (s, 0x0803)
  else match s.notFree m false with
    | (k, _) :: _ => if m = 0 then (s, 0) else (s.wr Key.PwrSt.BLOCKER k, 0x0803)
    | [] => (s, 0)

/-- An accepted write of `0402.01` (R456, R457): cleared domains lose their power, set ones wait for DOMAIN_POWERED. Bit 15 reads 1. -/
def domWrite (s : Sys) (v : Nat) : Sys :=
  let old := s.rd Key.Dom.ENABLE
  let s := s.wr Key.Dom.ENABLE (v % 32768 + 32768)
  s.each (which 15 (fun d => old.testBit d != v.testBit d)) (fun s d =>
    let s := (s.wrBit Key.Dom.POWERED d false).wrBit Key.Dom.CLOCKED d false
    ({ s with pw := { s.pw with waking := putBit s.pw.waking d (v.testBit d) } } : Sys).domainCold d)

/-- The DRAM leaves self-refresh once DMC is powered and its DFI clock runs (R392, R395, R471). -/
def leaveSelfRefresh (s : Sys) : Sys :=
  s.when (s.rdBit Key.Pll.SOURCE 4 && decide (s.rd Key.DmcSt.STATE = 4) && s.rdBit Key.Dom.POWERED 1) (fun s => s.applyRepairs.dramRun)

/-- A domain that powers up is ready (R457, R471). The return from NAP ends with the last one. -/
def domPowered (s : Sys) (d : Nat) : Sys :=
  if s.pw.waking.testBit d ∧ s.pw.state = .run then
    let s : Sys := { s with pw := { s.pw with waking := putBit s.pw.waking d false } }
    let s := ((s.wrBit Key.Dom.POWERED d true).domainStart d).leaveSelfRefresh
    s.when (decide (s.pw.waking = 0 ∧ s.rd Key.PwrSt.STATE = 2)) (fun s => s.wr Key.PwrSt.STATE 0)
  else s

/-- Every block of a domain is in its OFF or DISABLED state (R455). -/
def domainRests (s : Sys) (d : Nat) : Bool :=
  ((s.notFree (2 ^ d) false).filter (fun x => decide (x.2 = 0x0803))).isEmpty &&
    (decide (d ≠ 1) || decide (s.rd Key.DmcSt.STATE = 0)) && (decide (d ≠ 6) || !s.timeRuns) &&
    (decide (d < 2 ∨ 5 < d) || (List.range 4).all (fun i => decide (s.rd (Key.Lane.STAGE (4 * (d - 2) + i)) = 0)))

/-- A domain in which a block has left its OFF or DISABLED state runs its clock again (R455). -/
def clocksTick (s : Sys) : Sys :=
  s.each (which 15 (fun d => !s.rdBit Key.Dom.CLOCKED d && s.rdBit Key.Dom.POWERED d && s.domainOn d && !s.domainRests d)) (fun s d => s.wrBit Key.Dom.CLOCKED d true)

/-- A domain at rest stops its clock (R455). -/
def domainIdle (s : Sys) (d : Nat) : Sys := if s.domainOn d && s.domainRests d then s.wrBit Key.Dom.CLOCKED d false else s

/-! ### Clocks (R14, R472) -/

/-- The PLL of a bit of SOURCE. -/
def pllOf (b : Nat) : Nat := if b ≤ 2 then 0 else b - 2

/-- What a write of PLL_ENABLE is refused with: a PLL whose clock is selected is stopped (R472). -/
def pllAbort (s : Sys) (v : Nat) : Nat :=
  if (List.range 6).any (fun b => s.rdBit Key.Pll.SOURCE b && !v.testBit (pllOf b)) then 0x0803 else 0

/-- An accepted write of PLL_ENABLE: a stopped PLL is not locked. -/
def pllWrite (s : Sys) (v : Nat) : Sys := (s.wr Key.Pll.PLL_ENABLE (v % 16)).wr Key.Pll.PLL_LOCKED (s.rd Key.Pll.PLL_LOCKED &&& (v % 16))

/-- What a write of SOURCE is refused with (R472). -/
def sourceAbort (s : Sys) (v : Nat) : Nat :=
  if (List.range 6).any (fun b => (s.rdBit Key.Pll.SOURCE b && !v.testBit b) || (!s.rdBit Key.Pll.SOURCE b && v.testBit b && !s.rdBit Key.Pll.PLL_LOCKED (pllOf b)))
  then 0x0803 else 0

/-- Clocks switch to their PLLs (R14, R358, R392, R472): device time starts with TCLK, the DRAM leaves
self-refresh with its clock, and PEN sees its gate inputs from then on. -/
def sourceWrite (s : Sys) (v : Nat) : Sys :=
  let started := !s.rdBit Key.Pll.SOURCE 0 && v.testBit 0
  let s := s.wr Key.Pll.SOURCE (v % 64)
  let s := s.when (started && s.domainOn 12) (fun s => s.each (List.range 12) gateEval)
  let s := s.wrBit Key.TimeSt.TIME_STATUS 0 (s.rdBit Key.Pll.SOURCE 1)
  s.leaveSelfRefresh.laneRefresh

/-- A started PLL locks (R472). In START the boot ROM then switches FCLK, SCLK and TCLK to PLL_SYS, so that the chain runs (R14, R97; log
entry 38). -/
def pllLock (s : Sys) (n : Nat) : Sys :=
  if s.dev = .start ∧ n = 0 ∧ s.pw.state = .run then
    let s := (s.wrBit Key.Pll.PLL_ENABLE 0 true).wrBit Key.Pll.PLL_LOCKED 0 true
    s.sourceWrite (s.rd Key.Pll.SOURCE ||| 3)
  else if s.rdBit Key.Pll.PLL_ENABLE n then s.wrBit Key.Pll.PLL_LOCKED n true
  else s

/-! ### Pads (R477, R480) -/

/-- The domains that have pads (R476). -/
def padDomains : Nat := 0xB800

/-- What a write of RELEASE is refused with (R480): a domain named is not powered, or its restore has not finished. -/
def releasePadsAbort (s : Sys) (v : Nat) : Nat :=
  if (List.range 15).any (fun d => v.testBit d && (!s.rdBit Key.Dom.POWERED d || s.pw.waking.testBit d)) then 0x0803 else 0

/-- Pads are released, and follow their blocks (R480). -/
def releasePads (s : Sys) (v : Nat) : Sys := (s.wr Key.Pad.HELD (s.rd Key.Pad.HELD &&& (65535 - v % 65536))).refresh

/-! ### Retention banks (R473 to R475) -/

/-- The domains whose state a NAP bank holds. -/
def bankDomains (k : Nat) : List Nat :=
  match k with
  | 0 => [7, 8, 9, 10, 11] | 1 => [12, 13, 6] | 2 => [0, 1] | _ => [2, 3, 4, 5, 14]

/-- An entry that a NAP bank holds: writable, not stored, of a domain of the mask. -/
def inBank (m k : Nat) : Bool :=
  m.testBit (domainOf (keyIdx k)) && decide (domainOf (keyIdx k) ≠ 15) && !isKept k &&
    (Dict.find (keyIdx k) (keySub k)).elim false (fun r => decide (r.acc = .rw))

/-- The bytes of a bank whose layout the spec does not give: open values, and the generation count (log entry 39). -/
def bankBytes (which_ gen len : Nat) : List Nat :=
  (List.range (len - 4)).map (fun (i : Nat) => (Config.openValue 3 [(which_ : Int), (gen : Int), (i : Int)]).toNat % 256) ++ le 4 gen

/-! ### NAP (R460 to R464) -/

/-- The domains that an entry to NAP gates (R453, R463): enabled ones of NAP_DOMAINS, but not the lane groups of active chain ports. -/
def napGated (s : Sys) : Nat :=
  (which 15 (fun d => s.rdBit Key.Pwr.NAP_DOMAINS d && s.rdBit Key.Dom.ENABLE d && !(decide (2 ≤ d ∧ d ≤ 5) && s.chainGroups.testBit (d - 2)))).foldl
    (fun m d => putBit m d true) 0

/-- A domain is gated at NAP entry: DRAM goes to self-refresh with its contents and trained delays (R392, R462). -/
def napGate (s : Sys) (d : Nat) : Sys :=
  let st := s.rd Key.DmcSt.STATE
  let s := (s.wrBit Key.Dom.POWERED d false).wrBit Key.Dom.CLOCKED d false
  if d = 1 then (s.clearEntries (coldEntry 1)).when (decide (st = 2)) (fun s => s.wr Key.DmcSt.STATE 4) else s.domainCold d

/-- Entry to NAP begins (R462): pads held, banks written, domains gated, PLLs stopped. -/
def napEnter (s : Sys) : Sys :=
  let g := s.napGated
  let gen := (s.rd Key.WakeSt.NAP_GEN + 1) % 2 ^ 32
  let bank : Bank := { od := s.od.filter (fun c => inBank g c.1), vectors := s.core.vectors }
  let s := (s.workWrite true true).wr Key.WakeSt.NAP_GEN gen
  let s := s.wr Key.Pad.HELD (s.rd Key.Pad.HELD ||| padDomains)
  let s := s.each ((List.range 4).filter (fun k => (bankDomains k).any (fun d => g.testBit d))) (fun s k =>
    s.setBytes (0x30002000 + 0x800 * k) (bankBytes k gen 2048))
  let s := (((s.wr Key.Pll.SOURCE (s.rd Key.Pll.SOURCE &&& 2)).wr Key.Pll.PLL_ENABLE (s.rd Key.Pll.PLL_ENABLE &&& 1)).wr
    Key.Pll.PLL_LOCKED (s.rd Key.Pll.PLL_LOCKED &&& 1)).wr Key.PwrSt.STATE 1
  let s := s.each (which 15 (fun d => g.testBit d)) napGate
  let s : Sys := { s with core := { s.core with wfi := 1 }, pw := { s.pw with
    state := .napEntry, napPending := false, ticks := 0, latched := 0, gated := g, faultSeen := false, timerDone := false, nap := bank, napBanks := true } }
  s.refresh

/-- SV executes wfi (R460). -/
def wfi (s : Sys) : Sys := if s.pw.napPending ∧ s.pw.state = .run then s.napEnter else s

/-- One idle tick of 4 ns of an entry to NAP, and of NAP (R462). -/
def napTick (s : Sys) : Sys :=
  match s.pw.state with
  | .nap => { s with pw := { s.pw with ticks := s.pw.ticks + 1 } }
  | .napEntry =>
    if s.pw.ticks + 1 < napTicks then { s with pw := { s.pw with ticks := s.pw.ticks + 1 } }
    else { s.inc Key.PwrSt.NAPS with pw := { s.pw with ticks := napTicks, state := .nap } }
  | _ => s

/-! ### Wake (R468 to R471) -/

/-- The wake sources that are asserted, as a mask of R468. -/
def sources (s : Sys) : Nat :=
  let pin (n : Nat) : Bool :=
    match s.rd Key.Wake.PIN_MODE / 4 ^ n % 4 with
    | 0 => s.pw.wakePins.testBit n
    | 1 => !s.pw.wakePins.testBit n
    | _ => s.pw.latched.testBit n
  let queued := s.eng.waits.any (fun w => match w.acc.who with | .chain _ => true | .window _ _ => false)
  ((List.range 4).foldl (fun m n => putBit m n (pin n)) 0) + 16 * b2n s.pw.timerDone + 32 * b2n queued + 64 * b2n (s.pw.latched.testBit 6) +
    128 * b2n (s.pw.latched.testBit 7) + 256 * b2n s.pw.faultSeen + 512 * b2n (s.pw.latched.testBit 9) + 1024 * b2n s.svInterrupt

/-- The enabled sources that are asserted and wake the unit from its power state; SV_INTERRUPT is always enabled in NAP (R468). -/
def waking (s : Sys) : Nat :=
  match s.pw.state with
  | .nap => s.sources &&& (s.rd Key.Wake.ENABLE ||| 1024)
  | .hold => s.sources &&& s.rd Key.Wake.ENABLE &&& 31
  | _ => 0

/-- The WAKE pins take their levels; an edge of a pin in edge mode is latched (R468, R470). -/
def wakePins (s : Sys) (v : Nat) : Sys :=
  let old := s.pw.wakePins
  let s := s.each (List.range 4) (fun s n =>
    let mode := s.rd Key.Wake.PIN_MODE / 4 ^ n % 4
    s.when ((decide (mode = 2) && !old.testBit n && v.testBit n) || (decide (mode = 3) && old.testBit n && !v.testBit n)) (fun s => s.wakeEdge n))
  { s with pw := { s.pw with wakePins := v } }

/-- The return from NAP (R471, R475): `bad` are the banks that fail their check. Domains gated at entry power up, with what the good
banks hold. -/
def napWake (s : Sys) (cause bad : Nat) : Sys :=
  let g := s.pw.gated
  let bank := s.pw.nap
  let failed := (List.range 4).filter (fun k => bad.testBit k && (bankDomains k).any (fun d => g.testBit d))
  let cold := (failed.flatMap bankDomains).filter (fun d => g.testBit d)
  let us := (s.pw.ticks - napTicks) * 4 / 1000
  let s : Sys := { s with core := { s.core with wfi := 0 }, pw := { s.pw with state := .run, gated := 0, latched := 0, waking := g } }
  let s := (s.wr Key.WakeSt.CAUSE cause).wr Key.WakeSt.WAKE_TIME s.now
  let s := ((s.wr Key.PwrSt.LAST_NAP (min us (2 ^ 32 - 1))).wr Key.PwrSt.STATE (if g = 0 then 0 else 2))
  let s : Sys := { s with od := bank.od.foldl (fun od c =>
    if domainOf (keyIdx c.1) ∈ cold then od else Kv.put odDefaultWord c.1 c.2 od) s.od }
  let s := s.when (g.testBit 0 && !decide (0 ∈ cold)) (fun s => s.modCore (fun c => { c with vectors := bank.vectors }))
  let s := s.when (decide (1 ∈ cold)) (fun s => s.domainCold 1)
  let s := (s.wr Key.WakeSt.FAILED_BANKS (failed.foldl (fun m k => putBit m k true) 0)).wr Key.WakeSt.COLD_DOMAINS
    (cold.foldl (fun m d => putBit m d true) 0)
  let s := s.when (decide (failed ≠ [])) (fun s => (s.wrB Key.Restore.ACK_REQUIRED true).faultNow 0x6C 0 0)
  let s := s.when s.smp.wrote (fun s => (s.modSmp (fun q => { q with wrote := false })).raise 62)
  s.refresh

/-! ### HOLD (R465 to R467) -/

/-- Where hold bank `n` stands in the read map of the MRAM (R433, R473). -/
def holdBank (n : Nat) : Nat := 0x20E00000 + 0x4000 * n

/-- The number of hold banks that the save area takes (R474). -/
def saveBanks (s : Sys) : Nat := if s.rdB Key.Pwr.SAVE_ENABLE then (s.rd Key.Pwr.SAVE_LEN + 16319) / 16320 else 0

/-- An entry of AON, or of the counts in MRAM, that HOLD keeps beside the stored ones. -/
def holdEntry (k : Nat) : Bool :=
  isKept k || decide (keyIdx k ∈ [0x120, 0x121, 0x404]) || decide (k = Key.PwrSt.HOLDS ∨ k = Key.Pad.HELD)

/-- Entry to HOLD (R465): the chain is left, pads are held, the hold image is written, the rails fall, and the wake
logic begins to arm itself. -/
def holdEnter (s : Sys) : Sys :=
  if !s.pw.holdPending ∨ s.pw.state ≠ .run then s
  else
    let keep := s.rdB Key.Pwr.KEEP_IO
    let step := 1000 * s.rd Key.Pwr.RAIL_STEP
    let gen := (s.rd Key.WakeSt.HOLD_GEN + 1) % 2 ^ 32
    let strap := s.rd Key.Image.BOOT_STATE / 16 % 4
    let area := s.bytes (s.rd Key.Pwr.SAVE_ADDR) (if s.rdB Key.Pwr.SAVE_ENABLE then s.rd Key.Pwr.SAVE_LEN else 0)
    let hb : Bank := { od := s.od.filter (fun c => decide (0x80001 ≤ c.1 ∧ c.1 ≤ 0x80008)), delays := s.dram.delays, osc := s.dram.oscBase }
    let s := ((s.workWrite true true).wr Key.WakeSt.HOLD_GEN gen).inc Key.PwrSt.HOLDS
    let s := s.wr Key.Pad.HELD (s.rd Key.Pad.HELD ||| padDomains)
    let s := s.setBytes (holdBank 0) (bankBytes 4 gen 16384)
    let s := s.each ((List.range s.saveBanks).map (fun i => i + 1)) (fun s n =>
      let part := (area.drop (16320 * (n - 1))).take 16320
      let data := part ++ List.replicate (16376 - part.length) 0
      s.setBytes (holdBank n) (data ++ le 4 (crc32 data) ++ le 4 gen))
    let pads := s.pads
    let r := s.resetBase holdEntry
    let r : Sys := { r with
      pw := { r.pw with state := .holdEntry, hold := hb, holdBanks := true, timerDone := false, ticks := 0, strap := strap, latched := s.pw.latched }
      pads := { pads with lpEn := 0, lpMod := 0, fire := 0, ilkOut := keep && pads.ilkOut, gpio := if keep then pads.gpio else 0 } }
    (r.railsOff step keep).floatAnalog

/-- One idle tick of 4 ns in AON (R465, R469): the wake logic arms itself, and HOLD is entered. -/
def aonTick (s : Sys) : Sys :=
  if s.pw.state = .holdEntry then
    { s with pw := if s.pw.ticks + 1 < holdTicks then { s.pw with ticks := s.pw.ticks + 1 } else { s.pw with ticks := 0, state := .hold } }
  else s

/-- Hold bank `n` of the save area passes its check (R475). -/
def holdBankOk (s : Sys) (n : Nat) : Bool :=
  let b := s.bytes (holdBank n) 16384
  s.pw.holdBanks && decide (u32At b 16376 = crc32 (b.take 16376) ∧ u32At b 16380 = s.rd Key.WakeSt.HOLD_GEN)

/-- The return from HOLD (R466, R467, R475): rails rise, START with HOLD_WAKE, HB0 and the save area are read, and the ROM boots. `bad`
are the banks that fail, bits 4 to 19. -/
def holdWake (s : Sys) (otp : Nat → Nat) (cause bad : Nat) : Sys :=
  let strap := s.pw.strap
  let hb0 := s.pw.holdBanks && !bad.testBit 4
  let banks := (List.range s.saveBanks).map (fun i => i + 1)
  let failed := (if hb0 then [] else [0]) ++ banks.filter (fun n => bad.testBit (4 + n) || !s.holdBankOk n)
  let hb := s.pw.hold
  let s := s.railsOn (1000 * s.rd Key.Pwr.RAIL_STEP)
  let s : Sys := { s with pw := { s.pw with state := .run, latched := 0, ticks := 0 } }
  let s := ((s.readFuses otp).wr Key.Image.BOOT_STATE (16 * strap)).setCause 3 0 0 0 0
  let s := s.when hb0 (fun s =>
    { s with od := hb.od.foldl (fun od c => Kv.put odDefaultWord c.1 c.2 od) s.od, dram := { s.dram with delays := hb.delays, oscBase := hb.osc } })
  let s := s.each banks (fun s n =>
    let len := min 16320 (s.rd Key.Pwr.SAVE_LEN - 16320 * (n - 1))
    s.setBytes (s.rd Key.Pwr.SAVE_ADDR + 16320 * (n - 1)) (if n ∈ failed then List.replicate len 0 else s.bytes (holdBank n) len))
  let s := ((s.wr Key.WakeSt.CAUSE cause).wr Key.WakeSt.COLD_DOMAINS 0).wr Key.WakeSt.FAILED_BANKS (failed.foldl (fun m n => putBit m (4 + n) true) 0)
  let s := s.when (decide (failed ≠ [])) (fun s => (s.wrB Key.Restore.ACK_REQUIRED true).faultNow 0x6C 0 0)
  ((s.eqRead (List.range 16)).bootList otp).laneRefresh

/-- The unit may wake (R468): the pins take their levels, and an enabled source brings it back from NAP or HOLD. -/
def wakeEvent (s : Sys) (otp : Nat → Nat) (pins bad : Nat) : Sys :=
  let s := s.wakePins pins
  let cause := s.waking
  if cause = 0 then s else if s.pw.state = .nap then s.napWake cause bad else s.holdWake otp cause bad

/-- TIMER_MS has run out since the end of an entry (R468); without its bit in ENABLE nothing counts in HOLD (R465). -/
def wakeTimer (s : Sys) : Sys :=
  if (s.pw.state = .nap ∨ s.pw.state = .hold) ∧ s.rdBit Key.Wake.ENABLE 4 then { s with pw := { s.pw with timerDone := true } } else s

end Sys

/-- WFI (R460). -/
def execWfi (s : State) : Host.Outcome State Fault Refusal := onSys (fun s => s.wfi) s

/-- NAP_ENTRY_TIMEOUT (R460). -/
def execNapEntryTimeout (s : State) : Host.Outcome State Fault Refusal := onSys (fun s => s.napAbandon) s

/-- HOLD_ENTRY (R465). -/
def execHoldEntry (s : State) : Host.Outcome State Fault Refusal := onSys (fun s => s.holdEnter) s

/-- WAKE_TIMER (R468). -/
def execWakeTimer (s : State) : Host.Outcome State Fault Refusal := onUnit (fun s => s.wakeTimer) s

/-- DOMAIN_IDLE (R455). -/
def execDomainIdle (d : Fin 15) (s : State) : Host.Outcome State Fault Refusal := onSys (fun s => s.domainIdle d) s

end Sys2Proof.Machine
end

