-- ==== Sys2Proof/Machine/Hooks.lean ====
section
/-! DEFINITION. Hooks: what single entries require of a write beyond the checks that every write has, and what an accepted write does beyond
storing its value, chapter by chapter. -/

namespace Sys2Proof.Machine

open Sys2Proof

/-- What the hardware finds while it carries out a write whose command reads tables, banks or devices: the reads are good or a
comparison passes, the items that are bad, oscillator counts, and a value from a device (none: an open value). -/
structure Ext where
  ok : Bool := true
  bad : Nat := 0
  osc : Option (List Nat) := none
  val : Option Nat := none
  deriving DecidableEq, Repr

/-- The place of an abort code in the order of R48. -/
def codeOrder (c : Nat) : Nat :=
  if c = 0x0801 then 1 else if c = 0x0601 then 2 else if c = 0x0602 then 3 else if c = 0x0701 then 4 else if c = 0x0605 ∨ c = 0x0606 then 5
  else if c = 0x0603 then 6 else if c = 0x0807 then 7 else if c = 0x0803 then 8 else if c = 0x0604 then 9 else if c = 0x0805 then 10
  else if c = 0x0901 then 11 else 12

/-- The abort that R48 gives first among those whose condition holds, 0 for none. -/
def pickAbort : List (Bool × Nat) → Nat
  | [] => 0
  | (b, c) :: l =>
    let r := pickAbort l
    if b ∧ c ≠ 0 ∧ (r = 0 ∨ codeOrder c ≤ codeOrder r) then c else r

namespace Sys

/-- An offset that an entry holds beside a ring of `len` bytes: a multiple of `g` below the length. -/
def tailBad (g len v : Nat) : Bool := decide (v % g ≠ 0 ∨ len ≤ v)

/-- A value is no field coordinate (R104). -/
def offField (i : Int) : Bool := decide (i < -8388608 ∨ 8388607 < i)

/-- A write of an ENABLE in SERVICE would break a rule of lane users (R336). -/
def lanesBreak (s : Sys) (k v : Nat) : Bool :=
  decide (s.dev = .service) && decide (v ≠ 0) && (s.wr k v).laneFaults.any (fun x => decide (x ∉ s.laneFaults))

/-- MTU `m` serves a consumer other than channel `c` (16: none) and group `g` (4: none) (R24). -/
def mtuTaken (s : Sys) (m c g : Nat) : Bool :=
  decide (m ≠ 0xFF) && ((List.range 4).any (fun h => decide (h ≠ g) && decide (s.rd (Key.Grp.MTU h) = m)) ||
    (List.range 16).any (fun d => decide (d ≠ c) && decide (s.rd (Key.Ch.MODE d) = 1 ∧ s.rd (Key.Ch.MTU d) = m)))

/-! ### Conditions -/

/-- Conditions of the entries `0080` to `06FF`: chain, endpoints, rights, power, gatherer, Sampler, store. -/
def needSystem (s : Sys) (cls : Cls) (k v : Nat) : Nat :=
  let idx := keyIdx k
  let sub := keySub k
  if k = Key.Store.STORE_COMMAND then s.storeAbort v
  else if 0x210 ≤ idx ∧ idx < 0x212 then pickAbort [(decide (sub = 7) && s.lanesBreak k v, 0x0604)]
  else if 0x230 ≤ idx ∧ idx < 0x240 then
    let n := (idx - 0x230) / 2
    let len := s.rd (Key.Ep.RING_LEN n)
    if idx % 2 = 0 then pickAbort [(decide (sub = 1), s.epEnableAbort n v), (decide (sub = 7 ∧ len ≠ 0 ∧ len < v), 0x0604)]
    else pickAbort [(decide (sub = 2), s.releaseAbort n v)]
  else if idx = 0x301 then pickAbort [(decide (v / 2 ^ 16 % 2 ^ 16 < v % 2 ^ 16), 0x0604)]
  else if 0x310 ≤ idx ∧ idx < 0x330 then
    let r := idx - 0x310
    pickAbort [(decide (sub = 2 ∧ 2 ^ 37 < v + s.rd (Key.Wall.SIZE r)) || decide (sub = 3 ∧ 2 ^ 37 < s.rd (Key.Wall.BASE r) + v), 0x0604)]
  else if k = Key.Pad.RELEASE then s.releasePadsAbort v
  else if k = Key.Pll.PLL_ENABLE then s.pllAbort v
  else if k = Key.Pll.DR_VCO then pickAbort [(s.rdBit Key.Pll.PLL_ENABLE 2, 0x0803)]
  else if k = Key.Pll.SOURCE then s.sourceAbort v
  else if idx = 0x510 then pickAbort [(decide (5 ≤ v % 8) || (fixedFreeze sub && decide (v % 8 ≠ 4)), 0x0604)]
  else if k = Key.Smp.INTERVAL then pickAbort [(s.smp.clearing, 0x0805)]
  else if k = Key.Smp.COMMAND then s.smpCmdAbort cls v
  else 0

/-- Conditions of the DRAM controller, the DMA engine, MRAM, images, fuses, lanes, MACs and device time. -/
def needFabric (s : Sys) (cls : Cls) (k v : Nat) (i : Int) : Nat :=
  let idx := keyIdx k
  let sub := keySub k
  if idx = 0x800 then pickAbort [(decide (sub ≤ 5 ∧ s.rd Key.DmcSt.STATE ≠ 0), 0x0803), (decide (sub = 5 ∧ v % 2 = 1), 0x0604)]
  else if k = Key.DmcSt.COMMAND then (if v = 1 then s.unfreezeAbort else 0x0604)
  else if k = Key.DmcDbg.DEBUG_COMMAND then (if v = 1 then s.debugAbort else 0x0604)
  else if k = Key.Ppr.PPR_COMMAND then (if v = 1 ∨ v = 2 then s.pprAbort (decide (v = 2)) else 0x0604)
  else if idx = 0x811 then pickAbort [(decide (v ≠ 0), 0x0604)]
  else if k = Key.Train.TRAIN_COMMAND then
    if v = 1 then s.beginAbort else if v = 2 ∨ v = 3 then s.inTraining else 0x0604
  else if k = Key.TPat.PAT_COMMAND then s.patternAbort v
  else if 0x820 ≤ idx ∧ idx ≤ 0x823 then s.helperAbort
  else if 0x900 ≤ idx ∧ idx < 0x980 then
    let d := (idx - 0x900) / 4
    let stream := decide (24 ≤ d) && s.rdB (Key.Ep.ENABLE (d - 24))
    let own :=
      if idx % 4 = 0 then pickAbort [(decide (sub = 2) && s.rdB (Key.Dma.ENABLE d), 0x0803), (decide (sub = 2 ∧ v = 2), 0x0604),
        (decide (sub = 3), s.dmaCmdAbort d v), (decide (sub = 5), s.dmaRestAbort d)]
      else if idx % 4 = 2 then pickAbort [(true, if sub = 0xB then s.armAbort d v else s.shadowAbort d), (decide (sub = 5 ∧ (6 ≤ v % 8 ∨ 6 ≤ v / 16 % 8)), 0x0604)]
      else if idx % 4 = 3 then pickAbort [(true, s.dmaRestAbort d), (decide (sub = 4) && tailBad 64 (s.rd (Key.DmaRing.RING_LEN d)) v, 0x0604)]
      else 0
    pickAbort [(stream, 0x0803), (true, own)]
  else if 0x980 ≤ idx ∧ idx < 0x988 then
    let q := idx - 0x980
    pickAbort [(decide (sub = 1), s.cqAddrAbort q), (decide (sub = 4) && tailBad 16 (s.rd (Key.Cq.LEN q)) v, 0x0604)]
  else if k = Key.Mram.COMMAND then s.mramAbort v
  else if k = Key.Image.COMMAND then s.imageAbort v
  else if k = Key.Otp.OTP_COMMAND then s.otpAbort cls v
  else if k = Key.Dbg.DEBUG_ENABLE then pickAbort [(decide (s.rd Key.Otp.LIFECYCLE = 2), 0x0803)]
  else if 0xC00 ≤ idx ∧ idx < 0xC80 then pickAbort [(decide (idx % 8 = 0 ∧ sub = 5), s.laneCmdAbort ((idx - 0xC00) / 8) v)]
  else if 0xD00 ≤ idx ∧ idx < 0xD20 then
    let m := (idx - 0xD00) / 16
    pickAbort [(decide (idx % 16 = 0 ∧ sub = 1) && s.lanesBreak k v, 0x0604), (decide (idx % 16 = 1 ∧ sub = 4), s.tailAbort m v false),
      (decide (idx % 16 = 1 ∧ sub = 8), s.tailAbort m v true)]
  else if idx = 0xE01 then pickAbort [(decide ((sub = 1 ∨ sub = 2) ∧ (v < 17162689315 ∨ 17197049053 < v)), 0x0604)]
  else if idx = 0xE02 then s.stepAbort i
  else if 0xE10 ≤ idx ∧ idx < 0xE30 then pickAbort [(decide (sub = 5), s.trigCmdAbort (idx - 0xE10) v)]
  else 0

/-- Conditions of the entries of scan channel `c`, its melt-pool loop, zones and table update. PULSE_PERIOD is held against PULSE_WIDTH at
a write of PULSE_PERIOD only (R131; DESIGN CHOICE, log entry 50). -/
def needChannel (s : Sys) (c b sub v : Nat) (i : Int) (ext : Ext) : Sys × Nat :=
  if b = 0 ∧ sub = 1 then s.chCmdCheck c v ext.ok
  else if b = 0x10 ∧ sub = 5 then s.hoopEnableCheck c v ext.ok
  else if b = 0x11 ∧ sub = 9 then s.updCmdCheck c v ext.ok
  else
    (s,
      if b = 0 then pickAbort [(decide (sub = 4 ∧ v = 1) && s.mtuTaken (s.rd (Key.Ch.MTU c)) c 4, 0x0803),
        (decide (sub = 5 ∧ s.rd (Key.Ch.MODE c) = 1) && s.mtuTaken v c 4, 0x0803)]
      else if b = 1 then pickAbort [(decide (sub = 3 ∧ s.chState c ∉ [0, 1, 5]), 0x0803)]
      else if b = 6 then
        let out (lo hi : Nat) : Bool := decide (i < s.rdI lo ∨ s.rdI hi < i)
        pickAbort [((decide (sub = 2) && out (Key.Area.X_MIN c) (Key.Area.X_MAX c)) || (decide (sub = 3) && out (Key.Area.Y_MIN c) (Key.Area.Y_MAX c)) ||
          (decide (sub = 4) && out (Key.Area.Z_MIN c) (Key.Area.Z_MAX c)), 0x0604)]
      else if b = 7 ∨ b = 0x51 then pickAbort [(offField i, 0x0604)]
      else if b = 0x11 then pickAbort [(decide (sub = 3) && s.updRuns c, 0x0805)]
      else if b = 0x20 then pickAbort [(decide (sub = 2 ∧ v < s.rd (Key.Mod.PULSE_WIDTH c) + 2), 0x0604)]
      else if b = 0x31 then pickAbort [(decide (sub = 3 ∧ i ≤ s.rdI (Key.MplFf.FF_MIN c)), 0x0604)]
      else if b = 0x33 then pickAbort [(decide (sub = 8) && tailBad 32 (s.rd (Key.MplAn.REC_LEN c)) v, 0x0604)]
      else if 0x41 ≤ b ∧ b ≤ 0x48 then pickAbort [(decide (sub = 0x12), s.zwCmdAbort (8 * c + (b - 0x41)) v)]
      else if b = 0x50 then pickAbort [(decide (sub = 5) && tailBad 32 (s.rd (Key.Ins.INS_LEN c)) v, 0x0604)]
      else 0)

/-- Conditions of the entries of slot `n` (R159, R163, R169, R172, R180). -/
def needSlot (s : Sys) (n b sub v : Nat) (i : Int) : Nat :=
  if b = 0 then
    pickAbort [(decide (sub = 1), s.slotCmdAbort n v), (decide (sub = 3), s.slotModeAbort n v),
      (decide (sub = 0xC ∧ (n < 48 ∨ s.rd (Key.Slot.OWNER_AXIS n) ≠ 0xFF)), 0x0803)]
  else if b = 2 then pickAbort [(decide (sub = 4 ∧ i ≤ s.rdI (Key.SlotOut.OUT_MIN n)), 0x0604)]
  else if b = 5 then pickAbort [(decide (2 ≤ sub ∧ s.slotState n ≠ 0) && s.rdBit (Key.SlotBq.BQ_ENABLE n) ((sub - 2) / 5), 0x0803)]
  else if b = 6 then
    pickAbort [(decide (sub ≤ 4), s.rcConfigAbort n sub v), (decide ((sub = 8 ∨ sub = 0xB) ∧ s.rd (Key.SlotRc.RC_LEN n) ≤ v), 0x0604),
      (decide (sub = 0xC ∧ (s.slot n).rc = 1), 0x0803)]
  else if b = 0xA then pickAbort [(decide (sub = 6 ∧ v ≠ 0), 0x0604)]
  else 0

/-- Conditions of the print engine (`3000` to `3AFF`). -/
def needPrint (s : Sys) (k v : Nat) (i : Int) : Nat :=
  let idx := keyIdx k
  let sub := keySub k
  if idx = 0x3020 then pickAbort [(decide (5 < v / 256 % 16 ∨ 1000 < v / 4096 % 1024), 0x0604)]
  else if k = Key.Span.SPAN_TAIL then pickAbort [(tailBad 32 (s.rd Key.Span.SPAN_LEN) v, 0x0604)]
  else if k = Key.Nz.NZ_TAIL then pickAbort [(tailBad 16 (s.rd Key.Nz.NZ_LEN) v, 0x0604)]
  else if 0x3100 ≤ idx ∧ idx < 0x3200 then
    let g := (idx - 0x3100) / 64
    if idx % 64 = 0 then
      pickAbort [(decide (sub = 1), s.grpCmdAbort g v), (decide (sub = 4) && s.mtuTaken v 16 g, 0x0803), (decide (sub = 6 ∧ s.grpState g ∉ [0, 1, 6]), 0x0803)]
    else 0
  else if 0x3400 ≤ idx ∧ idx < 0x3800 then
    let h := (idx - 0x3400) / 32
    let b := idx % 32
    if b = 1 then pickAbort [(decide (sub = 3 ∧ i ≤ s.rdI (Key.HeadTemp.WARN h)), 0x0604)]
    else if b = 2 ∨ b = 3 then pickAbort [(decide (sub = 0xD), s.zwCmdAbort (128 + 2 * h + (b - 2)) v)]
    else 0
  else if 0x3900 ≤ idx ∧ idx < 0x3A00 then
    let g := (idx - 0x3900) / 64
    pickAbort [(decide (sub = 1 ∧ v ≠ 0xFF ∧ s.rd (Key.GrpMask.MASK_LEN g) < 512 * (v + 1)), 0x0604)]
  else if 0x3A00 ≤ idx ∧ idx < 0x3A80 then
    let l := (idx - 0x3A00) / 16
    pickAbort [(decide (idx % 16 = 0 ∧ sub = 1) && s.lanesBreak k v, 0x0604), (decide (idx % 16 = 1 ∧ sub = 9), s.ctrlAbort l)]
  else 0

/-- Conditions of axes, the calibration engine and the camera (`4000` to `53FF`). -/
def needRest (s : Sys) (k v : Nat) : Nat :=
  let idx := keyIdx k
  let sub := keySub k
  if 0x4000 ≤ idx ∧ idx < 0x4800 then
    let a := (idx - 0x4000) / 256
    if idx % 256 = 0xF0 then pickAbort [(decide (sub = 4 ∧ v ≤ s.rd (Key.Bus.VBUS_MIN a)), 0x0604)]
    else 0
  else if k = Key.Cal.LOG_TAIL then pickAbort [(tailBad 32 (s.rd Key.Cal.LOG_LEN) v, 0x0604)]
  else if 0x4810 ≤ idx ∧ idx < 0x4814 then pickAbort [(decide (sub = 0xD), s.patAbort (idx - 0x4810) v)]
  else if 0x4860 ≤ idx ∧ idx < 0x4880 then
    let u := idx - 0x4860 + 16
    pickAbort [(decide (sub = 3) && s.updRuns u, 0x0805)]
  else if 0x5100 ≤ idx ∧ idx < 0x5200 then
    let c := (idx - 0x5100) / 16
    let live := s.rdB (Key.Ctx.ENABLE c)
    if idx % 16 = 0 then
      pickAbort [(decide (sub = 1), s.ctxEnableAbort c v), (decide (sub ∈ [2, 3, 4, 5, 6, 8]) && live, 0x0803),
        (decide (sub = 4 ∧ v = 0x1E) && s.rdB (Key.Ctx.CFA c), 0x0604), (decide (sub = 8 ∧ v ≠ 0 ∧ s.rd (Key.Ctx.DATA_TYPE c) = 0x1E), 0x0604)]
    else 0
  else if 0x5200 ≤ idx ∧ idx < 0x5300 then
    let c := (idx - 0x5200) / 16
    let n := idx % 16
    if n < 3 then
      pickAbort [(decide (sub = 1), s.outEnableAbort c n v), (decide (sub ≠ 1 ∧ sub ≠ 6) && s.rdB (Key.Out.ENABLE c n), 0x0803),
        (decide (sub = 6 ∧ s.rd (Key.Out.COUNT c n) ≤ v), 0x0604)]
    else pickAbort [(decide (sub = 4) && tailBad 64 (s.rd (Key.CamRec.REC_LEN c)) v, 0x0604)]
  else if 0x5300 ≤ idx ∧ idx < 0x5400 then
    let c := (idx - 0x5300) / 16
    if idx % 16 = 0 then pickAbort [(decide (sub = 5 ∧ v < s.rd (Key.Blob.MIN_AREA c)), 0x0604)]
    else if idx % 16 = 1 then pickAbort [(decide (sub = 1), s.profEnableAbort c v)]
    else pickAbort [(decide (sub = 4) && tailBad 32 (s.rd (Key.Feat.FEAT_LEN c)) v, 0x0604)]
  else 0

/-- What an entry requires of a write of `v` (as a signed number `i`) beyond the checks of every write; with the state that the judging
leaves where it is this answer that counts. -/
def need (s : Sys) (cls : Cls) (k v : Nat) (i : Int) (ext : Ext) : Sys × Nat :=
  let idx := keyIdx k
  if k = Key.DevCmd.DEVICE_COMMAND then s.devAbort cls v ext.bad
  else if k = Key.Pwr.COMMAND then (if v = 1 then s.napAbort cls else (s, if v = 2 then s.holdAbort cls else 0x0604))
  else if k = Key.Dom.ENABLE then s.domAbort v
  else if k = Key.Train.TRAIN_COMMAND ∧ v = 2 ∧ s.inTraining = 0 ∧ !ext.ok then (s.trainEnd false [], 0x0604)
  else if idx < 0x800 then (s, s.needSystem cls k v)
  else if idx < 0x1000 then (s, s.needFabric cls k v i)
  else if idx = 0x10F0 ∨ idx = 0x10F1 then (s, 0)
  else if idx < 0x2000 then s.needChannel (idx / 256 - 16) (idx % 256) (keySub k) v i ext
  else if 0x2400 ≤ idx ∧ idx < 0x2800 then (s, s.needSlot ((idx - 0x2400) / 16) (idx % 16) (keySub k) v i)
  else if idx < 0x4000 then (s, s.needPrint k v i)
  else if 0x4860 ≤ idx ∧ idx < 0x4880 ∧ keySub k = 9 then s.updCmdCheck (idx - 0x4860 + 16) v ext.ok
  else if 0x4000 ≤ idx ∧ idx < 0x4800 ∧ idx % 256 = 0 ∧ keySub k = 1 then s.axCmdCheck ((idx - 0x4000) / 256) v ext.ok
  else (s, s.needRest k v)

end Sys

end Sys2Proof.Machine
end

