-- ==== Sys2Proof/Machine/OdRead.lean ====
section
/-! DEFINITION. OdRead: the rights and form of entries, the entries whose value is computed when they are read, and descriptors (R36 to R46). -/

namespace Sys2Proof.Machine

open Sys2Proof

/-! ### Entries and rights (R41 to R46, R448) -/

/-- The row of an entry: TRIGGER and OWNER_AXIS of the slots of laser channels are read-only (R180). -/
def entryRow (idx sub : Nat) : Option Dict.Row :=
  (Dict.find idx sub).map (fun r =>
    if 0x2400 ≤ idx ∧ idx < 0x2700 ∧ idx % 16 = 0 ∧ (sub = 7 ∨ sub = 0xB) then { r with acc := .ro, st := 0, kept := false } else r)

/-- The rights that a class can hold at most (R45), in the order of R41: H read, H write, FM read, FM write, FS read, FS write. -/
def widestRights (idx : Nat) : Nat :=
  if idx < 0x100 then (if idx = 0x80 then 0x3F else if idx = 0xF0 then 0x1D else 0x15)
  else if idx < 0x300 then 0x1F
  else if idx < 0x400 then 0x0D
  else if idx < 0x700 then 0x1F
  else if idx < 0x8000 then 0x3F
  else if idx < 0xF000 then 0x03
  else 0

/-- The rights that the description of an entry leaves (R45). -/
def clsRights : Dict.WrCls → Nat
  | .any => 0x3F | .fm => 0x1D | .fmfs => 0x3D | .h => 0x17 | .fs => 0x35 | .hfm => 0x1F

/-- The read right of a class; its write right is the next bit. -/
def clsBit : Cls → Nat
  | .host => 0 | .fm => 2 | .fs => 4

namespace Sys

/-- The rights in force for an index (R448). -/
def indexRights (s : Sys) (idx : Nat) : Nat :=
  let full := widestRights idx
  let kept := if s.rdB Key.Prot.ENABLE then
      (List.range 32).foldl (fun m i =>
        let w := s.rd (Key.Rights.ROW i)
        if w.testBit 63 ∧ w % 65536 ≤ idx ∧ idx ≤ w / 65536 % 65536 then m &&& (w / 2 ^ 32 % 64) else m) full
    else full
  if idx = 0x300 ∨ idx = 0x301 then kept ||| 0x0C else kept

/-- The rights in force for an entry. -/
def entryRights (s : Sys) (idx : Nat) (r : Dict.Row) : Nat := s.indexRights idx &&& clsRights r.cls

end Sys

/-! ### Types (R37) -/

/-- The type code of R37. -/
def tyCode : Dict.Ty → Nat
  | .bool => 1 | .u8 => 2 | .i8 => 3 | .u16 => 4 | .i16 => 5 | .u32 => 6 | .i32 => 7 | .u64 => 8 | .i64 => 9 | .q18 => 10 | .time => 11
  | .enum8 => 12 | .bits32 => 13 | .domain => 14 | .string => 15

/-- The size in bytes of a value. -/
def tySize : Dict.Ty → Nat
  | .bool => 1 | .u8 => 1 | .i8 => 1 | .u16 => 2 | .i16 => 2 | .u32 => 4 | .i32 => 4 | .u64 => 8 | .i64 => 8 | .q18 => 4 | .time => 8
  | .enum8 => 1 | .bits32 => 4 | .domain => 8 | .string => 8

/-- Whether a value is signed. -/
def tySigned : Dict.Ty → Bool
  | .i8 | .i16 | .i32 | .i64 | .q18 => true
  | _ => false

/-- The access code of R41. -/
def accCode : Dict.Acc → Nat
  | .ro => 0 | .rw => 1 | .wo => 2

/-- The number of hardware-served indexes (`0000.02`). -/
def hwIndexes : Nat := 2149

/-- The next index above `idx` that holds an entry (R41). -/
def nextIndex (idx : Nat) : Nat :=
  (((List.range (0x5400 - idx)).map (fun i => idx + 1 + i)).find? (fun i => Dict.indexExists i)).getD 0xFFFF

namespace Sys

/-- The descriptor of the entry that a SELECT names (R41). -/
def descriptor (s : Sys) (select : Nat) : Nat :=
  let idx := select / 256 % 65536
  let sub := select % 256
  if 0x8000 ≤ idx ∧ idx < 0xF000 then 2 ^ 24 + 0xFFFF * 2 ^ 48
  else match entryRow idx sub with
    | none => nextIndex idx * 2 ^ 48
    | some r => tyCode r.ty + accCode r.acc * 2 ^ 8 + b2n r.kept * 2 ^ 10 + 2 ^ 11 + r.st * 2 ^ 12 + s.entryRights idx r * 2 ^ 18 + Dict.maxSub idx * 2 ^ 32 +
        nextIndex idx * 2 ^ 48

/-! ### Values computed at a read -/

/-- The number of chain requests in the queue of R93. -/
def chainWaits (s : Sys) : Nat := (s.eng.waits.filter (fun w => match w.acc.who with | .chain _ => true | .window _ _ => false)).length

/-- The index, among the bytes of the firmware store, that `0605.03` selects. -/
def fwsAt (s : Sys) : Nat := s.rd Key.FwStore.FWS_OFFSET + (if s.rd Key.FwStore.FWS_PAIR = 15 then 65536 else 0)

/-- Byte `i` of the firmware store. -/
def fwsByte (s : Sys) (i : Nat) : Nat := (Kv.get (fun _ => (0 : Byte)) s.eng.fws i).toNat

/-- Entries of `0000` to `06FF` that are computed. -/
def viewSystem (s : Sys) (idx sub : Nat) : Option Int :=
  let k := idx * 256 + sub
  if k = Key.Dir.HW_ENTRY_COUNT then some hwIndexes
  else if idx = 0x80 then (if sub % 2 = 0 ∧ sub ≠ 0 then some (s.descriptor (s.rd (k - 1))) else none)
  else if k = Key.DevState.DEVICE_STATE then some (devCode s.dev)
  else if k = Key.Dom.CLOCKED then some (s.rd k ||| 0x8000 : Nat)
  else if k = Key.DevState.PENDING_STATE then some (s.pendState.elim 0xFF (fun d => devCode d))
  else if k = Key.Credits.QUEUE_DEPTH then some s.chainWaits
  else if k = Key.Pll.SRC_HZ then some (29490 + s.freeVal.toNat % 6551)
  else if idx = 0x500 ∧ 1 ≤ sub ∧ sub ≤ 4 then
    some ((List.range 32).foldl (fun m n => if s.codeActive (32 * (sub - 1) + n) then m + 2 ^ n else m) 0 : Nat)
  else if k = Key.Gath.FREEZE_ACTIVE then some (b2n (decide (s.freezeActive ≠ [])))
  else if k = Key.FLog.ENTRY_W0 then
    some (s.gath.log.head?.elim 0 (fun e => e.code + e.kind * 2 ^ 16 + e.inst * 2 ^ 24 + e.reaction * 2 ^ 32 + b2n e.reported * 2 ^ 40 + e.repeats * 2 ^ 48) : Nat)
  else if k = Key.FLog.ENTRY_W1 then some (s.gath.log.head?.elim 0 (fun e => e.at_) : Nat)
  else if k = Key.FLog.COUNT then some s.gath.log.length
  else if k = Key.Smp.PERMANENT_COUNT then some s.smp.permanent
  else if k = Key.Smp.CIRCULATING_COUNT then some s.smp.circulating
  else if k = Key.Smp.NEXT_SEQ then some s.smp.nextSeq
  else if k = Key.Smp.TICKS then some s.smp.ticks
  else if k = Key.FwStore.FWS_DATA then some (unle ((List.range 8).map (fun i => s.fwsByte (s.fwsAt + i))))
  else none

/-- Entries of `0800` to `0EFF` that are computed. -/
def viewFabric (s : Sys) (idx sub : Nat) : Option Int :=
  let k := idx * 256 + sub
  if k = Key.Dmc.SIZE then some s.dramSize
  else if idx = 0x821 ∧ 1 ≤ sub ∧ sub ≤ 7 then some (s.delayAt (s.selectedDelay sub))
  else if k = Key.DmaTot.ACTIVE then some ((List.range 32).foldl (fun m d => if s.dmaState d = 2 then m + 2 ^ d else m) 0 : Nat)
  else if k = Key.Image.TRIAL_LEFT then some s.trialLeft
  else if k = Key.Dbg.DEBUG_ACTIVE then some (b2n s.core.dbg.active)
  else if 0xC00 ≤ idx ∧ idx < 0xC80 then
    let l := (idx - 0xC00) / 8
    if idx % 8 = 0 ∧ 1 ≤ sub ∧ sub ≤ 3 then some (s.laneShows l sub)
    else if idx % 8 = 3 ∧ sub = 5 then some (s.bitsSince l)
    else none
  else if idx = 0xD01 ∧ sub = 9 then some (s.macSlot 0)
  else if idx = 0xD11 ∧ sub = 9 then some (s.macSlot 1)
  else if (idx = 0xD80 ∨ idx = 0xD81) ∧ 1 ≤ sub ∧ sub ≤ 2 then
    let m := idx - 0xD80
    let fast := s.rd (Key.Mac.SPEED m) = 1
    let fec : Bool := s.rdB (Key.Mac.RS_FEC m)
    if sub = 1 then some ((if fast then 41600 else 88000) + (if fec then 24800 else 0))
    else some ((if fast then -57300 else -121400) - (if fec then 102400 else 0))
  else if k = Key.Time.TIME_NOW then some s.now
  else if k = Key.TimeSt.TIME_STATUS then
    let fresh := s.chain.syncAt.any (fun t => decide (s.clk ≤ t + 3000 * s.rd Key.Sync.SYNC_INTERVAL))
    some (putBit (s.rd k) 3 fresh)
  else if 0xE40 ≤ idx ∧ idx < 0xE60 then
    let q := s.tb.fifos.getD (idx - 0xE40) []
    if sub = 6 then some (q.headD 0) else if sub = 7 then some q.length else none
  else none

/-- Entries of channels, engines and slots that are computed. -/
def viewScan (s : Sys) (idx sub : Nat) : Option Int :=
  if idx = 0x10F1 then
    if 1 ≤ sub ∧ sub ≤ 8 then some (unle (((s.stitch.reports.headD []).drop (8 * (sub - 1))).take 8)) else none
  else if 0x1000 ≤ idx ∧ idx < 0x2000 then
    let c := idx / 256 - 16
    let b := idx % 256
    if b = 0 ∧ sub = 7 then some (s.trigPeriod (s.rd (Key.Ch.TRIGGER c)))
    else if idx * 256 + sub = Key.MplMon.GATE_CAUSES c then some (s.gateCauses c s.now)
    else if 0x41 ≤ b ∧ b ≤ 0x48 ∧ idx * 256 + sub = Key.Zone.DIGEST c (b - 0x41) then some (s.zoneDigest c (b - 0x41))
    else none
  else if idx = 0x2000 then (if 1 ≤ sub ∧ sub ≤ 4 then some (s.engineLoad (sub - 1)) else none)
  else if 0x2400 ≤ idx ∧ idx < 0x2800 then
    let n := (idx - 0x2400) / 16
    if idx % 16 = 0 then
      if sub = 7 then some (s.slotTrigger n) else if sub = 8 then some (s.trigPeriod (s.slotTrigger n)) else none
    else if idx % 16 = 6 then
      if sub = 0xC then some (Kv.get (fun _ => (0 : Int)) (s.slot n).cells (s.rd (Key.SlotRc.RC_CELL_SEL n)))
      else if sub = 0xD then some ((s.slot n).cells.foldl (fun m c => max m c.2.natAbs) 0 : Nat)
      else none
    else none
  else none

/-- Entries of the print engine, axes and camera that are computed. -/
def viewRest (s : Sys) (idx sub : Nat) : Option Int :=
  let k := idx * 256 + sub
  if 0x3200 ≤ idx ∧ idx < 0x3300 then
    let m := (idx - 0x3200) / 64
    if k = Key.Mtu.BOUND m then some (if (s.mtuGroup m).isSome then 1 else if (s.mtuChannel m).isSome then 2 else 0)
    else if k = Key.Mtu.BOUND_INDEX m then some (((s.mtuGroup m).orElse (fun _ => s.mtuChannel m)).getD 0)
    else if k = Key.MtuSt.POSITION m then some (s.mtuPos m)
    else none
  else if 0x3400 ≤ idx ∧ idx < 0x3800 then
    let h := (idx - 0x3400) / 32
    let e := idx % 32 - 2
    if 2 ≤ idx % 32 ∧ e < 2 ∧ k = Key.HeadEnd.DIGEST h e then some (s.endDigest h e) else none
  else if k = Key.Picot.SEL_GEN then
    some (if s.rd Key.Picot.SETS_LEN = 0 then 0 else s.ld (s.picotAddr (s.rd Key.Picot.SEL) + 1028) 4 : Nat)
  else if 0x4000 ≤ idx ∧ idx < 0x4800 then
    let a := (idx - 0x4000) / 256
    if k = Key.Axis.UPDATE_PERIOD a then some (s.axPeriod a)
    else if k = Key.AxEnc.SLOT a then some ((s.axSlot a).getD 0xFF)
    else none
  else if k = Key.Cam.LOAD then some s.camLoad
  else if 0x5200 ≤ idx ∧ idx < 0x5300 ∧ idx % 16 < 3 ∧ k = Key.Out.STRIDE ((idx - 0x5200) / 16) (idx % 16) then
    some (s.outStride ((idx - 0x5200) / 16) (idx % 16))
  else none

/-- The value of an entry as a read gives it. -/
def value (s : Sys) (idx sub : Nat) : Word :=
  let v :=
    if idx < 0x700 then s.viewSystem idx sub
    else if idx < 0x1000 then s.viewFabric idx sub
    else if idx < 0x3000 then s.viewScan idx sub
    else s.viewRest idx sub
  match v with
  | some i => BitVec.ofInt 64 i
  | none => s.rdW (idx * 256 + sub)

/-- What a read does beside giving the value: the gatherer's capture is released once both halves are read (R497), and a value that
was open at this moment is open anew at the next. -/
def readActs (s : Sys) (k : Nat) : Sys :=
  if k = Key.Gath.ERR_ADDR then s.errRead false
  else if k = Key.Gath.ERR_MASTER then s.errRead true
  else if k = Key.Pll.SRC_HZ then s.useFree
  else s

end Sys

/-- A value as the window gives it: 64 bits, or 32 bits under a high word of zero (R37). -/
def windowValue (ty : Dict.Ty) (w : Word) : Nat := if tySize ty ≤ 4 then w.toNat % 2 ^ 32 else w.toNat

/-- A value as the chain gives it: exactly the bytes of its type. -/
def chainValue (ty : Dict.Ty) (w : Word) : List Nat := le (tySize ty) (w.toNat % 2 ^ (8 * tySize ty))

end Sys2Proof.Machine
end

