-- ==== Sys2Proof/Machine/OdAct.lean ====
section
/-! DEFINITION. OdAct: what an accepted write does to its block (R47), entry by entry. -/

namespace Sys2Proof.Machine

open Sys2Proof

namespace Sys

/-! ### Answers over the chain (R92, R93) -/

/-- An OD_RSP leaves for the host. -/
def answer (s : Sys) (op idx sub tag code : Nat) (data : List Nat) : Sys :=
  s.originate 0xFE 3 false 0 ([op % 256, sub % 256] ++ le 2 idx ++ le 2 data.length ++ le 2 tag ++ le 2 code ++ [0, 0] ++ data)

/-- The answer to a firmware-served request (R55). -/
def answerSvc (s : Sys) (r : SvcReq) (code : Nat) (data : List Nat) : Sys := s.answer r.req.op r.req.idx r.req.sub r.req.tag code data

/-- The response that firmware has built leaves; one whose tag no request waits with is discarded (R55). -/
def rspCommit (s : Sys) (len : Nat) : Sys :=
  match s.chain.svcq.find? (fun r => decide (r.req.tag = s.rd Key.Fws.RSP_TAG)) with
  | none => s
  | some r =>
    let s : Sys := { s with chain := { s.chain with svcq := s.chain.svcq.erase r } }
    s.answerSvc r (s.rd Key.Fws.RSP_CODE) (((List.range 6).flatMap (fun i => le 8 (s.rd (Key.Fws.RSP_DATA i)))).take len)

/-- SERVICE_TIMEOUT has passed for the request with a tag: 0x0805, and it is withdrawn (R55). -/
def serviceTimeout (s : Sys) (tag : Nat) : Sys :=
  match s.chain.svcq.find? (fun r => decide (r.req.tag = tag)) with
  | none => s
  | some r =>
    if r.at_ + 1000 * s.rd Key.Fws.SERVICE_TIMEOUT ≤ s.clk then
      ({ s with chain := { s.chain with svcq := s.chain.svcq.erase r } } : Sys).answerSvc r 0x0805 []
    else s

/-! ### Fuses (R441, R452) -/

/-- An OTP command: READ, or PROGRAM, whose bits the fuses take in the same step. `ok` tells whether the readback agrees; where it does
not, which of the bits were set is open. -/
def otpCmd (s : Sys) (otp : Nat → Nat) (cmd : Nat) (ok : Bool) : Sys :=
  let w := s.rd Key.Otp.OTP_ADDR
  if cmd = 1 then (s.wr Key.Otp.OTP_DATA (otp w % 2 ^ 32)).wr Key.Otp.OTP_RESULT 0
  else
    let bits := if ok then s.rd Key.Otp.OTP_DATA else s.rd Key.Otp.OTP_DATA &&& s.freeVal.toNat
    let s := if ok then s else s.useFree
    let after (k : Nat) : Nat := if k = w then programmed (otp k) bits else otp k
    let s : Sys := { s with eng := { s.eng with burn := some (w, bits) } }
    ((s.wr Key.Otp.OTP_RESULT (if ok then 0 else 0x0901)).wr Key.Otp.ROLLBACK_MIN (rollbackMin after)).wr Key.Otp.KEYS (otpKeys after)

/-! ### Effects

`t` is the block before the write, `s` with the value stored; `v` is the value and `i` the value as a signed number. -/

/-- The entries `0080` to `06FF`. -/
def actSystem (t s : Sys) (cls : Cls) (k v : Nat) : Sys :=
  let idx := keyIdx k
  let sub := keySub k
  if k = Key.DevCmd.DEVICE_COMMAND then s.devAct cls v
  else if k = Key.Fws.RSP_COMMIT then s.rspCommit v
  else if k = Key.Store.STORE_COMMAND then s.storeStart v
  else if k = Key.RestoreAck.RESTORE_ACK then s.restoreAck v
  else if k = Key.FwStore.FWS_DATA then
    { t with eng := { t.eng with fws := (List.range 8).foldl (fun f j =>
      Kv.put (fun _ => (0 : Byte)) (t.fwsAt + j) (BitVec.ofNat 8 (v / 256 ^ j)) f) t.eng.fws } }
  else if 0x210 ≤ idx ∧ idx < 0x212 then s.when (decide (sub = 7)) (fun s => (s.portEnable (idx - 0x210) v).laneRefresh)
  else if 0x230 ≤ idx ∧ idx < 0x240 then
    let n := (idx - 0x230) / 2
    if idx % 2 = 0 then s.when (decide (sub = 1)) (fun s => s.epEnable n v) else s.when (decide (sub = 2)) (fun s => s.release n v)
  else if k = Key.Gw.MAC then s.gatewayMac
  else if 0x300 ≤ idx ∧ idx < 0x330 then s.inc Key.Prot.CHANGES
  else if k = Key.Pwr.COMMAND then (if v = 1 then s.napStart else { s.wr Key.PwrSt.STATE 3 with pw := { s.pw with holdPending := true, latched := 0 } })
  else if k = Key.Dom.ENABLE then t.domWrite v
  else if k = Key.Wake.ENABLE then s.wrBit k 10 true
  else if k = Key.Pad.RELEASE then s.releasePads v
  else if k = Key.Pll.PLL_ENABLE then t.pllWrite v
  else if k = Key.Pll.SOURCE then t.sourceWrite v
  else if k = Key.FLog.POP then s.logPop v
  else if k = Key.Smp.COMMAND then s.smpCmd v
  else if k = Key.SmpSel.AREA then t.smpSelect false v
  else if k = Key.SmpSel.INDEX then t.smpSelect true v
  else s

/-- The DRAM controller (`0800` to `0823`). -/
def actDmc (t s : Sys) (k v : Nat) (ext : Ext) : Sys :=
  let sub := keySub k
  if k = Key.DmcSt.COMMAND then s.unfreeze
  else if k = Key.DmcDbg.DEBUG_COMMAND then s.debugRead ext.bad
  else if k = Key.Ppr.PPR_COMMAND then s.pprStart (decide (v = 2))
  else if k = Key.Train.TRAIN_COMMAND then
    if v = 1 then s.trainBegin
    else if v = 3 then s.trainAbort
    else match ext.osc with
      | some l => s.trainEnd true l
      | none => ({ s with free := s.free + 20 } : Sys).trainEnd true
        ((List.range 20).map (fun (j : Nat) => (Config.freeValue (s.free + j)).toNat))
  else if keyIdx k = 0x821 then t.setDelay (t.selectedDelay sub) v
  else if k = Key.Mr.MR_COMMAND then
    if v = 2 then
      match ext.val with
      | some x => s.mrCmd v x
      | none => s.useFree.mrCmd v s.freeVal.toNat
    else s.mrCmd v 0
  else if k = Key.TPat.PAT_COMMAND then s.patternCmd v
  else s

/-- CLASS of a channel: who wrote its configuration last (R44). -/
def dmaClass (s : Sys) (d : Nat) (cls : Cls) : Sys := s.wr (Key.Dma.CLASS d) (match cls with | .host => 0 | .fm => 1 | .fs => 2)

/-- DMA channels and queues, MRAM, images, fuses, lanes, MACs and device time. -/
def actFabric (t s : Sys) (otp : Nat → Nat) (cls : Cls) (k v : Nat) (i : Int) (ext : Ext) : Sys :=
  let idx := keyIdx k
  let sub := keySub k
  if idx < 0x900 then t.actDmc s k v ext
  else if idx < 0x980 then
    let d := (idx - 0x900) / 4
    let s :=
      if k = Key.Dma.ENABLE d then t.dmaEnable d v
      else if k = Key.Dma.COMMAND d then s.dmaCmd d v
      else if k = Key.DmaSh.ARM d then t.arm d v
      else s
    s.when (decide (idx % 4 ≠ 1)) (fun s => s.dmaClass d cls)
  else if 0x980 ≤ idx ∧ idx < 0x988 then s.when (decide (sub = 4)) (fun s => s.cqRelease (idx - 0x980))
  else if k = Key.Mram.COMMAND then s.mramCmd v
  else if k = Key.Image.COMMAND then s.imageCmd v
  else if k = Key.Otp.OTP_COMMAND then s.otpCmd otp v ext.ok
  else if 0xC00 ≤ idx ∧ idx < 0xC80 then s.when (decide (idx % 8 = 0 ∧ sub = 5)) (fun s => s.laneCmd ((idx - 0xC00) / 8) v)
  else if idx = 0xD00 ∨ idx = 0xD10 then
    if sub = 1 then s.macEnable ((idx - 0xD00) / 16) v else if sub = 2 ∨ sub = 3 then s.macMoved ((idx - 0xD00) / 16) else s
  else if k = Key.Inc.ADJ_TICKS then t.adjTicks v
  else if k = Key.Step.TIME_STEP then s.timeStep i
  else if 0xE10 ≤ idx ∧ idx < 0xE30 then
    let n := idx - 0xE10
    if 1 ≤ sub ∧ sub ≤ 3 then s.trigRestart n else if sub = 4 then s.trigArm n else if sub = 5 then s.trigCmd n v else s
  else if 0xE40 ≤ idx ∧ idx < 0xE60 then
    let n := idx - 0xE40
    if sub = 1 ∨ sub = 2 then s.capEmpty n else if sub = 8 then s.capPop n v else s
  else s

/-- Scan channel `c`: index `b` of its hundred. -/
def actChannel (s : Sys) (c b sub v : Nat) : Sys :=
  if b = 0 then
    if sub = 1 then s.chCmd c v else if sub = 4 ∨ sub = 5 then s.refreshGate c else s
  else if b = 0x10 then s.when (decide (sub = 1 ∨ sub = 2)) (fun s => s.tableStale c)
  else if b = 0x11 then s.when (decide (sub = 9)) (fun s => s.updCmd c v)
  else if b = 0x20 then (if sub = 5 then s.stsSeen c false else s.refreshGate c)
  else if 0x41 ≤ b ∧ b ≤ 0x48 then
    let w := 8 * c + (b - 0x41)
    if sub = 1 then s.zwEnabled w v else if sub = 0x12 then s.zwCmd w v else s
  else s

/-- Slot `n`: index `b` of its sixteen. -/
def actSlot (t s : Sys) (n b sub v : Nat) (i : Int) : Sys :=
  if b = 0 then
    if sub = 1 then s.slotCmd n v
    else if sub = 2 then s.when (!t.rdB (Key.Slot.ENABLE n)) (fun s => s.modSlot n (fun q => { q with seenEdge := false }))
    else if sub = 3 then t.slotMode n v
    else if sub = 0xC then s.modSlot n (fun q => { q with mail := i })
    else s
  else if b = 5 then (if sub = 1 then t.bqEnable n v else s)
  else if b = 6 then
    if 1 ≤ sub ∧ sub ≤ 4 then t.rcConfig n (Key.SlotRc.RC_SOURCE n + (sub - 1)) v
    else if sub = 0xC then t.modSlot n (fun q => { q with cells := Kv.put (fun _ => (0 : Int)) (t.rd (Key.SlotRc.RC_CELL_SEL n)) i q.cells })
    else s
  else s

/-- The print engine (`3000` to `3AFF`). -/
def actPrint (t s : Sys) (k v : Nat) (ext : Ext) : Sys :=
  let idx := keyIdx k
  let sub := keySub k
  if 0x3010 ≤ idx ∧ idx < 0x3016 then
    if sub = 0xA then s.encCmd (idx - 0x3010) v else if sub = 4 ∨ sub = 0xB then s.encLoss (idx - 0x3010) else s
  else if idx = 0x3020 then s.when (decide (1 ≤ sub ∧ sub ≤ 12)) (fun s => s.gateEval (sub - 1))
  else if 0x3100 ≤ idx ∧ idx < 0x3200 then s.when (decide (idx % 64 = 0 ∧ sub = 1)) (fun s => s.grpCmd ((idx - 0x3100) / 64) v)
  else if 0x3400 ≤ idx ∧ idx < 0x3800 then
    let h := (idx - 0x3400) / 32
    let b := idx % 32
    if b = 0 ∧ sub = 1 then ((s.when (decide (v ≠ 0)) (fun s => s.headClear h)).showLink h).showGates
    else if b = 0 ∧ sub = 4 then s.showLink h
    else if b = 1 ∧ sub = 1 then s.headTempSource h
    else if b = 2 ∨ b = 3 then
      let w := 128 + 2 * h + (b - 2)
      if sub = 1 then s.zwEnabled w v else if sub = 0xD then s.zwCmd w v else s
    else s
  else if k = Key.Picot.COMMAND then (if v = 1 then s.picotStore ext.ok else if v = 2 then s.picotSend else s.picotCheckAll ext.bad)
  else if 0x3A00 ≤ idx ∧ idx < 0x3A80 then
    let l := (idx - 0x3A00) / 16
    if idx % 16 = 0 then
      if sub = 1 then (s.linkEnable l v).laneRefresh
      else if sub = 2 then (s.when (decide (t.rd (Key.Link.LANE l) ≠ v)) (fun s => s.linkMoved l)).laneRefresh
      else if sub = 3 then (s.when (decide (t.rd (Key.Link.RATE l) ≠ v)) (fun s => s.linkMoved l)).laneRefresh
      else s
    else if idx % 16 = 1 ∧ sub = 9 then s.ctrlSend l (decide (v = 2))
    else s
  else s

/-- Axes, the calibration engine and the camera (`4000` to `53FF`). -/
def actRest (t s : Sys) (k v : Nat) : Sys :=
  let idx := keyIdx k
  let sub := keySub k
  if 0x4000 ≤ idx ∧ idx < 0x4800 then
    let a := (idx - 0x4000) / 256
    (s.when (decide (idx % 256 = 0 ∧ sub = 1)) (fun s => s.axCmd a v)).when (decide (idx % 256 = 0 ∧ sub = 5 ∧ v = 0)) (fun s => s.wr (Key.AxMon.MEASURED a) 0)
  else if 0x4810 ≤ idx ∧ idx < 0x4814 then s.when (decide (sub = 0xD)) (fun s => s.patCmd (idx - 0x4810) v)
  else if 0x4840 ≤ idx ∧ idx < 0x4860 then s.when (decide (sub = 1 ∨ sub = 2)) (fun s => s.tableStale (idx - 0x4840 + 16))
  else if 0x4860 ≤ idx ∧ idx < 0x4880 then s.when (decide (sub = 9)) (fun s => s.updCmd (idx - 0x4860 + 16) v)
  else if idx = 0x5001 ∨ idx = 0x5002 then s.when (decide (sub = 1)) (fun s => s.csiEnable (idx - 0x5001) v)
  else if 0x5100 ≤ idx ∧ idx < 0x5200 then
    let c := (idx - 0x5100) / 16
    s.when (decide (idx % 16 = 0 ∧ sub = 1)) (fun s => s.ctxEnable c (t.rdB (Key.Ctx.ENABLE c)) v)
  else s

/-- What an accepted write does beside storing its value. -/
def act (t s : Sys) (otp : Nat → Nat) (cls : Cls) (k v : Nat) (i : Int) (ext : Ext) : Sys :=
  let idx := keyIdx k
  if idx < 0x800 then t.actSystem s cls k v
  else if idx < 0x1000 then t.actFabric s otp cls k v i ext
  else if idx = 0x10F0 then s
  else if idx = 0x10F1 then s.when (decide (keySub k = 9)) (fun s => s.reportPop v)
  else if idx < 0x2000 then s.actChannel (idx / 256 - 16) (idx % 256) (keySub k) v
  else if 0x2400 ≤ idx ∧ idx < 0x2800 then t.actSlot s ((idx - 0x2400) / 16) (idx % 16) (keySub k) v i
  else if idx < 0x4000 then t.actPrint s k v ext
  else t.actRest s k v

end Sys

end Sys2Proof.Machine
end

