-- ==== Sys2Proof/Machine/Od.lean ====
section
/-! DEFINITION. Od: the object dictionary engine: the checks of a request in their order (R37, R38, R45 to R48, R51, R52), the write and its
store copies (R61, R62), answers and refusals (R53, R55, R92, R93), and the requests that wait (R14, R47, R62, R464). -/

namespace Sys2Proof.Machine

open Sys2Proof

/-- The code of a window master (R447). -/
def masterCode : Master → Nat
  | .sv => 0
  | .ap h => h + 1
  | .dma ch => 0x10 + ch

/-- The index and subindex of a window address (R50). -/
def windowAddr (idx sub : Nat) : Nat := 0x60000000 + idx * 0x800 + sub * 8

/-- What the value of a write is, by its size and form (R37, R51, R52): a value, the low word of a 64-bit slot, a zero high word that is
ignored, or a breach. -/
inductive Form
  | word (w : Word)
  | stage (low : Nat)
  | nothing
  | bad
  deriving DecidableEq, Repr

/-- The value of `n` bytes as the engine holds it: signed types are sign-extended. -/
def formWord (ty : Dict.Ty) (n v : Nat) : Word :=
  if tySigned ty then BitVec.ofInt 64 (sext (8 * n) v) else BitVec.ofNat 64 (v % 2 ^ (8 * n))

/-- The written-value rule of a 32-bit word (R37); a BOOL from 2 to 255 passes here and is out of range. -/
def wordRule (ty : Dict.Ty) (v : Nat) : Bool :=
  match ty with
  | .bool | .u8 | .enum8 => decide (v < 256)
  | .i8 => decide (sext 8 v = sext 32 v)
  | .u16 => decide (v < 65536)
  | .i16 => decide (sext 16 v = sext 32 v)
  | .q18 => decide (sext 18 v = sext 32 v)
  | _ => true

/-- A 32-bit word written to a slot of 32 bits or less. -/
def slotWord (ty : Dict.Ty) (v : Nat) : Form := if wordRule ty v then .word (formWord ty 4 v) else .bad

/-- The bytes of a value on the chain (R37): exactly the size of its type. -/
def chainForm (ty : Dict.Ty) (size v : Nat) : Form :=
  if size ≠ tySize ty then .bad
  else if ty = .q18 then slotWord ty (v % 2 ^ 32)
  else .word (formWord ty size v)

/-- A window access (R37, R51, R52): `low` is the low word that the master has staged for this slot. -/
def windowForm (ty : Dict.Ty) (size v : Nat) (high : Bool) (low : Option Nat) : Form :=
  let wide := decide (tySize ty = 8)
  if size = 8 ∧ !high then
    if wide then .word (BitVec.ofNat 64 v)
    else if v / 2 ^ 32 % 2 ^ 32 ≠ 0 then .bad
    else slotWord ty (v % 2 ^ 32)
  else if size = 4 then
    if high then
      if wide then low.elim .bad (fun l => .word (BitVec.ofNat 64 (v % 2 ^ 32 * 2 ^ 32 + l % 2 ^ 32)))
      else if v % 2 ^ 32 = 0 then .nothing else .bad
    else if wide then .stage (v % 2 ^ 32)
    else slotWord ty (v % 2 ^ 32)
  else .bad

/-- How the engine leaves a request: it waits, it is answered with an abort code (0: carried out), or a read gives a value. -/
inductive Verdict
  | wait
  | done (code : Nat)
  | value (ty : Dict.Ty) (w : Word)
  deriving DecidableEq, Repr

namespace Sys

/-- The class of a requester (R44). -/
def clsOf (s : Sys) : Req → Cls
  | .chain _ => .host
  | .window .sv machine => if machine then .fm else .fs
  | .window (.ap _) machine => if machine then .fm else .fs
  | .window (.dma ch) _ => match s.rd (Key.Dma.CLASS ch) with | 0 => .host | 1 => .fm | _ => .fs

/-- A request came over the chain. -/
def isChain : Req → Bool
  | .chain _ => true
  | .window _ _ => false

/-! ### Range (R7, R8, R37, R38) -/

/-- Check 9 of R48 for one value: the accepted values of the entry and their granule. -/
def inRange (r : Dict.Row) (i : Int) : Bool :=
  (r.ok.isEmpty || r.ok.any (fun p => decide (p.1 ≤ i ∧ i ≤ p.2))) && decide (i % (max 1 r.step : Nat) = 0) &&
    (decide (r.ty ≠ .bool) || decide (i = 0 ∨ i = 1))

/-- The address that a length write of a DOMAIN commits (R38): the staged one of the class, else the present one. -/
def domainAddr (s : Sys) (cls : Cls) (k : Nat) : Nat :=
  match s.eng.domains.find? (fun d => decide (d.cls = cls ∧ d.key = k)) with
  | some d => fullAddr d.addr
  | none => s.rd k

/-- The pair check of R38: granule `g`, whether length 0 has a meaning, and whether the buffer must lie in shared SRAM. -/
def domainOk (g : Nat) (zero sram : Bool) (addr len : Nat) : Bool :=
  decide (addr % 64 = 0) &&
    (if len = 0 then zero
     else decide (len % (max 1 g) = 0) && inMemory addr len && (!sram || decide (addr < 0x10800000)))

/-- Check 9 for a write of `i` to entry `k`. -/
def rangeOk (s : Sys) (cls : Cls) (k : Nat) (r : Dict.Row) (v : Nat) (i : Int) : Bool :=
  match r.dom with
  | some (g, zero, sram) => domainOk g zero sram (s.domainAddr cls (k - 1)) v && (inRange r i || (zero && decide (v = 0)))
  | none => decide (r.ty = .domain) || inRange r i

/-! ### Requests that must wait (R14, R47, R62, R457, R464) -/

/-- The block of an index is reached: its clock runs and its domain has restored (R14, R457). -/
def reached (s : Sys) (d : Nat) : Bool := s.clockRuns d && !s.pw.waking.testBit d

/-! ### The store (R61, R62) -/

/-- The pair that a write counts in: the one FWS_PAIR names for FWS_DATA. -/
def storePair (s : Sys) (k : Nat) : Nat := if k = Key.FwStore.FWS_DATA then s.rd Key.FwStore.FWS_PAIR else pairOf (keyIdx k)

/-- A store command keeps writes away from this entry (R65). -/
def storeBusy (s : Sys) (k : Nat) (r : Dict.Row) : Bool := s.eng.command.isSome && (r.kept || decide (k = Key.Store.STORE_COMMAND))

/-! ### A write that has passed checks 1 to 7 -/

/-- The value that an entry takes: reserved bits stay 0 (R7). -/
def maskWord (r : Dict.Row) (w : Word) : Word := if r.mask = 0 then w else w &&& BitVec.ofNat 64 r.mask

/-- Store the value of a write: a WO entry holds none, and a length write commits its DOMAIN pair (R38). -/
def storeValue (s : Sys) (cls : Cls) (k : Nat) (r : Dict.Row) (w : Word) : Sys :=
  if r.acc = .wo then s
  else if r.dom.isSome then
    let a := s.domainAddr cls (k - 1)
    let s : Sys := { s with eng := { s.eng with domains := s.eng.domains.filter (fun d => !decide (d.cls = cls ∧ d.key = k - 1)) } }
    (s.wr (k - 1) a).wrW k w
  else s.wrW k w

/-- The cells of the store that a write of `w` to entry `k` sets (R61): both of a DOMAIN pair, the eight bytes of FWS_DATA. -/
def storeCells (s : Sys) (cls : Cls) (k : Nat) (r : Dict.Row) (w : Word) : List (Nat × Word) :=
  if k = Key.FwStore.FWS_DATA then (List.range 8).map (fun j => (s.fwsAt + j, BitVec.ofNat 64 (w.toNat / 256 ^ j % 256)))
  else if r.dom.isSome then [(k - 1, BitVec.ofNat 64 (s.domainAddr cls (k - 1))), (k, w)]
  else [(k, w)]

/-- Stage the address of a DOMAIN (R38). -/
def stageDomain (s : Sys) (cls : Cls) (k v : Nat) : Sys :=
  { s with eng := { s.eng with domains := { cls := cls, key := k, addr := v } :: s.eng.domains.filter (fun d => !decide (d.cls = cls ∧ d.key = k)) } }

/-- RESULT of `0401.02` is the answer to the last power command. -/
def powerResult (s : Sys) (k v code : Nat) : Sys := if k = Key.Pwr.COMMAND ∧ (v = 1 ∨ v = 2) then s.wr Key.PwrSt.RESULT code else s

/-- Checks 8 to 12 of R48 and the write. `acc` tells the parity of the value and the verification of the store copies. -/
def writeEntry (s : Sys) (otp : Nat → Nat) (acc : Access) (k : Nat) (r : Dict.Row) (w : Word) (ext : Ext) : Sys × Verdict :=
  let cls := s.clsOf acc.who
  let w := maskWord r w
  let v := w.toNat
  let i : Int := if tySigned r.ty then w.toInt else v
  let (t, own) := s.need cls k v i ext
  let code := pickAbort [(!r.st.testBit (devCode s.dev), 0x0803), (true, own), (!s.rangeOk cls k r v i, 0x0604), (s.storeBusy k r, 0x0805), (!acc.parity, 0x0901)]
  let p := s.storePair k
  if code ≠ 0 then ((if code = own ∧ (r.st.testBit (devCode s.dev) ∨ k = Key.Pwr.COMMAND ∨ k = Key.Dom.ENABLE) then t else s).powerResult k v code, .done code)
  else if r.kept && (s.pair p).building then (s, .wait)
  else if r.ty = .domain then (t.stageDomain cls k v, .done 0)
  else if r.kept && !acc.copyA then (s.markCopy p false, .done 0x0A01)
  else
    let cells := t.storeCells cls k r w
    let s := (t.act (t.storeValue cls k r w) otp cls k v i ext).powerResult k v 0
    let s := s.when r.kept (fun s => (s.storeWrite p cells).when (!acc.copyB) (fun s => s.markCopy p true))
    (s, .done 0)

/-! ### One request (R48) -/

/-- What a master has staged of a slot. -/
def stagedLow (s : Sys) (m : Master) (k : Nat) : Option Nat := (s.eng.staged.find? (fun x => decide (x.m = m ∧ x.key = k))).map (fun x => x.low)

/-- Forget what a master has staged. -/
def unstage (s : Sys) (m : Master) : Sys := { s with eng := { s.eng with staged := s.eng.staged.filter (fun x => decide (x.m ≠ m)) } }

/-- A master stages the low word of a slot (R52). -/
def stageLow (s : Sys) (m : Master) (k low : Nat) : Sys :=
  let s := s.unstage m
  { s with eng := { s.eng with staged := { m := m, key := k, low := low } :: s.eng.staged } }

/-- The form of the value that a request brings. -/
def formOf (s : Sys) (q : WaitReq) (ty : Dict.Ty) : Form :=
  match q.acc.who with
  | .chain _ => chainForm ty q.size q.val
  | .window m _ => windowForm ty q.size q.val q.high (s.stagedLow m (q.idx * 256 + q.sub))

/-- Checks 1 to 6 of R48 for a request, 0 where they pass (R51, R54, R58, R93). -/
def frontCode (s : Sys) (q : WaitReq) (row : Option Dict.Row) : Nat :=
  let chain := isChain q.acc.who
  let kept := row.any (fun r => r.kept)
  let right := clsBit (s.clsOf q.acc.who) + b2n q.write
  if s.eng.warmPending || (chain && s.pw.holdPending) then 0x0805
  else if s.dev = .start ∧ s.rd Key.Restore.RESTORE_STATUS = 0 ∧ (chain || kept) then 0x0801
  else if 0x8000 ≤ q.idx ∨ !Dict.indexExists q.idx then 0x0601
  else match row with
    | none => 0x0602
    | some r =>
      if !(s.entryRights q.idx r).testBit right then 0x0701
      else if q.write ∧ r.acc = .ro then 0x0605
      else if !q.write ∧ r.acc = .wo then 0x0606
      else if q.write ∧ s.formOf q r.ty = .bad then 0x0603
      else if !q.write ∧ !chain ∧ ¬(q.size = 4 ∨ (q.size = 8 ∧ !q.high)) then 0x0603
      else 0

/-- The clock of a block in a clock-gated domain runs once it is accessed (R33, R455). -/
def ungate (s : Sys) (d : Nat) : Sys := if d = 15 then s else s.wrBit Key.Dom.CLOCKED d true

/-- A request is carried out, refused or told to wait. -/
def serve (s : Sys) (otp : Nat → Nat) (q : WaitReq) (ext : Ext) : Sys × Verdict :=
  let k := q.idx * 256 + q.sub
  let row := entryRow q.idx q.sub
  let d := domainOf q.idx
  let code := s.frontCode q row
  if code ≠ 0 then (s, .done code)
  else if !s.domainOn d then (s, .done 0x0807)
  else if !s.reached d then (s, .wait)
  else match row with
    | none => (s, .done 0x0602)
    | some r =>
      let s := s.ungate d
      if !q.write then
        if !q.acc.parity then (s, .done 0x0901) else (s.readActs k, .value r.ty (s.value q.idx q.sub))
      else match s.formOf q r.ty, q.acc.who with
        | .word w, .window m _ =>
          let x := s.writeEntry otp q.acc k r w ext
          (if q.high ∧ x.2 = .done 0 then x.1.unstage m else x.1, x.2)
        | .word w, .chain _ => s.writeEntry otp q.acc k r w ext
        | .stage low, .window m _ => (s.stageLow m k low, .done 0)
        | _, _ => (s, .done 0)

/-! ### Answers (R52, R53, R92, R93) -/

/-- A window refusal is recorded, and the master gets a bus error with zero data (R33, R53), which a hart takes as an
access fault (R424). -/
def refuseWindow (s : Sys) (m : Master) (q : WaitReq) (code : Nat) : Sys :=
  let a := windowAddr q.idx q.sub
  let (k, ch) : Nat × Nat := match m with | .sv => (Key.WinAbort.ABORT_SV, 0) | .ap h => (Key.WinAbort.ABORT_AP h, 0) | .dma c => (Key.WinAbort.ABORT_DMA, c)
  let s := s.wr k (code + ch * 2 ^ 16 + b2n q.write * 2 ^ 24 + q.sub * 2 ^ 32 + q.idx * 2 ^ 40)
  let s := s.when (decide (code = 0x0807)) (fun s => s.captureError 0x6A a (masterCode m))
  let s := s.emit (.busError (masterCode m) a)
  let cause := if q.write then 7 else 5
  let s := match m with | .sv => s.hartFault 4 cause a | .ap h => s.hartFault h cause a | .dma _ => s
  if q.write then s else s.emit (.window m 0)

/-- The snapshot that a high-word read takes its word from (R52). -/
def snapOf (s : Sys) (m : Master) (k : Nat) : Option Nat := (s.eng.snaps.find? (fun x => decide (x.m = m ∧ x.key = k))).map (fun x => x.val)

/-- Forget the snapshot of a master, whose previous window access is now another one. -/
def dropSnap (s : Sys) (m : Master) : Sys := { s with eng := { s.eng with snaps := s.eng.snaps.filter (fun x => decide (x.m ≠ m)) } }

/-- The word that a window read gives, with the snapshot that it takes or uses (R51, R52). -/
def windowRead (s : Sys) (m : Master) (q : WaitReq) (ty : Dict.Ty) (w : Word) : Sys × Nat :=
  let k := q.idx * 256 + q.sub
  let live := windowValue ty w
  let snap := s.snapOf m k
  let s := s.dropSnap m
  if q.size = 8 then (s, live)
  else if q.high then (s, snap.getD live / 2 ^ 32 % 2 ^ 32)
  else ({ s with eng := { s.eng with snaps := { m := m, key := k, val := live } :: s.eng.snaps } }, live % 2 ^ 32)

/-- A request that did not wait is answered (R53, R92). -/
def respond (s : Sys) (q : WaitReq) (v : Verdict) : Sys :=
  match q.acc.who, v with
  | _, .wait => s
  | .chain tag, .done code => s.answer (b2n q.write) q.idx q.sub tag code []
  | .chain tag, .value ty w => s.answer 0 q.idx q.sub tag 0 (chainValue ty w)
  | .window m _, .done code => let s := s.dropSnap m; if code = 0 then s else s.refuseWindow m q code
  | .window m _, .value ty w => let x := s.windowRead m q ty w; x.1.emit (.window m x.2)

/-- The engine has accepted WARM_RESET or HOLD: what is queued behind it and what firmware has not answered is answered with 0x0805 (R93). -/
def flushRequests (s : Sys) : Sys :=
  let waits := s.eng.waits
  let svc := s.chain.svcq
  let s : Sys := { s with eng := { s.eng with waits := [] }, chain := { s.chain with svcq := [] } }
  let s := waits.foldl (fun s q => s.respond q (.done 0x0805)) s
  svc.foldl (fun s r => s.answerSvc r 0x0805 []) s

/-! ### Firmware-served entries (R55) -/

/-- A chain request to an index that firmware serves. -/
def isFirmware (q : WaitReq) : Bool := isChain q.acc.who && decide (0x8000 ≤ q.idx ∧ q.idx < 0xF000)

/-- A chain request as its frame laid it out (R92). -/
def odReqOf (q : WaitReq) : OdReq :=
  { op := b2n q.write, idx := q.idx, sub := q.sub, tag := match q.acc.who with | .chain tag => tag | .window _ _ => 0, data := le q.size q.val }

/-- A firmware-served request from the chain (R55): rights, then the ring, the length and the queue. Byte 2 of the record, the requester
class, is 0 for the host; a place of the queue is free once its request is answered, whatever REQ_TAIL says (both DESIGN CHOICE, log
entry 48). -/
def firmware (s : Sys) (q : WaitReq) : Sys :=
  let r := odReqOf q
  let svc : SvcReq := { req := r, at_ := s.clk }
  if !(s.indexRights r.idx).testBit (b2n (decide (r.op = 1))) then s.answerSvc svc 0x0701 []
  else if s.rd Key.Fws.REQ_RING_LEN = 0 then s.answerSvc svc 0x0601 []
  else if 48 < r.data.length then s.answerSvc svc 0x0603 []
  else if 16 ≤ s.chain.svcq.length then s.answerSvc svc 0x0805 []
  else
    let rec_ := le 2 r.tag ++ [0, r.op] ++ le 2 r.idx ++ [r.sub, 0] ++ le 2 r.data.length ++ [r.src, 0, 0, 0, 0, 0] ++ r.data ++
      List.replicate (48 - r.data.length) 0
    let h := s.rd Key.Fws.REQ_HEAD
    let s := (s.setBytes (s.rd Key.Fws.REQ_RING_ADDR + 64 * h) rec_).wr Key.Fws.REQ_HEAD ((h + 1) % 16)
    ({ s with chain := { s.chain with svcq := s.chain.svcq ++ [svc] } } : Sys).raise 1

/-- WARM_RESET or HOLD has been answered and has not acted. -/
def leaving (s : Sys) : Bool := s.eng.warmPending || s.pw.holdPending

/-- A request at the head of the engine: false where it must wait. -/
def take (s : Sys) (otp : Nat → Nat) (q : WaitReq) (ext : Ext) : Sys × Bool :=
  let x := s.serve otp q ext
  if isFirmware q then (s.firmware q, true)
  else if x.2 = .wait then (s, false)
  else
    let t := x.1.respond q x.2
    (if t.leaving && !s.leaving then t.flushRequests else t, true)

/-! ### Admission (R47, R92, R93, R464) -/

/-- A request waits in the engine's queue. -/
def enqueueReq (s : Sys) (q : WaitReq) : Sys := { s with eng := { s.eng with waits := s.eng.waits ++ [q] } }

/-- A chain request is answered with 0x0805 for a full queue. -/
def queueFull (s : Sys) (q : WaitReq) : Sys := (s.inc Key.Credits.BUSY_ANSWERS).respond q (.done 0x0805)

/-- A request reaches the engine (R47, R93): it is answered at once in START, before a reset or HOLD and where the queue is full; it waits
behind others and in NAP; else it is taken. -/
def request (s : Sys) (otp : Nat → Nat) (q : WaitReq) (ext : Ext) : Sys :=
  let chain := isChain q.acc.who
  if chain && s.leaving then s.respond q (.done 0x0805)
  else if chain && decide (s.dev = .start ∧ s.rd Key.Restore.RESTORE_STATUS = 0) then (s.inc Key.Credits.STARTING_ANSWERS).respond q (.done 0x0801)
  else if s.engineStops then
    if chain && !s.rdBit Key.Wake.ENABLE 5 then s.respond q (.done 0x0805)
    else if chain && decide (64 ≤ s.chainWaits) then s.queueFull q
    else s.enqueueReq q
  else if s.eng.waits ≠ [] then
    if chain && decide (64 ≤ s.chainWaits) then s.queueFull q else s.enqueueReq q
  else
    let x := s.take otp q ext
    if x.2 then x.1 else s.enqueueReq q

/-- Requests that wait are taken in order until one must wait on; at most `n` of them. -/
def replayN (otp : Nat → Nat) : Nat → Sys → Sys
  | 0, s => s
  | n + 1, s =>
    match s.eng.waits with
    | [] => s
    | q :: rest =>
      if s.engineStops then s
      else
        let x := Sys.take { s with eng := { s.eng with waits := rest } } otp q {}
        if x.2 then replayN otp n x.1 else s

/-- The requests that wait are taken again, after what they waited for may have come. -/
def replay (s : Sys) (otp : Nat → Nat) : Sys := replayN otp s.eng.waits.length s

/-! ### Whole writes and reads of one entry -/

/-- A write of a whole entry by a requester: on the chain the bytes of its type, through the window one access. -/
def writeReq (acc : Access) (k v : Nat) : WaitReq :=
  let n := (entryRow (keyIdx k) (keySub k)).elim 4 (fun r => tySize r.ty)
  { acc := acc, write := true, idx := keyIdx k, sub := keySub k, size := if isChain acc.who then n else if n = 8 then 8 else 4
    val := v % 2 ^ (8 * (if isChain acc.who then n else max 4 n)) }

/-- A write of a signed value: its bits as the access carries them. -/
def writeReqI (acc : Access) (k : Nat) (v : Int) : WaitReq := writeReq acc k (trunc 64 v)

/-- A read of an entry. -/
def readReq (who : Req) (k : Nat) : WaitReq :=
  let n := (entryRow (keyIdx k) (keySub k)).elim 4 (fun r => tySize r.ty)
  { acc := { who := who }, write := false, idx := keyIdx k, sub := keySub k, size := if n = 8 then 8 else 4 }

end Sys

/-- What a command of the dictionary answers: the block follows, and a fuse word that PROGRAM has accepted is burnt (R441). -/
def onOd (f : (Nat → Nat) → Sys → Sys) (s : State) : Host.Outcome State Fault Refusal :=
  if !s.powered then .next s
  else
    let t := f s.otpWord s.toSys
    match t.eng.burn with
    | none => .next { s with toSys := t }
    | some (w, bits) =>
      .next { s with toSys := { t with eng := { t.eng with burn := none } }, otp := Kv.put (fun _ => (0 : Word)) w (BitVec.ofNat 64 (programmed (s.otpWord w) bits)) s.otp }

/-- What a command that is a write of one entry answers. -/
def onWrite (acc : Access) (k v : Nat) (ext : Ext) (s : State) : Host.Outcome State Fault Refusal :=
  onOd (fun otp s => s.request otp (Sys.writeReq acc k v) ext) s

end Sys2Proof.Machine
end

