-- ==== Sys2Proof/Machine/OdCmd.lean ====
section
/-! DEFINITION. OdCmd: the commands that are a write or a read of an entry of the object dictionary. -/

namespace Sys2Proof.Machine

open Sys2Proof

/-- COMMAND of a zone or of an overlap end (R211). -/
def Sys.zwCommand (w : Nat) : Nat := zwKey Key.Zone.COMMAND Key.HeadEnd.COMMAND w

/-- The DESCRIBE select of a class (R41). -/
def Sys.selectKey : Cls → Nat
  | .host => Key.Describe.SELECT_H
  | .fm => Key.Describe.SELECT_FM
  | .fs => Key.Describe.SELECT_FS

/-- OD_WRITE (R48): a write to any entry, with the size and the bytes of the request. -/
def execOdWrite (acc : Access) (idx : Fin 65536) (sub : Fin 256) (size val : Nat) (s : State) : Host.Outcome State Fault Refusal :=
  onOd (fun otp s => s.request otp { acc := acc, write := true, idx := idx, sub := sub, size := size, val := val } {}) s

/-- WINDOW_LOW_WORD_READ (R52). -/
def execWindowLowWordRead (m : Master) (machine : Bool) (idx : Fin 65536) (sub : Fin 256) (s : State) : Host.Outcome State Fault Refusal :=
  onOd (fun otp s => s.request otp { acc := { who := .window m machine }, write := false, idx := idx, sub := sub, size := 4 } {}) s

/-- WINDOW_SPLIT_WRITE (R52): one half of a slot; a chain request is not such an access. -/
def execWindowSplitWrite (acc : Access) (high : Bool) (idx : Fin 65536) (sub : Fin 256) (word : Nat) (s : State) : Host.Outcome State Fault Refusal :=
  onOd (fun otp s => if Sys.isChain acc.who then s else
    s.request otp { acc := acc, write := true, idx := idx, sub := sub, size := 4, val := word % 2 ^ 32, high := high } {}) s

/-- DOMAIN_ADDRESS_WRITE (R38): a write of an address subindex; another entry is not such a write. -/
def execDomainAddressWrite (acc : Access) (idx : Fin 65536) (sub : Fin 256) (addr : Nat) (s : State) : Host.Outcome State Fault Refusal :=
  onOd (fun otp s => if (entryRow idx sub).any (fun r => decide (r.ty = .domain)) then s.request otp (Sys.writeReq acc (idx * 256 + sub) addr) {} else s) s

/-- DOMAIN_LENGTH_WRITE (R38): a write of a length subindex; another entry is not such a write. -/
def execDomainLengthWrite (acc : Access) (idx : Fin 65536) (sub : Fin 256) (len : Nat) (s : State) : Host.Outcome State Fault Refusal :=
  onOd (fun otp s => if (entryRow idx sub).any (fun r => r.dom.isSome) then s.request otp (Sys.writeReq acc (idx * 256 + sub) len) {} else s) s

/-- SERVICE_TIMEOUT (R55). -/
def execServiceTimeout (tag : Nat) (s : State) : Host.Outcome State Fault Refusal := onSys (fun s => s.serviceTimeout tag) s

/-- STORE_REBUILD_COMPLETE (R62, R553): writes that wait proceed. -/
def execStoreRebuildComplete (pair : Fin 16) (s : State) : Host.Outcome State Fault Refusal :=
  onOd (fun otp s => (s.rebuildDone pair).replay otp) s

/-- DOMAIN_POWERED (R457, R471): accesses that wait proceed. -/
def execDomainPowered (d : Fin 15) (s : State) : Host.Outcome State Fault Refusal := onOd (fun otp s => (s.domPowered d).replay otp) s

/-- WAKE_EVENT (R468): from NAP, requests that wait proceed (R464). -/
def execWakeEvent (pins : Fin 16) (bad : Nat) (s : State) : Host.Outcome State Fault Refusal :=
  onUnit (fun t => (t.wakeEvent s.otpWord pins bad).replay s.otpWord) s

/-- PLL_LOCK (R472): accesses that wait for a clock that the ROM switches proceed. -/
def execPllLock (n : Fin 4) (s : State) : Host.Outcome State Fault Refusal := onOd (fun otp s => (s.pllLock n).replay otp) s

/-- TRIAL_TIMEOUT (R438): the unit resets; what waits is answered with 0x0805. -/
def execTrialTimeout (s : State) : Host.Outcome State Fault Refusal :=
  onSys (fun t => if t.trialOver then t.flushRequests.trialReset s.otpWord else t) s

/-- ERR_CAPTURE_READ (R497): a read of ERR_ADDR or ERR_MASTER. -/
def execErrCaptureRead (who : Req) (master : Bool) (s : State) : Host.Outcome State Fault Refusal :=
  onOd (fun otp s => s.request otp (Sys.readReq who (if master then Key.Gath.ERR_MASTER else Key.Gath.ERR_ADDR)) {}) s

/-- DESCRIBE_SELECT (R41). -/
def execDescribeSelect (acc : Access) (pair : Cls) (sel : Nat) (s : State) : Host.Outcome State Fault Refusal :=
  onWrite acc (Sys.selectKey pair) sel {} s

/-- RSP_COMMIT (R55). -/
def execRspCommit (acc : Access) (len : Nat) (s : State) : Host.Outcome State Fault Refusal :=
  onWrite acc Key.Fws.RSP_COMMIT len {} s

/-- FWS_DATA_WRITE (R61). -/
def execFwsDataWrite (acc : Access) (val : Nat) (s : State) : Host.Outcome State Fault Refusal :=
  onWrite acc Key.FwStore.FWS_DATA val {} s

/-- GO_CONFIG (R58). -/
def execGoConfig (acc : Access) (s : State) : Host.Outcome State Fault Refusal :=
  onWrite acc Key.DevCmd.DEVICE_COMMAND 1 {} s

/-- GO_READY (R58). -/
def execGoReady (acc : Access) (badTables : Nat) (s : State) : Host.Outcome State Fault Refusal :=
  onWrite acc Key.DevCmd.DEVICE_COMMAND 2 { bad := badTables } s

/-- ARM (R58). -/
def execArm (acc : Access) (s : State) : Host.Outcome State Fault Refusal :=
  onWrite acc Key.DevCmd.DEVICE_COMMAND 3 {} s

/-- DISARM (R58). -/
def execDisarm (acc : Access) (s : State) : Host.Outcome State Fault Refusal :=
  onWrite acc Key.DevCmd.DEVICE_COMMAND 4 {} s

/-- ENTER_SERVICE (R57). -/
def execEnterService (acc : Access) (s : State) : Host.Outcome State Fault Refusal :=
  onWrite acc Key.DevCmd.DEVICE_COMMAND 5 {} s

/-- LEAVE_SERVICE (R57). -/
def execLeaveService (acc : Access) (s : State) : Host.Outcome State Fault Refusal :=
  onWrite acc Key.DevCmd.DEVICE_COMMAND 6 {} s

/-- CLEAR_FAULT (R57). -/
def execClearFault (acc : Access) (s : State) : Host.Outcome State Fault Refusal :=
  onWrite acc Key.DevCmd.DEVICE_COMMAND 7 {} s

/-- WARM_RESET (R58). -/
def execWarmReset (acc : Access) (s : State) : Host.Outcome State Fault Refusal :=
  onWrite acc Key.DevCmd.DEVICE_COMMAND 8 {} s

/-- DEFAULTS_KEEP_IDENTITY (R551). -/
def execDefaultsKeepIdentity (acc : Access) (s : State) : Host.Outcome State Fault Refusal :=
  onWrite acc Key.Store.STORE_COMMAND 1 {} s

/-- DEFAULTS_ALL (R551). -/
def execDefaultsAll (acc : Access) (s : State) : Host.Outcome State Fault Refusal :=
  onWrite acc Key.Store.STORE_COMMAND 2 {} s

/-- VERIFY (R551). -/
def execVerify (acc : Access) (s : State) : Host.Outcome State Fault Refusal :=
  onWrite acc Key.Store.STORE_COMMAND 3 {} s

/-- REBUILD (R551). -/
def execRebuild (acc : Access) (s : State) : Host.Outcome State Fault Refusal :=
  onWrite acc Key.Store.STORE_COMMAND 4 {} s

/-- RESTORE_ACK (R65). -/
def execRestoreAck (acc : Access) (s : State) : Host.Outcome State Fault Refusal :=
  onWrite acc Key.RestoreAck.RESTORE_ACK 1 {} s

/-- PORT_ENABLE_WRITE (R74). -/
def execPortEnableWrite (acc : Access) (p : Fin 2) (v : Nat) (s : State) : Host.Outcome State Fault Refusal :=
  onWrite acc (Key.Port.ENABLE p) v {} s

/-- ENDPOINT_ENABLE_WRITE (R96). -/
def execEndpointEnableWrite (acc : Access) (n : Fin 8) (v : Nat) (s : State) : Host.Outcome State Fault Refusal :=
  onWrite acc (Key.Ep.ENABLE n) v {} s

/-- RELEASE_OFFSET_WRITE (R96). -/
def execReleaseOffsetWrite (acc : Access) (n : Fin 8) (v : Nat) (s : State) : Host.Outcome State Fault Refusal :=
  onWrite acc (Key.EpSt.RELEASE_OFFSET n) v {} s

/-- CHANNEL_ENABLE (R141). -/
def execChannelEnable (acc : Access) (c : Fin 16) (tableOk : Bool) (s : State) : Host.Outcome State Fault Refusal :=
  onWrite acc (Key.Ch.COMMAND c) 1 { ok := tableOk } s

/-- CHANNEL_DISABLE (R141). -/
def execChannelDisable (acc : Access) (c : Fin 16) (s : State) : Host.Outcome State Fault Refusal :=
  onWrite acc (Key.Ch.COMMAND c) 2 {} s

/-- CHANNEL_START (R141). -/
def execChannelStart (acc : Access) (c : Fin 16) (s : State) : Host.Outcome State Fault Refusal :=
  onWrite acc (Key.Ch.COMMAND c) 3 {} s

/-- CHANNEL_PAUSE (R141). -/
def execChannelPause (acc : Access) (c : Fin 16) (s : State) : Host.Outcome State Fault Refusal :=
  onWrite acc (Key.Ch.COMMAND c) 4 {} s

/-- CHANNEL_RESUME (R141). -/
def execChannelResume (acc : Access) (c : Fin 16) (s : State) : Host.Outcome State Fault Refusal :=
  onWrite acc (Key.Ch.COMMAND c) 5 {} s

/-- CHANNEL_STOP (R141). -/
def execChannelStop (acc : Access) (c : Fin 16) (s : State) : Host.Outcome State Fault Refusal :=
  onWrite acc (Key.Ch.COMMAND c) 6 {} s

/-- CHANNEL_RESET (R112). -/
def execChannelReset (acc : Access) (c : Fin 16) (s : State) : Host.Outcome State Fault Refusal :=
  onWrite acc (Key.Ch.COMMAND c) 7 {} s

/-- HOOP_ENABLE_WRITE (R128). -/
def execHoopEnableWrite (acc : Access) (c : Fin 16) (v : Nat) (tableOk : Bool) (s : State) : Host.Outcome State Fault Refusal :=
  onWrite acc (Key.Hoop.HOOP_ENABLE c) v { ok := tableOk } s

/-- CLOSE (R167). -/
def execSlotClose (acc : Access) (n : Fin 64) (s : State) : Host.Outcome State Fault Refusal :=
  onWrite acc (Key.Slot.COMMAND n) 1 {} s

/-- OPEN (R169). -/
def execSlotOpen (acc : Access) (n : Fin 64) (s : State) : Host.Outcome State Fault Refusal :=
  onWrite acc (Key.Slot.COMMAND n) 2 {} s

/-- SLOT_RESET (R169). -/
def execSlotReset (acc : Access) (n : Fin 64) (s : State) : Host.Outcome State Fault Refusal :=
  onWrite acc (Key.Slot.COMMAND n) 3 {} s

/-- RC_LEARN (R165). -/
def execRcLearn (acc : Access) (n : Fin 64) (s : State) : Host.Outcome State Fault Refusal :=
  onWrite acc (Key.Slot.COMMAND n) 4 {} s

/-- RC_FREEZE (R165). -/
def execRcFreeze (acc : Access) (n : Fin 64) (s : State) : Host.Outcome State Fault Refusal :=
  onWrite acc (Key.Slot.COMMAND n) 5 {} s

/-- RC_CLEAR (R165). -/
def execRcClear (acc : Access) (n : Fin 64) (s : State) : Host.Outcome State Fault Refusal :=
  onWrite acc (Key.Slot.COMMAND n) 6 {} s

/-- SLOT_MODE_WRITE (R172). -/
def execSlotModeWrite (acc : Access) (n : Fin 64) (v : Nat) (s : State) : Host.Outcome State Fault Refusal :=
  onWrite acc (Key.Slot.MODE n) v {} s

/-- BQ_ENABLE_WRITE (R159). -/
def execBqEnableWrite (acc : Access) (n : Fin 64) (v : Nat) (s : State) : Host.Outcome State Fault Refusal :=
  onWrite acc (Key.SlotBq.BQ_ENABLE n) v {} s

/-- RC_CONFIG_WRITE (R165). -/
def execRcConfigWrite (acc : Access) (n : Fin 64) (sub : Fin 4) (v : Nat) (s : State) : Host.Outcome State Fault Refusal :=
  onWrite acc (Key.SlotRc.RC_SOURCE n + sub) v {} s

/-- ZONE_ENABLE_WRITE (R205). -/
def execZoneEnableWrite (acc : Access) (w : Fin 192) (v : Nat) (s : State) : Host.Outcome State Fault Refusal :=
  onWrite acc (zwEnable w) v {} s

/-- JOIN (R211). -/
def execJoin (acc : Access) (w : Fin 192) (s : State) : Host.Outcome State Fault Refusal :=
  onWrite acc (Sys.zwCommand w) 1 {} s

/-- CANCEL_JOIN (R211). -/
def execCancelJoin (acc : Access) (w : Fin 192) (s : State) : Host.Outcome State Fault Refusal :=
  onWrite acc (Sys.zwCommand w) 2 {} s

/-- REPORT_POP (R216). -/
def execReportPop (acc : Access) (v : Nat) (s : State) : Host.Outcome State Fault Refusal :=
  onWrite acc Key.Rep.POP v {} s

/-- UPDATE_START (R235). -/
def execUpdateStart (acc : Access) (u : Fin 48) (s : State) : Host.Outcome State Fault Refusal :=
  onWrite acc (Sys.updKey u 9) 1 {} s

/-- UPDATE_RESUME (R235). -/
def execUpdateResume (acc : Access) (u : Fin 48) (s : State) : Host.Outcome State Fault Refusal :=
  onWrite acc (Sys.updKey u 9) 2 {} s

/-- UPDATE_ABORT (R235). -/
def execUpdateAbort (acc : Access) (u : Fin 48) (s : State) : Host.Outcome State Fault Refusal :=
  onWrite acc (Sys.updKey u 9) 3 {} s

/-- UPDATE_ROLLBACK (R235, R243): with the byte parity of the retained copy that it reads. -/
def execUpdateRollback (acc : Access) (u : TableRead) (s : State) : Host.Outcome State Fault Refusal :=
  onWrite acc (Sys.updKey u.u 9) 4 { ok := u.ok } s

/-- UPDATE_INSTALL (R235). -/
def execUpdateInstall (acc : Access) (u : Fin 48) (ok : Bool) (s : State) : Host.Outcome State Fault Refusal :=
  onWrite acc (Sys.updKey u 9) 5 { ok := ok } s

/-- PAT_REQUEST (R233). -/
def execPatRequest (acc : Access) (g : Fin 4) (s : State) : Host.Outcome State Fault Refusal :=
  onWrite acc (Key.Pat.PAT_COMMAND g) 1 {} s

/-- PAT_CLEAR (R233). -/
def execPatClear (acc : Access) (g : Fin 4) (s : State) : Host.Outcome State Fault Refusal :=
  onWrite acc (Key.Pat.PAT_COMMAND g) 2 {} s

/-- ENCODER_CLEAR (R250). -/
def execEncoderClear (acc : Access) (e : Fin 6) (s : State) : Host.Outcome State Fault Refusal :=
  onWrite acc (Key.Enc.COMMAND e) 1 {} s

/-- ENCODER_ZERO (R250). -/
def execEncoderZero (acc : Access) (e : Fin 6) (s : State) : Host.Outcome State Fault Refusal :=
  onWrite acc (Key.Enc.COMMAND e) 2 {} s

/-- CTRL_WRITE (R269). -/
def execCtrlWrite (acc : Access) (l : Fin 8) (s : State) : Host.Outcome State Fault Refusal :=
  onWrite acc (Key.LinkSt.CTRL_COMMAND l) 1 {} s

/-- CTRL_READ (R269). -/
def execCtrlRead (acc : Access) (l : Fin 8) (s : State) : Host.Outcome State Fault Refusal :=
  onWrite acc (Key.LinkSt.CTRL_COMMAND l) 2 {} s

/-- PICOT_STORE (R267). -/
def execPicotStore (acc : Access) (ok : Bool) (s : State) : Host.Outcome State Fault Refusal :=
  onWrite acc Key.Picot.COMMAND 1 { ok := ok } s

/-- PICOT_SEND (R273). -/
def execPicotSend (acc : Access) (s : State) : Host.Outcome State Fault Refusal :=
  onWrite acc Key.Picot.COMMAND 2 {} s

/-- PICOT_CHECK (R266). -/
def execPicotCheck (acc : Access) (bad : Nat) (s : State) : Host.Outcome State Fault Refusal :=
  onWrite acc Key.Picot.COMMAND 3 { bad := bad } s

/-- GROUP_ENABLE (R281). -/
def execGroupEnable (acc : Access) (g : Fin 4) (s : State) : Host.Outcome State Fault Refusal :=
  onWrite acc (Key.Grp.COMMAND g) 1 {} s

/-- GROUP_DISABLE (R281). -/
def execGroupDisable (acc : Access) (g : Fin 4) (s : State) : Host.Outcome State Fault Refusal :=
  onWrite acc (Key.Grp.COMMAND g) 2 {} s

/-- GROUP_START (R281). -/
def execGroupStart (acc : Access) (g : Fin 4) (s : State) : Host.Outcome State Fault Refusal :=
  onWrite acc (Key.Grp.COMMAND g) 3 {} s

/-- GROUP_PAUSE (R281). -/
def execGroupPause (acc : Access) (g : Fin 4) (s : State) : Host.Outcome State Fault Refusal :=
  onWrite acc (Key.Grp.COMMAND g) 4 {} s

/-- GROUP_RESUME (R281). -/
def execGroupResume (acc : Access) (g : Fin 4) (s : State) : Host.Outcome State Fault Refusal :=
  onWrite acc (Key.Grp.COMMAND g) 5 {} s

/-- GROUP_STOP (R281). -/
def execGroupStop (acc : Access) (g : Fin 4) (s : State) : Host.Outcome State Fault Refusal :=
  onWrite acc (Key.Grp.COMMAND g) 6 {} s

/-- GROUP_RESET (R281). -/
def execGroupReset (acc : Access) (g : Fin 4) (s : State) : Host.Outcome State Fault Refusal :=
  onWrite acc (Key.Grp.COMMAND g) 7 {} s

/-- AXIS_ENABLE (R307). -/
def execAxisEnable (acc : Access) (a : Fin 8) (s : State) : Host.Outcome State Fault Refusal :=
  onWrite acc (Key.Axis.COMMAND a) 1 {} s

/-- AXIS_DISABLE (R307). -/
def execAxisDisable (acc : Access) (a : Fin 8) (s : State) : Host.Outcome State Fault Refusal :=
  onWrite acc (Key.Axis.COMMAND a) 2 {} s

/-- MOVE_ABS (R288). -/
def execMoveAbs (acc : Access) (a : Fin 8) (s : State) : Host.Outcome State Fault Refusal :=
  onWrite acc (Key.Axis.COMMAND a) 3 {} s

/-- MOVE_REL (R288). -/
def execMoveRel (acc : Access) (a : Fin 8) (s : State) : Host.Outcome State Fault Refusal :=
  onWrite acc (Key.Axis.COMMAND a) 4 {} s

/-- RUN_TABLE (R294). -/
def execRunTable (acc : Access) (a : Fin 8) (ok : Bool) (s : State) : Host.Outcome State Fault Refusal :=
  onWrite acc (Key.Axis.COMMAND a) 5 { ok := ok } s

/-- SWITCH_TABLE (R295). -/
def execSwitchTable (acc : Access) (a : Fin 8) (s : State) : Host.Outcome State Fault Refusal :=
  onWrite acc (Key.Axis.COMMAND a) 6 {} s

/-- AXIS_STOP (R296). -/
def execAxisStop (acc : Access) (a : Fin 8) (s : State) : Host.Outcome State Fault Refusal :=
  onWrite acc (Key.Axis.COMMAND a) 7 {} s

/-- QUICK_STOP (R297). -/
def execQuickStop (acc : Access) (a : Fin 8) (s : State) : Host.Outcome State Fault Refusal :=
  onWrite acc (Key.Axis.COMMAND a) 8 {} s

/-- AXIS_RESET (R307). -/
def execAxisReset (acc : Access) (a : Fin 8) (s : State) : Host.Outcome State Fault Refusal :=
  onWrite acc (Key.Axis.COMMAND a) 9 {} s

/-- SET_POSITION (R307). -/
def execSetPosition (acc : Access) (a : Fin 8) (s : State) : Host.Outcome State Fault Refusal :=
  onWrite acc (Key.Axis.COMMAND a) 10 {} s

/-- CONTEXT_ENABLE_WRITE (R317). -/
def execContextEnableWrite (acc : Access) (k : Fin 16) (v : Nat) (s : State) : Host.Outcome State Fault Refusal :=
  onWrite acc (Key.Ctx.ENABLE k) v {} s

/-- OUTPUT_ENABLE_WRITE (R326). -/
def execOutputEnableWrite (acc : Access) (k : Fin 16) (n : Fin 3) (v : Nat) (s : State) : Host.Outcome State Fault Refusal :=
  onWrite acc (Key.Out.ENABLE k n) v {} s

/-- PROF_ENABLE_WRITE (R330). -/
def execProfEnableWrite (acc : Access) (k : Fin 16) (v : Nat) (s : State) : Host.Outcome State Fault Refusal :=
  onWrite acc (Key.Profl.PROF_ENABLE k) v {} s

/-- RETRAIN (R356). -/
def execRetrain (acc : Access) (l : Fin 16) (s : State) : Host.Outcome State Fault Refusal :=
  onWrite acc (Key.Lane.COMMAND l) 1 {} s

/-- RELOAD_EQ (R340). -/
def execReloadEq (acc : Access) (l : Fin 16) (s : State) : Host.Outcome State Fault Refusal :=
  onWrite acc (Key.Lane.COMMAND l) 2 {} s

/-- TEST_START (R354). -/
def execTestStart (acc : Access) (l : Fin 16) (s : State) : Host.Outcome State Fault Refusal :=
  onWrite acc (Key.Lane.COMMAND l) 3 {} s

/-- TEST_STOP (R354). -/
def execTestStop (acc : Access) (l : Fin 16) (s : State) : Host.Outcome State Fault Refusal :=
  onWrite acc (Key.Lane.COMMAND l) 4 {} s

/-- TX_TAIL_WRITE (R352). -/
def execTxTailWrite (acc : Access) (m : Fin 2) (v : Nat) (s : State) : Host.Outcome State Fault Refusal :=
  onWrite acc (Key.MacRing.TX_TAIL m) v {} s

/-- INCREMENT_WRITE (R359). -/
def execIncrementWrite (acc : Access) (adj : Bool) (v : Nat) (s : State) : Host.Outcome State Fault Refusal :=
  onWrite acc (if adj then Key.Inc.ADJ_INCREMENT else Key.Inc.INCREMENT) v {} s

/-- ADJ_TICKS_WRITE (R359). -/
def execAdjTicksWrite (acc : Access) (v : Nat) (s : State) : Host.Outcome State Fault Refusal :=
  onWrite acc Key.Inc.ADJ_TICKS v {} s

/-- TIME_STEP (R360). -/
def execTimeStep (acc : Access) (v : Int) (s : State) : Host.Outcome State Fault Refusal :=
  onWrite acc Key.Step.TIME_STEP (trunc 64 v) {} s

/-- TRIGGER_CONFIG_WRITE (R362). -/
def execTriggerConfigWrite (acc : Access) (n : Fin 32) (sub : Fin 3) (v : Nat) (s : State) : Host.Outcome State Fault Refusal :=
  onWrite acc (Key.Trig.MODE n + sub) v {} s

/-- TRIGGER_ARM (R363). -/
def execTriggerArm (acc : Access) (n : Fin 32) (v : Nat) (s : State) : Host.Outcome State Fault Refusal :=
  onWrite acc (Key.Trig.AT n) v {} s

/-- PULSE (R364). -/
def execPulse (acc : Access) (n : Fin 32) (s : State) : Host.Outcome State Fault Refusal :=
  onWrite acc (Key.Trig.COMMAND n) 1 {} s

/-- CANCEL (R363). -/
def execCancel (acc : Access) (n : Fin 32) (s : State) : Host.Outcome State Fault Refusal :=
  onWrite acc (Key.Trig.COMMAND n) 2 {} s

/-- CAPTURE_POP (R368). -/
def execCapturePop (acc : Access) (n : Fin 32) (v : Nat) (s : State) : Host.Outcome State Fault Refusal :=
  onWrite acc (Key.Cap.POP n) v {} s

/-- CAPTURE_CONFIG_WRITE (R368). -/
def execCaptureConfigWrite (acc : Access) (n : Fin 32) (edge : Bool) (v : Nat) (s : State) : Host.Outcome State Fault Refusal :=
  onWrite acc (if edge then Key.Cap.EDGE n else Key.Cap.SOURCE n) v {} s

/-- UNFREEZE (R391). -/
def execUnfreeze (acc : Access) (s : State) : Host.Outcome State Fault Refusal :=
  onWrite acc Key.DmcSt.COMMAND 1 {} s

/-- DEBUG_READ (R390). -/
def execDebugRead (acc : Access) (bad : Nat) (s : State) : Host.Outcome State Fault Refusal :=
  onWrite acc Key.DmcDbg.DEBUG_COMMAND 1 { bad := bad } s

/-- PPR_SOFT (R394). -/
def execPprSoft (acc : Access) (s : State) : Host.Outcome State Fault Refusal :=
  onWrite acc Key.Ppr.PPR_COMMAND 1 {} s

/-- PPR_HARD (R394). -/
def execPprHard (acc : Access) (s : State) : Host.Outcome State Fault Refusal :=
  onWrite acc Key.Ppr.PPR_COMMAND 2 {} s

/-- BEGIN (R392). -/
def execTrainBegin (acc : Access) (s : State) : Host.Outcome State Fault Refusal :=
  onWrite acc Key.Train.TRAIN_COMMAND 1 {} s

/-- TRAIN_END (R397). -/
def execTrainEnd (acc : Access) (pass : Bool) (osc : List Nat) (s : State) : Host.Outcome State Fault Refusal :=
  onWrite acc Key.Train.TRAIN_COMMAND 2 { ok := pass, osc := some osc } s

/-- TRAIN_ABORT (R392). -/
def execTrainAbort (acc : Access) (s : State) : Host.Outcome State Fault Refusal :=
  onWrite acc Key.Train.TRAIN_COMMAND 3 {} s

/-- MRW (R396). -/
def execMrw (acc : Access) (s : State) : Host.Outcome State Fault Refusal :=
  onWrite acc Key.Mr.MR_COMMAND 1 {} s

/-- MRR (R396). -/
def execMrr (acc : Access) (val : Nat) (s : State) : Host.Outcome State Fault Refusal :=
  onWrite acc Key.Mr.MR_COMMAND 2 { val := some val } s

/-- MPC (R396). -/
def execMpc (acc : Access) (s : State) : Host.Outcome State Fault Refusal :=
  onWrite acc Key.Mr.MR_COMMAND 3 {} s

/-- MRW_LANE (R396). -/
def execMrwLane (acc : Access) (s : State) : Host.Outcome State Fault Refusal :=
  onWrite acc Key.Mr.MR_COMMAND 4 {} s

/-- PAT_WRITE (R396). -/
def execPatWrite (acc : Access) (s : State) : Host.Outcome State Fault Refusal :=
  onWrite acc Key.TPat.PAT_COMMAND 1 {} s

/-- PAT_COMPARE (R396). -/
def execPatCompare (acc : Access) (s : State) : Host.Outcome State Fault Refusal :=
  onWrite acc Key.TPat.PAT_COMMAND 2 {} s

/-- SAMPLE (R396). -/
def execSample (acc : Access) (s : State) : Host.Outcome State Fault Refusal :=
  onWrite acc Key.TPat.PAT_COMMAND 3 {} s

/-- DMA_ARM (R410). -/
def execDmaArm (acc : Access) (d : Fin 32) (v : Nat) (s : State) : Host.Outcome State Fault Refusal :=
  onWrite acc (Key.DmaSh.ARM d) v {} s

/-- DMA_STOP (R412). -/
def execDmaStop (acc : Access) (d : Fin 32) (s : State) : Host.Outcome State Fault Refusal :=
  onWrite acc (Key.Dma.COMMAND d) 1 {} s

/-- DMA_START (R412). -/
def execDmaStart (acc : Access) (d : Fin 32) (s : State) : Host.Outcome State Fault Refusal :=
  onWrite acc (Key.Dma.COMMAND d) 2 {} s

/-- DMA_CLEAR (R412). -/
def execDmaClear (acc : Access) (d : Fin 32) (s : State) : Host.Outcome State Fault Refusal :=
  onWrite acc (Key.Dma.COMMAND d) 3 {} s

/-- DMA_ENABLE_WRITE (R413). -/
def execDmaEnableWrite (acc : Access) (d : Fin 32) (v : Nat) (s : State) : Host.Outcome State Fault Refusal :=
  onWrite acc (Key.Dma.ENABLE d) v {} s

/-- CQ_TAIL_WRITE (R418). -/
def execCqTailWrite (acc : Access) (q : Fin 8) (v : Nat) (s : State) : Host.Outcome State Fault Refusal :=
  onWrite acc (Key.Cq.TAIL q) v {} s

/-- CHECK_A (R437). -/
def execCheckA (acc : Access) (s : State) : Host.Outcome State Fault Refusal :=
  onWrite acc Key.Image.COMMAND 1 {} s

/-- CHECK_B (R437). -/
def execCheckB (acc : Access) (s : State) : Host.Outcome State Fault Refusal :=
  onWrite acc Key.Image.COMMAND 2 {} s

/-- INVALIDATE_A (R452). -/
def execInvalidateA (acc : Access) (s : State) : Host.Outcome State Fault Refusal :=
  onWrite acc Key.Image.COMMAND 3 {} s

/-- INVALIDATE_B (R452). -/
def execInvalidateB (acc : Access) (s : State) : Host.Outcome State Fault Refusal :=
  onWrite acc Key.Image.COMMAND 4 {} s

/-- CONFIRM (R438). -/
def execConfirm (acc : Access) (s : State) : Host.Outcome State Fault Refusal :=
  onWrite acc Key.Image.COMMAND 5 {} s

/-- MRAM_WRITE (R439). -/
def execMramWrite (acc : Access) (s : State) : Host.Outcome State Fault Refusal :=
  onWrite acc Key.Mram.COMMAND 1 {} s

/-- MRAM_COMPARE (R439). -/
def execMramCompare (acc : Access) (s : State) : Host.Outcome State Fault Refusal :=
  onWrite acc Key.Mram.COMMAND 2 {} s

/-- MRAM_ZERO (R439). -/
def execMramZero (acc : Access) (s : State) : Host.Outcome State Fault Refusal :=
  onWrite acc Key.Mram.COMMAND 3 {} s

/-- OTP_READ (R452). -/
def execOtpRead (acc : Access) (s : State) : Host.Outcome State Fault Refusal :=
  onWrite acc Key.Otp.OTP_COMMAND 1 {} s

/-- OTP_PROGRAM (R441). -/
def execOtpProgram (acc : Access) (ok : Bool) (s : State) : Host.Outcome State Fault Refusal :=
  onWrite acc Key.Otp.OTP_COMMAND 2 { ok := ok } s

/-- NAP (R460). -/
def execNap (acc : Access) (s : State) : Host.Outcome State Fault Refusal :=
  onWrite acc Key.Pwr.COMMAND 1 {} s

/-- HOLD (R465). -/
def execHold (acc : Access) (s : State) : Host.Outcome State Fault Refusal :=
  onWrite acc Key.Pwr.COMMAND 2 {} s

/-- DOMAIN_ENABLE_WRITE (R456). -/
def execDomainEnableWrite (acc : Access) (v : Nat) (s : State) : Host.Outcome State Fault Refusal :=
  onOd (fun otp s => (s.request otp (Sys.writeReq acc Key.Dom.ENABLE v) {}).replay otp) s

/-- PAD_RELEASE (R480). -/
def execPadRelease (acc : Access) (v : Nat) (s : State) : Host.Outcome State Fault Refusal :=
  onWrite acc Key.Pad.RELEASE v {} s

/-- PLL_ENABLE_WRITE (R472). -/
def execPllEnableWrite (acc : Access) (v : Nat) (s : State) : Host.Outcome State Fault Refusal :=
  onWrite acc Key.Pll.PLL_ENABLE v {} s

/-- CLOCK_SOURCE_WRITE (R472). -/
def execClockSourceWrite (acc : Access) (v : Nat) (s : State) : Host.Outcome State Fault Refusal :=
  onOd (fun otp s => (s.request otp (Sys.writeReq acc Key.Pll.SOURCE v) {}).replay otp) s

/-- FAULT_LOG_POP (R492). -/
def execFaultLogPop (acc : Access) (v : Nat) (s : State) : Host.Outcome State Fault Refusal :=
  onWrite acc Key.FLog.POP v {} s

/-- CLOSE_NOW (R504). -/
def execCloseNow (acc : Access) (s : State) : Host.Outcome State Fault Refusal :=
  onWrite acc Key.Smp.COMMAND 1 {} s

/-- CLEAR_CIRCULATING (R506). -/
def execClearCirculating (acc : Access) (s : State) : Host.Outcome State Fault Refusal :=
  onWrite acc Key.Smp.COMMAND 2 {} s

/-- SAMPLER_SELECT (R505). -/
def execSamplerSelect (acc : Access) (index : Bool) (v : Nat) (s : State) : Host.Outcome State Fault Refusal :=
  onWrite acc (if index then Key.SmpSel.INDEX else Key.SmpSel.AREA) v {} s

end Sys2Proof.Machine
end

