-- ==== Sys2Proof/Machine/Frames.lean ====
section
/-! DEFINITION. Frames: what the unit does with every chain frame for it (R69, R92, R93, R101), and Ethernet frames that reach a MAC or the
gateway (R98, R99, R351). -/

namespace Sys2Proof.Machine

open Sys2Proof

namespace Sys

/-- An OD_REQ has arrived on port `p` (R92, R93): one without a whole tag is discarded, a malformed one is refused, every other one reaches
the engine. -/
def odReqIn (s : Sys) (otp : Nat → Nat) (p : Nat) (f : Frame) : Sys :=
  if f.src ≠ 0xFE ∨ f.dest ≠ s.address ∨ s.address = 0 then s
  else if f.payload.length < 8 then s.otherDiscard p
  else
    let op := u8At f.payload 0
    let data := (f.payload.drop 8).map (fun b => b % 256)
    let idx := u16At f.payload 2
    let tag := u16At f.payload 6
    let bad := decide (1 < op ∨ (op = 0 ∧ data ≠ []) ∨ u16At f.payload 4 ≠ data.length)
    let starting := decide (s.dev = .start ∧ s.rd Key.Restore.RESTORE_STATUS = 0)
    if bad && s.engineStops && !s.rdBit Key.Wake.ENABLE 5 then s.answer op idx (u8At f.payload 1) tag 0x0805 []
    else if bad && !s.leaving && !starting then s.answer op idx (u8At f.payload 1) tag 0x0603 []
    else if bad then
      s.when (!s.leaving) (fun s => s.inc Key.Credits.STARTING_ANSWERS) |>.answer op idx (u8At f.payload 1) tag (if s.leaving then 0x0805 else 0x0801) []
    else
      s.request otp { acc := { who := .chain tag }, write := decide (op = 1), idx := idx, sub := u8At f.payload 1, size := data.length, val := unle data } {}

/-- What the unit does with a frame for it, by its type (R69, R79). -/
def frameIn (otp : Nat → Nat) (s : Sys) (p : Nat) (f : Frame) : Sys :=
  let mine := decide (f.dest = s.address)
  match f.typ with
  | 1 => s.enumIn p f
  | 2 => s.odReqIn otp p f
  | 4 => if mine then s.streamIn p f else s
  | 6 => s.syncTake p f.src (s.stampIn p f) f.corr f.payload
  | 7 => if mine then s.delayAnswer p f.src (s.stampIn p f) f.payload else s
  | 8 => if mine then s.delayTake p (s.stampIn p f) f.corr f.payload else s
  | 9 => s.alarmIn f
  | 0x0B => if mine then s.bootTake otp f.payload else s
  | _ => s

/-- A received Ethernet frame at the gateway (R99): false where it goes on to the MAC. -/
def gatewayIn (s : Sys) (otp : Nat → Nat) (m : Nat) (d : List Nat) : Sys × Bool :=
  let arp := decide (beAt d 12 2 = 0x0806 ∧ beAt d 20 2 = 1 ∧ beAt d 38 4 = s.rd Key.Gw.LOCAL_IP)
  if arp then (s.arpIn m d, true)
  else match judgeDatagram (s.rd Key.Gw.LOCAL_IP) (s.rd Key.Gw.HOST_IP) (s.rd Key.Gw.UDP_PORT) d with
    | .other => (s, false)
    | .refused => (s.inc Key.Gw.RX_DISCARDS, true)
    | .frame f => ((s.inc Key.Gw.RX_DATAGRAMS).inject f (frameIn otp), true)

/-- An Ethernet frame is received (R350, R351): it is filtered, and goes to the gateway or to the receive ring. -/
def macReceive (s : Sys) (otp : Nat → Nat) (m : Nat) (d : List Nat) (fcsOk : Bool) (fec : Nat) : Sys :=
  let x := s.macIn m d fcsOk fec
  if !x.2 then x.1
  else if !x.1.gatewayOn m then x.1.macToRing m d
  else
    let y := x.1.gatewayIn otp m d
    if y.2 then y.1 else y.1.macToRing m d

end Sys

/-- OD_REQ (R92, R93). -/
def execOdReq (p : Fin 2) (f : Frame) (s : State) : Host.Outcome State Fault Refusal :=
  onOd (fun otp s => s.receiveIf p f (decide (f.typ = 2)) (fun s p f => s.odReqIn otp p f)) s

/-- FRAME_FORWARD (R68 to R72, R80): a frame of any kind arrives. -/
def execFrameForward (p : Fin 2) (f : Frame) (s : State) : Host.Outcome State Fault Refusal := onOd (fun otp s => s.receive p f (Sys.frameIn otp)) s

/-- BOOT_DATA (R101). -/
def execBootData (p : Fin 2) (f : Frame) (s : State) : Host.Outcome State Fault Refusal :=
  onOd (fun otp s => s.receiveIf p f (decide (f.typ = 0x0B)) (fun s _ f => if f.dest = s.address then s.bootTake otp f.payload else s)) s

/-- GATEWAY_DATAGRAM (R98, R99): a frame that the gateway's MAC has accepted. -/
def execGatewayDatagram (m : Fin 2) (d : List Nat) (s : State) : Host.Outcome State Fault Refusal :=
  onOd (fun otp s => if s.gatewayOn m then (s.gatewayIn otp m d).1 else s) s

/-- MAC_FRAME_RECEIVE (R351). -/
def execMacFrameReceive (m : Fin 2) (d : List Nat) (fcsOk : Bool) (fec : Nat) (s : State) : Host.Outcome State Fault Refusal :=
  onOd (fun otp s => s.macReceive otp m d fcsOk fec) s

end Sys2Proof.Machine
end

