-- ==== Sys2Proof/Machine/Bus.lean ====
section
/-! DEFINITION. Bus: accesses on the fabric: those of the harts with their attributes, PMP and caches (R422 to R426, R444, R446), those of
the other masters (R15 to R17, R447, R485), and the bursts of the DMA engine (R415) with the window as one side (R407, R47). -/

namespace Sys2Proof.Machine

open Sys2Proof

/-- The exception code of an access fault (R424, R485): 1 fetch, 5 load and LR, 7 store, SC and AMO. -/
def faultCause (use : BusUse) : Nat :=
  match use with
  | .load => 5
  | .lr => 5
  | .fetch => 1
  | .store => 7
  | .sc => 7
  | .amo _ => 7

/-- An access of the A extension. -/
def atomicUse (use : BusUse) : Bool :=
  match use with
  | .load => false
  | .store => false
  | .fetch => false
  | .lr => true
  | .sc => true
  | .amo _ => true

/-- What an access does: bit 0 reads, bit 1 writes, bit 2 executes. -/
def useKinds (use : BusUse) : List Nat :=
  match use with
  | .load => [0]
  | .lr => [0]
  | .store => [1]
  | .sc => [1]
  | .fetch => [2]
  | .amo _ => [0, 1]

/-- The value an AMO leaves, of `n` bits, from the one it finds (R422: the A extension). -/
def amoValue (op n old v : Nat) : Nat :=
  let a := old % 2 ^ n
  let b := v % 2 ^ n
  let sgn (x : Nat) : Int := if x < 2 ^ (n - 1) then (x : Int) else (x : Int) - 2 ^ n
  match op with
  | 0 => b
  | 1 => (a + b) % 2 ^ n
  | 2 => a ^^^ b
  | 3 => a &&& b
  | 4 => a ||| b
  | 5 => if sgn b < sgn a then b else a
  | 6 => if sgn a < sgn b then b else a
  | 7 => min a b
  | _ => max a b

/-- The hart of a master code of `0300.06`. -/
def masterHart (m : Nat) : Nat := if m = 0 then 4 else m - 1

/-- A master code is an AP hart. -/
def isAp (m : Nat) : Bool := decide (1 ≤ m ∧ m ≤ 4)

/-- A region that AP harts cache, and that harts execute from (R424). -/
def cachedRegion (r : Nat) : Bool := decide (r = 1 ∨ r = 2 ∨ r = 3 ∨ r = 7)

namespace Sys

/-- An access ends with a bus error: a hart takes its access fault, another master's read gets zero (R15, R424). -/
def accessFault (s : Sys) (m : Nat) (use : BusUse) (addr : Nat) : Sys :=
  let s := s.emit (.busError m addr)
  if m ≤ 4 then s.hartFault (masterHart m) (faultCause use) addr
  else if use = .store then s else s.emit (.data m 0)

/-- A request or its data fails its byte parity (R485, R388): DRAM data freezes the controller; the gatherer records the masters that have
no parity fault of their own. -/
def busParity (s : Sys) (m a len bad : Nat) : Sys :=
  let lanes := bad % 2 ^ len * 2 ^ (a % 64) % 2 ^ 64
  let s := s.when (decide (regionOf a = 7 ∧ lanes ≠ 0)) (fun s => s.readFails m a len lanes)
  s.when (decide (m ≤ 4 ∨ (0x44 ≤ m ∧ m ≤ 0x46))) (fun s => s.captureError 0x6B a m)

/-- The line of an address is in the hart's L1, or its store buffer holds the byte: the access does not leave the hart (R425). -/
def inL1 (s : Sys) (h a : Nat) : Bool :=
  (s.lineAt h a).isSome || s.core.stores.any (fun e => decide (e.hart = h ∧ e.at_ ≤ a ∧ a < e.at_ + e.data.length))

/-- The bytes of a load, of a hart, a device or the debug module, outside the window; none is a bus error. `bad` has a bit for each byte
that fails its parity. -/
def busRead (s : Sys) (m : Nat) (machine : Bool) (addr len : Nat) (reqOk : Bool) (bad : Nat) : Sys × Option (List Nat) :=
  let a := fullAddr addr
  let h := if m = 0x46 then 5 else masterHart m
  let own (s : Sys) : List Nat := (List.range len).map (fun i => s.hartByte h (a + i))
  if isAp m && (List.range len).all (fun i => s.inL1 h (a + i)) then (s, some (own s))
  else
    let g := s.busCheck m machine false addr len
    if !g.2 then (g.1, none)
    else if !reqOk then (g.1.busParity m a len 0, none)
    else if bad % 2 ^ len ≠ 0 then (g.1.busParity m a len bad, none)
    else if regionOf a = 5 then
      if len = 4 ∨ len = 8 then
        match g.1.coreLocalRead h machine a with
        | (t, some v) => (t, some (le len (v % 2 ^ (8 * len))))
        | (t, none) => (t.captureError 0x6A a m, none)
      else (g.1.captureError 0x6A a m, none)
    else if isAp m && cachedRegion (regionOf a) then
      let s := (g.1.fillLine h a).fillLine h (a + len - 1)
      (s, some (own s))
    else (g.1, some (if m = 0 then own g.1 else g.1.busBytes a len))

/-- A store of a hart, a device or the debug module, outside the window; false is a bus error. A store of a hart to memory goes to its
store buffer or write buffer; into a line that it holds dirty it does not enter the fabric. `bad` has a bit for each byte that comes with bad parity, which
the DRAM stores so (R380). -/
def busWrite (s : Sys) (m : Nat) (machine : Bool) (addr : Nat) (data : List Nat) (reqOk : Bool) (bad : Nat) : Sys × Bool :=
  let a := fullAddr addr
  let len := data.length
  let h := if m = 0x46 then 5 else masterHart m
  let held (x : Nat) : Bool := (s.lineAt h x).any (fun l => l.dirty)
  if isAp m && held a && held (a + len - 1) then (s.bufferStore h a data bad, true)
  else
    let g := s.busCheck m machine true addr len
    if !g.2 then (g.1, false)
    else if !reqOk then (g.1.busParity m a len 0, false)
    else if regionOf a = 5 then
      if len = 4 ∨ len = 8 then
        match g.1.coreLocalWrite h machine a len (unle data) with
        | some t => (t, true)
        | none => (g.1.captureError 0x6A a m, false)
      else (g.1.captureError 0x6A a m, false)
    else if m ≤ 4 ∧ cachedRegion (regionOf a) = true then (g.1.bufferStore h a data bad, true)
    else (g.1.busStore m a data bad, true)

/-- The request that a window access is (R50, R51): an access that is not a naturally aligned word or double word has size 0. -/
def windowReq (m : Master) (machine write : Bool) (a len v : Nat) (parity : Bool) : WaitReq :=
  { acc := { who := .window m machine, parity := parity }, write := write, idx := (a - 0x60000000) / 0x800 % 65536, sub := a / 8 % 256
    size := if (len = 4 ∨ len = 8) ∧ a % len = 0 then len else 0, val := v % 2 ^ (8 * len), high := decide (len = 4 ∧ a % 8 = 4) }

/-- The window master of a master code. -/
def windowMaster (m : Nat) : Option Master :=
  if m = 0 then some .sv
  else if h : m - 1 < 4 then some (.ap ⟨m - 1, h⟩)
  else if h : 0x10 ≤ m ∧ m - 0x10 < 32 then some (.dma ⟨m - 0x10, h.2⟩)
  else none

/-- A hart can make this access: it is out of reset, and the instruction exists (R422, R423). -/
def hartIssues (s : Sys) (m : Nat) (use : BusUse) (size addr : Nat) : Bool :=
  s.hartOut (masterHart m) && (decide (m ≠ 0) || decide (addr < 2 ^ 32)) &&
    if use = .fetch then decide (size = 2 ∨ size = 4) && decide (addr % 2 = 0)
    else if atomicUse use then decide (size = 4) || (decide (size = 8) && isAp m)
    else decide (size = 1 ∨ size = 2 ∨ size = 4) || (decide (size = 8) && isAp m)

/-- A hart's access breaks the attributes of its region or the PMP, so that it takes an access fault before the fabric (R424, R444). A
misaligned access to the window is the engine's to refuse (R51). -/
def hartRefuses (s : Sys) (m : Nat) (machine : Bool) (use : BusUse) (size addr : Nat) : Bool :=
  let region := regionOf (fullAddr addr)
  (!machine && !(useKinds use).all (fun kind => s.pmpAllows (masterHart m) kind addr size)) ||
    (decide (use = .fetch) && decide (4 ≤ region ∧ region ≤ 6)) ||
    (atomicUse use && decide ((region ≠ 2 ∧ region ≠ 7) ∨ addr % size ≠ 0)) ||
    (decide (use ≠ .fetch) && decide (addr % size ≠ 0 ∧ region ≠ 6) && (decide (m = 0) || decide (4 ≤ region ∧ region ≤ 5)))

/-- What the instruction cache of a hart holds of a fetch (R425). -/
def inL1I (s : Sys) (h a : Nat) : Bool := s.core.fetched.any (fun e => decide (e.1 = h ∧ e.2.1 = a / 64 * 64))

/-- An LR, SC or AMO of a hart on shared SRAM or DRAM (R422, R424): an AP hart makes it in its L1, SV in the L2. SC answers 0 where it has
stored and 1 where its reservation is gone; the others answer the value found (log entry 34). -/
def hartAtomic (s : Sys) (m : Nat) (machine : Bool) (use : BusUse) (size addr v : Nat) (reqOk : Bool) (bad : Nat) : Sys :=
  let a := fullAddr addr
  let h := masterHart m
  let inside := isAp m && (s.lineAt h a).any (fun l => l.dirty || decide (use = .lr))
  let g := (useKinds use).foldl (fun (p : Sys × Bool) kind => if p.2 && !inside then p.1.busCheck m machine (decide (kind = 1)) addr size else p) (s, true)
  if !g.2 then g.1.accessFault m use addr
  else if !inside && (!reqOk || decide (bad % 2 ^ size ≠ 0)) then (g.1.busParity m a size bad).accessFault m use addr
  else
    let s := (g.1.drainStores h).when (isAp m) (fun s => s.fillLine h a)
    let old := unle ((List.range size).map (fun i => s.hartByte h (a + i)))
    let put (s : Sys) (x : Nat) : Sys := if isAp m then s.storeLine h a (le size x) else s.busStore m a (le size x) 0
    let clear (s : Sys) : Sys := s.modCore (fun c => { c with reserved := c.reserved.filter (fun r => decide (r.1 ≠ h)) })
    match use with
    | .lr => ((clear s).modCore (fun c => { c with reserved := c.reserved ++ [(h, a, size)] })).emit (.data m old)
    | .sc => if (h, a, size) ∈ s.core.reserved then ((put (clear s) v)).emit (.data m 0) else (clear s).emit (.data m 1)
    | .amo op => (put s (amoValue op (8 * size) old v)).emit (.data m old)
    | .load => s
    | .store => s
    | .fetch => s

/-- A master's access to the fabric (R15 to R17, R424, R425, R444, R447, R485). `machine` is the mode of a hart, `reqOk` the parity of the
request, and `bad` has a bit for each byte of data that fails its parity. -/
def fabricAccess (s : Sys) (otp : Nat → Nat) (m : Nat) (machine : Bool) (use : BusUse) (size addr v : Nat) (reqOk : Bool) (bad : Nat) : Sys :=
  let a := fullAddr addr
  let h := masterHart m
  if (if m ≤ 4 then !s.hartIssues m use size addr else atomicUse use || decide (use = .fetch)) then s
  else if m ≤ 4 ∧ s.hartRefuses m machine use size addr then s.hartFault h (faultCause use) addr
  else if atomicUse use then s.hartAtomic m machine use size addr v reqOk bad
  else if use = .fetch then
    if s.inL1I h a && s.inL1I h (a + size - 1) then s.emit (.data m (unle (s.fetchBytes h a size).2))
    else
      let g := s.busCheck m machine false addr size
      if !g.2 then g.1.accessFault m use addr
      else if !reqOk || decide (bad % 2 ^ size ≠ 0) then (g.1.busParity m a size bad).accessFault m use addr
      else
        let r := g.1.fetchBytes h a size
        r.1.emit (.data m (unle r.2))
  else if regionOf a = 6 then
    let g := s.busCheck m machine (decide (use = .store)) addr size
    match g.2, windowMaster m with
    | true, some w =>
      if reqOk then g.1.request otp (windowReq w machine (decide (use = .store)) a size v (decide (bad % 2 ^ size = 0))) {}
      else (g.1.busParity m a size 0).accessFault m use addr
    | _, _ => g.1.accessFault m use addr
  else if use = .store then
    let r := s.busWrite m machine addr (le size v) reqOk bad
    if r.2 then r.1 else r.1.accessFault m use addr
  else
    let r := s.busRead m machine addr size reqOk bad
    match r.2 with
    | some data => r.1.emit (.data m (unle data))
    | none => r.1.accessFault m use addr

/-! ### What a master holds back (R383, R427, R428) -/

/-- What an operation waits for: the fabric, which stands in NAP (R462), a full queue of the DRAM (R383), the window accesses of its hart before an access to the core-local registers
(R427), and a `fence i,r` (R428). A load from the window stands behind the others in the engine's own queue. -/
def opWaits (s : Sys) (op : HeldOp) : Bool :=
  match op with
  | .access m _ use size addr _ _ _ =>
    let region := regionOf (fullAddr addr)
    (s.engineStops && decide (4 < m)) || (decide (use = .store) && s.dramFull (fullAddr addr) size) ||
      (decide (m ≤ 4) && decide (use ≠ .fetch) && ((decide (region = 5) && s.eng.waits.any (windowWaits (masterHart m))) ||
        (decide (use ≠ .store ∧ region ≠ 6) && s.loadsHeld (masterHart m))))
  | .clean h _ => s.loadsHeld h
  | .flush h _ => s.loadsHeld h
  | .inval h _ _ => s.loadsHeld h
  | .fenceWO _ => false
  | .fenceIR _ => false
  | .fenceI _ => false

/-- An operation joins those that its master holds back: it waits itself, or it follows one that does. Instruction fetches pass them. -/
def mustHold (s : Sys) (op : HeldOp) : Bool :=
  s.opWaits op || (s.core.held.any (fun e => decide (heldBy e = heldBy op)) && (match op with | .access _ _ use _ _ _ _ _ => decide (use ≠ .fetch) | _ => true))

/-- Carry out an operation of a master. -/
def perform (s : Sys) (otp : Nat → Nat) (op : HeldOp) : Sys :=
  match op with
  | .access m machine use size addr v reqOk bad => s.fabricAccess otp m machine use size addr v reqOk bad
  | .clean h addr => s.cboClean h addr
  | .flush h addr => s.cboFlush h addr
  | .inval h mode addr => s.cboInval h mode addr
  | .fenceWO h => s.fenceWO h
  | .fenceIR h => s.fenceIR h
  | .fenceI h => s.fenceI h

/-- A master issues an operation: it is carried out, or held back. -/
def issue (s : Sys) (otp : Nat → Nat) (op : HeldOp) : Sys :=
  if s.mustHold op then s.modCore (fun c => { c with held := c.held ++ [op] }) else s.perform otp op

/-- An idle tick: the oldest operation that each master holds back is carried out once it need not wait (log entry 34). -/
def heldTick (otp : Nat → Nat) (s : Sys) : Sys :=
  s.each (s.core.held.map heldBy).eraseDups (fun s m =>
    match s.core.held.find? (fun e => decide (heldBy e = m)) with
    | some e => if s.opWaits e || (decide (m ≤ 4) && !s.hartOut (masterHart m)) then s else (s.modCore (fun c => { c with held := c.held.erase e })).perform otp e
    | none => s)

/-! ### Bursts of the DMA engine (R415) -/

/-- An access of a DMA channel. A window request that the engine holds leaves itself in its queue as a sign that the burst must wait. -/
def dmaAccess (otp : Nat → Nat) (s : Sys) (d addr : Nat) (write : Bool) (len : Nat) (data : List Nat) : Sys × Option (List Nat) :=
  let a := fullAddr addr
  let g := s.grant (0x10 + d) write addr len
  match g.2, decide (regionOf a = 6), windowMaster (0x10 + d) with
  | false, _, _ => (g.1, none)
  | true, true, some w =>
    let q := windowReq w false write a len (unle data) true
    if s.engineStops || decide (s.eng.waits ≠ []) then (g.1.enqueueReq q, none)
    else
      let x := g.1.serve otp q {}
      let t := if x.1.leaving && !s.leaving then x.1.flushRequests else x.1
      match x.2 with
      | .wait => (g.1.enqueueReq q, none)
      | .done 0 => (t.dropSnap w, some [])
      | .done code => ((t.dropSnap w).refuseWindow w q code, none)
      | .value ty v => let y := t.windowRead w q ty v; (y.1, some (le len y.2))
  | true, _, _ => if write then (g.1.busStore (0x10 + d) a data 0, some []) else (g.1, some (g.1.busBytes a len))

end Sys

/-- FABRIC_ACCESS (R15, R447). -/
def execFabricAccess (m : Fin 256) (machine : Bool) (use : BusUse) (size addr v : Nat) (reqOk : Bool) (bad : Nat) (s : State) :
    Host.Outcome State Fault Refusal :=
  onOd (fun otp s => if m.val ≤ 4 ∧ !s.hartIssues m use size addr then s else s.issue otp (.access m machine use size addr v reqOk bad)) s

/-- CBO_CLEAN (R428). -/
def execCboClean (h : Fin 4) (addr : Nat) (s : State) : Host.Outcome State Fault Refusal :=
  onOd (fun otp s => if s.hartOut h then s.issue otp (.clean h addr) else s) s

/-- CBO_FLUSH (R428). -/
def execCboFlush (h : Fin 4) (addr : Nat) (s : State) : Host.Outcome State Fault Refusal :=
  onOd (fun otp s => if s.hartOut h then s.issue otp (.flush h addr) else s) s

/-- CBO_INVAL (R428). -/
def execCboInval (h : Fin 4) (mode : Fin 4) (addr : Nat) (s : State) : Host.Outcome State Fault Refusal :=
  onOd (fun otp s => if s.hartOut h then s.issue otp (.inval h mode addr) else s) s

/-- FENCE_W_O (R428, R429). -/
def execFenceWO (h : Fin 5) (s : State) : Host.Outcome State Fault Refusal :=
  onOd (fun otp s => if s.hartOut h then s.issue otp (.fenceWO h) else s) s

/-- FENCE_I_R (R428). -/
def execFenceIR (h : Fin 4) (s : State) : Host.Outcome State Fault Refusal :=
  onOd (fun otp s => if s.hartOut h then s.issue otp (.fenceIR h) else s) s

/-- FENCE_I (R425). -/
def execFenceI (h : Fin 5) (s : State) : Host.Outcome State Fault Refusal :=
  onOd (fun otp s => if s.hartOut h then s.issue otp (.fenceI h) else s) s

/-- DMA_BURST (R415): a burst whose window access must wait (R14, R47), or that finds a queue of the DRAM full (R383), is granted again
later. -/
def execDmaBurst (bad : Nat) (s : State) : Host.Outcome State Fault Refusal :=
  onOd (fun otp s =>
    let t := s.dmaBurst (Sys.dmaAccess otp) bad
    if decide (s.eng.waits.length < t.eng.waits.length) || [0, 1].any (fun c => decide (max 64 (s.dch c).queue.length < (t.dch c).queue.length)) then s
    else t) s

end Sys2Proof.Machine
end

