-- ==== Sys2Proof/Machine/Debug.lean ====
section
/-! DEFINITION. Debug: the TAP and its registers (R443, IEEE 1149.1) and the debug module (R442, R443, RISC-V External Debug 0.13.2). What
these two standards add to the spec is PRESUMED (log entry 40). -/

namespace Sys2Proof.Machine

open Sys2Proof

/-- The bits of a number, from bit 0. -/
def bitsOf : Nat → Nat → List Bool
  | 0, _ => []
  | n + 1, v => v.testBit 0 :: bitsOf n (v / 2)

/-- The number of a list of bits, bit 0 first. -/
def ofBits : List Bool → Nat
  | [] => 0
  | b :: t => b2n b + 2 * ofBits t

namespace Sys

/-- Change the debug module. -/
def modDbg (s : Sys) (f : DebugModule → DebugModule) : Sys := s.modCore (fun c => { c with dbg := f c.dbg })

/-- Change the TAP. -/
def modTap (s : Sys) (f : Tap → Tap) : Sys := s.modCore (fun c => { c with tap := f c.tap })

/-- The debug module is reachable (R442). -/
def debugReachable (s : Sys) : Bool :=
  s.powered && (match s.rd Key.Otp.LIFECYCLE with
    | 1 => s.rdB Key.Dbg.DEBUG_ENABLE
    | 2 => false
    | _ => true)

/-! ### Registers of a halted hart -/

/-- misa (R422): RV64IMAFDC with S and U, and RV32IMAC with U. -/
def misa (h : Nat) : Nat := if h = 4 then 2 ^ 30 + 0x101105 else 2 ^ 63 + 0x14112D

/-- The debug triggers of a hart (R422). -/
def triggers (h : Nat) : Nat := if h = 4 then 2 else 4

/-- tselect of a hart: what the debugger wrote, 0 where it wrote nothing (log entry 40). -/
def trigSel (s : Sys) (h : Nat) : Nat := ((s.core.dbg.regs.find? (fun e => decide (e.1 = h * 65536 + 0x7A0))).map (fun e => e.2)).getD 0

/-- Where an open register of a hart is held: tdata1 to tdata3 and tinfo once for each trigger. -/
def openPlace (s : Sys) (h r : Nat) : Nat := h * 65536 + (if 0x7A1 ≤ r ∧ r ≤ 0x7A4 then 0x2000 + 16 * s.trigSel h + r % 16 else r)

/-- The CSRs that the block holds or fixes: mhartid, misa, tselect, the time CSR, the CBIE fields and the PMP. -/
def csrRead (s : Sys) (h r : Nat) : Option Nat :=
  if r = 0xF14 then some h
  else if r = 0x301 then some (misa h)
  else if r = 0xC01 then some (if h = 4 then s.core.mtime % 2 ^ 32 else s.core.mtime)
  else if r = 0x7A0 then some (s.trigSel h)
  else if r = 0xC81 ∧ h = 4 then some (s.core.mtime / 2 ^ 32)
  else if r = 0x30A ∧ h ≠ 4 then some (16 * s.core.menvCbie.getD h 3)
  else if r = 0x10A ∧ h ≠ 4 then some (16 * s.core.senvCbie.getD h 3)
  else if 0x3A0 ≤ r ∧ r < 0x3A4 then
    if h = 4 then some (if r < 0x3A2 then s.pmpReg h 0 / 2 ^ (32 * (r - 0x3A0)) % 2 ^ 32 else 0)
    else if r % 2 = 0 then some (s.pmpReg h ((r - 0x3A0) / 2)) else none
  else if 0x3B0 ≤ r ∧ r < 0x3C0 then some (if h = 4 ∧ 0x3B8 ≤ r then 0 else s.pmpReg h (2 + (r - 0x3B0)))
  else none

/-- A write of one of those CSRs, none for any other. -/
def csrWrite (s : Sys) (h r v : Nat) : Option Sys :=
  if r = 0x301 then some s
  else if r = 0x7A0 then
    some (if v < triggers h then s.modDbg (fun d => { d with regs := (h * 65536 + 0x7A0, v) :: d.regs.filter (fun e => decide (e.1 ≠ h * 65536 + 0x7A0)) }) else s)
  else if r = 0x30A ∧ h ≠ 4 then
    some (s.modCore (fun c => { c with menvCbie := c.menvCbie.set h (if v / 16 % 4 = 2 then c.menvCbie.getD h 3 else v / 16 % 4) }))
  else if r = 0x10A ∧ h ≠ 4 then
    some (s.modCore (fun c => { c with senvCbie := c.senvCbie.set h (if v / 16 % 4 = 2 then c.senvCbie.getD h 3 else v / 16 % 4) }))
  else if 0x3A0 ≤ r ∧ r < 0x3A4 then
    if h = 4 then
      if r = 0x3A0 then some (s.setPmp h 0 (s.pmpReg h 0 / 2 ^ 32 * 2 ^ 32 + v % 2 ^ 32))
      else if r = 0x3A1 then some (s.setPmp h 0 (s.pmpReg h 0 % 2 ^ 32 + v % 2 ^ 32 * 2 ^ 32)) else some s
    else if r % 2 = 0 then some (s.setPmp h ((r - 0x3A0) / 2) v) else none
  else if 0x3B0 ≤ r ∧ r < 0x3C0 then some (if h = 4 ∧ 0x3B8 ≤ r then s else s.setPmp h (2 + (r - 0x3B0)) v)
  else none

/-- A register of a hart that no other register of the block shows: what the debugger wrote, else a free value, which then stays. -/
def openReg (s : Sys) (h r : Nat) : Sys × Nat :=
  match s.core.dbg.regs.find? (fun e => decide (e.1 = s.openPlace h r)) with
  | some e => (s, e.2)
  | none =>
    let v := s.freeVal.toNat
    ((s.useFree).modDbg (fun d => { d with regs := (s.openPlace h r, v) :: d.regs }), v)

/-- Write such a register. -/
def setOpenReg (s : Sys) (h r v : Nat) : Sys :=
  s.modDbg (fun d => { d with regs := (s.openPlace h r, v) :: d.regs.filter (fun e => decide (e.1 ≠ s.openPlace h r)) })

/-! ### Abstract commands -/

/-- Set cmderr. -/
def cmdFail (s : Sys) (e : Nat) : Sys := s.modDbg (fun d => { d with cmderr := e })

/-- The transfer of an access register command on halted hart `h`: `n` bits. -/
def regTransfer (s : Sys) (h r n : Nat) (write : Bool) : Sys :=
  let d := s.core.dbg
  let v := (d.data0 + (if n = 64 then d.data1 * 2 ^ 32 else 0)) % 2 ^ n
  let give (s : Sys) (v : Nat) : Sys :=
    s.modDbg (fun d => { d with data0 := v % 2 ^ 32, data1 := if n = 64 then v / 2 ^ 32 % 2 ^ 32 else d.data1 })
  if 0x1040 ≤ r ∨ (h = 4 ∧ 0x1020 ≤ r) ∨ (write ∧ r < 0x1000 ∧ r / 1024 = 3) then s.cmdFail 3
  else if (h = 4 ∧ n = 64) then s.cmdFail 2
  else if write then
    if r = 0x1000 then s
    else match (if r < 0x1000 then s.csrWrite h r v else none) with
      | some t => t
      | none => s.setOpenReg h r v
  else if r = 0x1000 then give s 0
  else match (if r < 0x1000 then s.csrRead h r else none) with
    | some x => give s x
    | none => let x := s.openReg h r; give x.1 x.2

/-- The program buffer is executed on halted hart `h`. An ebreak at its start ends it at once. Otherwise its instructions are the hart's own,
which are no commands of the table: the accesses they make are FABRIC_ACCESS commands of that hart, what they leave in its registers is open, and whether
one of them raised an exception is a free value (log entry 40). -/
def runProgbuf (s : Sys) (h : Nat) : Sys :=
  if s.core.dbg.progbuf.getD 0 0 = 0x00100073 then s
  else
    let e := if s.freeVal.toNat.testBit 0 then 3 else 0
    s.useFree.modDbg (fun d => { d with cmderr := e, regs := d.regs.filter (fun e => decide (e.1 / 65536 ≠ h)) })

/-- A command of the debug module: access register; other types are not supported. With postexec the program buffer follows the transfer. -/
def abstractCommand (s : Sys) (c : Nat) : Sys :=
  let d := s.core.dbg
  let n := c / 2 ^ 20 % 8
  if d.cmderr ≠ 0 then s
  else if c / 2 ^ 24 ≠ 0 then s.cmdFail 2
  else if 4 < d.hartsel ∨ !d.halted.testBit d.hartsel then s.cmdFail 4
  else
    let s := if c.testBit 17 then (if n = 2 ∨ n = 3 then s.regTransfer d.hartsel (c % 65536) (if n = 2 then 32 else 64) (c.testBit 16) else s.cmdFail 2) else s
    let s := if c.testBit 18 ∧ s.core.dbg.cmderr = 0 then s.runProgbuf d.hartsel else s
    s.modDbg (fun d => { d with command := if c.testBit 19 ∧ d.cmderr = 0 then c / 65536 * 65536 + (c + 1) % 65536 else c })

/-! ### System bus -/

/-- Bytes of a system bus access. -/
def sbSize (d : DebugModule) : Nat := match d.sbcs / 2 ^ 17 % 8 with | 2 => 4 | 3 => 8 | _ => 0

/-- Set sberror. -/
def sbFail (s : Sys) (e : Nat) : Sys := s.modDbg (fun d => { d with sbcs := d.sbcs / 2 ^ 15 * 2 ^ 15 + e * 2 ^ 12 + d.sbcs % 2 ^ 12 })

/-- One system bus access by the debug module, as master 0x46 (R447). -/
def sbAccess (s : Sys) (write : Bool) : Sys :=
  let d := s.core.dbg
  let n := sbSize d
  if d.sbcs / 2 ^ 12 % 8 ≠ 0 then s
  else if s.engineStops then s.sbFail 1
  else if n = 0 then s.sbFail 4
  else if d.sbaddr % n ≠ 0 then s.sbFail 3
  else
    let step (s : Sys) : Sys := s.when (d.sbcs.testBit 16) (fun s => s.modDbg (fun d => { d with sbaddr := (d.sbaddr + n) % 2 ^ 64 }))
    if write then
      let r := s.busWrite 0x46 false d.sbaddr (le n d.sbdata) true 0
      if r.2 then step r.1 else r.1.sbFail 2
    else
      let r := s.busRead 0x46 false d.sbaddr n true 0
      match r.2 with
      | some bs => step (r.1.modDbg (fun d => { d with sbdata := unle bs }))
      | none => r.1.sbFail 2

/-! ### DMI -/

/-- A hart that the module can halt: SV, and an AP hart out of reset. -/
def hartThere (s : Sys) (h : Nat) : Bool := decide (h = 4) || (decide (h < 4) && s.core.apRun.testBit h)

/-- ndmreset (R443): its rise resets all but the debug module, as WARM_RESET does, and every hart has then been reset (log entry 40). The
optional hartreset is not implemented and reads 0. -/
def ndmReset (s : Sys) (otp : Nat → Nat) (v : Nat) : Sys :=
  let d := s.core.dbg
  let s := if v.testBit 1 && !d.ndmreset then (s.warmReset otp).modDbg (fun _ => { d with halted := 0, regs := [], haveReset := 31 }) else s
  s.modDbg (fun d => { d with ndmreset := v.testBit 1 })

/-- A write to dmcontrol. -/
def dmControl (s : Sys) (otp : Nat → Nat) (v : Nat) : Sys :=
  let d := s.core.dbg
  if !v.testBit 0 then s.modDbg (fun d => { halted := d.halted, regs := d.regs, haveReset := d.haveReset })
  else if !d.active then s.modDbg (fun d => { d with active := true })
  else
    let h := v / 2 ^ 16 % 8
    let s := (s.modDbg (fun d => { d with hartsel := h })).ndmReset otp v
    let s := if v.testBit 28 then s.modDbg (fun d => { d with haveReset := putBit d.haveReset h false }) else s
    if !s.hartThere h then s
    else if v.testBit 31 then s.modDbg (fun d => { d with halted := putBit d.halted h true })
    else if v.testBit 30 ∧ d.halted.testBit h then
      s.modDbg (fun d => { d with halted := putBit d.halted h false, resumed := putBit d.resumed h true, regs := d.regs.filter (fun e => decide (e.1 / 65536 ≠ h)) })
    else if v.testBit 30 then s.modDbg (fun d => { d with resumed := putBit d.resumed h true })
    else s

/-- dmstatus. -/
def dmStatus (s : Sys) : Nat :=
  let d := s.core.dbg
  let h := d.hartsel
  let pair (b : Bool) (k : Nat) : Nat := b2n b * 3 * 2 ^ k
  2 + 128 + pair (s.hartThere h && d.halted.testBit h) 8 + pair (s.hartThere h && !d.halted.testBit h) 10 + pair (decide (h < 4) && !s.hartThere h) 12 +
    pair (decide (4 < h)) 14 + pair (d.resumed.testBit h) 16 +
    pair (d.haveReset.testBit h) 18

/-- The last abstract command is executed again where abstractauto names this register: `k` is the bit. -/
def autoExec (s : Sys) (k : Nat) : Sys := if s.core.dbg.auto.testBit k then s.abstractCommand s.core.dbg.command else s

/-- A read of a register of the debug module. -/
def dmRead (s : Sys) (a : Nat) : Sys × Nat :=
  let d := s.core.dbg
  if a = 0x04 then (s.autoExec 0, d.data0)
  else if a = 0x05 then (s.autoExec 1, d.data1)
  else if a = 0x10 then (s, d.hartsel * 2 ^ 16 + 2 * b2n d.ndmreset + b2n d.active)
  else if a = 0x11 then (s, s.dmStatus)
  else if a = 0x12 then (s.useFree, s.freeVal.toNat % 2 ^ 24)
  else if a = 0x16 then (s, 8 * 2 ^ 24 + d.cmderr * 256 + 2)
  else if a = 0x18 then (s, d.auto)
  else if 0x20 ≤ a ∧ a < 0x28 then (s.autoExec (16 + (a - 0x20)), d.progbuf.getD (a - 0x20) 0)
  else if a = 0x38 then (s, 2 ^ 29 + d.sbcs + 37 * 32 + 12)
  else if a = 0x39 then (s, d.sbaddr % 2 ^ 32)
  else if a = 0x3A then (s, d.sbaddr / 2 ^ 32)
  else if a = 0x3C then (s.when (d.sbcs.testBit 15) (fun s => s.sbAccess false), d.sbdata % 2 ^ 32)
  else if a = 0x3D then (s, d.sbdata / 2 ^ 32)
  else if a = 0x40 then (s, d.halted)
  else (s, 0)

/-- A write of a register of the debug module. While dmactive is 0 only dmcontrol takes writes. -/
def dmWrite (s : Sys) (otp : Nat → Nat) (a v : Nat) : Sys :=
  let v := v % 2 ^ 32
  if a = 0x10 then s.dmControl otp v
  else if !s.core.dbg.active then s
  else if a = 0x04 then (s.modDbg (fun d => { d with data0 := v })).autoExec 0
  else if a = 0x05 then (s.modDbg (fun d => { d with data1 := v })).autoExec 1
  else if a = 0x16 then s.modDbg (fun d => { d with cmderr := d.cmderr &&& (7 - v / 256 % 8) })
  else if a = 0x17 then s.abstractCommand v
  else if a = 0x18 then s.modDbg (fun d => { d with auto := v &&& 0xFF0003 })
  else if 0x20 ≤ a ∧ a < 0x28 then (s.modDbg (fun d => { d with progbuf := d.progbuf.set (a - 0x20) v })).autoExec (16 + (a - 0x20))
  else if a = 0x38 then s.modDbg (fun d => { d with sbcs := (v &&& 0x1F8000) + ((d.sbcs / 4096 % 8) &&& (7 - v / 4096 % 8)) * 4096 })
  else if a = 0x39 then
    let s := s.modDbg (fun d => { d with sbaddr := d.sbaddr / 2 ^ 32 * 2 ^ 32 + v })
    s.when (s.core.dbg.sbcs.testBit 20) (fun s => s.sbAccess false)
  else if a = 0x3A then s.modDbg (fun d => { d with sbaddr := d.sbaddr % 2 ^ 32 + v * 2 ^ 32 })
  else if a = 0x3C then (s.modDbg (fun d => { d with sbdata := d.sbdata / 2 ^ 32 * 2 ^ 32 + v })).sbAccess true
  else if a = 0x3D then s.modDbg (fun d => { d with sbdata := d.sbdata % 2 ^ 32 + v * 2 ^ 32 })
  else s

/-- A DMI access: the state, the data read and the op status (R443): 0 done, 2 not reachable, which reads zero. -/
def dmi (s : Sys) (otp : Nat → Nat) (write : Bool) (a v : Nat) : Sys × Nat × Nat :=
  if !s.debugReachable then (s, 0, 2)
  else if write then (s.dmWrite otp a v, v % 2 ^ 32, 0)
  else
    let r := s.dmRead a
    (r.1, r.2, 0)

/-- A DMI access with its answer in the DTM. -/
def dmiAccess (s : Sys) (otp : Nat → Nat) (write : Bool) (a v : Nat) : Sys :=
  let r := s.dmi otp write a v
  r.1.modTap (fun t => { t with dmiAddr := a, dmiData := r.2.1, dmiStat := r.2.2 })

/-! ### The TAP (R443) -/

/-- The states of the TAP controller, in the usual encoding: F Test-Logic-Reset, C Run-Test/Idle, 7 Select-DR, 6 Capture-DR, 2 Shift-DR,
1 Exit1-DR, 3 Pause-DR, 0 Exit2-DR, 5 Update-DR, and the same for IR: 4, E, A, 9, B, 8, D. Rows are state, next for TMS 0 and for TMS 1. -/
def tapNext (st : Nat) (tms : Bool) : Nat :=
  let r : Nat × Nat := match st with
    | 0xF => (0xC, 0xF) | 0xC => (0xC, 0x7) | 0x7 => (0x6, 0x4)
    | 0x6 => (0x2, 0x1) | 0x2 => (0x2, 0x1) | 0x1 => (0x3, 0x5) | 0x3 => (0x3, 0x0) | 0x0 => (0x2, 0x5) | 0x5 => (0xC, 0x7)
    | 0x4 => (0xE, 0xF) | 0xE => (0xA, 0x9) | 0xA => (0xA, 0x9) | 0x9 => (0xB, 0xD) | 0xB => (0xB, 0x8) | 0x8 => (0xA, 0xD) | 0xD => (0xC, 0x7)
    | _ => (0xF, 0xF)
  if tms then r.2 else r.1

/-- dtmcs: version 1, 7 address bits, the sticky status. -/
def dtmcs (t : Tap) : Nat := 1 + 7 * 16 + t.dmiStat * 1024

/-- What Capture-DR puts into the shift register. `pins` are the levels that the boundary cells see. -/
def captureDr (t : Tap) (pins : List Bool) : List Bool :=
  if t.ir = 1 then bitsOf 32 0x174405A5
  else if t.ir = 2 ∨ t.ir = 3 then pins
  else if t.ir = 0x10 then bitsOf 32 (dtmcs t)
  else if t.ir = 0x11 then bitsOf 41 (t.dmiStat + t.dmiData * 4 + t.dmiAddr * 2 ^ 34)
  else [false]

/-- One bit is shifted. -/
def shiftBit (l : List Bool) (tdi : Bool) : List Bool := l.drop 1 ++ [tdi]

/-- A rising edge of TCK: capture or shift in the present state, then the next state. -/
def tckRise (s : Sys) (tms tdi : Bool) (pins : List Bool) : Sys :=
  s.modTap (fun t =>
    let sh := match t.state with
      | 0x6 => captureDr t pins
      | 0xE => bitsOf 5 1
      | 0x2 => shiftBit t.shift tdi
      | 0xA => shiftBit t.shift tdi
      | _ => t.shift
    { t with shift := sh, state := tapNext t.state tms })

/-- Update-DR (R443). A DMI access is ignored while the sticky status is set. -/
def updateDr (s : Sys) (otp : Nat → Nat) : Sys :=
  let t := s.core.tap
  let v := ofBits t.shift
  if t.ir = 2 then s.modTap (fun t => { t with bound := t.shift })
  else if t.ir = 3 then (s.modTap (fun t => { t with bound := t.shift })).emit (.balls t.shift)
  else if t.ir = 0x10 then
    if v.testBit 17 then s.modTap (fun t => { t with dmiAddr := 0, dmiData := 0, dmiStat := 0 })
    else if v.testBit 16 then s.modTap (fun t => { t with dmiStat := 0 }) else s
  else if t.ir = 0x11 ∧ t.dmiStat = 0 ∧ (v % 4 = 1 ∨ v % 4 = 2) then s.dmiAccess otp (decide (v % 4 = 2)) (v / 2 ^ 34 % 128) (v / 4 % 2 ^ 32)
  else s

/-- Update-IR: where the instruction becomes EXTEST, the balls take the levels of the boundary latch. -/
def updateIr (s : Sys) : Sys :=
  let ir := ofBits (s.core.tap.shift.take 5)
  let s := s.modTap (fun t => { t with ir := ir })
  if ir = 3 then s.emit (.balls s.core.tap.bound) else s

/-- A falling edge of TCK: the update, and TDO. -/
def tckFall (s : Sys) (otp : Nat → Nat) : Sys :=
  let s := match s.core.tap.state with
    | 0x5 => s.updateDr otp
    | 0xD => s.updateIr
    | 0xF => s.modTap (fun t => { t with ir := 1 })
    | _ => s
  if s.core.tap.state = 0x2 ∨ s.core.tap.state = 0xA then
    let b := s.core.tap.shift.headD false
    (s.modTap (fun t => { t with tdo := b })).emit (.tdo b)
  else s

/-- An edge of TCK, or TRST_N low, which resets the controller at once. -/
def tckEdge (s : Sys) (otp : Nat → Nat) (trstN rising tms tdi : Bool) (pins : List Bool) : Sys :=
  if s.pw.state = .off ∨ s.pw.state = .hold ∨ s.pw.state = .holdEntry then s
  else if !trstN then s.modTap (fun t => { t with state := 15, ir := 1 })
  else if rising then s.tckRise tms tdi pins
  else s.tckFall otp

end Sys

/-- DEBUG_MODULE_ACCESS (R443). The data goes to the DTM and to whoever asked. -/
def execDebugModuleAccess (write : Bool) (addr : Fin 128) (data : Nat) (s : State) : Host.Outcome State Fault Refusal :=
  onSys (fun t =>
    let t := t.dmiAccess s.otpWord write addr data
    t.emit (.data 0x46 t.core.tap.dmiData)) s

/-- TCK_EDGE (R443). -/
def execTckEdge (trstN rising tms tdi : Bool) (pins : List Bool) (s : State) : Host.Outcome State Fault Refusal :=
  onUnit (fun t => t.tckEdge s.otpWord trstN rising tms tdi pins) s

end Sys2Proof.Machine
end

