-- ==== Sys2Proof/Machine/Dispatch.lean ====
section
/-! DEFINITION. Dispatch: which meaning each command has. -/

namespace Sys2Proof.Machine

open Sys2Proof

def exec (i : Instr) (s : State) : Host.Outcome State Fault Refusal :=
  match i with
  | .vaonRise => Sys2Proof.Machine.execVaonRise s
  | .coldStart boot flash => Sys2Proof.Machine.execColdStart boot flash s
  | .resetAssert => Sys2Proof.Machine.execResetAssert s
  | .vaonLoss => Sys2Proof.Machine.execVaonLoss s
  | .restored us bad => Sys2Proof.Machine.execRestored us bad s
  | .odReq p f => Sys2Proof.Machine.execOdReq p f s
  | .odWrite acc idx sub size val => Sys2Proof.Machine.execOdWrite acc idx sub size val s
  | .windowLowWordRead m machine idx sub => Sys2Proof.Machine.execWindowLowWordRead m machine idx sub s
  | .windowSplitWrite acc high idx sub word => Sys2Proof.Machine.execWindowSplitWrite acc high idx sub word s
  | .describeSelect acc pair sel => Sys2Proof.Machine.execDescribeSelect acc pair sel s
  | .domainAddressWrite acc idx sub addr => Sys2Proof.Machine.execDomainAddressWrite acc idx sub addr s
  | .domainLengthWrite acc idx sub len => Sys2Proof.Machine.execDomainLengthWrite acc idx sub len s
  | .rspCommit acc len => Sys2Proof.Machine.execRspCommit acc len s
  | .serviceTimeout tag => Sys2Proof.Machine.execServiceTimeout tag s
  | .fwsDataWrite acc val => Sys2Proof.Machine.execFwsDataWrite acc val s
  | .storeRebuildComplete pair => Sys2Proof.Machine.execStoreRebuildComplete pair s
  | .goConfig acc => Sys2Proof.Machine.execGoConfig acc s
  | .goConfigComplete => Sys2Proof.Machine.execGoConfigComplete s
  | .goReady acc badTables => Sys2Proof.Machine.execGoReady acc badTables s
  | .arm acc => Sys2Proof.Machine.execArm acc s
  | .disarm acc => Sys2Proof.Machine.execDisarm acc s
  | .enterService acc => Sys2Proof.Machine.execEnterService acc s
  | .leaveService acc => Sys2Proof.Machine.execLeaveService acc s
  | .clearFault acc => Sys2Proof.Machine.execClearFault acc s
  | .warmReset acc => Sys2Proof.Machine.execWarmReset acc s
  | .warmResetActs => Sys2Proof.Machine.execWarmResetActs s
  | .lsafeFall => Sys2Proof.Machine.execLsafeFall s
  | .lsafeRise => Sys2Proof.Machine.execLsafeRise s
  | .defaultsKeepIdentity acc => Sys2Proof.Machine.execDefaultsKeepIdentity acc s
  | .defaultsAll acc => Sys2Proof.Machine.execDefaultsAll acc s
  | .verify acc => Sys2Proof.Machine.execVerify acc s
  | .rebuild acc => Sys2Proof.Machine.execRebuild acc s
  | .storeCommandComplete bad => Sys2Proof.Machine.execStoreCommandComplete bad s
  | .restoreAck acc => Sys2Proof.Machine.execRestoreAck acc s
  | .frameForward p f => Sys2Proof.Machine.execFrameForward p f s
  | .count p f => Sys2Proof.Machine.execCount p f s
  | .identify p f => Sys2Proof.Machine.execIdentify p f s
  | .assign p f => Sys2Proof.Machine.execAssign p f s
  | .assignAlias p f => Sys2Proof.Machine.execAssignAlias p f s
  | .release p f => Sys2Proof.Machine.execRelease p f s
  | .stream p f => Sys2Proof.Machine.execStream p f s
  | .alarm p f => Sys2Proof.Machine.execAlarm p f s
  | .sync p f => Sys2Proof.Machine.execSync p f s
  | .delayReq p f => Sys2Proof.Machine.execDelayReq p f s
  | .delayRsp p f => Sys2Proof.Machine.execDelayRsp p f s
  | .bootData p f => Sys2Proof.Machine.execBootData p f s
  | .bootReqTimeout => Sys2Proof.Machine.execBootReqTimeout s
  | .bootRestart => Sys2Proof.Machine.execBootRestart s
  | .creditSymbol p cls cells => Sys2Proof.Machine.execCreditSymbol p cls cells s
  | .creditReturnTimer p cls => Sys2Proof.Machine.execCreditReturnTimer p cls s
  | .heartbeat p addr st gateway => Sys2Proof.Machine.execHeartbeat p addr st gateway s
  | .heartbeatSend p => Sys2Proof.Machine.execHeartbeatSend p s
  | .heartbeatTimeout p => Sys2Proof.Machine.execHeartbeatTimeout p s
  | .portEnableWrite acc p v => Sys2Proof.Machine.execPortEnableWrite acc p v s
  | .endpointEnableWrite acc n v => Sys2Proof.Machine.execEndpointEnableWrite acc n v s
  | .releaseOffsetWrite acc n v => Sys2Proof.Machine.execReleaseOffsetWrite acc n v s
  | .creditPeriodExpiry n => Sys2Proof.Machine.execCreditPeriodExpiry n s
  | .gatewayDatagram m d => Sys2Proof.Machine.execGatewayDatagram m d s
  | .arpRequest m d => Sys2Proof.Machine.execArpRequest m d s
  | .channelEnable acc c tableOk => Sys2Proof.Machine.execChannelEnable acc c tableOk s
  | .channelDisable acc c => Sys2Proof.Machine.execChannelDisable acc c s
  | .channelStart acc c => Sys2Proof.Machine.execChannelStart acc c s
  | .channelPause acc c => Sys2Proof.Machine.execChannelPause acc c s
  | .channelResume acc c => Sys2Proof.Machine.execChannelResume acc c s
  | .channelStop acc c => Sys2Proof.Machine.execChannelStop acc c s
  | .channelReset acc c => Sys2Proof.Machine.execChannelReset acc c s
  | .hoopEnableWrite acc c v tableOk => Sys2Proof.Machine.execHoopEnableWrite acc c v tableOk s
  | .blockFetch c ok => Sys2Proof.Machine.execBlockFetch c ok s
  | .descriptorLookahead c ok => Sys2Proof.Machine.execDescriptorLookahead c ok s
  | .scuSample c ok => Sys2Proof.Machine.execScuSample c ok s
  | .jump c => Sys2Proof.Machine.execJump c s
  | .mark c => Sys2Proof.Machine.execMark c s
  | .arc c => Sys2Proof.Machine.execArc c s
  | .dwell c => Sys2Proof.Machine.execDwell c s
  | .power c => Sys2Proof.Machine.execPower c s
  | .waitTime c => Sys2Proof.Machine.execWaitTime c s
  | .waitTimeReached c => Sys2Proof.Machine.execWaitTimeReached c s
  | .waitEvent c => Sys2Proof.Machine.execWaitEvent c s
  | .waitEventTimeout c => Sys2Proof.Machine.execWaitEventTimeout c s
  | .seamPoint c => Sys2Proof.Machine.execSeamPoint c s
  | .calMark c => Sys2Proof.Machine.execCalMark c s
  | .linkBlock c => Sys2Proof.Machine.execLinkBlock c s
  | .endDescr c => Sys2Proof.Machine.execEndDescr c s
  | .readyTimeout c => Sys2Proof.Machine.execReadyTimeout c s
  | .lpStsChange c level => Sys2Proof.Machine.execLpStsChange c level s
  | .sosTimeout c => Sys2Proof.Machine.execSosTimeout c s
  | .triggerEdge n => Sys2Proof.Machine.execTriggerEdge n s
  | .slotEvaluation n code ok wait stateOk readOk => Sys2Proof.Machine.execSlotEvaluation n code ok wait stateOk readOk s
  | .lineBreak n broken => Sys2Proof.Machine.execLineBreak n broken s
  | .slotClose acc n => Sys2Proof.Machine.execSlotClose acc n s
  | .slotOpen acc n => Sys2Proof.Machine.execSlotOpen acc n s
  | .slotReset acc n => Sys2Proof.Machine.execSlotReset acc n s
  | .rcLearn acc n => Sys2Proof.Machine.execRcLearn acc n s
  | .rcFreeze acc n => Sys2Proof.Machine.execRcFreeze acc n s
  | .rcClear acc n => Sys2Proof.Machine.execRcClear acc n s
  | .slotModeWrite acc n v => Sys2Proof.Machine.execSlotModeWrite acc n v s
  | .bqEnableWrite acc n v => Sys2Proof.Machine.execBqEnableWrite acc n v s
  | .rcConfigWrite acc n sub v => Sys2Proof.Machine.execRcConfigWrite acc n sub v s
  | .faultHoldExpiry n => Sys2Proof.Machine.execFaultHoldExpiry n s
  | .mplUpdate c a b ok readOk => Sys2Proof.Machine.execMplUpdate c a b ok readOk s
  | .gateMismatch c pathA pathB => Sys2Proof.Machine.execGateMismatch c pathA pathB s
  | .zoneEnableWrite acc w v => Sys2Proof.Machine.execZoneEnableWrite acc w v s
  | .join acc w => Sys2Proof.Machine.execJoin acc w s
  | .cancelJoin acc w => Sys2Proof.Machine.execCancelJoin acc w s
  | .joinTimeReached => Sys2Proof.Machine.execJoinTimeReached s
  | .takeoverCollectionClose => Sys2Proof.Machine.execTakeoverCollectionClose s
  | .takeoverInstant => Sys2Proof.Machine.execTakeoverInstant s
  | .reportPop acc v => Sys2Proof.Machine.execReportPop acc v s
  | .updateStart acc u => Sys2Proof.Machine.execUpdateStart acc u s
  | .updateResume acc u => Sys2Proof.Machine.execUpdateResume acc u s
  | .updateAbort acc u => Sys2Proof.Machine.execUpdateAbort acc u s
  | .updateRollback acc u => Sys2Proof.Machine.execUpdateRollback acc u s
  | .updateInstall acc u ok => Sys2Proof.Machine.execUpdateInstall acc u ok s
  | .checksComplete u ok => Sys2Proof.Machine.execChecksComplete u ok s
  | .stepBuilt u ok verified off => Sys2Proof.Machine.execStepBuilt u ok verified off s
  | .swapWindowExpiry u => Sys2Proof.Machine.execSwapWindowExpiry u s
  | .calCopyWrite ok => Sys2Proof.Machine.execCalCopyWrite ok s
  | .loadRecord ok => Sys2Proof.Machine.execLoadRecord ok s
  | .patRequest acc g => Sys2Proof.Machine.execPatRequest acc g s
  | .patClear acc g => Sys2Proof.Machine.execPatClear acc g s
  | .encoderEdge e a b => Sys2Proof.Machine.execEncoderEdge e a b s
  | .encoderZ e => Sys2Proof.Machine.execEncoderZ e s
  | .encoderLoss e leg broken => Sys2Proof.Machine.execEncoderLoss e leg broken s
  | .encoderClear acc e => Sys2Proof.Machine.execEncoderClear acc e s
  | .encoderZero acc e => Sys2Proof.Machine.execEncoderZero acc e s
  | .sosEdge input rising => Sys2Proof.Machine.execSosEdge input rising s
  | .fixInstant g => Sys2Proof.Machine.execFixInstant g s
  | .sliceFetch g ok => Sys2Proof.Machine.execSliceFetch g ok s
  | .dataSend h ok => Sys2Proof.Machine.execDataSend h ok s
  | .ackFrame l body => Sys2Proof.Machine.execAckFrame l body s
  | .ackTimeout h => Sys2Proof.Machine.execAckTimeout h s
  | .fireStrobe f => Sys2Proof.Machine.execFireStrobe f s
  | .swathEnd g => Sys2Proof.Machine.execSwathEnd g s
  | .feedSettleExpiry g => Sys2Proof.Machine.execFeedSettleExpiry g s
  | .statusFrame l body => Sys2Proof.Machine.execStatusFrame l body s
  | .nozzleFrame l body => Sys2Proof.Machine.execNozzleFrame l body s
  | .wackFrame l body => Sys2Proof.Machine.execWackFrame l body s
  | .ctrlRsp l body => Sys2Proof.Machine.execCtrlRsp l body s
  | .linkHeartbeat l depth ports => Sys2Proof.Machine.execLinkHeartbeat l depth ports s
  | .linkHeartbeatTimeout l => Sys2Proof.Machine.execLinkHeartbeatTimeout l s
  | .ctrlWrite acc l => Sys2Proof.Machine.execCtrlWrite acc l s
  | .ctrlRead acc l => Sys2Proof.Machine.execCtrlRead acc l s
  | .ctrlTimeout l => Sys2Proof.Machine.execCtrlTimeout l s
  | .picotStore acc ok => Sys2Proof.Machine.execPicotStore acc ok s
  | .picotSend acc => Sys2Proof.Machine.execPicotSend acc s
  | .picotCheck acc bad => Sys2Proof.Machine.execPicotCheck acc bad s
  | .headTempReading h code => Sys2Proof.Machine.execHeadTempReading h code s
  | .gateInputChange n level => Sys2Proof.Machine.execGateInputChange n level s
  | .groupEnable acc g => Sys2Proof.Machine.execGroupEnable acc g s
  | .groupDisable acc g => Sys2Proof.Machine.execGroupDisable acc g s
  | .groupStart acc g => Sys2Proof.Machine.execGroupStart acc g s
  | .groupPause acc g => Sys2Proof.Machine.execGroupPause acc g s
  | .groupResume acc g => Sys2Proof.Machine.execGroupResume acc g s
  | .groupStop acc g => Sys2Proof.Machine.execGroupStop acc g s
  | .groupReset acc g => Sys2Proof.Machine.execGroupReset acc g s
  | .axisUpdate a ok => Sys2Proof.Machine.execAxisUpdate a ok s
  | .axisEnable acc a => Sys2Proof.Machine.execAxisEnable acc a s
  | .axisDisable acc a => Sys2Proof.Machine.execAxisDisable acc a s
  | .moveAbs acc a => Sys2Proof.Machine.execMoveAbs acc a s
  | .moveRel acc a => Sys2Proof.Machine.execMoveRel acc a s
  | .runTable acc a ok => Sys2Proof.Machine.execRunTable acc a ok s
  | .switchTable acc a => Sys2Proof.Machine.execSwitchTable acc a s
  | .axisStop acc a => Sys2Proof.Machine.execAxisStop acc a s
  | .quickStop acc a => Sys2Proof.Machine.execQuickStop acc a s
  | .axisReset acc a => Sys2Proof.Machine.execAxisReset acc a s
  | .setPosition acc a => Sys2Proof.Machine.execSetPosition acc a s
  | .pwmPeriod a codes => Sys2Proof.Machine.execPwmPeriod a codes s
  | .inposTimeout a => Sys2Proof.Machine.execInposTimeout a s
  | .holdDelayExpiry a => Sys2Proof.Machine.execHoldDelayExpiry a s
  | .vbusFault b codes => Sys2Proof.Machine.execVbusFault b codes s
  | .frameStart p vc num ecc => Sys2Proof.Machine.execFrameStart p vc num ecc s
  | .csiLine p vc dt d crcOk ecc => Sys2Proof.Machine.execCsiLine p vc dt d crcOk ecc s
  | .frameEnd p vc ecc => Sys2Proof.Machine.execFrameEnd p vc ecc s
  | .csiPacket p vc dt ecc sotOk crcOk => Sys2Proof.Machine.execCsiPacket p vc dt ecc sotOk crcOk s
  | .frameTimeout k => Sys2Proof.Machine.execFrameTimeout k s
  | .lineGrant ok => Sys2Proof.Machine.execLineGrant ok s
  | .frameRecord k => Sys2Proof.Machine.execFrameRecord k s
  | .contextEnableWrite acc k v => Sys2Proof.Machine.execContextEnableWrite acc k v s
  | .outputEnableWrite acc k n v => Sys2Proof.Machine.execOutputEnableWrite acc k n v s
  | .profEnableWrite acc k v => Sys2Proof.Machine.execProfEnableWrite acc k v s
  | .detectProbe l present => Sys2Proof.Machine.execDetectProbe l present s
  | .symbolLock l => Sys2Proof.Machine.execSymbolLock l s
  | .trainTimeout l => Sys2Proof.Machine.execTrainTimeout l s
  | .capSet l d1 d2 d3 skewOk => Sys2Proof.Machine.execCapSet l d1 d2 d3 skewOk s
  | .capabilityTimeout l => Sys2Proof.Machine.execCapabilityTimeout l s
  | .lossOfLock l errs cut => Sys2Proof.Machine.execLossOfLock l errs cut s
  | .singleLaneTimeout p => Sys2Proof.Machine.execSingleLaneTimeout p s
  | .retrain acc l => Sys2Proof.Machine.execRetrain acc l s
  | .reloadEq acc l => Sys2Proof.Machine.execReloadEq acc l s
  | .testStart acc l => Sys2Proof.Machine.execTestStart acc l s
  | .testStop acc l => Sys2Proof.Machine.execTestStop acc l s
  | .lanePll g fam => Sys2Proof.Machine.execLanePll g fam s
  | .macFrameReceive m d fcsOk fec => Sys2Proof.Machine.execMacFrameReceive m d fcsOk fec s
  | .txTailWrite acc m v => Sys2Proof.Machine.execTxTailWrite acc m v s
  | .macFrameSent m ok => Sys2Proof.Machine.execMacFrameSent m ok s
  | .ethLink m st hiBer fecBad => Sys2Proof.Machine.execEthLink m st hiBer fecBad s
  | .incrementWrite acc adj v => Sys2Proof.Machine.execIncrementWrite acc adj v s
  | .adjTicksWrite acc v => Sys2Proof.Machine.execAdjTicksWrite acc v s
  | .adjTicksExpiry => Sys2Proof.Machine.execAdjTicksExpiry s
  | .timeStep acc v => Sys2Proof.Machine.execTimeStep acc v s
  | .triggerConfigWrite acc n sub v => Sys2Proof.Machine.execTriggerConfigWrite acc n sub v s
  | .triggerArm acc n v => Sys2Proof.Machine.execTriggerArm acc n v s
  | .pulse acc n => Sys2Proof.Machine.execPulse acc n s
  | .cancel acc n => Sys2Proof.Machine.execCancel acc n s
  | .captureEvent pin rising => Sys2Proof.Machine.execCaptureEvent pin rising s
  | .capturePop acc n v => Sys2Proof.Machine.execCapturePop acc n v s
  | .captureConfigWrite acc n edge v => Sys2Proof.Machine.execCaptureConfigWrite acc n edge v s
  | .delayReqSend p => Sys2Proof.Machine.execDelayReqSend p s
  | .delayRspTimeout p => Sys2Proof.Machine.execDelayRspTimeout p s
  | .syncSend => Sys2Proof.Machine.execSyncSend s
  | .dramRequest master write addr len data => Sys2Proof.Machine.execDramRequest master write addr len data s
  | .dramIssue ch ok => Sys2Proof.Machine.execDramIssue ch ok s
  | .dramReadData ch bad => Sys2Proof.Machine.execDramReadData ch bad s
  | .dramAlert ch low => Sys2Proof.Machine.execDramAlert ch low s
  | .refreshInterval => Sys2Proof.Machine.execRefreshInterval s
  | .mr4Poll hot => Sys2Proof.Machine.execMr4Poll hot s
  | .oscRun counts => Sys2Proof.Machine.execOscRun counts s
  | .unfreeze acc => Sys2Proof.Machine.execUnfreeze acc s
  | .debugRead acc bad => Sys2Proof.Machine.execDebugRead acc bad s
  | .pprSoft acc => Sys2Proof.Machine.execPprSoft acc s
  | .pprHard acc => Sys2Proof.Machine.execPprHard acc s
  | .pprComplete resource verified => Sys2Proof.Machine.execPprComplete resource verified s
  | .trainBegin acc => Sys2Proof.Machine.execTrainBegin acc s
  | .trainEnd acc pass osc => Sys2Proof.Machine.execTrainEnd acc pass osc s
  | .trainAbort acc => Sys2Proof.Machine.execTrainAbort acc s
  | .mrw acc => Sys2Proof.Machine.execMrw acc s
  | .mrr acc val => Sys2Proof.Machine.execMrr acc val s
  | .mpc acc => Sys2Proof.Machine.execMpc acc s
  | .mrwLane acc => Sys2Proof.Machine.execMrwLane acc s
  | .patWrite acc => Sys2Proof.Machine.execPatWrite acc s
  | .patCompare acc => Sys2Proof.Machine.execPatCompare acc s
  | .sample acc => Sys2Proof.Machine.execSample acc s
  | .patComplete bits errs => Sys2Proof.Machine.execPatComplete bits errs s
  | .dmaArm acc d v => Sys2Proof.Machine.execDmaArm acc d v s
  | .handOver d => Sys2Proof.Machine.execHandOver d s
  | .shadowTake d => Sys2Proof.Machine.execShadowTake d s
  | .descriptorFetch d ok => Sys2Proof.Machine.execDescriptorFetch d ok s
  | .dmaStop acc d => Sys2Proof.Machine.execDmaStop acc d s
  | .dmaStart acc d => Sys2Proof.Machine.execDmaStart acc d s
  | .dmaClear acc d => Sys2Proof.Machine.execDmaClear acc d s
  | .dmaEnableWrite acc d v => Sys2Proof.Machine.execDmaEnableWrite acc d v s
  | .dmaBurst bad => Sys2Proof.Machine.execDmaBurst bad s
  | .transferComplete d => Sys2Proof.Machine.execTransferComplete d s
  | .cqTailWrite acc q v => Sys2Proof.Machine.execCqTailWrite acc q v s
  | .lateErrorResponse d addr => Sys2Proof.Machine.execLateErrorResponse d addr s
  | .apRunWrite hart machine v => Sys2Proof.Machine.execApRunWrite hart machine v s
  | .fabricAccess m machine use size addr v reqOk bad => Sys2Proof.Machine.execFabricAccess m machine use size addr v reqOk bad s
  | .remotePmpWrite hart machine h off v => Sys2Proof.Machine.execRemotePmpWrite hart machine h off v s
  | .cboClean h addr => Sys2Proof.Machine.execCboClean h addr s
  | .cboFlush h addr => Sys2Proof.Machine.execCboFlush h addr s
  | .cboInval h mode addr => Sys2Proof.Machine.execCboInval h mode addr s
  | .fenceWO h => Sys2Proof.Machine.execFenceWO h s
  | .fenceIR h => Sys2Proof.Machine.execFenceIR h s
  | .fenceI h => Sys2Proof.Machine.execFenceI h s
  | .wfi => Sys2Proof.Machine.execWfi s
  | .checkA acc => Sys2Proof.Machine.execCheckA acc s
  | .checkB acc => Sys2Proof.Machine.execCheckB acc s
  | .imageCheckComplete => Sys2Proof.Machine.execImageCheckComplete s
  | .invalidateA acc => Sys2Proof.Machine.execInvalidateA acc s
  | .invalidateB acc => Sys2Proof.Machine.execInvalidateB acc s
  | .confirm acc => Sys2Proof.Machine.execConfirm acc s
  | .trialTimeout => Sys2Proof.Machine.execTrialTimeout s
  | .mramWrite acc => Sys2Proof.Machine.execMramWrite acc s
  | .mramCompare acc => Sys2Proof.Machine.execMramCompare acc s
  | .mramZero acc => Sys2Proof.Machine.execMramZero acc s
  | .mramCommandComplete fail => Sys2Proof.Machine.execMramCommandComplete fail s
  | .otpRead acc => Sys2Proof.Machine.execOtpRead acc s
  | .otpProgram acc ok => Sys2Proof.Machine.execOtpProgram acc ok s
  | .debugModuleAccess write addr data => Sys2Proof.Machine.execDebugModuleAccess write addr data s
  | .nap acc => Sys2Proof.Machine.execNap acc s
  | .napEntryTimeout => Sys2Proof.Machine.execNapEntryTimeout s
  | .hold acc => Sys2Proof.Machine.execHold acc s
  | .holdEntry => Sys2Proof.Machine.execHoldEntry s
  | .wakeEvent pins bad => Sys2Proof.Machine.execWakeEvent pins bad s
  | .wakeTimer => Sys2Proof.Machine.execWakeTimer s
  | .domainEnableWrite acc v => Sys2Proof.Machine.execDomainEnableWrite acc v s
  | .domainPowered d => Sys2Proof.Machine.execDomainPowered d s
  | .domainIdle d => Sys2Proof.Machine.execDomainIdle d s
  | .padRelease acc v => Sys2Proof.Machine.execPadRelease acc v s
  | .pllEnableWrite acc v => Sys2Proof.Machine.execPllEnableWrite acc v s
  | .pllLock n => Sys2Proof.Machine.execPllLock n s
  | .clockSourceWrite acc v => Sys2Proof.Machine.execClockSourceWrite acc v s
  | .faultOccurrence code kind inst t => Sys2Proof.Machine.execFaultOccurrence code kind inst t s
  | .reportMergeExpiry code => Sys2Proof.Machine.execReportMergeExpiry code s
  | .faultLogPop acc v => Sys2Proof.Machine.execFaultLogPop acc v s
  | .errCaptureRead who master => Sys2Proof.Machine.execErrCaptureRead who master s
  | .emissionPin out level missed => Sys2Proof.Machine.execEmissionPin out level missed s
  | .dieTemp t => Sys2Proof.Machine.execDieTemp t s
  | .samplerTick lin => Sys2Proof.Machine.execSamplerTick lin s
  | .workAreaWrite a b => Sys2Proof.Machine.execWorkAreaWrite a b s
  | .closeNow acc => Sys2Proof.Machine.execCloseNow acc s
  | .clearCirculating acc => Sys2Proof.Machine.execClearCirculating acc s
  | .samplerClearComplete => Sys2Proof.Machine.execSamplerClearComplete s
  | .samplerSelect acc index v => Sys2Proof.Machine.execSamplerSelect acc index v s
  | .plicClaim ctx => Sys2Proof.Machine.execPlicClaim ctx s
  | .plicComplete ctx src => Sys2Proof.Machine.execPlicComplete ctx src s
  | .vbusReturn b codes => Sys2Proof.Machine.execVbusReturn b codes s
  | .dieTempClear t => Sys2Proof.Machine.execDieTempClear t s
  | .checkerLock l => Sys2Proof.Machine.execCheckerLock l s
  | .checkerLockLoss l errs => Sys2Proof.Machine.execCheckerLockLoss l errs s
  | .skewCalibration p => Sys2Proof.Machine.execSkewCalibration p s
  | .ulps p enter => Sys2Proof.Machine.execUlps p enter s
  | .linkHeartbeatSend l => Sys2Proof.Machine.execLinkHeartbeatSend l s
  | .malformedLinkFrame l kind => Sys2Proof.Machine.execMalformedLinkFrame l kind s
  | .tckEdge trstN rising tms tdi pins => Sys2Proof.Machine.execTckEdge trstN rising tms tdi pins s

end Sys2Proof.Machine
end

