-- ==== Sys2Proof/Machine/Tick.lean ====
section
/-! DEFINITION. Tick: what an idle tick of 4 ns, one TCLK period, does (R14, R358; log entry 5). -/

namespace Sys2Proof.Machine

open Sys2Proof

namespace Sys

/-- 4 ns pass on the model's own clock (log entry 5). -/
def clockTick (s : Sys) : Sys := { s with clk := s.clk + 4 }

/-- One idle tick: operating time (R498), device time while the timebase runs (R358), CREDIT frames that are owed (R95), mtime (R431), the
time of NAP (R462), the clocks that a block leaving OFF starts (R455), the units of a store command (R551), what the harts hold back and buffer (R422, R427, R428), and the emission outputs (R183, R255). With the core rails off or a reset pin low nothing counts (R453). -/
def idleTick (otp : Nat → Nat) (s : Sys) : Sys :=
  if !s.powered then s
  else
    let s := ((((((((s.clockTick).operate).when (s.domainOn 6) tickTime).resyncTick).capTick).mtimeTick).napTick).storeTick).outputTick
    (((s.each (List.range 16) fireLevel).clocksTick).heldTick otp).bufferTick

end Sys

end Sys2Proof.Machine
end

