-- ==== Sys2Proof/WellFormed.lean ====
section
/-! DEFINITION. WellFormed: the checks on the operands of a command that its types do not make: what the wires, symbols and frames that
bring a command can carry. -/

namespace Sys2Proof

/-- A value of so many bits. -/
def under (bits v : Nat) : Bool := decide (v < 2 ^ bits)

/-- A signed value of so many bits. -/
def signed (bits : Nat) (v : Int) : Bool := decide (-(2 ^ (bits - 1) : Int) ≤ v ∧ v < (2 ^ (bits - 1) : Int))

/-- Bytes. -/
def bytesOk (l : List Nat) : Bool := l.all (under 8)

/-- Codes of converters and counts of oscillators, of at most 16 bits. -/
def codesOk (l : List Nat) : Bool := l.all (under 16)

/-- Places in a stream of bits, symbols or blocks, in their order. -/
def rising (l : List Nat) : Bool := decide (l.Pairwise (· < ·)) && l.all (under 64)

/-- A requester: the tag of an OD_REQ has 16 bits (R92). -/
def reqOk : Req → Bool
  | .chain tag => under 16 tag
  | .window _ _ => true

/-- An access of one to 64 bytes. -/
def accessSize (n : Nat) : Bool := decide (1 ≤ n ∧ n ≤ 64)

/-- A chain frame: the widths of its fields and the most that its payload may hold (R76). -/
def frameOk (f : Frame) : Bool :=
  under 8 f.dest && under 8 f.src && decide (f.cls < 4) && decide (f.typ < 64) && decide (f.flags < 64) && under 16 f.seq && signed 48 f.corr && under 16 f.len && under 16 f.hcrc &&
    under 32 f.crc && bytesOk f.payload && decide (f.payload.length ≤ 2048) && under 32 f.phase && decide (f.slip < 10)

/-- The operands of a command are well formed. -/
def Instr.wellFormed : Instr → Bool
  | .vaonRise => true
  | .coldStart _ flash => flash.all bytesOk
  | .resetAssert => true
  | .vaonLoss => true
  | .restored us bad => under 64 us && under 64 bad
  | .odReq _ f => frameOk f
  | .odWrite acc _ _ size val => reqOk acc.who && under 16 size && under 64 val
  | .windowLowWordRead _ _ _ _ => true
  | .windowSplitWrite acc _ _ _ word => reqOk acc.who && under 32 word
  | .describeSelect acc _ sel => reqOk acc.who && under 64 sel
  | .domainAddressWrite acc _ _ addr => reqOk acc.who && under 64 addr
  | .domainLengthWrite acc _ _ len => reqOk acc.who && under 64 len
  | .rspCommit acc len => reqOk acc.who && under 64 len
  | .serviceTimeout tag => under 16 tag
  | .fwsDataWrite acc val => reqOk acc.who && under 64 val
  | .storeRebuildComplete _ => true
  | .goConfig acc => reqOk acc.who
  | .goConfigComplete => true
  | .goReady acc badTables => reqOk acc.who && under 64 badTables
  | .arm acc => reqOk acc.who
  | .disarm acc => reqOk acc.who
  | .enterService acc => reqOk acc.who
  | .leaveService acc => reqOk acc.who
  | .clearFault acc => reqOk acc.who
  | .warmReset acc => reqOk acc.who
  | .warmResetActs => true
  | .lsafeFall => true
  | .lsafeRise => true
  | .defaultsKeepIdentity acc => reqOk acc.who
  | .defaultsAll acc => reqOk acc.who
  | .verify acc => reqOk acc.who
  | .rebuild acc => reqOk acc.who
  | .storeCommandComplete bad => under 64 bad
  | .restoreAck acc => reqOk acc.who
  | .frameForward _ f => frameOk f
  | .count _ f => frameOk f
  | .identify _ f => frameOk f
  | .assign _ f => frameOk f
  | .assignAlias _ f => frameOk f
  | .release _ f => frameOk f
  | .stream _ f => frameOk f
  | .alarm _ f => frameOk f
  | .sync _ f => frameOk f
  | .delayReq _ f => frameOk f
  | .delayRsp _ f => frameOk f
  | .bootData _ f => frameOk f
  | .bootReqTimeout => true
  | .bootRestart => true
  | .creditSymbol _ _ cells => under 16 cells
  | .creditReturnTimer _ _ => true
  | .heartbeat _ addr st _ => under 8 addr && decide (st < 6)
  | .heartbeatSend _ => true
  | .heartbeatTimeout _ => true
  | .portEnableWrite acc _ v => reqOk acc.who && under 64 v
  | .endpointEnableWrite acc _ v => reqOk acc.who && under 64 v
  | .releaseOffsetWrite acc _ v => reqOk acc.who && under 64 v
  | .creditPeriodExpiry _ => true
  | .gatewayDatagram _ d => bytesOk d
  | .arpRequest _ d => bytesOk d
  | .channelEnable acc _ _ => reqOk acc.who
  | .channelDisable acc _ => reqOk acc.who
  | .channelStart acc _ => reqOk acc.who
  | .channelPause acc _ => reqOk acc.who
  | .channelResume acc _ => reqOk acc.who
  | .channelStop acc _ => reqOk acc.who
  | .channelReset acc _ => reqOk acc.who
  | .hoopEnableWrite acc _ v _ => reqOk acc.who && under 64 v
  | .blockFetch _ _ => true
  | .descriptorLookahead _ _ => true
  | .scuSample _ _ => true
  | .jump _ => true
  | .mark _ => true
  | .arc _ => true
  | .dwell _ => true
  | .power _ => true
  | .waitTime _ => true
  | .waitTimeReached _ => true
  | .waitEvent _ => true
  | .waitEventTimeout _ => true
  | .seamPoint _ => true
  | .calMark _ => true
  | .linkBlock _ => true
  | .endDescr _ => true
  | .readyTimeout _ => true
  | .lpStsChange _ _ => true
  | .sosTimeout _ => true
  | .triggerEdge _ => true
  | .slotEvaluation _ code _ wait _ _ => signed 18 code && under 64 wait
  | .lineBreak _ _ => true
  | .slotClose acc _ => reqOk acc.who
  | .slotOpen acc _ => reqOk acc.who
  | .slotReset acc _ => reqOk acc.who
  | .rcLearn acc _ => reqOk acc.who
  | .rcFreeze acc _ => reqOk acc.who
  | .rcClear acc _ => reqOk acc.who
  | .slotModeWrite acc _ v => reqOk acc.who && under 64 v
  | .bqEnableWrite acc _ v => reqOk acc.who && under 64 v
  | .rcConfigWrite acc _ _ v => reqOk acc.who && under 64 v
  | .faultHoldExpiry _ => true
  | .mplUpdate _ a b _ _ => codesOk a && codesOk b
  | .gateMismatch _ _ _ => true
  | .zoneEnableWrite acc _ v => reqOk acc.who && under 64 v
  | .join acc _ => reqOk acc.who
  | .cancelJoin acc _ => reqOk acc.who
  | .joinTimeReached => true
  | .takeoverCollectionClose => true
  | .takeoverInstant => true
  | .reportPop acc v => reqOk acc.who && under 64 v
  | .updateStart acc _ => reqOk acc.who
  | .updateResume acc _ => reqOk acc.who
  | .updateAbort acc _ => reqOk acc.who
  | .updateRollback acc _ => reqOk acc.who
  | .updateInstall acc _ _ => reqOk acc.who
  | .checksComplete _ _ => true
  | .stepBuilt _ _ _ off => under 64 off
  | .swapWindowExpiry _ => true
  | .calCopyWrite _ => true
  | .loadRecord _ => true
  | .patRequest acc _ => reqOk acc.who
  | .patClear acc _ => reqOk acc.who
  | .encoderEdge _ _ _ => true
  | .encoderZ _ => true
  | .encoderLoss _ _ _ => true
  | .encoderClear acc _ => reqOk acc.who
  | .encoderZero acc _ => reqOk acc.who
  | .sosEdge _ _ => true
  | .fixInstant _ => true
  | .sliceFetch _ _ => true
  | .dataSend _ _ => true
  | .ackFrame _ body => bytesOk body
  | .ackTimeout _ => true
  | .fireStrobe _ => true
  | .swathEnd _ => true
  | .feedSettleExpiry _ => true
  | .statusFrame _ body => bytesOk body
  | .nozzleFrame _ body => bytesOk body
  | .wackFrame _ body => bytesOk body
  | .ctrlRsp _ body => bytesOk body
  | .linkHeartbeat _ depth ports => under 8 depth && under 8 ports
  | .linkHeartbeatTimeout _ => true
  | .ctrlWrite acc _ => reqOk acc.who
  | .ctrlRead acc _ => reqOk acc.who
  | .ctrlTimeout _ => true
  | .picotStore acc _ => reqOk acc.who
  | .picotSend acc => reqOk acc.who
  | .picotCheck acc bad => reqOk acc.who && under 64 bad
  | .headTempReading _ _ => true
  | .gateInputChange _ _ => true
  | .groupEnable acc _ => reqOk acc.who
  | .groupDisable acc _ => reqOk acc.who
  | .groupStart acc _ => reqOk acc.who
  | .groupPause acc _ => reqOk acc.who
  | .groupResume acc _ => reqOk acc.who
  | .groupStop acc _ => reqOk acc.who
  | .groupReset acc _ => reqOk acc.who
  | .axisUpdate _ _ => true
  | .axisEnable acc _ => reqOk acc.who
  | .axisDisable acc _ => reqOk acc.who
  | .moveAbs acc _ => reqOk acc.who
  | .moveRel acc _ => reqOk acc.who
  | .runTable acc _ _ => reqOk acc.who
  | .switchTable acc _ => reqOk acc.who
  | .axisStop acc _ => reqOk acc.who
  | .quickStop acc _ => reqOk acc.who
  | .axisReset acc _ => reqOk acc.who
  | .setPosition acc _ => reqOk acc.who
  | .pwmPeriod _ codes => codesOk codes
  | .inposTimeout _ => true
  | .holdDelayExpiry _ => true
  | .vbusFault _ codes => codesOk codes
  | .frameStart _ _ _ _ => true
  | .csiLine _ _ _ d _ _ => bytesOk d
  | .frameEnd _ _ _ => true
  | .csiPacket _ _ _ _ _ _ => true
  | .frameTimeout _ => true
  | .lineGrant _ => true
  | .frameRecord _ => true
  | .contextEnableWrite acc _ v => reqOk acc.who && under 64 v
  | .outputEnableWrite acc _ _ v => reqOk acc.who && under 64 v
  | .profEnableWrite acc _ v => reqOk acc.who && under 64 v
  | .detectProbe _ _ => true
  | .symbolLock l => rising l.marks
  | .trainTimeout _ => true
  | .capSet _ d1 d2 d3 _ => under 8 d1 && under 8 d2 && under 8 d3
  | .capabilityTimeout _ => true
  | .lossOfLock _ errs cut => rising errs && cut.all frameOk
  | .singleLaneTimeout _ => true
  | .retrain acc _ => reqOk acc.who
  | .reloadEq acc _ => reqOk acc.who
  | .testStart acc _ => reqOk acc.who
  | .testStop acc _ => reqOk acc.who
  | .lanePll _ _ => true
  | .macFrameReceive _ d _ fec => bytesOk d && under 64 fec
  | .txTailWrite acc _ v => reqOk acc.who && under 64 v
  | .macFrameSent _ _ => true
  | .ethLink _ _ _ fecBad => under 64 fecBad
  | .incrementWrite acc _ v => reqOk acc.who && under 64 v
  | .adjTicksWrite acc v => reqOk acc.who && under 64 v
  | .adjTicksExpiry => true
  | .timeStep acc v => reqOk acc.who && signed 64 v
  | .triggerConfigWrite acc _ _ v => reqOk acc.who && under 64 v
  | .triggerArm acc _ v => reqOk acc.who && under 64 v
  | .pulse acc _ => reqOk acc.who
  | .cancel acc _ => reqOk acc.who
  | .captureEvent _ _ => true
  | .capturePop acc _ v => reqOk acc.who && under 64 v
  | .captureConfigWrite acc _ _ v => reqOk acc.who && under 64 v
  | .delayReqSend _ => true
  | .delayRspTimeout _ => true
  | .syncSend => true
  | .dramRequest _ _ addr len data => under 64 addr && accessSize len && bytesOk data
  | .dramIssue _ _ => true
  | .dramReadData _ bad => under 64 bad
  | .dramAlert _ _ => true
  | .refreshInterval => true
  | .mr4Poll _ => true
  | .oscRun counts => codesOk counts
  | .unfreeze acc => reqOk acc.who
  | .debugRead acc bad => reqOk acc.who && under 64 bad
  | .pprSoft acc => reqOk acc.who
  | .pprHard acc => reqOk acc.who
  | .pprComplete _ _ => true
  | .trainBegin acc => reqOk acc.who
  | .trainEnd acc _ osc => reqOk acc.who && codesOk osc
  | .trainAbort acc => reqOk acc.who
  | .mrw acc => reqOk acc.who
  | .mrr acc val => reqOk acc.who && under 64 val
  | .mpc acc => reqOk acc.who
  | .mrwLane acc => reqOk acc.who
  | .patWrite acc => reqOk acc.who
  | .patCompare acc => reqOk acc.who
  | .sample acc => reqOk acc.who
  | .patComplete bits errs => under 64 bits && under 64 errs
  | .dmaArm acc _ v => reqOk acc.who && under 64 v
  | .handOver _ => true
  | .shadowTake _ => true
  | .descriptorFetch _ _ => true
  | .dmaStop acc _ => reqOk acc.who
  | .dmaStart acc _ => reqOk acc.who
  | .dmaClear acc _ => reqOk acc.who
  | .dmaEnableWrite acc _ v => reqOk acc.who && under 64 v
  | .dmaBurst bad => under 64 bad
  | .transferComplete _ => true
  | .cqTailWrite acc _ v => reqOk acc.who && under 64 v
  | .lateErrorResponse _ addr => under 64 addr
  | .apRunWrite _ _ v => under 64 v
  | .fabricAccess _ _ _ size addr v _ bad => accessSize size && under 64 addr && under 64 v && under 64 bad
  | .remotePmpWrite _ _ _ _ v => under 64 v
  | .cboClean _ addr => under 64 addr
  | .cboFlush _ addr => under 64 addr
  | .cboInval _ _ addr => under 64 addr
  | .fenceWO _ => true
  | .fenceIR _ => true
  | .fenceI _ => true
  | .wfi => true
  | .checkA acc => reqOk acc.who
  | .checkB acc => reqOk acc.who
  | .imageCheckComplete => true
  | .invalidateA acc => reqOk acc.who
  | .invalidateB acc => reqOk acc.who
  | .confirm acc => reqOk acc.who
  | .trialTimeout => true
  | .mramWrite acc => reqOk acc.who
  | .mramCompare acc => reqOk acc.who
  | .mramZero acc => reqOk acc.who
  | .mramCommandComplete fail => fail.all (under 64)
  | .otpRead acc => reqOk acc.who
  | .otpProgram acc _ => reqOk acc.who
  | .debugModuleAccess _ _ data => under 32 data
  | .nap acc => reqOk acc.who
  | .napEntryTimeout => true
  | .hold acc => reqOk acc.who
  | .holdEntry => true
  | .wakeEvent _ bad => under 64 bad
  | .wakeTimer => true
  | .domainEnableWrite acc v => reqOk acc.who && under 64 v
  | .domainPowered _ => true
  | .domainIdle _ => true
  | .padRelease acc v => reqOk acc.who && under 64 v
  | .pllEnableWrite acc v => reqOk acc.who && under 64 v
  | .pllLock _ => true
  | .clockSourceWrite acc v => reqOk acc.who && under 64 v
  | .faultOccurrence _ _ inst t => under 64 inst && under 64 t
  | .reportMergeExpiry _ => true
  | .faultLogPop acc v => reqOk acc.who && under 64 v
  | .errCaptureRead who _ => reqOk who
  | .emissionPin _ _ _ => true
  | .dieTemp t => signed 16 t
  | .samplerTick lin => lin.all (fun x => signed 64 x.1 && signed 64 x.2.1 && signed 64 x.2.2)
  | .workAreaWrite _ _ => true
  | .closeNow acc => reqOk acc.who
  | .clearCirculating acc => reqOk acc.who
  | .samplerClearComplete => true
  | .samplerSelect acc _ v => reqOk acc.who && under 64 v
  | .plicClaim _ => true
  | .plicComplete _ _ => true
  | .vbusReturn _ codes => codesOk codes
  | .dieTempClear t => signed 16 t
  | .checkerLock _ => true
  | .checkerLockLoss _ errs => rising errs
  | .skewCalibration _ => true
  | .ulps _ _ => true
  | .linkHeartbeatSend _ => true
  | .malformedLinkFrame _ _ => true
  | .tckEdge _ _ _ _ _ => true

end Sys2Proof
end

