-- ==== Sys2Proof/Safety.lean ====
section
/-! DEFINITION. Safety: the terms that claims use: a write that the engine accepts (R47, R48) and what it leaves, outputs that are dark
(R23, R56), and the canonical form of the state's sparse maps. -/

namespace Sys2Proof.Machine

open Sys2Proof

namespace Sys

/-- The engine takes a request at once: it does not wait, and no reset, START, NAP or HOLD keeps it away (R47, R93, R464). -/
def engineFree (s : Sys) : Bool :=
  s.powered && !s.leaving && !decide (s.dev = .start ∧ s.rd Key.Restore.RESTORE_STATUS = 0) && !s.engineStops && s.eng.waits.isEmpty

/-- The word that a request stores in its entry, with reserved bits 0 (R7, R37). -/
def wordOf (s : Sys) (q : WaitReq) (r : Dict.Row) : Option Word :=
  match s.formOf q r.ty with
  | .word w => some (maskWord r w)
  | _ => none

/-- The value as a number, signed where the type of the entry is. -/
def intOf (r : Dict.Row) (w : Word) : Int := if tySigned r.ty then w.toInt else w.toNat

/-- The block as the engine finds it: the clock of the entry's block runs (R33, R455). -/
def clocked (s : Sys) (k : Nat) : Sys := s.ungate (domainOf (keyIdx k))

/-- What the entry itself requires of the write, and the block after its checks. -/
def needed (s : Sys) (acc : Access) (k : Nat) (r : Dict.Row) (w : Word) (ext : Ext) : Sys × Nat :=
  (s.clocked k).need ((s.clocked k).clsOf acc.who) k w.toNat (intOf r w) ext

/-- Every check of R48 passes for a whole write of `v` to entry `k`, and the engine takes it at once. -/
def accepts (s : Sys) (acc : Access) (k v : Nat) (ext : Ext) : Bool :=
  let q := writeReq acc k v
  s.engineFree &&
    match entryRow q.idx q.sub with
    | none => false
    | some r =>
      let t := s.clocked k
      match t.wordOf q r with
      | none => false
      | some w =>
        decide (s.frontCode q (some r) = 0) && s.domainOn (domainOf (keyIdx k)) && s.reached (domainOf (keyIdx k)) && r.st.testBit (devCode s.dev) &&
          decide ((s.needed acc k r w ext).2 = 0) && t.rangeOk (t.clsOf acc.who) k r w.toNat (intOf r w) && !t.storeBusy k r && acc.parity &&
          (!r.kept || (acc.copyA && !(t.pair (t.storePair k)).building)) && decide (r.ty ≠ .domain)

/-- The store has taken a write of `cells` to pair `p` (R61, R62). -/
def counted (x : Sys) (acc : Access) (p : Nat) (cells : List (Nat × Word)) : Sys :=
  (x.storeWrite p cells).when (!acc.copyB) (fun x => x.markCopy p true)

/-- The block after an accepted write, before its answer: the value stored, the block's own action, and the store's count (R47, R61). -/
def written (s : Sys) (otp : Nat → Nat) (acc : Access) (k v : Nat) (ext : Ext) : Sys :=
  let q := writeReq acc k v
  match entryRow q.idx q.sub with
  | none => s
  | some r =>
    let t := s.clocked k
    match t.wordOf q r with
    | none => s
    | some w =>
      let cls := t.clsOf acc.who
      let u := (s.needed acc k r w ext).1
      let x := (u.act (u.storeValue cls k r w) otp cls k w.toNat (intOf r w) ext).powerResult k w.toNat 0
      x.when r.kept (fun x => x.counted acc (t.storePair k) (u.storeCells cls k r w))

/-- A write of `v` to entry `k` has been answered, with what its answer brings where it was WARM_RESET or HOLD (R53, R92, R93). -/
def answered (t : Sys) (acc : Access) (k v : Nat) : Sys :=
  let t := t.respond (writeReq acc k v) (.done 0)
  if t.leaving then t.flushRequests else t

/-- Checks 1 to 6 of R48 pass for a request to an entry with row `r`, its block is powered and clocked, and the engine takes it at once. -/
def passes (s : Sys) (q : WaitReq) (r : Dict.Row) : Bool :=
  s.engineFree && decide (s.frontCode q (some r) = 0) && s.domainOn (domainOf q.idx) && s.reached (domainOf q.idx)

/-- The engine takes a read of an entry at once and reads it without a parity error. -/
def reads (s : Sys) (q : WaitReq) : Bool := !q.write && q.acc.parity && (entryRow q.idx q.sub).any (fun r => s.passes q r)

/-- The block after a read: the clock of the entry's block runs (R33), what reading it does is done, and the value it had is the answer (R51, R92). -/
def readOut (s : Sys) (q : WaitReq) : Sys :=
  match entryRow q.idx q.sub with
  | none => s
  | some r =>
    let u := s.clocked (q.idx * 256 + q.sub)
    (u.readActs (q.idx * 256 + q.sub)).respond q (.value r.ty (u.value q.idx q.sub))

/-- Every check of R48 passes for a write of the address of DOMAIN entry `k`, which is then staged (R38). -/
def acceptsAddress (s : Sys) (acc : Access) (k v : Nat) : Bool :=
  let q := writeReq acc k v
  match entryRow q.idx q.sub with
  | none => false
  | some r =>
    let t := s.clocked k
    match t.wordOf q r with
    | none => false
    | some w =>
      s.passes q r && r.st.testBit (devCode s.dev) && decide ((s.needed acc k r w {}).2 = 0) &&
        t.rangeOk (t.clsOf acc.who) k r w.toNat (intOf r w) && !t.storeBusy k r && acc.parity &&
        (!r.kept || !(t.pair (t.storePair k)).building) && decide (r.ty = .domain)

/-- The block after such a write, before its answer. -/
def addressStaged (s : Sys) (acc : Access) (k v : Nat) : Sys :=
  let q := writeReq acc k v
  match entryRow q.idx q.sub with
  | none => s
  | some r =>
    match (s.clocked k).wordOf q r with
    | none => s
    | some w => (s.needed acc k r w {}).1.stageDomain ((s.clocked k).clsOf acc.who) k w.toNat

/-- A value fits the type of its entry. -/
def fits (k v : Nat) : Bool := (entryRow (keyIdx k) (keySub k)).any (fun r => decide (v < 2 ^ (8 * tySize r.ty)))

/-- The gate of the channel that a slot belongs to is judged again (R192). -/
def gateOfSlot (x : Sys) (n : Nat) : Sys := if n < 48 then x.refreshGate (n / 3) else x

/-- The block after an accepted write and its answer. -/
def afterWrite (s : Sys) (otp : Nat → Nat) (acc : Access) (k v : Nat) (ext : Ext) : Sys := (s.written otp acc k v ext).answered acc k v

/-! ### Frames that arrive whole (R68 to R70, R80) -/

/-- A frame is for this unit. -/
def forMe (s : Sys) (f : Frame) : Bool := decide (f.dest = s.address) && decide (s.address ≠ 0)

/-- No case of R80 discards a frame at port `p`, and nothing keeps the unit from processing it: the port is UP, the header and the frame pass
their checks, the receive cells hold it, and it is neither the unit's own, nor looped, nor ended badly. -/
def intact (s : Sys) (p : Nat) (f : Frame) : Bool :=
  s.portUp p && decide (f.hcrc = hcrcOf f) && !badClass f && !decide (f.dest = 0 ∨ (0xFB ≤ f.dest ∧ f.dest ≤ 0xFD) ∨ (f.cls = 0 ∧ 8 < cellsOf f.len)) &&
    decide ((s.port p).held.get f.cls + (s.port p).freed.get f.cls + cellsOf f.len ≤ fullCells.get f.cls) &&
    !decide (f.src = s.address ∧ s.address ≠ 0) && !f.broken && decide (f.payload.length = f.len) && decide (f.crc = crcOf f) && !f.badEnd && !f.looped &&
    decide (classOf f.typ ≠ none) && !(decide (f.src ≠ 0xFE) && hostOnly f)

/-- The unit has counted a frame and holds its cells (R82, R101). -/
def taken (s : Sys) (p : Nat) (f : Frame) : Sys :=
  (s.inc64 (Key.Port.FRAMES_RX p)).modPort p (fun r => { r with held := r.held.set f.cls (r.held.get f.cls + cellsOf f.len) })

/-- A frame of the host that is processed shows which port leads to the host (R69, R70). -/
def fromHost (s : Sys) (p : Nat) (f : Frame) : Sys :=
  s.when (decide (f.src = 0xFE)) (fun s => s.wr Key.Pos.HOST_PORT p)

/-- A frame that has been processed leaves, or its cells become free (R68, R69). -/
def passed (u s : Sys) (p : Nat) (f : Frame) : Sys :=
  if s.forMe f then u.freeCells p f.cls (cellsOf f.len) else u.forward p (s.stampIn p f) ((s.taken p f).passOn p f)

/-- A frame that arrives whole, with what the unit does for it. -/
def processed (s : Sys) (p : Nat) (f : Frame) (proc : Sys → Sys) : Sys := (proc ((s.taken p f).fromHost p f)).passed s p f

/-- No laser may emit and no head may fire: every emission output is low (R23, R56). -/
def dark (s : Sys) : Bool := decide (s.pads.lpEn = 0 ∧ s.pads.lpMod = 0 ∧ s.pads.fire = 0)

end Sys

/-- The state with its block changed. -/
def State.on (s : State) (f : Sys → Sys) : State := { s with toSys := f s.toSys }

/-- A command's answer with a fuse word burnt, where PROGRAM has asked for one (R441). -/
def burnt (s : State) (t : Sys) : State :=
  match t.eng.burn with
  | none => { s with toSys := t }
  | some (w, bits) =>
    { s with toSys := { t with eng := { t.eng with burn := none } }, otp := Kv.put (fun _ => (0 : Word)) w (BitVec.ofNat 64 (programmed (s.otpWord w) bits)) s.otp }

/-- The state after an accepted write of `v` to entry `k`. -/
def State.afterWrite (s : State) (acc : Access) (k v : Nat) (ext : Ext) : State := burnt s (s.toSys.afterWrite s.otpWord acc k v ext)

/-- The state after an accepted write of `v` to entry `k` whose effect on the block is `f`: the clock of the entry's block runs (R33), the
effect is there, the write is answered, and the fuses have taken what PROGRAM asks for. -/
def State.answers (s : State) (acc : Access) (k v : Nat) (f : Sys → Sys) : State := burnt s ((f (s.toSys.clocked k)).answered acc k v)

/-- The canonical form of the entries, of memory and of the fuses: keys rise, and nothing is listed that reads the same unlisted. -/
def State.canonical (s : State) : Bool := Kv.wf odDefaultWord s.od && s.memWf && Kv.wf (fun _ => (0 : Word)) s.otp

/-- The counters that sending moves (R101, R351). -/
def sendKeys : List Nat :=
  [Key.Port.FRAMES_TX 0, Key.Port.FRAMES_TX 1, Key.Gw.TX_DATAGRAMS, Key.MacCnt.TX_FRAMES 0, Key.MacCnt.TX_FRAMES 1, Key.MacCnt.TX_DISCARDED 0,
    Key.MacCnt.TX_DISCARDED 1]

/-- The next state `t` holds what `s` held but for the entries `ks`: memory, the device state, the queue of commands and every other entry.
An answer moves the counters of sent frames, and a clock that an access needs runs (R33, R455). -/
def State.keepsBut (s t : State) (ks : List Nat) : Prop :=
  (∀ a, t.byte a = s.byte a) ∧ t.dev = s.dev ∧ t.pending = s.pending ∧ ∀ k, k ∉ ks → k ∉ sendKeys → k ≠ Key.Dom.CLOCKED → t.rdW k = s.rdW k

/-- An accepted write of an entry that acts on nothing: the entry holds the value, and nothing else changes but what the retained store
counts and the answer brings. -/
def storesOnly (k : Nat) : Prop :=
  ∀ (s : State) (acc : Access) (v : Nat) (idx : Fin 65536) (sub : Fin 256), idx.val * 256 + sub.val = k → s.accepts acc k v {} = true →
    Sys.fits k v = true → acc.copyB = true →
      ∃ t, exec (.odWrite acc idx sub (Sys.writeReq acc k v).size (Sys.writeReq acc k v).val) s = .next t ∧ t.rd k = v ∧ s.keepsBut t [k] ∧
        t.pads = s.pads ∧ t.plic = s.plic ∧ t.tb = s.tb

/-- As many steps as given, none where a step stops. -/
def runSteps : Nat → State → Option State
  | 0, s => some s
  | n + 1, s =>
    match step s with
    | .next t => runSteps n t
    | _ => none

/-- Commands carried out in the order given, none where one stops. -/
def runInOrder : List Instr → State → Option State
  | [], s => some s
  | i :: l, s =>
    match exec i s with
    | .next t => runInOrder l t
    | _ => none

end Sys2Proof.Machine
end

