-- ==== Sys2Proof/Certificates/Slice0/Obligations.lean ====
section
/-! DEFINITION. Obligations: what is claimed of the model. Each docstring says what a statement says and which rules of the spec it rests on;
a clause that rests on a choice of the model names its log entry. -/

open Sys2Proof Sys2Proof.Machine Sys2Proof.Machine.Sys

/-- The eight device commands do what the matrix gives them. When every check of R48 passes for the write that the command is and the engine takes it at
once, the command answers the next state in which the clock of the entry's block runs, each of the eight device commands, in a state where its matrix
says that it acts, has its effect and is answered: GO_CONFIG makes CONFIG pending, lets the slots leave and stops the axes that move; GO_READY judges
the tables and enters READY; ARM enters ARMED with the gates judged; DISARM stops and darkens every channel and group on the way to READY;
ENTER_SERVICE closes slots and axes; LEAVE_SERVICE ends the tests; CLEAR_FAULT enters CONFIG; WARM_RESET makes START pending. Commands: GO_CONFIG,
GO_READY, ARM, DISARM, ENTER_SERVICE, LEAVE_SERVICE, CLEAR_FAULT, WARM_RESET. Rests on: 02_object_dictionary.md (R57, R58). -/
def Obligations.DeviceCommandsAct : Prop :=
  (∀ (s : State) (acc : Access), s.accepts acc Key.DevCmd.DEVICE_COMMAND 1 {} = true → devMatrix s.dev 1 = some true → exec (.goConfig acc) s = .next (s.answers acc Key.DevCmd.DEVICE_COMMAND 1 (fun u => (({ u with pendState := some .config, eng := { u.eng with pendReq := clsCode (u.clsOf acc.who) } } : Sys).each (List.range 64) Sys.slotLeave).each (List.range 8) (fun u a => if u.axState a = 2 ∨ u.axState a = 3 then u.axCause a false 10 else u.axDevice a)))) ∧
  (∀ (s : State) (acc : Access) (bad : Nat), s.accepts acc Key.DevCmd.DEVICE_COMMAND 2 { bad := bad } = true → devMatrix s.dev 2 = some true → exec (.goReady acc bad) s = .next (s.answers acc Key.DevCmd.DEVICE_COMMAND 2 (fun u => ((u.tableChecks bad).showLoads).devAct (u.clsOf acc.who) 2))) ∧
  (∀ (s : State) (acc : Access), s.accepts acc Key.DevCmd.DEVICE_COMMAND 3 {} = true → devMatrix s.dev 3 = some true → exec (.arm acc) s = .next (s.answers acc Key.DevCmd.DEVICE_COMMAND 3 (fun u => ((u.setCause 0x10 3 (devCode u.dev) 3 (clsCode (u.clsOf acc.who))).setDev .armed).refresh))) ∧
  (∀ (s : State) (acc : Access), s.accepts acc Key.DevCmd.DEVICE_COMMAND 4 {} = true → devMatrix s.dev 4 = some true → exec (.disarm acc) s = .next (s.answers acc Key.DevCmd.DEVICE_COMMAND 4 (fun u => (u.setCause 0x10 4 (devCode u.dev) 2 (clsCode (u.clsOf acc.who))).disarmed))) ∧
  (∀ (s : State) (acc : Access), s.accepts acc Key.DevCmd.DEVICE_COMMAND 5 {} = true → devMatrix s.dev 5 = some true → exec (.enterService acc) s = .next (s.answers acc Key.DevCmd.DEVICE_COMMAND 5 (fun u => ((((u.setCause 0x10 5 (devCode u.dev) 5 (clsCode (u.clsOf acc.who))).setDev .service).each (List.range 64) (fun u n => if u.slotState n = 0 then u else u.slotOff n 3)).each (List.range 8) Sys.axOff).refresh))) ∧
  (∀ (s : State) (acc : Access), s.accepts acc Key.DevCmd.DEVICE_COMMAND 6 {} = true → devMatrix s.dev 6 = some true → exec (.leaveService acc) s = .next (s.answers acc Key.DevCmd.DEVICE_COMMAND 6 (fun u => u.devAct (u.clsOf acc.who) 6))) ∧
  (∀ (s : State) (acc : Access), s.accepts acc Key.DevCmd.DEVICE_COMMAND 7 {} = true → devMatrix s.dev 7 = some true → exec (.clearFault acc) s = .next (s.answers acc Key.DevCmd.DEVICE_COMMAND 7 (fun u => (u.setCause 0x10 7 (devCode u.dev) 1 (clsCode (u.clsOf acc.who))).enterConfig (some 1)))) ∧
  (∀ (s : State) (acc : Access), s.accepts acc Key.DevCmd.DEVICE_COMMAND 8 {} = true → devMatrix s.dev 8 = some true → exec (.warmReset acc) s = .next (s.answers acc Key.DevCmd.DEVICE_COMMAND 8 (fun u => { u.setCause 2 8 (devCode u.dev) 0 (clsCode (u.clsOf acc.who)) with pendState := some .start, eng := { u.eng with warmPending := true } })))

/-- The store commands, RESTORE_ACK, FWS_DATA, DESCRIBE selection and RSP_COMMIT do what the dictionary gives them. When every check of R48 passes for the
write that the command is and the engine takes it at once, the command answers the next state in which the clock of the entry's block runs, each of
DEFAULTS (both), VERIFY and REBUILD starts the store command; RESTORE_ACK withdraws ACK_REQUIRED and what hangs on it; FWS_DATA stores eight bytes in
the firmware store and counts the write of the pair; DESCRIBE selection takes the selection; RSP_COMMIT answers the request of the service. Each is
answered. Commands: DEFAULTS_KEEP_IDENTITY, DEFAULTS_ALL, VERIFY, REBUILD, RESTORE_ACK, FWS_DATA_WRITE, DESCRIBE_SELECT, RSP_COMMIT. Rests on:
02_object_dictionary.md (R41, R48, R55, R61, R65, R551). -/
def Obligations.StoreCommandsAct : Prop :=
  (∀ (s : State) (acc : Access), s.accepts acc Key.Store.STORE_COMMAND 1 {} = true → exec (.defaultsKeepIdentity acc) s = .next (s.answers acc Key.Store.STORE_COMMAND 1 (fun u => { u.wr Key.Store.STORE_PROGRESS 0 with eng := { u.eng with command := some 1, units := 0, total := 13 } }))) ∧
  (∀ (s : State) (acc : Access), s.accepts acc Key.Store.STORE_COMMAND 2 {} = true → exec (.defaultsAll acc) s = .next (s.answers acc Key.Store.STORE_COMMAND 2 (fun u => { u.wr Key.Store.STORE_PROGRESS 0 with eng := { u.eng with command := some 2, units := 0, total := 16 } }))) ∧
  (∀ (s : State) (acc : Access), s.accepts acc Key.Store.STORE_COMMAND 3 {} = true → exec (.verify acc) s = .next (s.answers acc Key.Store.STORE_COMMAND 3 (fun u => { u.wr Key.Store.STORE_PROGRESS 0 with eng := { u.eng with command := some 3, units := 0, total := 32 } }))) ∧
  (∀ (s : State) (acc : Access), s.accepts acc Key.Store.STORE_COMMAND 4 {} = true → exec (.rebuild acc) s = .next (s.answers acc Key.Store.STORE_COMMAND 4 (fun u => if u.rd Key.StoreFail.FAILED_NOW = 0 then ((u.wr Key.Store.STORE_PROGRESS 100).wr Key.Store.STORE_RESULT 0).raise 63 else { u.wr Key.Store.STORE_PROGRESS 0 with eng := { u.eng with command := some 4, units := 0, total := ((List.range 16).filter (fun p => u.rdBit Key.StoreFail.FAILED_NOW (2 * p) || u.rdBit Key.StoreFail.FAILED_NOW (2 * p + 1))).length } }))) ∧
  (∀ (s : State) (acc : Access), s.accepts acc Key.RestoreAck.RESTORE_ACK 1 {} = true → exec (.restoreAck acc) s = .next (s.answers acc Key.RestoreAck.RESTORE_ACK 1 (fun u => (u.wrB Key.Restore.ACK_REQUIRED false).clearCode 0x6C))) ∧
  (∀ (s : State) (acc : Access) (v : Nat), s.accepts acc Key.FwStore.FWS_DATA v {} = true → v < 2 ^ 64 → exec (.fwsDataWrite acc v) s = .next (s.answers acc Key.FwStore.FWS_DATA v (fun u => ({ u with eng := { u.eng with fws := (List.range 8).foldl (fun f j => Kv.put (fun _ => (0 : Byte)) (u.fwsAt + j) (BitVec.ofNat 8 (v / 256 ^ j)) f) u.eng.fws } } : Sys).counted acc (u.rd Key.FwStore.FWS_PAIR) ((List.range 8).map (fun j => (u.fwsAt + j, BitVec.ofNat 64 (v / 256 ^ j % 256))))))) ∧
  (∀ (s : State) (acc : Access) (pair : Cls) (v : Nat), s.accepts acc (Sys.selectKey pair) v {} = true → v < 2 ^ 32 → exec (.describeSelect acc pair v) s = .next (s.answers acc (Sys.selectKey pair) v (fun u => u.wr (Sys.selectKey pair) (v % 2 ^ 24)))) ∧
  (∀ (s : State) (acc : Access) (v : Nat), s.accepts acc Key.Fws.RSP_COMMIT v {} = true → v < 256 → exec (.rspCommit acc v) s = .next (s.answers acc Key.Fws.RSP_COMMIT v (fun u => u.rspCommit v)))

/-- PORT_ENABLE, the ENABLE of an endpoint and RELEASE_OFFSET act on the chain. When every check of R48 passes for the write that the command is and the
engine takes it at once, the command answers the next state in which the clock of the entry's block runs, a write of a port's ENABLE, of an endpoint's
ENABLE and of RELEASE_OFFSET stores the value, acts on the port (and the lanes), the endpoint or its credit, and is answered. Commands:
PORT_ENABLE_WRITE, ENDPOINT_ENABLE_WRITE, RELEASE_OFFSET_WRITE. Rests on: 02_object_dictionary.md (R48); 03_kwezu_chain.md (R74, R96). -/
def Obligations.ChainWritesAct : Prop :=
  (∀ (s : State) (acc : Access) (p : Fin 2) (v : Nat), s.accepts acc (Key.Port.ENABLE p) v {} = true → v < 256 → exec (.portEnableWrite acc p v) s = .next (s.answers acc (Key.Port.ENABLE p) v (fun u => (((u.wr (Key.Port.ENABLE p) v).portEnable p v).laneRefresh).counted acc (pairOf (keyIdx (Key.Port.ENABLE p))) [((Key.Port.ENABLE p), BitVec.ofNat 64 v)]))) ∧
  (∀ (s : State) (acc : Access) (n : Fin 8) (v : Nat), s.accepts acc (Key.Ep.ENABLE n) v {} = true → v < 256 → exec (.endpointEnableWrite acc n v) s = .next (s.answers acc (Key.Ep.ENABLE n) v (fun u => ((u.wr (Key.Ep.ENABLE n) v).epEnable n v).counted acc (pairOf (keyIdx (Key.Ep.ENABLE n))) [((Key.Ep.ENABLE n), BitVec.ofNat 64 v)]))) ∧
  (∀ (s : State) (acc : Access) (n : Fin 8) (v : Nat), s.accepts acc (Key.EpSt.RELEASE_OFFSET n) v {} = true → v < 2 ^ 32 → exec (.releaseOffsetWrite acc n v) s = .next (s.answers acc (Key.EpSt.RELEASE_OFFSET n) v (fun u => (u.wr (Key.EpSt.RELEASE_OFFSET n) v).release n v)))

/-- The seven channel commands and HOOP_ENABLE do what the state machine of a channel gives them. When every check of R48 passes for the write that the
command is and the engine takes it at once, the command answers the next state in which the clock of the entry's block runs, each of ENABLE, DISABLE,
START, PAUSE, RESUME, STOP and RESET of a channel, in the states named, has the effect of the state machine of a channel; HOOP_ENABLE in READY on a
channel that is not off is judged with its table first, then stored and counted. Each is answered. Commands: CHANNEL_ENABLE, CHANNEL_DISABLE,
CHANNEL_START, CHANNEL_PAUSE, CHANNEL_RESUME, CHANNEL_STOP, CHANNEL_RESET, HOOP_ENABLE_WRITE. Rests on: 02_object_dictionary.md (R48);
04_scan_channels.md (R112, R128, R141). -/
def Obligations.ChannelCommandsAct : Prop :=
  (∀ (s : State) (acc : Access) (c : Fin 16) (tableOk : Bool), s.accepts acc (Key.Ch.COMMAND c) 1 { ok := tableOk } = true → s.chState c = 0 → exec (.channelEnable acc c tableOk) s = .next (s.answers acc (Key.Ch.COMMAND c) 1 (fun u => (if u.dev = .ready then u.chChecks c tableOk else u).chCmd c 1))) ∧
  (∀ (s : State) (acc : Access) (c : Fin 16), s.accepts acc (Key.Ch.COMMAND c) 2 {} = true → s.chState c ≠ 0 → exec (.channelDisable acc c) s = .next (s.answers acc (Key.Ch.COMMAND c) 2 (fun u => (u.setChState c 0).refreshGate c))) ∧
  (∀ (s : State) (acc : Access) (c : Fin 16), s.accepts acc (Key.Ch.COMMAND c) 3 {} = true → s.chState c = 1 → exec (.channelStart acc c) s = .next (s.answers acc (Key.Ch.COMMAND c) 3 (fun u => u.chStart c))) ∧
  (∀ (s : State) (acc : Access) (c : Fin 16), s.accepts acc (Key.Ch.COMMAND c) 4 {} = true → s.chState c = 2 → exec (.channelPause acc c) s = .next (s.answers acc (Key.Ch.COMMAND c) 4 (fun u => u.modCh c (fun q => { q with pause := true })))) ∧
  (∀ (s : State) (acc : Access) (c : Fin 16), s.accepts acc (Key.Ch.COMMAND c) 5 {} = true → exec (.channelResume acc c) s = .next (s.answers acc (Key.Ch.COMMAND c) 5 (fun u => if u.chState c = 2 then u.modCh c (fun q => { q with pause := false }) else u.chResume c))) ∧
  (∀ (s : State) (acc : Access) (c : Fin 16), s.accepts acc (Key.Ch.COMMAND c) 6 {} = true → (s.chState c = 2 ∨ s.chState c = 3) → exec (.channelStop acc c) s = .next (s.answers acc (Key.Ch.COMMAND c) 6 (fun u => ((u.safeStop c 1).stopReports c).refreshGate c))) ∧
  (∀ (s : State) (acc : Access) (c : Fin 16), s.accepts acc (Key.Ch.COMMAND c) 7 {} = true → exec (.channelReset acc c) s = .next (s.answers acc (Key.Ch.COMMAND c) 7 (fun u => u.chReset c))) ∧
  (∀ (s : State) (acc : Access) (c : Fin 16) (v : Nat) (tableOk : Bool), s.accepts acc (Key.Hoop.HOOP_ENABLE c) v { ok := tableOk } = true → v < 256 → exec (.hoopEnableWrite acc c v tableOk) s = .next (s.answers acc (Key.Hoop.HOOP_ENABLE c) v (fun u => ((if v ≠ 0 ∧ u.dev = .ready ∧ u.chState c ≠ 0 then u.hoopCheck c tableOk else u).wr (Key.Hoop.HOOP_ENABLE c) v).counted acc (pairOf (keyIdx (Key.Hoop.HOOP_ENABLE c))) [((Key.Hoop.HOOP_ENABLE c), BitVec.ofNat 64 v)])))

/-- The commands and the acting writes of a loop slot do what its rules give them. When every check of R48 passes for the write that the command is and
the engine takes it at once, the command answers the next state in which the clock of the entry's block runs, each of CLOSE, OPEN, RESET, RC_LEARN,
RC_FREEZE and RC_CLEAR of a slot, a write of its MODE, of BQ_ENABLE and of the four entries of its repetitive control has its effect on the slot (and
on the gate of its channel where the rules judge it), and is answered. Commands: CLOSE, OPEN, SLOT_RESET, RC_LEARN, RC_FREEZE, RC_CLEAR,
SLOT_MODE_WRITE, BQ_ENABLE_WRITE, RC_CONFIG_WRITE. Rests on: 02_object_dictionary.md (R48); 05_control_loop_engines.md (R159, R165, R167, R169, R172). -/
def Obligations.SlotCommandsAct : Prop :=
  (∀ (s : State) (acc : Access) (n : Fin 64), s.accepts acc (Key.Slot.COMMAND n) 1 {} = true → s.slotState n = 0 → exec (.slotClose acc n) s = .next (s.answers acc (Key.Slot.COMMAND n) 1 (fun u => (u.slotClose n).gateOfSlot n))) ∧
  (∀ (s : State) (acc : Access) (n : Fin 64), s.accepts acc (Key.Slot.COMMAND n) 2 {} = true → (s.slotState n = 1 ∨ s.slotState n = 2) → exec (.slotOpen acc n) s = .next (s.answers acc (Key.Slot.COMMAND n) 2 (fun u => (let v := ((if u.slotState n = 2 then u.wr (Key.Slot.MODE n) (u.rd (Key.Slot.ACTIVE_MODE n)) else u).setSlotState n 4 1).startRamp n false; ((v.slotAxis n).elim v (fun a => v.axRampDown a)).gateOfSlot n)))) ∧
  (∀ (s : State) (acc : Access) (n : Fin 64), s.accepts acc (Key.Slot.COMMAND n) 3 {} = true → exec (.slotReset acc n) s = .next (s.answers acc (Key.Slot.COMMAND n) 3 (fun u => (if u.slotState n = 3 then ((u.slotOff n 1).wrI (Key.SlotOut.OUT_CODE n) 0).slotClear n else u.slotClear n).gateOfSlot n))) ∧
  (∀ (s : State) (acc : Access) (n : Fin 64), s.accepts acc (Key.Slot.COMMAND n) 4 {} = true → exec (.rcLearn acc n) s = .next (s.answers acc (Key.Slot.COMMAND n) 4 (fun u => ((u.modSlot n (fun q => { q with rc := 1 })).showRc n).gateOfSlot n))) ∧
  (∀ (s : State) (acc : Access) (n : Fin 64), s.accepts acc (Key.Slot.COMMAND n) 5 {} = true → exec (.rcFreeze acc n) s = .next (s.answers acc (Key.Slot.COMMAND n) 5 (fun u => ((u.modSlot n (fun q => { q with rc := 2 })).showRc n).gateOfSlot n))) ∧
  (∀ (s : State) (acc : Access) (n : Fin 64), s.accepts acc (Key.Slot.COMMAND n) 6 {} = true → exec (.rcClear acc n) s = .next (s.answers acc (Key.Slot.COMMAND n) 6 (fun u => ((u.modSlot n (fun q => { q with rc := 0, cells := [] })).showRc n).gateOfSlot n))) ∧
  (∀ (s : State) (acc : Access) (n : Fin 64) (v : Nat), s.accepts acc (Key.Slot.MODE n) v {} = true → v < 256 → exec (.slotModeWrite acc n v) s = .next (s.answers acc (Key.Slot.MODE n) v (fun u => (u.slotMode n v).counted acc (pairOf (keyIdx (Key.Slot.MODE n))) [((Key.Slot.MODE n), BitVec.ofNat 64 v)]))) ∧
  (∀ (s : State) (acc : Access) (n : Fin 64) (v : Nat), s.accepts acc (Key.SlotBq.BQ_ENABLE n) v {} = true → v < 2 ^ 32 → exec (.bqEnableWrite acc n v) s = .next (s.answers acc (Key.SlotBq.BQ_ENABLE n) v (fun u => (u.bqEnable n (v % 16)).counted acc (pairOf (keyIdx (Key.SlotBq.BQ_ENABLE n))) [((Key.SlotBq.BQ_ENABLE n), BitVec.ofNat 64 (v % 16))]))) ∧
  (∀ (s : State) (acc : Access) (n : Fin 64) (sub : Fin 4) (v : Nat), s.accepts acc (Key.SlotRc.RC_SOURCE n + sub) v {} = true → Sys.fits (Key.SlotRc.RC_SOURCE n + sub) v = true → exec (.rcConfigWrite acc n sub v) s = .next (s.answers acc (Key.SlotRc.RC_SOURCE n + sub) v (fun u => (u.rcConfig n (Key.SlotRc.RC_SOURCE n + sub) v).counted acc (pairOf (keyIdx (Key.SlotRc.RC_SOURCE n + sub))) [((Key.SlotRc.RC_SOURCE n + sub), BitVec.ofNat 64 v)])))

/-- Zones, the report ring, live updates and the pattern queue answer their commands. When every check of R48 passes for the write that the command is and
the engine takes it at once, the command answers the next state in which the clock of the entry's block runs, a write of a zone's ENABLE, JOIN and
CANCEL_JOIN, POP of the report ring, START, RESUME, ABORT, ROLLBACK and INSTALL of a live update, and REQUEST and CLEAR of the pattern queue have
their effect on the zone, ring, update or queue, and are answered. Commands: ZONE_ENABLE_WRITE, JOIN, CANCEL_JOIN, REPORT_POP, UPDATE_START,
UPDATE_RESUME, UPDATE_ABORT, UPDATE_ROLLBACK, UPDATE_INSTALL, PAT_REQUEST, PAT_CLEAR. Rests on: 02_object_dictionary.md (R48);
06_melt_pool_and_stitching.md (R205, R211, R216); 07_live_calibration.md (R233, R235, R243). -/
def Obligations.StitchAndUpdateCommandsAct : Prop :=
  (∀ (s : State) (acc : Access) (w : Fin 192) (v : Nat), s.accepts acc (zwEnable w) v {} = true → v < 256 → exec (.zoneEnableWrite acc w v) s = .next (s.answers acc (zwEnable w) v (fun u => ((u.wr (zwEnable w) v).zwEnabled w v).counted acc (pairOf (keyIdx (zwEnable w))) [((zwEnable w), BitVec.ofNat 64 v)]))) ∧
  (∀ (s : State) (acc : Access) (w : Fin 192), s.accepts acc (Sys.zwCommand w) 1 {} = true → (s.rd (zwState w) = 3 ∨ s.rd (zwState w) = 4 ∨ s.rd (zwState w) = 5) → exec (.join acc w) s = .next (s.answers acc (Sys.zwCommand w) 1 (fun u => ((u.wr (zwState w) 6).wr (zwEvent w) (u.rd (zwJoin w))).modZw w (fun z => { z with before := u.rd (zwState w), joinAt := some (u.rd (zwJoin w)) })))) ∧
  (∀ (s : State) (acc : Access) (w : Fin 192), s.accepts acc (Sys.zwCommand w) 2 {} = true → s.rd (zwState w) = 6 → exec (.cancelJoin acc w) s = .next (s.answers acc (Sys.zwCommand w) 2 (fun u => ((u.wr (zwState w) (u.zw w).before).wr (zwEvent w) u.now).modZw w (fun z => { z with joinAt := none })))) ∧
  (∀ (s : State) (acc : Access) (v : Nat), s.accepts acc Key.Rep.POP v {} = true → v < 256 → exec (.reportPop acc v) s = .next (s.answers acc Key.Rep.POP v (fun u => u.reportPop v))) ∧
  (∀ (s : State) (acc : Access) (m : Fin 48), s.accepts acc (Sys.updKey m 9) 1 {} = true → exec (.updateStart acc m) s = .next (s.answers acc (Sys.updKey m 9) 1 (fun u => (u.updBegin m 1).modUpdate m (fun q => { q with left := 7, rollback := false })))) ∧
  (∀ (s : State) (acc : Access) (m : Fin 48), s.accepts acc (Sys.updKey m 9) 2 {} = true → exec (.updateResume acc m) s = .next (s.answers acc (Sys.updKey m 9) 2 (fun u => u.updBegin m (u.rd (Sys.updKey m 0x0B))))) ∧
  (∀ (s : State) (acc : Access) (m : Fin 48), s.accepts acc (Sys.updKey m 9) 3 {} = true → exec (.updateAbort acc m) s = .next (s.answers acc (Sys.updKey m 9) 3 (fun u => if 1 ≤ u.rd (Sys.updKey m 0x0A) ∧ u.rd (Sys.updKey m 0x0A) ≤ 4 then u.wr (Sys.updKey m 0x0A) 6 else u))) ∧
  (∀ (s : State) (acc : Access) (m : Fin 48) (ok : Bool), s.accepts acc (Sys.updKey m 9) 4 { ok := ok } = true → exec (.updateRollback acc ⟨m, ok⟩) s = .next (s.answers acc (Sys.updKey m 9) 4 (fun u => (let u := u.when (!ok) (fun u => u.faultNow 0x2A (tableInst m) (tableIndex m)); ((u.copyTable m (slotAddr m + 64) (u.rd (Sys.updKey m 1))).updBegin m 1).modUpdate m (fun q => { q with rollback := true }))))) ∧
  (∀ (s : State) (acc : Access) (m : Fin 48) (ok : Bool), s.accepts acc (Sys.updKey m 9) 5 { ok := ok } = true → exec (.updateInstall acc m ok) s = .next (s.answers acc (Sys.updKey m 9) 5 (fun u => (u.readOk 0x42 (u.rd (Sys.updKey m 1)) (tableLen m) ok).1.updCmd m 5))) ∧
  (∀ (s : State) (acc : Access) (g : Fin 4), s.accepts acc (Key.Pat.PAT_COMMAND g) 1 {} = true → exec (.patRequest acc g) s = .next (s.answers acc (Key.Pat.PAT_COMMAND g) 1 (fun u => u.setPatterns g (u.cal.patterns.getD g [] ++ [u.patOf g])))) ∧
  (∀ (s : State) (acc : Access) (g : Fin 4), s.accepts acc (Key.Pat.PAT_COMMAND g) 2 {} = true → exec (.patClear acc g) s = .next (s.answers acc (Key.Pat.PAT_COMMAND g) 2 (fun u => u.setPatterns g [])))

/-- Encoders, head control, the correction tables and the print groups answer their commands. When every check of R48 passes for the write that the
command is and the engine takes it at once, the command answers the next state in which the clock of the entry's block runs, CLEAR and ZERO of an
encoder, WRITE and READ of a head link's control, STORE, SEND and CHECK of the correction tables, and the seven commands of a print group, in the
states named, have their effect, and are answered. Commands: ENCODER_CLEAR, ENCODER_ZERO, CTRL_WRITE, CTRL_READ, PICOT_STORE, PICOT_SEND, PICOT_CHECK,
GROUP_ENABLE, GROUP_DISABLE, GROUP_START, GROUP_PAUSE, GROUP_RESUME, GROUP_STOP, GROUP_RESET. Rests on: 02_object_dictionary.md (R48);
08_print_engine.md (R250, R266, R267, R269, R273, R281). -/
def Obligations.PrintCommandsAct : Prop :=
  (∀ (s : State) (acc : Access) (e : Fin 6), s.accepts acc (Key.Enc.COMMAND e) 1 {} = true → exec (.encoderClear acc e) s = .next (s.answers acc (Key.Enc.COMMAND e) 1 (fun u => if u.encLossy e then u else (u.wrBit (Key.Enc.STATUS e) 0 false).clearActive 0x33 6 e))) ∧
  (∀ (s : State) (acc : Access) (e : Fin 6), s.accepts acc (Key.Enc.COMMAND e) 2 {} = true → exec (.encoderZero acc e) s = .next (s.answers acc (Key.Enc.COMMAND e) 2 (fun u => (u.wrI (Key.Enc.COUNT e) 0).modEnc e (fun q => { q with before := 0 })))) ∧
  (∀ (s : State) (acc : Access) (l : Fin 8), s.accepts acc (Key.LinkSt.CTRL_COMMAND l) 1 {} = true → exec (.ctrlWrite acc l) s = .next (s.answers acc (Key.LinkSt.CTRL_COMMAND l) 1 (fun u => u.ctrlSend l false))) ∧
  (∀ (s : State) (acc : Access) (l : Fin 8), s.accepts acc (Key.LinkSt.CTRL_COMMAND l) 2 {} = true → exec (.ctrlRead acc l) s = .next (s.answers acc (Key.LinkSt.CTRL_COMMAND l) 2 (fun u => u.ctrlSend l true))) ∧
  (∀ (s : State) (acc : Access) (ok : Bool), s.accepts acc Key.Picot.COMMAND 1 { ok := ok } = true → exec (.picotStore acc ok) s = .next (s.answers acc Key.Picot.COMMAND 1 (fun u => u.picotStore ok))) ∧
  (∀ (s : State) (acc : Access), s.accepts acc Key.Picot.COMMAND 2 {} = true → exec (.picotSend acc) s = .next (s.answers acc Key.Picot.COMMAND 2 (fun u => u.picotSend))) ∧
  (∀ (s : State) (acc : Access) (bad : Nat), s.accepts acc Key.Picot.COMMAND 3 { bad := bad } = true → exec (.picotCheck acc bad) s = .next (s.answers acc Key.Picot.COMMAND 3 (fun u => u.each (List.range 32) (fun u w => u.picotCheck w (!bad.testBit w))))) ∧
  (∀ (s : State) (acc : Access) (g : Fin 4), s.accepts acc (Key.Grp.COMMAND g) 1 {} = true → s.grpState g = 0 → exec (.groupEnable acc g) s = .next (s.answers acc (Key.Grp.COMMAND g) 1 (fun u => (u.grpResync g ((u.feeder 2 g).elim 0 (fun n => u.rd (Key.EpSt.RELEASE_OFFSET n)))).setGrpState g 1))) ∧
  (∀ (s : State) (acc : Access) (g : Fin 4), s.accepts acc (Key.Grp.COMMAND g) 2 {} = true → (s.grpState g = 1 ∨ s.grpState g = 6) → exec (.groupDisable acc g) s = .next (s.answers acc (Key.Grp.COMMAND g) 2 (fun u => (u.when (u.group g).suppress.isSome (fun u => u.swathClose g)).setGrpState g 0))) ∧
  (∀ (s : State) (acc : Access) (g : Fin 4), s.accepts acc (Key.Grp.COMMAND g) 3 {} = true → s.grpState g = 1 → exec (.groupStart acc g) s = .next (s.answers acc (Key.Grp.COMMAND g) 3 (fun u => (u.group g).heldFeed.elim (u.setGrpState g 2) (fun n => u.grpFeed g n)))) ∧
  (∀ (s : State) (acc : Access) (g : Fin 4), s.accepts acc (Key.Grp.COMMAND g) 4 {} = true → (s.grpState g = 2 ∨ s.grpState g = 3 ∨ s.grpState g = 4 ∨ s.grpState g = 5) → exec (.groupPause acc g) s = .next (s.answers acc (Key.Grp.COMMAND g) 4 (fun u => if u.grpState g = 3 ∨ u.grpState g = 4 then u.modGroup g (fun q => { q with pause := true }) else u.setGrpState g 1))) ∧
  (∀ (s : State) (acc : Access) (g : Fin 4), s.accepts acc (Key.Grp.COMMAND g) 5 {} = true → (s.grpState g = 3 ∨ s.grpState g = 4 ∨ s.grpState g = 5) → exec (.groupResume acc g) s = .next (s.answers acc (Key.Grp.COMMAND g) 5 (fun u => if u.grpState g = 5 then u.grpFeed g ((u.group g).heldFeed.getD 0) else u.modGroup g (fun q => { q with pause := false })))) ∧
  (∀ (s : State) (acc : Access) (g : Fin 4), s.accepts acc (Key.Grp.COMMAND g) 6 {} = true → exec (.groupStop acc g) s = .next (s.answers acc (Key.Grp.COMMAND g) 6 (fun u => (u.grpStop g 1).when (decide (u.grpState g = 3)) (fun u => u.swathClose g)))) ∧
  (∀ (s : State) (acc : Access) (g : Fin 4), s.accepts acc (Key.Grp.COMMAND g) 7 {} = true → (s.grpState g = 1 ∨ s.grpState g = 6) → exec (.groupReset acc g) s = .next (s.answers acc (Key.Grp.COMMAND g) 7 (fun u => u.grpReset g)))

/-- Every axis command is taken for the next update of the axis. When every check of R48 passes for the write that the command is and the engine takes it
at once, the command answers the next state in which the clock of the entry's block runs, each of the ten commands of an axis is put, with the operand
that its entries hold at that time, at the end of what the axis takes at its next update; no entry moves with it. RUN_TABLE is judged with its table
before. Each is answered. Commands: AXIS_ENABLE, AXIS_DISABLE, MOVE_ABS, MOVE_REL, RUN_TABLE, SWITCH_TABLE, AXIS_STOP, QUICK_STOP, AXIS_RESET,
SET_POSITION. Rests on: 02_object_dictionary.md (R48); 09_motion_axes.md (R288, R294, R295, R296, R297, R307). -/
def Obligations.AxisCommandsAreTaken : Prop :=
  (∀ (s : State) (acc : Access) (a : Fin 8), s.accepts acc (Key.Axis.COMMAND a) 1 {} = true → exec (.axisEnable acc a) s = .next (s.answers acc (Key.Axis.COMMAND a) 1 (fun u => u.modAxis a (fun x => { x with cmds := x.cmds ++ [(1, 0)] })))) ∧
  (∀ (s : State) (acc : Access) (a : Fin 8), s.accepts acc (Key.Axis.COMMAND a) 2 {} = true → exec (.axisDisable acc a) s = .next (s.answers acc (Key.Axis.COMMAND a) 2 (fun u => u.modAxis a (fun x => { x with cmds := x.cmds ++ [(2, 0)] })))) ∧
  (∀ (s : State) (acc : Access) (a : Fin 8), s.accepts acc (Key.Axis.COMMAND a) 3 {} = true → exec (.moveAbs acc a) s = .next (s.answers acc (Key.Axis.COMMAND a) 3 (fun u => u.modAxis a (fun x => { x with cmds := x.cmds ++ [(3, u.rdI (Key.AxMove.TARGET a))] })))) ∧
  (∀ (s : State) (acc : Access) (a : Fin 8), s.accepts acc (Key.Axis.COMMAND a) 4 {} = true → exec (.moveRel acc a) s = .next (s.answers acc (Key.Axis.COMMAND a) 4 (fun u => u.modAxis a (fun x => { x with cmds := x.cmds ++ [(4, u.rdI (Key.AxMove.DISTANCE a))] })))) ∧
  (∀ (s : State) (acc : Access) (a : Fin 8) (ok : Bool), s.accepts acc (Key.Axis.COMMAND a) 5 { ok := ok } = true → exec (.runTable acc a ok) s = .next (s.answers acc (Key.Axis.COMMAND a) 5 (fun u => u.modAxis a (fun x => { x with cmds := x.cmds ++ [(5, (u.rd (Key.AxTab.TABLE_SEL a) : Int))] })))) ∧
  (∀ (s : State) (acc : Access) (a : Fin 8), s.accepts acc (Key.Axis.COMMAND a) 6 {} = true → exec (.switchTable acc a) s = .next (s.answers acc (Key.Axis.COMMAND a) 6 (fun u => u.modAxis a (fun x => { x with cmds := x.cmds ++ [(6, (u.rd (Key.AxTab.TABLE_SEL a) : Int))] })))) ∧
  (∀ (s : State) (acc : Access) (a : Fin 8), s.accepts acc (Key.Axis.COMMAND a) 7 {} = true → exec (.axisStop acc a) s = .next (s.answers acc (Key.Axis.COMMAND a) 7 (fun u => u.modAxis a (fun x => { x with cmds := x.cmds ++ [(7, 0)] })))) ∧
  (∀ (s : State) (acc : Access) (a : Fin 8), s.accepts acc (Key.Axis.COMMAND a) 8 {} = true → exec (.quickStop acc a) s = .next (s.answers acc (Key.Axis.COMMAND a) 8 (fun u => u.modAxis a (fun x => { x with cmds := x.cmds ++ [(8, 0)] })))) ∧
  (∀ (s : State) (acc : Access) (a : Fin 8), s.accepts acc (Key.Axis.COMMAND a) 9 {} = true → exec (.axisReset acc a) s = .next (s.answers acc (Key.Axis.COMMAND a) 9 (fun u => u.modAxis a (fun x => { x with cmds := x.cmds ++ [(9, 0)] })))) ∧
  (∀ (s : State) (acc : Access) (a : Fin 8), s.accepts acc (Key.Axis.COMMAND a) 10 {} = true → exec (.setPosition acc a) s = .next (s.answers acc (Key.Axis.COMMAND a) 10 (fun u => u.modAxis a (fun x => { x with cmds := x.cmds ++ [(10, u.rdI (Key.AxMove.TARGET a))] }))))

/-- The enables of the camera pipeline and the commands of the lanes act. When every check of R48 passes for the write that the command is and the engine
takes it at once, the command answers the next state in which the clock of the entry's block runs, a write of a context's, an output's and a profile's
ENABLE, RETRAIN, RELOAD_EQ, TEST_START and TEST_STOP of a lane, and a write of TX_TAIL have their effect, and are answered. Commands:
CONTEXT_ENABLE_WRITE, OUTPUT_ENABLE_WRITE, PROF_ENABLE_WRITE, RETRAIN, RELOAD_EQ, TEST_START, TEST_STOP, TX_TAIL_WRITE. Rests on:
02_object_dictionary.md (R48); 10_camera_pipeline.md (R317, R326, R330); 11_serial_lanes.md (R340, R352, R354, R356). -/
def Obligations.CameraAndLaneCommandsAct : Prop :=
  (∀ (s : State) (acc : Access) (k : Fin 16) (v : Nat), s.accepts acc (Key.Ctx.ENABLE k) v {} = true → v < 256 → exec (.contextEnableWrite acc k v) s = .next (s.answers acc (Key.Ctx.ENABLE k) v (fun u => ((u.wr (Key.Ctx.ENABLE k) v).ctxEnable k (u.rdB (Key.Ctx.ENABLE k)) v).counted acc (pairOf (keyIdx (Key.Ctx.ENABLE k))) [((Key.Ctx.ENABLE k), BitVec.ofNat 64 v)]))) ∧
  (∀ (s : State) (acc : Access) (k : Fin 16) (n : Fin 3) (v : Nat), s.accepts acc (Key.Out.ENABLE k n) v {} = true → v < 256 → exec (.outputEnableWrite acc k n v) s = .next (s.answers acc (Key.Out.ENABLE k n) v (fun u => (u.wr (Key.Out.ENABLE k n) v).counted acc (pairOf (keyIdx (Key.Out.ENABLE k n))) [((Key.Out.ENABLE k n), BitVec.ofNat 64 v)]))) ∧
  (∀ (s : State) (acc : Access) (k : Fin 16) (v : Nat), s.accepts acc (Key.Profl.PROF_ENABLE k) v {} = true → v < 256 → exec (.profEnableWrite acc k v) s = .next (s.answers acc (Key.Profl.PROF_ENABLE k) v (fun u => (u.wr (Key.Profl.PROF_ENABLE k) v).counted acc (pairOf (keyIdx (Key.Profl.PROF_ENABLE k))) [((Key.Profl.PROF_ENABLE k), BitVec.ofNat 64 v)]))) ∧
  (∀ (s : State) (acc : Access) (l : Fin 16), s.accepts acc (Key.Lane.COMMAND l) 1 {} = true → exec (.retrain acc l) s = .next (s.answers acc (Key.Lane.COMMAND l) 1 (fun u => u.laneLost l))) ∧
  (∀ (s : State) (acc : Access) (l : Fin 16), s.accepts acc (Key.Lane.COMMAND l) 2 {} = true → exec (.reloadEq acc l) s = .next (s.answers acc (Key.Lane.COMMAND l) 2 (fun u => u.eqRead [l]))) ∧
  (∀ (s : State) (acc : Access) (l : Fin 16), s.accepts acc (Key.Lane.COMMAND l) 3 {} = true → exec (.testStart acc l) s = .next (s.answers acc (Key.Lane.COMMAND l) 3 (fun u => (((((u.leaveUser l).laneStage l 5).eqApply l).wrB (Key.LaneTest.TEST_LOCK l) false).wr (Key.LaneTest.BITS l) 0).wr (Key.LaneTest.BIT_ERRORS l) 0))) ∧
  (∀ (s : State) (acc : Access) (l : Fin 16), s.accepts acc (Key.Lane.COMMAND l) 4 {} = true → exec (.testStop acc l) s = .next (s.answers acc (Key.Lane.COMMAND l) 4 (fun u => u.testEnd l))) ∧
  (∀ (s : State) (acc : Access) (m : Fin 2) (v : Nat), s.accepts acc (Key.MacRing.TX_TAIL m) v {} = true → v < 65536 → exec (.txTailWrite acc m v) s = .next (s.answers acc (Key.MacRing.TX_TAIL m) v (fun u => u.wr (Key.MacRing.TX_TAIL m) v)))

/-- The increments, TIME_STEP, the triggers and the capture units answer their writes. When every check of R48 passes for the write that the command is
and the engine takes it at once, the command answers the next state in which the clock of the entry's block runs, a write of INCREMENT or
ADJ_INCREMENT stores it; ADJ_TICKS stores the count and shows in TIME_STATUS; TIME_STEP adds to the step that is pending; the configuration of a
trigger restarts it, ARM arms it, PULSE and CANCEL act on it; POP takes the oldest stamp and a write of SOURCE or EDGE empties the capture unit. Each
is answered. Commands: INCREMENT_WRITE, ADJ_TICKS_WRITE, TIME_STEP, TRIGGER_CONFIG_WRITE, TRIGGER_ARM, PULSE, CANCEL, CAPTURE_POP,
CAPTURE_CONFIG_WRITE. Rests on: 02_object_dictionary.md (R48); 12_network_time.md (R359, R360, R362, R363, R364, R368). -/
def Obligations.TimeCommandsAct : Prop :=
  (∀ (s : State) (acc : Access) (adj : Bool) (v : Nat), s.accepts acc (if adj then Key.Inc.ADJ_INCREMENT else Key.Inc.INCREMENT) v {} = true → v < 2 ^ 64 → exec (.incrementWrite acc adj v) s = .next (s.answers acc (if adj then Key.Inc.ADJ_INCREMENT else Key.Inc.INCREMENT) v (fun u => u.wr (if adj then Key.Inc.ADJ_INCREMENT else Key.Inc.INCREMENT) v))) ∧
  (∀ (s : State) (acc : Access) (v : Nat), s.accepts acc Key.Inc.ADJ_TICKS v {} = true → v < 2 ^ 32 → exec (.adjTicksWrite acc v) s = .next (s.answers acc Key.Inc.ADJ_TICKS v (fun u => (u.wr Key.Inc.ADJ_TICKS v).wrBit Key.TimeSt.TIME_STATUS 2 (decide (v ≠ 0))))) ∧
  (∀ (s : State) (acc : Access) (i : Int), s.accepts acc Key.Step.TIME_STEP (trunc 64 i) {} = true → -(2 ^ 63) ≤ i → i < 2 ^ 63 → exec (.timeStep acc i) s = .next (s.answers acc Key.Step.TIME_STEP (trunc 64 i) (fun u => { u with tb := { u.tb with step := some (u.tb.step.getD 0 + i) } }))) ∧
  (∀ (s : State) (acc : Access) (n : Fin 32) (sub : Fin 3) (v : Nat), s.accepts acc (Key.Trig.MODE n + sub) v {} = true → Sys.fits (Key.Trig.MODE n + sub) v = true → exec (.triggerConfigWrite acc n sub v) s = .next (s.answers acc (Key.Trig.MODE n + sub) v (fun u => ((u.wr (Key.Trig.MODE n + sub) v).trigRestart n).counted acc (pairOf (keyIdx (Key.Trig.MODE n + sub))) [((Key.Trig.MODE n + sub), BitVec.ofNat 64 v)]))) ∧
  (∀ (s : State) (acc : Access) (n : Fin 32) (v : Nat), s.accepts acc (Key.Trig.AT n) v {} = true → v < 2 ^ 64 → exec (.triggerArm acc n v) s = .next (s.answers acc (Key.Trig.AT n) v (fun u => (let w := u.wr (Key.Trig.AT n) v; if w.rd (Key.Trig.MODE n) = 2 then (w.wr (Key.Trig.FLAGS n) 1).modTrig n (fun q => { q with fresh := true }) else w)))) ∧
  (∀ (s : State) (acc : Access) (n : Fin 32), s.accepts acc (Key.Trig.COMMAND n) 1 {} = true → exec (.pulse acc n) s = .next (s.answers acc (Key.Trig.COMMAND n) 1 (fun u => u.when u.timeRuns (fun u => u.modTrig n (fun q => { q with pulse := true }))))) ∧
  (∀ (s : State) (acc : Access) (n : Fin 32), s.accepts acc (Key.Trig.COMMAND n) 2 {} = true → exec (.cancel acc n) s = .next (s.answers acc (Key.Trig.COMMAND n) 2 (fun u => u.wr (Key.Trig.FLAGS n) 0))) ∧
  (∀ (s : State) (acc : Access) (n : Fin 32) (v : Nat), s.accepts acc (Key.Cap.POP n) v {} = true → v < 256 → exec (.capturePop acc n v) s = .next (s.answers acc (Key.Cap.POP n) v (fun u => u.capPop n v))) ∧
  (∀ (s : State) (acc : Access) (n : Fin 32) (edge : Bool) (v : Nat), s.accepts acc (if edge then Key.Cap.EDGE n else Key.Cap.SOURCE n) v {} = true → v < 256 → exec (.captureConfigWrite acc n edge v) s = .next (s.answers acc (if edge then Key.Cap.EDGE n else Key.Cap.SOURCE n) v (fun u => ((u.wr (if edge then Key.Cap.EDGE n else Key.Cap.SOURCE n) v).capEmpty n).counted acc (pairOf (keyIdx (if edge then Key.Cap.EDGE n else Key.Cap.SOURCE n))) [((if edge then Key.Cap.EDGE n else Key.Cap.SOURCE n), BitVec.ofNat 64 v)])))

/-- The commands of the DRAM controller act. When every check of R48 passes for the write that the command is and the engine takes it at once, the command
answers the next state in which the clock of the entry's block runs, UNFREEZE, DEBUG_READ, PPR (soft and hard), BEGIN, END (of a training that passed)
and ABORT, MRW, MRR, MPC and MRW_LANE, and the pattern writes, compares and samples have their effect on the controller, and are answered. Commands:
UNFREEZE, DEBUG_READ, PPR_SOFT, PPR_HARD, BEGIN, TRAIN_END, TRAIN_ABORT, MRW, MRR, MPC, MRW_LANE, PAT_WRITE, PAT_COMPARE, SAMPLE. Rests on:
02_object_dictionary.md (R48); 13_dram_controller.md (R390, R391, R392, R394, R396, R397). -/
def Obligations.DramCommandsAct : Prop :=
  (∀ (s : State) (acc : Access), s.accepts acc Key.DmcSt.COMMAND 1 {} = true → exec (.unfreeze acc) s = .next (s.answers acc Key.DmcSt.COMMAND 1 (fun u => u.unfreeze))) ∧
  (∀ (s : State) (acc : Access) (bad : Nat), s.accepts acc Key.DmcDbg.DEBUG_COMMAND 1 { bad := bad } = true → exec (.debugRead acc bad) s = .next (s.answers acc Key.DmcDbg.DEBUG_COMMAND 1 (fun u => u.debugRead bad))) ∧
  (∀ (s : State) (acc : Access), s.accepts acc Key.Ppr.PPR_COMMAND 1 {} = true → exec (.pprSoft acc) s = .next (s.answers acc Key.Ppr.PPR_COMMAND 1 (fun u => { u.clearQueues.wr Key.Ppr.PPR_RESULT 3 with dram := { u.clearQueues.dram with ppr := some (false, u.clearQueues.pprWord) } }))) ∧
  (∀ (s : State) (acc : Access), s.accepts acc Key.Ppr.PPR_COMMAND 2 {} = true → exec (.pprHard acc) s = .next (s.answers acc Key.Ppr.PPR_COMMAND 2 (fun u => { u.clearQueues.wr Key.Ppr.PPR_RESULT 3 with dram := { u.clearQueues.dram with ppr := some (true, u.clearQueues.pprWord) } }))) ∧
  (∀ (s : State) (acc : Access), s.accepts acc Key.Train.TRAIN_COMMAND 1 {} = true → exec (.trainBegin acc) s = .next (s.answers acc Key.Train.TRAIN_COMMAND 1 (fun u => u.trainBegin))) ∧
  (∀ (s : State) (acc : Access) (pass : Bool) (osc : List Nat), s.accepts acc Key.Train.TRAIN_COMMAND 2 { ok := pass, osc := some osc } = true → exec (.trainEnd acc pass osc) s = .next (s.answers acc Key.Train.TRAIN_COMMAND 2 (fun u => u.trainEnd true osc))) ∧
  (∀ (s : State) (acc : Access), s.accepts acc Key.Train.TRAIN_COMMAND 3 {} = true → exec (.trainAbort acc) s = .next (s.answers acc Key.Train.TRAIN_COMMAND 3 (fun u => (u.wr Key.DmcSt.STATE 0).wrB Key.TPat.PAT_BUSY false))) ∧
  (∀ (s : State) (acc : Access), s.accepts acc Key.Mr.MR_COMMAND 1 {} = true → exec (.mrw acc) s = .next (s.answers acc Key.Mr.MR_COMMAND 1 (fun u => u.emit (.dram (u.rd Key.Train.SEL_CHANNEL) 2 (u.rd Key.Mr.MR_ADDR * 256 + u.rd Key.Mr.MR_DATA + 65536 * u.rd Key.Train.SEL_RANK))))) ∧
  (∀ (s : State) (acc : Access) (val : Nat), s.accepts acc Key.Mr.MR_COMMAND 2 { val := some val } = true → exec (.mrr acc val) s = .next (s.answers acc Key.Mr.MR_COMMAND 2 (fun u => (u.emit (.dram (u.rd Key.Train.SEL_CHANNEL) 3 (u.rd Key.Mr.MR_ADDR * 256 + u.rd Key.Mr.MR_DATA + 65536 * u.rd Key.Train.SEL_RANK))).wr Key.Mr.MR_READ (val % 2 ^ 64)))) ∧
  (∀ (s : State) (acc : Access), s.accepts acc Key.Mr.MR_COMMAND 3 {} = true → exec (.mpc acc) s = .next (s.answers acc Key.Mr.MR_COMMAND 3 (fun u => u.emit (.dram (u.rd Key.Train.SEL_CHANNEL) 4 (u.rd Key.Mr.MR_DATA + 65536 * u.rd Key.Train.SEL_RANK))))) ∧
  (∀ (s : State) (acc : Access), s.accepts acc Key.Mr.MR_COMMAND 4 {} = true → exec (.mrwLane acc) s = .next (s.answers acc Key.Mr.MR_COMMAND 4 (fun u => u.emit (.dram (u.rd Key.Train.SEL_CHANNEL) 5 (u.rd Key.Mr.MR_ADDR * 256 + u.rd Key.Mr.MR_DATA + 65536 * u.rd Key.Train.SEL_RANK + 131072 * u.rd Key.Train.SEL_LANE))))) ∧
  (∀ (s : State) (acc : Access), s.accepts acc Key.TPat.PAT_COMMAND 1 {} = true → exec (.patWrite acc) s = .next (s.answers acc Key.TPat.PAT_COMMAND 1 (fun u => ({ u.wrB Key.TPat.PAT_BUSY true with dram := { u.dram with pat := 1 } } : Sys).emit (.dram (u.rd Key.Train.SEL_CHANNEL) 7 (u.rd Key.Train.MODE))))) ∧
  (∀ (s : State) (acc : Access), s.accepts acc Key.TPat.PAT_COMMAND 2 {} = true → exec (.patCompare acc) s = .next (s.answers acc Key.TPat.PAT_COMMAND 2 (fun u => ({ u.wrB Key.TPat.PAT_BUSY true with dram := { u.dram with pat := 2 } } : Sys).emit (.dram (u.rd Key.Train.SEL_CHANNEL) 8 (u.rd Key.Train.MODE))))) ∧
  (∀ (s : State) (acc : Access), s.accepts acc Key.TPat.PAT_COMMAND 3 {} = true → exec (.sample acc) s = .next (s.answers acc Key.TPat.PAT_COMMAND 3 (fun u => ({ u.wrB Key.TPat.PAT_BUSY true with dram := { u.dram with pat := 3 } } : Sys).emit (.dram (u.rd Key.Train.SEL_CHANNEL) 9 (u.rd Key.Train.MODE)))))

/-- The commands of a DMA channel and the tail of a completion queue act. When every check of R48 passes for the write that the command is and the engine
takes it at once, the command answers the next state in which the clock of the entry's block runs, ARM, STOP, START and CLEAR of a DMA channel, a
write of its ENABLE, and the tail of a completion queue have their effect, with the class of the writer kept where the rules keep it, and are
answered. Commands: DMA_ARM, DMA_STOP, DMA_START, DMA_CLEAR, DMA_ENABLE_WRITE, CQ_TAIL_WRITE. Rests on: 02_object_dictionary.md (R48);
14_dma_engine.md (R410, R412, R413, R418). -/
def Obligations.DmaCommandsAct : Prop :=
  (∀ (s : State) (acc : Access) (d : Fin 32) (v : Nat), s.accepts acc (Key.DmaSh.ARM d) v {} = true → v < 256 → exec (.dmaArm acc d v) s = .next (s.answers acc (Key.DmaSh.ARM d) v (fun u => (if (u.dmaCh d).edge = some true then u else u.wrB (Key.DmaSh.ARM d) (decide (v ≠ 0))).dmaClass d (u.clsOf acc.who)))) ∧
  (∀ (s : State) (acc : Access) (d : Fin 32), s.accepts acc (Key.Dma.COMMAND d) 1 {} = true → exec (.dmaStop acc d) s = .next (s.answers acc (Key.Dma.COMMAND d) 1 (fun u => (if u.dmaState d = 1 then (u.wr (Key.Dma.STATE d) 4).wr (Key.Dma.CAUSE d) 1 else if u.dmaState d = 2 then (u.wr (Key.Dma.STATE d) 3).dmaSettle d else u).dmaClass d (u.clsOf acc.who)))) ∧
  (∀ (s : State) (acc : Access) (d : Fin 32), s.accepts acc (Key.Dma.COMMAND d) 2 {} = true → exec (.dmaStart acc d) s = .next (s.answers acc (Key.Dma.COMMAND d) 2 (fun u => (if u.dmaState d = 3 then u.wr (Key.Dma.STATE d) 2 else if u.dmaState d = 4 then u.wr (Key.Dma.STATE d) 1 else u).dmaClass d (u.clsOf acc.who)))) ∧
  (∀ (s : State) (acc : Access) (d : Fin 32), s.accepts acc (Key.Dma.COMMAND d) 3 {} = true → exec (.dmaClear acc d) s = .next (s.answers acc (Key.Dma.COMMAND d) 3 (fun u => (u.wr (Key.Dma.FLAGS d) 0).dmaClass d (u.clsOf acc.who)))) ∧
  (∀ (s : State) (acc : Access) (d : Fin 32) (v : Nat), s.accepts acc (Key.Dma.ENABLE d) v {} = true → v < 256 → exec (.dmaEnableWrite acc d v) s = .next (s.answers acc (Key.Dma.ENABLE d) v (fun u => (u.dmaEnable d v).dmaClass d (u.clsOf acc.who)))) ∧
  (∀ (s : State) (acc : Access) (q : Fin 8) (v : Nat), s.accepts acc (Key.Cq.TAIL q) v {} = true → v < 2 ^ 32 → exec (.cqTailWrite acc q v) s = .next (s.answers acc (Key.Cq.TAIL q) v (fun u => (u.wr (Key.Cq.TAIL q) v).cqRelease q)))

/-- CHECK, INVALIDATE and CONFIRM of the boot images and WRITE, COMPARE and ZERO of MRAM act. When every check of R48 passes for the write that the
command is and the engine takes it at once, the command answers the next state in which the clock of the entry's block runs, CHECK_A and CHECK_B start
the check of their slot and show it running, INVALIDATE_A and INVALIDATE_B clear the magic of their slot, CONFIRM of an image on trial confirms it and
ends the trial, and WRITE, COMPARE and ZERO of MRAM start with PROGRESS 0. Each is answered. Commands: CHECK_A, CHECK_B, INVALIDATE_A, INVALIDATE_B,
CONFIRM, MRAM_WRITE, MRAM_COMPARE, MRAM_ZERO. Rests on: 02_object_dictionary.md (R48); 15_compute_and_protection.md (R437, R438, R439, R452). -/
def Obligations.ImageAndMramCommandsAct : Prop :=
  (∀ (s : State) (acc : Access), s.accepts acc Key.Image.COMMAND 1 {} = true → exec (.checkA acc) s = .next (s.answers acc Key.Image.COMMAND 1 (fun u => (u.wr Key.Image.RESULT_A 6).modCore (fun c => { c with check := some 0 })))) ∧
  (∀ (s : State) (acc : Access), s.accepts acc Key.Image.COMMAND 2 {} = true → exec (.checkB acc) s = .next (s.answers acc Key.Image.COMMAND 2 (fun u => (u.wr Key.Image.RESULT_B 6).modCore (fun c => { c with check := some 1 })))) ∧
  (∀ (s : State) (acc : Access), s.accepts acc Key.Image.COMMAND 3 {} = true → exec (.invalidateA acc) s = .next (s.answers acc Key.Image.COMMAND 3 (fun u => u.setBytes (imageAt 0) [0, 0, 0, 0]))) ∧
  (∀ (s : State) (acc : Access), s.accepts acc Key.Image.COMMAND 4 {} = true → exec (.invalidateB acc) s = .next (s.answers acc Key.Image.COMMAND 4 (fun u => u.setBytes (imageAt 1) [0, 0, 0, 0]))) ∧
  (∀ (s : State) (acc : Access), s.accepts acc Key.Image.COMMAND 5 {} = true → s.rdBit Key.Image.BOOT_STATE 0 = true → exec (.confirm acc) s = .next (s.answers acc Key.Image.COMMAND 5 (fun u => (u.wrBit Key.Image.BOOT_STATE 1 true).modCore (fun c => { c with trialAt := none })))) ∧
  (∀ (s : State) (acc : Access), s.accepts acc Key.Mram.COMMAND 1 {} = true → exec (.mramWrite acc) s = .next (s.answers acc Key.Mram.COMMAND 1 (fun u => ((u.wr Key.Mram.PROGRESS (u.freeVal.toNat % 101)).useFree).modCore (fun c => { c with mram := some 1, mramSrc := u.rd Key.Mram.SRC_ADDR, mramLen := u.rd Key.Mram.SRC_LEN, mramDst := u.rd Key.Mram.DST_OFFSET })))) ∧
  (∀ (s : State) (acc : Access), s.accepts acc Key.Mram.COMMAND 2 {} = true → exec (.mramCompare acc) s = .next (s.answers acc Key.Mram.COMMAND 2 (fun u => ((u.wr Key.Mram.PROGRESS (u.freeVal.toNat % 101)).useFree).modCore (fun c => { c with mram := some 2, mramSrc := u.rd Key.Mram.SRC_ADDR, mramLen := u.rd Key.Mram.SRC_LEN, mramDst := u.rd Key.Mram.DST_OFFSET })))) ∧
  (∀ (s : State) (acc : Access), s.accepts acc Key.Mram.COMMAND 3 {} = true → exec (.mramZero acc) s = .next (s.answers acc Key.Mram.COMMAND 3 (fun u => ((u.wr Key.Mram.PROGRESS (u.freeVal.toNat % 101)).useFree).modCore (fun c => { c with mram := some 3, mramSrc := u.rd Key.Mram.SRC_ADDR, mramLen := u.rd Key.Mram.SRC_LEN, mramDst := u.rd Key.Mram.DST_OFFSET }))))

/-- READ and PROGRAM of the fuses, NAP, HOLD, a release of pads, PLL_ENABLE, POP of the fault log and CLOSE_NOW, CLEAR and the selection of the Sampler
act. When every check of R48 passes for the write that the command is and the engine takes it at once, the command answers the next state in which the
clock of the entry's block runs, READ shows the word at OTP_ADDR in OTP_DATA with RESULT 0; PROGRAM has the effect of the fuse block on that word
(where the readback disagrees the bits that took are free); NAP and HOLD become pending with RESULT 0; a release of pads takes the hold of the domains
named away and the outputs follow; a write of PLL_ENABLE starts or stops the PLLs, of which the stopped ones lose their lock; POP takes the oldest
record of the fault log away (a POP of 0 does nothing), CLOSE_NOW closes the interval, CLEAR_CIRCULATING starts the clearing, and AREA and INDEX
select a record, which is shown. Each is answered. Commands: OTP_READ, OTP_PROGRAM, NAP, HOLD, PAD_RELEASE, PLL_ENABLE_WRITE, FAULT_LOG_POP,
CLOSE_NOW, CLEAR_CIRCULATING, SAMPLER_SELECT. Rests on: 02_object_dictionary.md (R48); 15_compute_and_protection.md (R441, R452); 16_power_and_wake.md
(R460, R465, R472, R480); 17_integrity_and_sampler.md (R492, R504, R505, R506). -/
def Obligations.FusePowerAndLogCommandsAct : Prop :=
  (∀ (s : State) (acc : Access), s.accepts acc Key.Otp.OTP_COMMAND 1 {} = true → exec (.otpRead acc) s = .next (s.answers acc Key.Otp.OTP_COMMAND 1 (fun u => (u.wr Key.Otp.OTP_DATA (s.otpWord (u.rd Key.Otp.OTP_ADDR) % 2 ^ 32)).wr Key.Otp.OTP_RESULT 0))) ∧
  (∀ (s : State) (acc : Access) (ok : Bool), s.accepts acc Key.Otp.OTP_COMMAND 2 { ok := ok } = true → exec (.otpProgram acc ok) s = .next (s.answers acc Key.Otp.OTP_COMMAND 2 (fun u => u.otpCmd s.otpWord 2 ok))) ∧
  (∀ (s : State) (acc : Access), s.accepts acc Key.Pwr.COMMAND 1 {} = true → exec (.nap acc) s = .next (s.answers acc Key.Pwr.COMMAND 1 (fun u => ({ u with pw := { u.pw with napPending := true, napAt := u.core.mtime } } : Sys).wr Key.PwrSt.RESULT 0))) ∧
  (∀ (s : State) (acc : Access), s.accepts acc Key.Pwr.COMMAND 2 {} = true → exec (.hold acc) s = .next (s.answers acc Key.Pwr.COMMAND 2 (fun u => (({ u.wr Key.PwrSt.STATE 3 with pw := { u.pw with holdPending := true, latched := 0 } } : Sys)).wr Key.PwrSt.RESULT 0))) ∧
  (∀ (s : State) (acc : Access) (v : Nat), s.accepts acc Key.Pad.RELEASE v {} = true → v < 2 ^ 32 → exec (.padRelease acc v) s = .next (s.answers acc Key.Pad.RELEASE v (fun u => u.releasePads (v % 2 ^ 15)))) ∧
  (∀ (s : State) (acc : Access) (v : Nat), s.accepts acc Key.Pll.PLL_ENABLE v {} = true → v < 2 ^ 32 → exec (.pllEnableWrite acc v) s = .next (s.answers acc Key.Pll.PLL_ENABLE v (fun u => (u.wr Key.Pll.PLL_ENABLE (v % 16)).wr Key.Pll.PLL_LOCKED (u.rd Key.Pll.PLL_LOCKED &&& (v % 16))))) ∧
  (∀ (s : State) (acc : Access) (v : Nat), s.accepts acc Key.FLog.POP v {} = true → v < 256 → exec (.faultLogPop acc v) s = .next (s.answers acc Key.FLog.POP v (fun u => if v = 0 then u else { u with gath := { u.gath with log := u.gath.log.drop 1 } }))) ∧
  (∀ (s : State) (acc : Access), s.accepts acc Key.Smp.COMMAND 1 {} = true → exec (.closeNow acc) s = .next (s.answers acc Key.Smp.COMMAND 1 (fun u => u.smpCloseNow))) ∧
  (∀ (s : State) (acc : Access), s.accepts acc Key.Smp.COMMAND 2 {} = true → exec (.clearCirculating acc) s = .next (s.answers acc Key.Smp.COMMAND 2 (fun u => u.modSmp (fun q => { q with clearing := true })))) ∧
  (∀ (s : State) (acc : Access) (index : Bool) (v : Nat), s.accepts acc (if index then Key.SmpSel.INDEX else Key.SmpSel.AREA) v {} = true → Sys.fits (if index then Key.SmpSel.INDEX else Key.SmpSel.AREA) v = true → exec (.samplerSelect acc index v) s = .next (s.answers acc (if index then Key.SmpSel.INDEX else Key.SmpSel.AREA) v (fun u => u.smpSelect index v)))

/-- A frame that arrives whole is processed by its type and passed on. A frame that no case of R80 discards, and that is for the unit or for all, is
counted, held in its cells, processed as its type and the state of the unit say (COUNT, IDENTIFY, ASSIGN, ASSIGN_ALIAS, RELEASE once the port has been
UP for 10 us; STREAM; ALARM; SYNC; DELAY_REQ; DELAY_RSP; BOOT_DATA; OD_REQ), and leaves at the other port or frees its cells; any other frame is only
passed on. Commands: COUNT, IDENTIFY, ASSIGN, ASSIGN_ALIAS, RELEASE, STREAM, ALARM, SYNC, DELAY_REQ, DELAY_RSP, BOOT_DATA, OD_REQ, FRAME_FORWARD.
Rests on: 02_object_dictionary.md (R92); 03_kwezu_chain.md (R68, R72, R80, R86, R91, R93, R94, R95, R101); 06_melt_pool_and_stitching.md (R209);
12_network_time.md (R370, R373). -/
def Obligations.FramesAreProcessed : Prop :=
  (∀ (s : State) (p : Fin 2) (f : Frame), s.powered = true → s.intact p f = true → Sys.isEnum f 1 = true → (s.forMe f = true ∨ f.dest = 0xFF) → s.enumOpen p = true → exec (.count p f) s = .next (s.on (fun u => u.processed p f (fun v => v.enumCount p f)))) ∧
  (∀ (s : State) (p : Fin 2) (f : Frame), s.powered = true → s.intact p f = true → Sys.isEnum f 2 = true → (s.forMe f = true ∨ f.dest = 0xFF) → s.enumOpen p = true → exec (.identify p f) s = .next (s.on (fun u => u.processed p f (fun v => v.enumIdentify p f)))) ∧
  (∀ (s : State) (p : Fin 2) (f : Frame), s.powered = true → s.intact p f = true → Sys.isEnum f 3 = true → (s.forMe f = true ∨ f.dest = 0xFF) → s.enumOpen p = true → exec (.assign p f) s = .next (s.on (fun u => u.processed p f (fun v => v.enumAssign p f)))) ∧
  (∀ (s : State) (p : Fin 2) (f : Frame), s.powered = true → s.intact p f = true → Sys.isEnum f 4 = true → (s.forMe f = true ∨ f.dest = 0xFF) → s.enumOpen p = true → exec (.assignAlias p f) s = .next (s.on (fun u => u.processed p f (fun v => v.enumAlias p f)))) ∧
  (∀ (s : State) (p : Fin 2) (f : Frame), s.powered = true → s.intact p f = true → Sys.isEnum f 5 = true → s.forMe f = true → s.enumOpen p = true → exec (.release p f) s = .next (s.on (fun u => u.processed p f (fun v => v.enumRelease p f)))) ∧
  (∀ (s : State) (p : Fin 2) (f : Frame), s.powered = true → s.intact p f = true → f.typ = 4 → s.forMe f = true → exec (.stream p f) s = .next (s.on (fun u => u.processed p f (fun v => v.streamIn p f)))) ∧
  (∀ (s : State) (p : Fin 2) (f : Frame), s.powered = true → s.intact p f = true → f.typ = 9 → (s.forMe f = true ∨ f.dest = 0xFF) → exec (.alarm p f) s = .next (s.on (fun u => u.processed p f (fun v => v.alarmIn f)))) ∧
  (∀ (s : State) (p : Fin 2) (f : Frame), s.powered = true → s.intact p f = true → f.typ = 6 → (s.forMe f = true ∨ f.dest = 0xFF) → exec (.sync p f) s = .next (s.on (fun u => u.processed p f (fun v => v.syncTake p f.src (v.stampIn p f) f.corr f.payload)))) ∧
  (∀ (s : State) (p : Fin 2) (f : Frame), s.powered = true → s.intact p f = true → f.typ = 7 → s.forMe f = true → exec (.delayReq p f) s = .next (s.on (fun u => u.processed p f (fun v => v.delayAnswer p f.src (v.stampIn p f) f.payload)))) ∧
  (∀ (s : State) (p : Fin 2) (f : Frame), s.powered = true → s.intact p f = true → f.typ = 8 → s.forMe f = true → exec (.delayRsp p f) s = .next (s.on (fun u => u.processed p f (fun v => v.delayTake p (v.stampIn p f) f.corr f.payload)))) ∧
  (∀ (s : State) (p : Fin 2) (f : Frame), s.powered = true → s.intact p f = true → f.typ = 0x0B → s.forMe f = true → exec (.bootData p f) s = .next (burnt s ((fun u => u.processed p f (fun v => v.bootTake s.otpWord f.payload)) s.toSys))) ∧
  (∀ (s : State) (p : Fin 2) (f : Frame), s.powered = true → s.intact p f = true → f.typ = 2 → s.forMe f = true → exec (.odReq p f) s = .next (burnt s ((fun u => u.processed p f (fun v => v.odReqIn s.otpWord p f)) s.toSys))) ∧
  (∀ (s : State) (p : Fin 2) (f : Frame), s.powered = true → s.intact p f = true → (s.forMe f = true ∨ f.dest = 0xFF) → exec (.frameForward p f) s = .next (burnt s ((fun u => u.processed p f (fun v => Sys.frameIn s.otpWord v p f)) s.toSys))) ∧
  (∀ (s : State) (p : Fin 2) (f : Frame), s.powered = true → s.intact p f = true → s.forMe f = false → f.dest ≠ 0xFF → exec (.frameForward p f) s = .next (burnt s ((fun u => ((u.taken p f).fromHost p f).forward p (u.stampIn p f) ((u.taken p f).passOn p f)) s.toSys)))

/-- Credits, heartbeats and the timers of the chain act when they are due. On an UP port a credit symbol adds its cells and lets waiting frames go, the
credit timer returns freed cells, a heartbeat records the neighbour (but for one that falls to FAULT on a port with ALARM_ON_LOSS), an UP or trained
port sends its heartbeat, and 40 us without one take the port down; the credit period of an endpoint and the timeout of a service act once they have
passed. Commands: CREDIT_SYMBOL, CREDIT_RETURN_TIMER, HEARTBEAT, HEARTBEAT_SEND, HEARTBEAT_TIMEOUT, CREDIT_PERIOD_EXPIRY, SERVICE_TIMEOUT. Rests on:
02_object_dictionary.md (R55); 03_kwezu_chain.md (R74, R83, R84, R96); 06_melt_pool_and_stitching.md (R208). -/
def Obligations.PortEventsAct : Prop :=
  (∀ (s : State) (p : Fin 2) (k : Fin 3) (cells : Nat), s.powered = true → s.portUp p = true → exec (.creditSymbol p k cells) s = .next (s.on (fun u => (u.modPort p (fun r => { r with credit := r.credit.set k (r.credit.get k + cells) })).pump p))) ∧
  (∀ (s : State) (p : Fin 2) (k : Fin 3), s.powered = true → s.portUp p = true → 0 < (s.port p).freed.get k → exec (.creditReturnTimer p k) s = .next (s.on (fun u => (u.modPort p (fun r => { r with freed := r.freed.set k 0 })).emit (.credit p k ((u.port p).freed.get k))))) ∧
  (∀ (s : State) (p : Fin 2) (addr : Nat) (st : Nat) (gateway : Bool), s.powered = true → s.portUp p = true → (¬(st = 4 ∧ (s.port p).nbState ≠ 4 ∧ s.rdB (Key.Port.ALARM_ON_LOSS p) = true)) → exec (.heartbeat p addr st gateway) s = .next (s.on (fun u => ((u.wr (Key.Port.NEIGHBOUR p) (addr % 256)).modPort p (fun r => { r with nbState := st, nbGateway := gateway, heardAt := u.clk })).pump p))) ∧
  (∀ (s : State) (p : Fin 2), s.powered = true → (s.portUp p = true ∨ (s.port p).trained = true) → exec (.heartbeatSend p) s = .next (s.on (fun u => u.emit (.heartbeat p u.address (devCode u.dev) u.isGateway)))) ∧
  (∀ (s : State) (p : Fin 2), s.powered = true → s.portUp p = true → (s.port p).heardAt + 40000 ≤ s.clk → exec (.heartbeatTimeout p) s = .next (s.on (fun u => (u.portExit p 1).portLanesTo p 1))) ∧
  (∀ (s : State) (n : Fin 8), s.powered = true → (s.endpoint n).periodRuns = true → (s.endpoint n).creditAt + 1000 * s.rd (Key.Ep.CREDIT_PERIOD n) ≤ s.clk → exec (.creditPeriodExpiry n) s = .next (s.on (fun u => (u.modEndpoint n (fun e => { e with periodRuns := false })).maybeCredit n))) ∧
  (∀ (s : State) (tag : Nat) (r : SvcReq), s.powered = true → s.chain.svcq.find? (fun r => decide (r.req.tag = tag)) = some r → r.at_ + 1000 * s.rd Key.Fws.SERVICE_TIMEOUT ≤ s.clk → exec (.serviceTimeout tag) s = .next (s.on (fun u => ({ u with chain := { u.chain with svcq := u.chain.svcq.erase r } } : Sys).answerSvc r 0x0805 [])))

/-- Resets, LSAFE_N, restore, the store, boot requests, Ethernet and the gateway act. The end of a pending GO_CONFIG, of a pending WARM_RESET, rise and
loss of VAON, reset, cold start (with the wipe of an RMA part), the end of the restore, fall and rise of LSAFE_N, the end of a store command and of a
rebuild, a boot request unanswered for 10 ms and the restart of a boot, a datagram and an ARP request at the gateway, received and sent MAC frames,
and a change of a link act as stated, each under the conditions named. Commands: GO_CONFIG_COMPLETE, WARM_RESET_ACTS, VAON_RISE, VAON_LOSS,
RESET_ASSERT, RESTORED, LSAFE_FALL, LSAFE_RISE, STORE_COMMAND_COMPLETE, STORE_REBUILD_COMPLETE, BOOT_REQ_TIMEOUT, BOOT_RESTART, GATEWAY_DATAGRAM,
ARP_REQUEST, MAC_FRAME_RECEIVE, MAC_FRAME_SENT, ETH_LINK, COLD_START. Rests on: 01_architecture.md (R23); 02_object_dictionary.md (R58, R59, R62, R64,
R551, R553); 03_kwezu_chain.md (R98, R99, R101); 11_serial_lanes.md (R350, R351, R352, R353); 15_compute_and_protection.md (R434, R435, R442);
16_power_and_wake.md (R458, R459); 17_integrity_and_sampler.md (R496); 19_electrical.md (R534, R535). -/
def Obligations.DeviceAndNetworkEventsAct : Prop :=
  (∀ (s : State), s.powered = true → s.pendState = some .config → s.dev = .ready → s.allRest = true → exec (.goConfigComplete) s = .next (s.on (fun u => (({ u.setCause 0x10 1 2 1 u.eng.pendReq with pendState := none } : Sys).calDeviceState.enterConfig none).when ((List.range 48).any (fun m => (u.setCause 0x10 1 2 1 u.eng.pendReq).updRuns m) && decide ((({ u.setCause 0x10 1 2 1 u.eng.pendReq with pendState := none } : Sys).calDeviceState.enterConfig none).reaction 0x29 = 4)) (fun u => u.enterFault 0x29 u.now)))) ∧
  (∀ (s : State), s.powered = true → s.eng.warmPending = true → exec (.warmResetActs) s = .next (s.on (fun u => u.warmReset s.otpWord))) ∧
  (∀ (s : State), s.pw.state = .off → exec (.vaonRise) s = .next (s.on (fun u => u.railsOn 1000000))) ∧
  (∀ (s : State), exec (.vaonLoss) s = .next (s.on (fun u => u.vaonLost))) ∧
  (∀ (s : State), (¬(s.pw.state = .off ∧ s.pw.pmic ≠ 15)) → exec (.resetAssert) s = .next (s.on (fun u => ({ u.resetCold with pw := { u.resetCold.pw with state := .reset } } : Sys).floatAnalog))) ∧
  (∀ (s : State) (us : Nat) (bad : Nat), s.powered = true → s.dev = .start → s.rd Key.Restore.RESTORE_STATUS = 0 → s.pw.state = .run → exec (.restored us bad) s = .next (s.on (fun u => u.restored us bad))) ∧
  (∀ (s : State), s.powered = true → s.pads.lsafe = true → exec (.lsafeFall) s = .next (s.on (fun u => (let v := ((({ u with pads := { u.pads with lsafe := false } } : Sys).refresh).capturePin 0x40 false); (if v.dev = .armed then (v.setCause 0x21 0 3 2 0).disarmed else v).faultNow 0x6F 0 0)))) ∧
  (∀ (s : State), s.powered = true → s.pads.lsafe = false → exec (.lsafeRise) s = .next (s.on (fun u => ((({ u with pads := { u.pads with lsafe := true } } : Sys).clearActive 0x6F 0 0).refresh).capturePin 0x40 true))) ∧
  (∀ (s : State) (bad : Nat), s.powered = true → s.eng.command = some 3 → exec (.storeCommandComplete bad) s = .next (s.on (fun u => ((({ u.wr Key.Store.STORE_PROGRESS 100 with eng := { u.eng with command := none } } : Sys).each ((List.range 32).filter (fun b => bad.testBit b)) (fun u b => u.markCopy (b / 2) (decide (b % 2 = 1)))).wr Key.Store.STORE_RESULT 0).raise 63))) ∧
  (∀ (s : State) (pair : Fin 16), s.powered = true → (s.pair pair).building = true → exec (.storeRebuildComplete pair) s = .next (burnt s ((fun u => (u.pairGood pair).replay s.otpWord) s.toSys))) ∧
  (∀ (s : State) (t : Nat), s.powered = true → s.chain.boot.asked = some t → t + 10000000 ≤ s.clk → exec (.bootReqTimeout) s = .next (s.on (fun u => if u.chain.boot.attempt < 7 then ({ u with chain := { u.chain with boot := { u.chain.boot with asked := none, attempt := u.chain.boot.attempt + 1 } } } : Sys).bootAsk else { u with chain := { u.chain with boot := { active := true, pause := some u.clk } } }))) ∧
  (∀ (s : State) (t : Nat), s.powered = true → s.chain.boot.pause = some t → t + 1000000000 ≤ s.clk → exec (.bootRestart) s = .next (s.on (fun u => ({ u with chain := { u.chain with boot := {} } } : Sys).bootList s.otpWord))) ∧
  (∀ (s : State) (m : Fin 2) (d : List Nat), s.powered = true → s.gatewayOn m = true → exec (.gatewayDatagram m d) s = .next (burnt s ((fun u => (u.gatewayIn s.otpWord m d).1) s.toSys))) ∧
  (∀ (s : State) (m : Fin 2) (d : List Nat), s.powered = true → s.gatewayOn m = true → beAt d 12 2 = 0x0806 → beAt d 14 2 = 1 → beAt d 16 2 = 0x0800 → u8At d 18 = 6 → u8At d 19 = 4 → beAt d 20 2 = 1 → beAt d 38 4 = s.rd Key.Gw.LOCAL_IP → s.rd (Key.Mac.LINK m) = 3 → exec (.arpRequest m d) s = .next (s.on (fun u => u.modMac m (fun q => { q with gw := q.gw ++ [(((d.drop 22).take 6) ++ be 6 (u.rd Key.Gw.LOCAL_MAC) ++ [0x08, 0x06] ++ be 2 1 ++ be 2 0x0800 ++ [6, 4] ++ be 2 2 ++ be 6 (u.rd Key.Gw.LOCAL_MAC) ++ be 4 (u.rd Key.Gw.LOCAL_IP) ++ ((d.drop 22).take 6) ++ (d.drop 28).take 4)] })))) ∧
  (∀ (s : State) (m : Fin 2) (d : List Nat) (fcsOk : Bool) (fec : Nat), s.powered = true → (s.macIn m d fcsOk fec).2 = true → (s.macIn m d fcsOk fec).1.gatewayOn m = false → exec (.macFrameReceive m d fcsOk fec) s = .next (burnt s ((fun u => (u.macIn m d fcsOk fec).1.macToRing m d) s.toSys))) ∧
  (∀ (s : State) (m : Fin 2) (ok : Bool), s.powered = true → s.rdB (Key.Mac.ENABLE m) = true → s.rd (Key.Mac.LINK m) = 3 → (s.mac m).gw = [] → s.ringWaits m = true → exec (.macFrameSent m ok) s = .next (s.on (fun u => u.ringOut m ok))) ∧
  (∀ (s : State) (m : Fin 2) (ok : Bool) (d : List Nat) (rest : List (List Nat)), s.powered = true → s.rdB (Key.Mac.ENABLE m) = true → s.rd (Key.Mac.LINK m) = 3 → (s.mac m).gw = d :: rest → (s.ringWaits m = false ∨ (s.mac m).passed < 4) → exec (.macFrameSent m ok) s = .next (s.on (fun u => ((u.modMac m (fun q => { q with gw := rest, passed := if u.ringWaits m then q.passed + 1 else 0 })).inc64 (Key.MacCnt.TX_FRAMES m)).emit (.eth m (d ++ List.replicate (60 - d.length) 0) (!ok))))) ∧
  (∀ (s : State) (m : Fin 2) (st : Fin 4) (hiBer : Bool) (fecBad : Nat), s.powered = true → s.rdB (Key.Mac.ENABLE m) = true → (st.val < 2 ∨ s.rd (Key.Lane.STAGE (s.rd (Key.Mac.LANE m))) = 4) → exec (.ethLink m st hiBer fecBad) s = .next (s.on (fun u => (let v := ((((u.when hiBer (fun u => u.inc (Key.MacCnt.HI_BER_EVENTS m))).when (u.rdB (Key.Mac.RS_FEC m)) (fun u => u.add (Key.MacCnt.FEC_UNCORRECTED m) 32 fecBad)).wr (Key.Mac.LINK m) st).when (decide (st.val = 1 ∨ st.val = 2)) (fun u => u.emit (.ethFault m (decide (st.val = 1))))).when (decide (st.val ≠ 3)) (fun u => u.dropDatagrams m); if u.rd (Key.Mac.LINK m) = 3 ∧ st.val ≠ 3 then v.faultNow 0x56 7 (u.rd (Key.Mac.LANE m)) else if st.val = 3 then v.clearActive 0x56 7 (u.rd (Key.Mac.LANE m)) else v)))) ∧
  (∀ (s : State) (boot : Fin 4) (flash : List (List Nat)), (¬(s.pw.state = .off ∧ s.pw.pmic ≠ 15)) → ((Sys.otpByte s.otpWord 9).testBit 2 && !(Sys.otpByte s.otpWord 9).testBit 3) = true → exec (.coldStart boot flash) s = .next { s with toSys := s.toSys.coldStart s.otpWord boot flash, otp := Kv.put (fun _ => (0 : Word)) 2 (BitVec.ofNat 64 (programmed (s.otpWord 2) 2048)) s.otp }) ∧
  (∀ (s : State) (boot : Fin 4) (flash : List (List Nat)), (¬(s.pw.state = .off ∧ s.pw.pmic ≠ 15)) → ((Sys.otpByte s.otpWord 9).testBit 2 && !(Sys.otpByte s.otpWord 9).testBit 3) = false → exec (.coldStart boot flash) s = .next { s with toSys := s.toSys.coldStart s.otpWord boot flash })

/-- Fetch, look-ahead, samples, every descriptor and every timeout of a scan channel act. Under the conditions named, a block is fetched, a descriptor is
taken into the look-ahead, a sample is put out, each of the eleven kinds of descriptor starts at the point in time where the one before ended, and a
WAIT_TIME, a WAIT_EVENT, a READY timeout, a change of LP_STS and a missing start of scan have their effect. Commands: BLOCK_FETCH,
DESCRIPTOR_LOOKAHEAD, SCU_SAMPLE, JUMP, MARK, ARC, DWELL, POWER, WAIT_TIME, WAIT_EVENT, SEAM_POINT, CAL_MARK, LINK, END, WAIT_TIME_REACHED,
WAIT_EVENT_TIMEOUT, READY_TIMEOUT, LP_STS_CHANGE, SOS_TIMEOUT. Rests on: 04_scan_channels.md (R103, R110, R114, R116, R117, R119, R120, R121, R122,
R123, R124, R130, R131, R135); 07_live_calibration.md (R226). -/
def Obligations.ScanEventsAct : Prop :=
  (∀ (s : State) (c : Fin 16) (ok : Bool) (n : Nat), s.powered = true → s.runs (Sys.chDomain c) = true → s.consumersRun = true → s.feeder 1 c = some n → s.chState c ≠ 0 → s.chState c ≠ 5 → (s.ch c).fetchEnd = false → 8256 ≤ (s.rd (Key.EpSt.NEXT_OFFSET n) + 2 ^ 32 - (s.ch c).fetch) % 2 ^ 32 → (s.rd (Key.EpSt.NEXT_OFFSET n) + 2 ^ 32 - (s.ch c).fetch) % 2 ^ 32 < 2 ^ 31 → s.rdB (Key.Queue.RESYNC c) = false → exec (.blockFetch c ok) s = .next (s.on (fun u => u.takeBlock c n ok))) ∧
  (∀ (s : State) (c : Fin 16) (d : Desc), s.powered = true → s.runs (Sys.chDomain c) = true → s.chState c ≠ 0 → s.chState c < 4 → (s.ch c).halt = none → (s.ch c).look.length < 16 → s.nextDesc c = some d → d.op ≠ 256 → d.op ≠ 10 → d.op ≠ 512 → s.descBad c (s.lims c) (s.lookTail c (s.lims c)).1 d = false → s.descInside c (s.lims c) (s.lookTail c (s.lims c)).1 (s.lookTail c (s.lims c)).2 d = true → exec (.descriptorLookahead c true) s = .next (s.on (fun u => (let v := u.insertMarks c d; if 16 ≤ (v.ch c).look.length then v else ((v.readOn c).modCh c (fun q => { q with inserted := 0 })).pushDesc c d)))) ∧
  (∀ (s : State) (c : Fin 16) (d : Desc), s.powered = true → s.runs (Sys.chDomain c) = true → s.chState c ≠ 0 → s.chState c < 4 → (s.ch c).halt = none → (s.ch c).look.length < 16 → s.nextDesc c = some d → d.op ≠ 256 → d.op ≠ 10 → d.op ≠ 512 → d.op ≠ 9 → s.descBad c (s.lims c) (s.lookTail c (s.lims c)).1 d = false → s.descInside c (s.lims c) (s.lookTail c (s.lims c)).1 (s.lookTail c (s.lims c)).2 d = false → exec (.descriptorLookahead c true) s = .next (s.on (fun u => (u.haltAt c 8).faultNow 0x04 1 c))) ∧
  (∀ (s : State) (c : Fin 16) (d : Desc), s.powered = true → s.runs (Sys.chDomain c) = true → s.chState c ≠ 0 → s.chState c < 4 → (s.ch c).halt = none → (s.ch c).look.length < 16 → s.nextDesc c = some d → d.op ≠ 256 → d.op ≠ 10 → d.op ≠ 512 → s.descBad c (s.lims c) (s.lookTail c (s.lims c)).1 d = true → exec (.descriptorLookahead c true) s = .next (s.on (fun u => (u.haltAt c 7).faultNow 0x03 1 c))) ∧
  (∀ (s : State) (c : Fin 16) (d : Desc), s.powered = true → s.runs (Sys.chDomain c) = true → s.chState c ≠ 0 → s.chState c < 4 → (s.ch c).halt = none → (s.ch c).look.length < 16 → s.nextDesc c = some d → d.op = 512 → exec (.descriptorLookahead c true) s = .next (s.on (fun u => u.recordAhead c d))) ∧
  (∀ (s : State) (c : Fin 16) (d : Desc), s.powered = true → s.runs (Sys.chDomain c) = true → s.chState c ≠ 0 → s.chState c < 4 → (s.ch c).halt = none → (s.ch c).look.length < 16 → s.nextDesc c = some d → d.op = 256 → exec (.descriptorLookahead c true) s = .next (s.on (fun u => (u.modCh c (fun q => { q with link := none })).pushDesc c d))) ∧
  (∀ (s : State) (c : Fin 16) (d : Desc) (ok : Bool), s.powered = true → s.runs (Sys.chDomain c) = true → s.chState c ≠ 0 → s.chState c < 4 → (s.ch c).halt = none → (s.ch c).look.length < 16 → s.nextDesc c = some d → d.op = 10 → s.descBad c (s.lims c) (s.lookTail c (s.lims c)).1 d = false → exec (.descriptorLookahead c ok) s = .next (s.on (fun u => u.linkAhead c ok d))) ∧
  (∀ (s : State) (c : Fin 16) (d : Desc), s.powered = true → s.runs (Sys.chDomain c) = true → s.chState c ≠ 0 → s.chState c < 4 → (s.ch c).halt = none → (s.ch c).look.length < 16 → s.nextDesc c = some d → d.op ≠ 10 → exec (.descriptorLookahead c false) s = .next (s.on (fun u => u.bobbinParity c))) ∧
  (∀ (s : State) (c : Fin 16) (ok : Bool), s.powered = true → s.runs (Sys.chDomain c) = true → s.chState c ≠ 0 → (s.ch c).sampled < s.rd (Key.Trig.LAST_TIME (s.rd (Key.Ch.TRIGGER c))) → exec (.scuSample c ok) s = .next (s.on (fun u => u.scuSample c (u.rd (Key.Trig.LAST_TIME (u.rd (Key.Ch.TRIGGER c)))) ok))) ∧
  (∀ (s : State) (c : Fin 16) (d : Desc) (rest : List Desc), s.powered = true → s.runs (Sys.chDomain c) = true → s.chState c = 2 → (s.ch c).cur = none → (s.ch c).look = d :: rest → d.op = 1 → (s.ch c).pause = false → (s.ch c).fresh = false → (s.ch c).starved = false → exec (.jump c) s = .next (s.on (fun u => u.startDesc c (u.ch c).plan.fin.t d rest))) ∧
  (∀ (s : State) (c : Fin 16) (d : Desc) (rest : List Desc), s.powered = true → s.runs (Sys.chDomain c) = true → s.chState c = 2 → (s.ch c).cur = none → (s.ch c).look = d :: rest → d.op = 2 → (s.ch c).pause = false → (s.ch c).fresh = false → (s.ch c).starved = false → exec (.mark c) s = .next (s.on (fun u => u.startDesc c (u.ch c).plan.fin.t d rest))) ∧
  (∀ (s : State) (c : Fin 16) (d : Desc) (rest : List Desc), s.powered = true → s.runs (Sys.chDomain c) = true → s.chState c = 2 → (s.ch c).cur = none → (s.ch c).look = d :: rest → d.op = 3 → (s.ch c).pause = false → (s.ch c).fresh = false → (s.ch c).starved = false → exec (.arc c) s = .next (s.on (fun u => u.startDesc c (u.ch c).plan.fin.t d rest))) ∧
  (∀ (s : State) (c : Fin 16) (d : Desc) (rest : List Desc), s.powered = true → s.runs (Sys.chDomain c) = true → s.chState c = 2 → (s.ch c).cur = none → (s.ch c).look = d :: rest → d.op = 4 → (s.ch c).pause = false → (s.ch c).fresh = false → (s.ch c).starved = false → exec (.dwell c) s = .next (s.on (fun u => u.startDesc c (u.ch c).plan.fin.t d rest))) ∧
  (∀ (s : State) (c : Fin 16) (d : Desc) (rest : List Desc), s.powered = true → s.runs (Sys.chDomain c) = true → s.chState c = 2 → (s.ch c).cur = none → (s.ch c).look = d :: rest → d.op = 5 → (s.ch c).pause = false → (s.ch c).fresh = false → (s.ch c).starved = false → exec (.power c) s = .next (s.on (fun u => (let v := (u.startDesc c (u.ch c).plan.fin.t d rest); v.finishDesc c (v.ch c).plan.fin.t d)))) ∧
  (∀ (s : State) (c : Fin 16) (d : Desc) (rest : List Desc), s.powered = true → s.runs (Sys.chDomain c) = true → s.chState c = 2 → (s.ch c).cur = none → (s.ch c).look = d :: rest → d.op = 6 → (s.ch c).pause = false → (s.ch c).fresh = false → (s.ch c).starved = false → exec (.waitTime c) s = .next (s.on (fun u => u.startDesc c (u.ch c).plan.fin.t d rest))) ∧
  (∀ (s : State) (c : Fin 16) (d : Desc) (rest : List Desc), s.powered = true → s.runs (Sys.chDomain c) = true → s.chState c = 2 → (s.ch c).cur = none → (s.ch c).look = d :: rest → d.op = 7 → (s.ch c).pause = false → (s.ch c).fresh = false → (s.ch c).starved = false → exec (.waitEvent c) s = .next (s.on (fun u => u.startDesc c (u.ch c).plan.fin.t d rest))) ∧
  (∀ (s : State) (c : Fin 16) (d : Desc) (rest : List Desc), s.powered = true → s.runs (Sys.chDomain c) = true → s.chState c = 2 → (s.ch c).cur = none → (s.ch c).look = d :: rest → d.op = 8 → (s.ch c).pause = false → (s.ch c).fresh = false → (s.ch c).starved = false → exec (.seamPoint c) s = .next (s.on (fun u => (let v := (u.startDesc c (u.ch c).plan.fin.t d rest); v.finishDesc c (v.ch c).plan.fin.t d)))) ∧
  (∀ (s : State) (c : Fin 16) (d : Desc) (rest : List Desc), s.powered = true → s.runs (Sys.chDomain c) = true → s.chState c = 2 → (s.ch c).cur = none → (s.ch c).look = d :: rest → d.op = 9 → (s.ch c).pause = false → (s.ch c).fresh = false → (s.ch c).starved = false → exec (.calMark c) s = .next (s.on (fun u => u.startDesc c (u.ch c).plan.fin.t d rest))) ∧
  (∀ (s : State) (c : Fin 16) (d : Desc) (rest : List Desc), s.powered = true → s.runs (Sys.chDomain c) = true → s.chState c = 2 → (s.ch c).cur = none → (s.ch c).look = d :: rest → d.op = 10 → (s.ch c).pause = false → (s.ch c).fresh = false → (s.ch c).starved = false → exec (.linkBlock c) s = .next (s.on (fun u => (let v := (u.startDesc c (u.ch c).plan.fin.t d rest); v.finishDesc c (v.ch c).plan.fin.t d)))) ∧
  (∀ (s : State) (c : Fin 16) (d : Desc) (rest : List Desc), s.powered = true → s.runs (Sys.chDomain c) = true → s.chState c = 2 → (s.ch c).cur = none → (s.ch c).look = d :: rest → d.op = 15 → (s.ch c).pause = false → (s.ch c).fresh = false → (s.ch c).starved = false → exec (.endDescr c) s = .next (s.on (fun u => u.startDesc c (u.ch c).plan.fin.t d rest))) ∧
  (∀ (s : State) (c : Fin 16) (d : Desc), s.powered = true → s.runs (Sys.chDomain c) = true → (s.ch c).cur = some d → d.op = 6 → s.chState c = 2 → d.a + 2 ^ 32 * d.b ≤ s.now → exec (.waitTimeReached c) s = .next (s.on (fun u => (u.endWait c (d.a + 2 ^ 32 * d.b)).finishDesc c (d.a + 2 ^ 32 * d.b) d))) ∧
  (∀ (s : State) (c : Fin 16) (d : Desc) (t : Nat), s.powered = true → s.runs (Sys.chDomain c) = true → (s.ch c).cur = some d → (s.ch c).waitSince = some t → d.op = 7 → s.chState c = 2 → d.a ≠ 0 → t + d.a * 1000 ≤ s.now → s.rd (Key.Cap.COUNT (d.param % 32)) = (s.ch c).waitCount → exec (.waitEventTimeout c) s = .next (s.on (fun u => (let v := (u.endWait c u.now).finishDesc c u.now d; if d.flags.testBit 0 then (((v.haltNow c 11).deferUpdate c).faultNow 0x07 1 c).refreshGate c else v)))) ∧
  (∀ (s : State) (c : Fin 16) (t : Nat), s.powered = true → (s.ch c).enabledAt = some t → s.rd (Key.Mod.READY_TIMEOUT c) ≠ 0 → t + s.rd (Key.Mod.READY_TIMEOUT c) * 1000000 ≤ s.clk → s.stsReady c = false → exec (.readyTimeout c) s = .next (s.on (fun u => (u.modCh c (fun q => { q with enabledAt := none })).faultNow 0x08 1 c))) ∧
  (∀ (s : State) (c : Fin 16) (level : Bool), s.domainOn 11 = true → exec (.lpStsChange c level) s = .next (s.on (fun u => u.stsChange c level))) ∧
  (∀ (s : State) (c : Fin 16) (level : Bool), s.domainOn 11 = false → exec (.lpStsChange c level) s = .next (s.on (fun u => { u with pads := { u.pads with lpSts := putBit u.pads.lpSts c level } }))) ∧
  (∀ (s : State) (c : Fin 16), s.powered = true → s.runs (Sys.chDomain c) = true → s.rd (Key.Ch.MODE c) = 1 → s.chState c = 2 → (s.ch c).rasWait + s.rd (Key.Raster.SOS_TIMEOUT c) ≤ s.clk → exec (.sosTimeout c) s = .next (s.on (fun u => (((u.safeStop c 14).faultNow 0x0A 1 c).stopReports c).refreshGate c)))

/-- Slot evaluations, melt-pool updates, gates, zones, takeovers and update steps act. A slot whose evaluation is due is evaluated; a line break shows; a
fault hold that has passed returns the slot; a melt-pool update runs; a disagreement of the two gate paths is counted, made a fault and judged; joins
and takeovers whose time has come happen and a collection of takeovers closes after 1 us; the steps of a live update, the copy of a table and a load
record act. Commands: SLOT_EVALUATION, LINE_BREAK, FAULT_HOLD_EXPIRY, MPL_UPDATE, GATE_MISMATCH, JOIN_TIME_REACHED, TAKEOVER_COLLECTION_CLOSE,
TAKEOVER_INSTANT, CHECKS_COMPLETE, STEP_BUILT, SWAP_WINDOW_EXPIRY, CAL_COPY_WRITE, LOAD_RECORD. Rests on: 05_control_loop_engines.md (R155, R158,
R170); 06_melt_pool_and_stitching.md (R186, R193, R206, R210, R211); 07_live_calibration.md (R222, R224, R236, R239, R240). -/
def Obligations.LoopStitchUpdateEventsAct : Prop :=
  (∀ (s : State) (n : Fin 64) (code : Int) (ok : Bool) (wait : Nat) (stateOk : Bool) (readOk : Bool), s.powered = true → s.runs (Sys.slotDomain n) = true → (s.slot n).due ≠ [] → exec (.slotEvaluation n code ok wait stateOk readOk) s = .next (s.on (fun u => u.evalSlot n code ok wait stateOk readOk))) ∧
  (∀ (s : State) (n : Fin 64) (broken : Bool), s.powered = true → exec (.lineBreak n broken) s = .next (s.on (fun u => u.modSlot n (fun q => { q with lineBreak := broken && u.rdB (Key.SlotFb.LINE_BREAK_EN n) })))) ∧
  (∀ (s : State) (n : Fin 64), s.powered = true → s.runs (Sys.slotDomain n) = true → (s.slot n).leaving = true → (s.slot n).leaveAt ≤ s.clk → (s.slotState n = 1 ∨ s.slotState n = 2) → exec (.faultHoldExpiry n) s = .next (s.on (fun u => (let v := ((if u.slotState n = 2 then u.wr (Key.Slot.MODE n) (u.rd (Key.Slot.ACTIVE_MODE n)) else u).setSlotState n 4 3).startRamp n false; (v.slotAxis n).elim v (fun a => v.axRampDown a))))) ∧
  (∀ (s : State) (c : Fin 16) (a : List Nat) (b : List Nat) (ok : Bool) (readOk : Bool), s.powered = true → s.runs 11 = true → exec (.mplUpdate c a b ok readOk) s = .next (s.on (fun u => u.mplUpdate c (a.take 8) (b.take 8) ok readOk))) ∧
  (∀ (s : State) (c : Fin 16) (a : Bool) (b : Bool), s.powered = true → a ≠ b → exec (.gateMismatch c a b) s = .next (s.on (fun u => (((((u.modLoop c (fun q => { q with pathA := a, pathB := b })).modLoop c (fun q => { q with mismatch := true })).inc (Key.MplCnt.GATE_MISMATCHES c)).faultNow 0x20 1 c).refreshGate c).refreshIlk))) ∧
  (∀ (s : State), s.powered = true → exec (.joinTimeReached) s = .next (s.on (fun u => u.each (List.range 192) (fun u w => u.when (decide (u.rd (zwState w) = 6) && (u.zw w).joinAt.any (fun t => decide (t ≤ u.now))) (fun u => ((u.wr (zwState w) 1).modZw w (fun z => { z with joinAt := none })).zwChanged w))))) ∧
  (∀ (s : State) (k : Collect) (rest : List Collect), s.powered = true → s.stitch.collects = k :: rest → k.at_ + 1000 ≤ s.now → k.heads = [] → k.channels ≠ [] → exec (.takeoverCollectionClose) s = .next (s.on (fun u => ((((({ u with stitch := { u.stitch with collects := rest } } : Sys).sendAlarm 1 k.code k.at_ (k.at_ + u.rd Key.Take.TAKEOVER_LEAD) k.channels).inc Key.Take.ALARMS_SENT).applyAlarm 1 none (k.at_ + u.rd Key.Take.TAKEOVER_LEAD) k.channels)).each k.channels (fun v c => v.gapReports c (k.at_ + u.rd Key.Take.TAKEOVER_LEAD))))) ∧
  (∀ (s : State) (k : Collect) (rest : List Collect), s.powered = true → s.stitch.collects = k :: rest → k.at_ + 1000 ≤ s.now → k.channels = [] → k.heads ≠ [] → exec (.takeoverCollectionClose) s = .next (s.on (fun u => (((({ u with stitch := { u.stitch with collects := rest } } : Sys).sendAlarm 2 k.code k.at_ (k.at_ + u.rd Key.Take.TAKEOVER_LEAD) k.heads).inc Key.Take.ALARMS_SENT).applyAlarm 2 none (k.at_ + u.rd Key.Take.TAKEOVER_LEAD) k.heads)))) ∧
  (∀ (s : State), s.powered = true → exec (.takeoverInstant) s = .next (s.on (fun u => u.each (List.range 192) Sys.zwDue))) ∧
  (∀ (s : State) (m : Fin 48) (ok : Bool), s.powered = true → s.rd (Sys.updKey m 0x0A) = 1 → exec (.checksComplete m ok) s = .next (s.on (fun u => u.updChecks m ok))) ∧
  (∀ (s : State) (m : Fin 48) (ok : Bool) (verified : Bool) (off : Nat), s.powered = true → s.rd (Sys.updKey m 0x0A) = 2 → exec (.stepBuilt m ok verified off) s = .next (s.on (fun u => u.updBuild m ok verified off))) ∧
  (∀ (s : State) (m : Fin 48), s.powered = true → s.rd (Sys.updKey m 0x0A) = 3 → s.rd (Sys.updKey m 0x0E) + s.rd (Sys.updKey m 6) * 1000 ≤ s.now → exec (.swapWindowExpiry m) s = .next (s.on (fun u => u.haltUpdate m 3 4))) ∧
  (∀ (s : State) (m : Nat) (rest : List Nat) (staging : Fin 3) (slot : Fin 3), s.powered = true → s.cal.copies = m :: rest → exec (.calCopyWrite ⟨false, staging, slot⟩) s = .next (s.on (fun u => ((((u.faultNow 0x2A (tableInst m) (tableIndex m)).wrB (Sys.updKey m 0x11) false).inc Key.Cal.COPY_FAILS).faultNow 0x2B (tableInst m) (tableIndex m)).copyPop rest))) ∧
  (∀ (s : State) (m : Nat) (rest : List Nat) (slot : Fin 3), s.powered = true → s.cal.copies = m :: rest → exec (.calCopyWrite ⟨true, 2, slot⟩) s = .next (s.on (fun u => ((((u.slotSpoilt stagingAddr (tableLen m)).wrB (Sys.updKey m 0x11) false).inc Key.Cal.COPY_FAILS).faultNow 0x2B (tableInst m) (tableIndex m)).copyPop rest))) ∧
  (∀ (s : State) (m : Nat) (rest : List Nat) (staging : Fin 3), s.powered = true → s.cal.copies = m :: rest → staging.val < 2 → exec (.calCopyWrite ⟨true, staging, 2⟩) s = .next (s.on (fun u => (((((u.slotWrite m stagingAddr).slotSpoilt (slotAddr m) (tableLen m)).wrB (Sys.updKey m 0x11) false).inc Key.Cal.COPY_FAILS).faultNow 0x2B (tableInst m) (tableIndex m)).copyPop rest))) ∧
  (∀ (s : State) (m : Nat) (rest : List Nat) (staging : Fin 3) (slot : Fin 3), s.powered = true → s.cal.copies = m :: rest → staging.val < 2 → slot.val < 2 → exec (.calCopyWrite ⟨true, staging, slot⟩) s = .next (s.on (fun u => (let v := ((u.slotWrite m stagingAddr).slotWrite m (slotAddr m)).setBytes (stagingAddr + 4) [0]; (((v.wrB (Sys.updKey m 0x11) true).wr (Sys.updKey m 0x12) (v.ld (slotAddr m + 64 + tableGenAt m) 4)).inc Key.Cal.COPY_WRITES).copyPop rest)))) ∧
  (∀ (s : State) (ok : Bool), s.powered = true → ((List.range 8).find? (fun n => s.rdB (Key.Ep.ENABLE n) && decide (s.rd (Key.Ep.CONSUMER n) = 3))).isSome = true → exec (.loadRecord ok) s = .next (s.on (fun u => u.loadRecord ok)))

/-- Fixes, slices, data, acknowledgements, encoders, start-of-scan, FIRE and the ends of a swath act. Under the conditions named, the fix instant, the
fetch of a slice, the sending of a column, its acknowledgement and its timeout, edges, Z and loss of an encoder, an edge of start-of-scan, a FIRE
strobe, the end of a swath and the end of the feed settle have their effect. Which phase of an encoder counts up is the choice of log entry 10.
Commands: FIX_INSTANT, SLICE_FETCH, DATA_SEND, ACK, ACK_TIMEOUT, ENCODER_EDGE, ENCODER_Z, ENCODER_LOSS, SOS_EDGE, FIRE_STROBE, SWATH_END,
FEED_SETTLE_EXPIRY. Rests on: 07_live_calibration.md (R220); 08_print_engine.md (R249, R250, R254, R255, R258, R261, R262, R264, R270). -/
def Obligations.PrintEventsAct : Prop :=
  (∀ (s : State) (g : Fin 4) (n : Nat), s.powered = true → s.runs 12 = true → s.feeder 2 g = some n → s.swathReady g n = true → exec (.fixInstant g) s = .next (s.on (fun u => u.fixInstant g))) ∧
  (∀ (s : State) (g : Fin 4) (ok : Bool) (n : Nat), s.powered = true → s.runs 12 = true → s.feeder 2 g = some n → s.grpState g ≠ 0 → s.grpState g ≠ 6 → (s.group g).fetchEnd = false → 64 ≤ s.sliceBytes n g → s.sliceBytes n g < 2 ^ 31 → exec (.sliceFetch g ok) s = .next (s.on (fun u => u.sliceFetch g ok))) ∧
  (∀ (s : State) (h : Fin 32) (ok : Bool) (sl : Slice), s.powered = true → s.runs 12 = true → s.rdB (Key.Head.ENABLE h) = true → s.grpState (s.rd (Key.Head.GROUP h)) = 3 → (s.group (s.rd (Key.Head.GROUP h))).suppress = none → s.linkUp (s.rd (Key.Head.LINK h)) = true → (s.head h).evs.length < s.rd (Key.Link.DEPTH (s.rd (Key.Head.LINK h))) → s.sliceOf (s.rd (Key.Head.GROUP h)) (s.head h).next = some sl → exec (.dataSend h ok) s = .next (s.on (fun u => if ok then (u.sendLink (u.rd (Key.Head.LINK h)) 1 (u.rd (Key.Head.PORT h)) ((u.head h).next % 65536) (u.dataPayload (u.rd (Key.Head.GROUP h)) sl h (u.head h).next)).modHead h (fun q => { q with next := (u.head h).next + 1, evs := q.evs ++ [{ col := (u.head h).next, sentAt := u.clk, body := u.dataPayload (u.rd (Key.Head.GROUP h)) sl h (u.head h).next }] }) else (u.modHead h (fun q => { q with next := (u.head h).next + 1, evs := q.evs ++ [{ col := (u.head h).next, sentAt := u.clk, dead := true, kind := 8 }] })).faultNow 0x32 4 h))) ∧
  (∀ (s : State) (l : Fin 8) (body : List Nat), s.powered = true → s.runs 12 = true → exec (.ackFrame l body) s = .next (s.on (fun u => u.acked l body))) ∧
  (∀ (s : State) (h : Fin 32) (e : Ev), s.powered = true → s.runs 12 = true → (s.head h).evs.find? (fun e => !e.acked && !e.dead && decide (e.sentAt + s.rd (Key.Link.ACK_TIMEOUT (s.rd (Key.Head.LINK h))) ≤ s.clk)) = some e → s.rd (Key.Link.RETRIES (s.rd (Key.Head.LINK h))) ≤ e.tries → exec (.ackTimeout h) s = .next (s.on (fun u => u.modHead h (fun q => { q with evs := q.evs.map (fun x => if x.col = e.col then { x with dead := true } else x) })))) ∧
  (∀ (s : State) (e : Fin 6) (a : Bool) (b : Bool), s.powered = true → (¬(a = (s.enc e).a ∧ b = (s.enc e).b)) → s.runs 12 = true → exec (.encoderEdge e a b) s = .next (s.on (fun u => u.encEdge e a b))) ∧
  (∀ (s : State) (e : Fin 6), s.powered = true → exec (.encoderZ ⟨e, false⟩) s = .next (s.on (fun u => u.capturePin (0x48 + e) false))) ∧
  (∀ (s : State) (e : Fin 6), s.powered = true → s.runs 12 = true → exec (.encoderZ ⟨e, true⟩) s = .next (s.on (fun u => (let w := ((u.wrI (Key.Enc.Z_COUNT e) (u.rdI (Key.Enc.COUNT e))).wr (Key.Enc.Z_TIME e) u.now).capturePin (0x48 + e) true; let v := (w.slotZ e (u.rdI (Key.Enc.COUNT e))).when (w.rdB (Key.Enc.Z_RESET e)) (fun u => (u.wrI (Key.Enc.COUNT e) 0).modEnc e (fun q => { q with before := 0 })); v.modEnc e (fun q => { q with z := some (v.rdI (Key.Enc.COUNT e)) }))))) ∧
  (∀ (s : State) (e : Fin 6) (leg : Fin 3) (broken : Bool), s.powered = true → s.runs 12 = true → exec (.encoderLoss e leg broken) s = .next (s.on (fun u => (u.wrBit (Key.Enc.STATUS e) (1 + leg) broken).encLoss e))) ∧
  (∀ (s : State) (x : Fin 8) (rising : Bool), s.powered = true → s.mtuRuns = false → exec (.sosEdge x rising) s = .next (s.on (fun u => u.capturePin x rising))) ∧
  (∀ (s : State) (x : Fin 8) (rising : Bool), s.powered = true → s.mtuRuns = true → exec (.sosEdge x rising) s = .next (s.on (fun u => (u.capturePin x rising).each (List.range 4) (fun u m => u.when (decide (u.rd (Key.Mtu.SOS m) = x ∧ u.rdB (Key.Mtu.SOS_EDGE m) = !rising)) (fun u => u.mtuSos m))))) ∧
  (∀ (s : State) (f : Fin 16) (g : Nat) (t : Nat), s.powered = true → s.runs 12 = true → s.fireGroup f = some g → (s.fire f).due = some t → t ≤ s.now * 1000 → s.colExists g (s.fire f).k = true → exec (.fireStrobe f) s = .next (s.on (fun u => u.fireStrobe f))) ∧
  (∀ (s : State) (g : Fin 4), s.powered = true → s.runs 12 = true → s.grpState g = 3 → s.swathDone g = true → exec (.swathEnd g) s = .next (s.on (fun u => u.swathEnd g))) ∧
  (∀ (s : State) (g : Fin 4) (t : Nat), s.powered = true → s.runs 12 = true → (s.group g).settleAt = some t → s.grpState g = 4 → t + s.rd (Key.GrpMask.FEED_SETTLE g) * 1000 ≤ s.clk → exec (.feedSettleExpiry g) s = .next (s.on (fun u => (u.setGrpState g (if (u.group g).pause then 1 else 2)).modGroup g (fun q => { q with settleAt := none, pause := false }))))

/-- The frames and timers of the head links, head temperatures and gate inputs act. On a link that is UP, STATUS, NOZZLE, WACK and CTRL_RSP frames are
taken, malformed frames counted, heartbeats taken and sent, and 40 us without one take the link down; a control request unanswered for 10 ms shows
0xFFFF; a temperature reading and a gate input act, and a level is only held where the block has no power. Commands: STATUS, NOZZLE, WACK, CTRL_RSP,
LINK_HEARTBEAT, LINK_HEARTBEAT_TIMEOUT, LINK_HEARTBEAT_SEND, MALFORMED_LINK_FRAME, CTRL_TIMEOUT, HEAD_TEMP_READING, GATE_INPUT_CHANGE. Rests on:
08_print_engine.md (R268, R269, R272, R273, R277, R278, R280). -/
def Obligations.HeadLinkEventsAct : Prop :=
  (∀ (s : State) (l : Fin 8) (body : List Nat), s.powered = true → s.runs 12 = true → s.linkUp l = true → exec (.statusFrame l body) s = .next (s.on (fun u => ((u.inc64 (Key.LinkSt.FRAMES_RX l)).each ((u.inc64 (Key.LinkSt.FRAMES_RX l)).linkHeads l) (fun u h => u.headStatus h (16 * u.rd (Key.Head.PORT h)) body)).showGates))) ∧
  (∀ (s : State) (l : Fin 8) (body : List Nat), s.powered = true → s.runs 12 = true → s.linkUp l = true → exec (.nozzleFrame l body) s = .next (s.on (fun u => u.linkNozzle l body))) ∧
  (∀ (s : State) (l : Fin 8) (body : List Nat), s.powered = true → s.runs 12 = true → s.linkUp l = true → exec (.wackFrame l body) s = .next (s.on (fun u => u.linkWack l body))) ∧
  (∀ (s : State) (l : Fin 8) (body : List Nat), s.powered = true → s.runs 12 = true → s.linkUp l = true → exec (.ctrlRsp l body) s = .next (s.on (fun u => u.ctrlDone l body))) ∧
  (∀ (s : State) (l : Fin 8) (depth : Nat) (ports : Nat), s.powered = true → s.runs 12 = true → 3 ≤ s.rd (Key.Link.STATE l) → exec (.linkHeartbeat l depth ports) s = .next (s.on (fun u => ((u.wr (Key.Link.DEPTH l) depth).wr (Key.Link.PORTS l) (ports % 16)).modLink l (fun q => { q with heardAt := u.clk })))) ∧
  (∀ (s : State) (l : Fin 8) (depth : Nat) (ports : Nat), s.powered = true → s.runs 12 = true → s.rd (Key.Link.STATE l) = 2 → (s.hlink l).trained = true → exec (.linkHeartbeat l depth ports) s = .next (s.on (fun u => (((u.wr (Key.Link.DEPTH l) depth).wr (Key.Link.PORTS l) (ports % 16)).modLink l (fun q => { q with heardAt := u.clk })).linkRise l))) ∧
  (∀ (s : State) (l : Fin 8), s.powered = true → s.runs 12 = true → s.linkUp l = true → (s.hlink l).heardAt + 40000 ≤ s.clk → exec (.linkHeartbeatTimeout l) s = .next (s.on (fun u => (u.linkFall l 1).laneStage (u.rd (Key.Link.LANE l)) 1))) ∧
  (∀ (s : State) (l : Fin 8), s.powered = true → s.runs 12 = true → (s.linkUp l = true ∨ (s.hlink l).trained = true) → exec (.linkHeartbeatSend l) s = .next (s.on (fun u => u.emit (.link l 0x101 [1, 0, 0])))) ∧
  (∀ (s : State) (l : Fin 8) (kind : Fin 4), s.powered = true → s.runs 12 = true → s.linkUp l = true → exec (.malformedLinkFrame l kind) s = .next (s.on (fun u => u.linkBad l kind))) ∧
  (∀ (s : State) (l : Fin 8) (t : Nat), s.powered = true → s.runs 12 = true → (s.hlink l).ctrlAt = some t → t + 10000000 ≤ s.clk → exec (.ctrlTimeout l) s = .next (s.on (fun u => (u.wr (Key.LinkSt.CTRL_STATUS l) 0xFFFF).modLink l (fun q => { q with ctrlAt := none })))) ∧
  (∀ (s : State) (h : Fin 32) (code : Fin 4096), s.powered = true → s.runs 12 = true → s.rd (Key.HeadTemp.TEMP_SRC h) ≠ 0xFF → exec (.headTempReading h code) s = .next (s.on (fun u => u.headTemp h code))) ∧
  (∀ (s : State) (h : Fin 32) (code : Fin 4096), s.powered = true → s.runs 12 = true → s.rd (Key.HeadTemp.TEMP_SRC h) = 0xFF → exec (.headTempReading h code) s = .next (s.on (fun u => (((u.wrI (Key.HeadTemp.TEMP h) 0).wr (Key.HeadTemp.TSTATE h) 0).modHead h (fun q => { q with sensorLost := false })).showGates))) ∧
  (∀ (s : State) (n : Fin 12) (level : Bool), s.powered = true → exec (.gateInputChange n level) s = .next (s.on (fun u => u.gateInput n level))) ∧
  (∀ (s : State) (n : Fin 12) (level : Bool), s.powered = false → exec (.gateInputChange n level) s = .next (s.on (fun u => { u with pads := { u.pads with gate := putBit u.pads.gate n level } })))

/-- An axis update, its PWM period and its timers act. A trigger edge that the axis has not seen runs its update; a PWM period and the bus readings act;
an in-position timeout is a fault; an axis at rest goes to its holding current after HOLD_DELAY; a bus voltage out of its range is a fault and one
that returns clears it. Commands: AXIS_UPDATE, PWM_PERIOD, INPOS_TIMEOUT, HOLD_DELAY_EXPIRY, VBUS_FAULT, VBUS_RETURN. Rests on: 09_motion_axes.md
(R286, R291, R299, R300, R301, R311). -/
def Obligations.AxisEventsAct : Prop :=
  (∀ (s : State) (a : Fin 8) (ok : Bool), s.powered = true → s.rd (Key.Trig.EDGES (s.rd (Key.Axis.TRIGGER a))) ≠ (s.axis a).seen → s.runs 13 = true → exec (.axisUpdate a ok) s = .next (s.on (fun u => u.axUpdate a ok))) ∧
  (∀ (s : State) (a : Fin 8) (codes : List Nat), s.powered = true → s.runs 13 = true → (s.busCodes (s.rd (Key.AxPwm.BUS a)) codes).axState a = 0 → exec (.pwmPeriod a codes) s = .next (s.on (fun u => ((u.busCodes (u.rd (Key.AxPwm.BUS a)) codes).wrBit (Key.Axis.FLAGS a) 4 false).modAxis a (fun x => { x with high := [0, 0, 0, 0] })))) ∧
  (∀ (s : State) (a : Fin 8) (codes : List Nat), s.powered = true → s.runs 13 = true → (s.busCodes (s.rd (Key.AxPwm.BUS a)) codes).axState a ≠ 0 → exec (.pwmPeriod a codes) s = .next (s.on (fun u => u.axPwm a codes))) ∧
  (∀ (s : State) (a : Fin 8) (t : Nat), s.powered = true → s.runs 13 = true → (s.axis a).landedAt = some t → s.axState a = 2 → s.rd (Key.AxMove.INPOS_TIMEOUT a) ≠ 0 → t + s.rd (Key.AxMove.INPOS_TIMEOUT a) * 1000000 ≤ s.clk → exec (.inposTimeout a) s = .next (s.on (fun u => ((u.setAxCause a 8).axLanded a false).faultNow 0x43 5 a))) ∧
  (∀ (s : State) (a : Fin 8), s.powered = true → s.runs 13 = true → s.rd (Key.Axis.DRIVE a) = 0 → (s.axis a).visV = 0 → (s.axis a).restAt + s.rd (Key.AxPwm.HOLD_DELAY a) * 1000000 ≤ s.clk → exec (.holdDelayExpiry a) s = .next (s.on (fun u => u.modAxis a (fun x => { x with holding := true })))) ∧
  (∀ (s : State) (b : Fin 2) (codes : List Nat), s.powered = true → s.runs 13 = true → (s.busCodes b codes).rd (Key.Bus.VBUS b) < (s.busCodes b codes).rd (Key.Bus.VBUS_MIN b) → exec (.vbusFault b codes) s = .next (s.on (fun u => (u.busCodes b codes).faultNow 0x44 11 b))) ∧
  (∀ (s : State) (b : Fin 2) (codes : List Nat), s.powered = true → s.runs 13 = true → (s.busCodes b codes).rd (Key.Bus.VBUS_MIN b) ≤ (s.busCodes b codes).rd (Key.Bus.VBUS b) → (s.busCodes b codes).rd (Key.Bus.VBUS_MAX b) < (s.busCodes b codes).rd (Key.Bus.VBUS b) → exec (.vbusFault b codes) s = .next (s.on (fun u => (u.busCodes b codes).faultNow 0x45 11 b))) ∧
  (∀ (s : State) (b : Fin 2) (codes : List Nat), s.powered = true → s.runs 13 = true → exec (.vbusReturn b codes) s = .next (s.on (fun u => u.busReturn b codes)))

/-- Packets, lines, frames, timeouts and records of the camera pipeline act. On an enabled CSI port frame start, lines, frame end and packet errors act;
an open frame whose timeout has passed closes; the line port grants a line; a closed and emptied frame gives its record; skew calibrations are counted
and ultra-low-power states shown. Commands: FRAME_START, CSI_LINE, FRAME_END, CSI_PACKET, FRAME_TIMEOUT, LINE_GRANT, FRAME_RECORD, SKEW_CALIBRATION,
ULPS. Rests on: 10_camera_pipeline.md (R313, R316, R318, R319, R320, R321, R322, R332). -/
def Obligations.CameraEventsAct : Prop :=
  (∀ (s : State) (p : Fin 2) (vc : Fin 16) (num : Fin 65536) (ecc : Bool), s.powered = true → s.csiOn p = true → exec (.frameStart p vc num ecc) s = .next (s.on (fun u => u.frameStart p vc num ecc))) ∧
  (∀ (s : State) (p : Fin 2) (vc : Fin 16) (dt : Fin 64) (d : List Nat) (crcOk : Bool) (ecc : Bool), s.powered = true → s.csiOn p = true → exec (.csiLine p vc dt d crcOk ecc) s = .next (s.on (fun u => u.csiLine p vc dt d crcOk ecc))) ∧
  (∀ (s : State) (p : Fin 2) (vc : Fin 16) (ecc : Bool), s.powered = true → s.csiOn p = true → exec (.frameEnd p vc ecc) s = .next (s.on (fun u => u.frameEnd p vc ecc))) ∧
  (∀ (s : State) (p : Fin 2) (vc : Fin 16) (dt : Fin 64) (ecc : Fin 3) (crcOk : Bool), s.powered = true → s.csiOn p = true → exec (.csiPacket p vc dt ecc false crcOk) s = .next (s.on (fun u => (u.inc (Key.Csi.SOT_ERRORS p)).csiError p))) ∧
  (∀ (s : State) (p : Fin 2) (vc : Fin 16) (dt : Fin 64) (ecc : Fin 3) (crcOk : Bool), s.powered = true → s.csiOn p = true → exec (.csiPacket p vc dt ecc true crcOk) s = .next (s.on (fun u => u.csiPacket p vc dt ecc true crcOk))) ∧
  (∀ (s : State) (k : Fin 16) (f : CamFrame), s.powered = true → s.openFrame k = some f → s.rd (Key.Ctx.FRAME_TIMEOUT k) ≠ 0 → f.openAt + 1000 * s.rd (Key.Ctx.FRAME_TIMEOUT k) ≤ s.clk → exec (.frameTimeout k) s = .next (s.on (fun u => (u.closeFrame k [4]).wr (Key.CtxSt.STATE k) 1))) ∧
  (∀ (s : State) (ok : Bool) (k : Nat), s.powered = true → s.cam.busyUntil ≤ s.clk → s.runs 14 = true → s.grantTo = some k → (s.ctx k).fifo ≠ [] → exec (.lineGrant ok) s = .next (s.on (fun u => u.lineGrant ok))) ∧
  (∀ (s : State) (k : Fin 16) (f : CamFrame) (rest : List CamFrame), s.powered = true → (s.ctx k).frames = f :: rest → f.closed = true → (s.ctx k).fifo.any (fun e => decide (e.1 = f.seq)) = false → exec (.frameRecord k) s = .next (s.on (fun u => u.frameRecord k))) ∧
  (∀ (s : State) (p : Fin 2), s.powered = true → s.rdB (Key.Csi.ENABLE p) = true → s.runs 14 = true → exec (.skewCalibration p) s = .next (s.on (fun u => u.inc (Key.Csi.DESKEWS p)))) ∧
  (∀ (s : State) (p : Fin 2) (enter : Bool), s.powered = true → s.rdB (Key.Csi.ENABLE p) = true → s.runs 14 = true → exec (.ulps p enter) s = .next (s.on (fun u => u.wr (Key.Csi.STATE p) (if enter then 3 else 1))))

/-- Lane bring-up, lane faults, the checker, captures, delays, SYNC and trigger edges act. Probe, lock, capability exchange, the timeouts of bring-up,
loss of lock, a lane PLL and the checker act on a lane in the stage named; the end of ADJ_TICKS, a capture event, a delay request sent or unanswered,
a SYNC sent and the edge of a trigger act on the timebase. Commands: DETECT_PROBE, SYMBOL_LOCK, TRAIN_TIMEOUT, CAP, CAPABILITY_TIMEOUT, LOSS_OF_LOCK,
SINGLE_LANE_TIMEOUT, LANE_PLL, CHECKER_LOCK, CHECKER_LOCK_LOSS, ADJ_TICKS_EXPIRY, CAPTURE_EVENT, DELAY_REQ_SEND, DELAY_RSP_TIMEOUT, SYNC_SEND,
TRIGGER_EDGE. Rests on: 11_serial_lanes.md (R341, R342, R344, R346, R354, R355); 12_network_time.md (R359, R361, R367, R368, R370, R371). -/
def Obligations.LaneAndTimeEventsAct : Prop :=
  (∀ (s : State) (l : Fin 16), s.powered = true → s.laneRefresh.rd (Key.Lane.STAGE l) = 1 → exec (.detectProbe l true) s = .next (s.on (fun u => ((u.laneRefresh.laneStage l 2).eqApply l).userStage l))) ∧
  (∀ (s : State) (l : Fin 16) (marks : List Nat), s.powered = true → s.rd (Key.Lane.STAGE l) = 2 → s.lockFound l marks = true → exec (.symbolLock ⟨l, marks⟩) s = .next (s.on (fun u => if (u.laneUser l).1 = 2 then u.laneStage l 4 else ((u.laneStage l 3).userStage l).sendCap l))) ∧
  (∀ (s : State) (l : Fin 16), s.powered = true → s.rd (Key.Lane.STAGE l) = 2 → (s.laneUser l).1 ≠ 2 → (s.lane l).since + 20000000 ≤ s.clk → exec (.trainTimeout l) s = .next (s.on (fun u => ((u.inc (Key.LaneCnt.TRAIN_FAILS l)).laneStage l 1).userStage l))) ∧
  (∀ (s : State) (l : Fin 16) (d1 : Nat) (d2 : Nat) (d3 : Nat) (skewOk : Bool), s.powered = true → s.rd (Key.Lane.STAGE l) = 3 → s.capGood l d1 d2 = false → exec (.capSet l d1 d2 d3 skewOk) s = .next (s.on (fun u => (u.inc (Key.LaneCnt.CAP_MISMATCHES l)).modLane l (fun q => { q with caps := 0, seen := false, sent := 0 })))) ∧
  (∀ (s : State) (l : Fin 16) (d1 : Nat) (d2 : Nat) (d3 : Nat) (skewOk : Bool), s.powered = true → s.rd (Key.Lane.STAGE l) = 3 → s.capGood l d1 d2 = true → exec (.capSet l d1 d2 d3 skewOk) s = .next (s.on (fun u => u.capIn l d1 d2 d3 skewOk))) ∧
  (∀ (s : State) (l : Fin 16), s.powered = true → s.rd (Key.Lane.STAGE l) = 3 → (s.lane l).since + 4000000 ≤ s.clk → exec (.capabilityTimeout l) s = .next (s.on (fun u => ((u.inc (Key.LaneCnt.TRAIN_FAILS l)).laneStage l 1).userStage l))) ∧
  (∀ (s : State) (l : Fin 16) (errs : List Nat), s.powered = true → s.rd (Key.Lane.STAGE l) = 3 → s.lockGone l errs = true → exec (.lossOfLock l errs none) s = .next (s.on (fun u => (u.inc (Key.LaneCnt.LOCK_LOSSES l)).laneLost l))) ∧
  (∀ (s : State) (l : Fin 16) (errs : List Nat) (cut : Option Frame), s.powered = true → s.rd (Key.Lane.STAGE l) = 4 → s.lockGone l errs = false → exec (.lossOfLock l errs cut) s = .next (s.on (fun u => u.add (Key.LaneCnt.CODE_ERRORS l) 32 errs.length))) ∧
  (∀ (s : State) (l : Fin 16) (errs : List Nat) (f : Frame) (p : Fin 2), s.powered = true → s.rd (Key.Lane.STAGE l) = 4 → s.lockGone l errs = true → s.laneUser l = (1, p.val) → exec (.lossOfLock l errs (some f)) s = .next (s.on (fun u => (((u.add (Key.LaneCnt.CODE_ERRORS l) 32 errs.length).inc (Key.LaneCnt.LOCK_LOSSES l)).receive p { f with broken := true } (fun u _ _ => u)).laneLost l))) ∧
  (∀ (s : State) (p : Fin 2) (t : Nat), s.powered = true → (s.port p).firstAt = some t → t + 4000000 ≤ s.clk → (s.port p).trained = false → exec (.singleLaneTimeout p) s = .next (s.on (fun u => u.singleLane p))) ∧
  (∀ (s : State) (g : Fin 4) (fam : Fin 4), s.powered = true → exec (.lanePll g fam) s = .next (s.on (fun u => (u.faultNow 0x54 7 (4 * g)).each (((List.range 4).map (fun x => 4 * g.val + x)).filter (fun l => decide (2 ≤ (u.faultNow 0x54 7 (4 * g)).rd (Key.Lane.STAGE l) ∧ rateFamily ((u.faultNow 0x54 7 (4 * g)).laneRate l) = fam))) (fun u l => if u.rd (Key.Lane.STAGE l) = 5 then (match (u.testOver l).laneUser l with | (0, _) => u.testOver l | (2, _) => (u.testOver l).macTrain l | _ => (u.testOver l).laneStage l 1) else u.laneLost l)))) ∧
  (∀ (s : State) (l : Fin 16) (bits : List Bool), s.powered = true → s.rd (Key.Lane.STAGE l) = 5 → s.rdB (Key.LaneTest.TEST_LOCK l) = false → s.testLocks l bits = true → exec (.checkerLock ⟨l, bits⟩) s = .next (s.on (fun u => (((u.wrB (Key.LaneTest.TEST_LOCK l) true).wr (Key.LaneTest.BITS l) 0).wr (Key.LaneTest.BIT_ERRORS l) 0).modLane l (fun q => { q with lockAt := u.clk })))) ∧
  (∀ (s : State) (l : Fin 16) (errs : List Nat), s.powered = true → s.rd (Key.Lane.STAGE l) = 5 → s.rdB (Key.LaneTest.TEST_LOCK l) = true → s.rd (Key.LaneTest.LOOPBACK l) ≠ 1 → crowded 32 64 errs = true → exec (.checkerLockLoss l errs) s = .next (s.on (fun u => ((u.add (Key.LaneTest.BIT_ERRORS l) 64 errs.length).wr (Key.LaneTest.BITS l) ((u.add (Key.LaneTest.BIT_ERRORS l) 64 errs.length).bitsSince l)).wrB (Key.LaneTest.TEST_LOCK l) false))) ∧
  (∀ (s : State) (l : Fin 16) (errs : List Nat), s.powered = true → s.rd (Key.Lane.STAGE l) = 5 → s.rdB (Key.LaneTest.TEST_LOCK l) = true → s.rd (Key.LaneTest.LOOPBACK l) ≠ 1 → crowded 32 64 errs = false → exec (.checkerLockLoss l errs) s = .next (s.on (fun u => u.add (Key.LaneTest.BIT_ERRORS l) 64 errs.length))) ∧
  (∀ (s : State), s.powered = true → s.rd Key.Inc.ADJ_TICKS = 0 → exec (.adjTicksExpiry) s = .next (s.on (fun u => u.wrBit Key.TimeSt.TIME_STATUS 2 false))) ∧
  (∀ (s : State) (pin : Fin 32) (rising : Bool), s.powered = true → s.runs 6 = true → exec (.captureEvent pin rising) s = .next (s.on (fun u => u.each (List.range 32) (fun u n => u.when (decide (u.rd (Key.Cap.SOURCE n) = 0x20 + pin)) (fun u => u.captureEdge n rising))))) ∧
  (∀ (s : State) (p : Fin 2), s.powered = true → s.portUp p = true → s.runs 6 = true → s.rd (Key.Port.NEIGHBOUR p) ≠ 0 → s.address ≠ 0 → exec (.delayReqSend p) s = .next (s.on (fun u => (u.modPort p (fun r => { r with reqSeq := ((u.port p).reqSeq + 1) % 65536 })).originateAt p (u.rd (Key.Port.NEIGHBOUR p)) 7 false 0 (le 2 (u.port p).reqSeq ++ [p.val, 0, 0, 0, 0, 0])))) ∧
  (∀ (s : State) (p : Fin 2) (q : Nat) (t : Int), s.powered = true → (s.port p).asked = some (q, t) → (s.port p).askedAt + 10000 ≤ s.clk → exec (.delayRspTimeout p) s = .next (s.on (fun u => (u.modPort p (fun r => { r with asked := none })).inc Key.Delay.DELAY_FAILS))) ∧
  (∀ (s : State), s.powered = true → s.rdB Key.Sync.SYNC_MASTER = true → s.timeRuns = true → exec (.syncSend) s = .next (s.on (fun u => u.syncSend))) ∧
  (∀ (s : State) (n : Fin 32) (t : Nat), s.powered = true → s.runs 6 = true → s.edgeInstant n = some t → exec (.triggerEdge n) s = .next (s.on (fun u => ((u.edgeAt n t).dmaEdge n).when (decide (u.rd Key.Wake.WAKE_TRIGGER = n)) (fun u => u.wakeEdge 9))))

/-- Requests, issue, data, alerts, refresh, repairs, patterns, DMA hand-over, fetch, bursts and ends act. Under the conditions named, a request enters the
controller's queue, is issued, and its data return or freeze the controller; ALERT, the refresh interval, the MR4 poll, the oscillators, a repair and
a pattern act; a DMA channel takes its trigger, its shadow and its descriptors, moves bursts, and ends a transfer. Commands: DRAM_REQUEST, DRAM_ISSUE,
DRAM_READ_DATA, DRAM_ALERT, REFRESH_INTERVAL, MR4_POLL, OSC_RUN, PPR_COMPLETE, PAT_COMPLETE, HAND_OVER, SHADOW_TAKE, DESCRIPTOR_FETCH,
TRANSFER_COMPLETE, LATE_ERROR_RESPONSE, DMA_BURST. Rests on: 00_scope.md (R4); 01_architecture.md (R14); 02_object_dictionary.md (R47);
13_dram_controller.md (R383, R385, R386, R387, R388, R394, R396); 14_dma_engine.md (R408, R409, R411, R414, R415, R416). -/
def Obligations.DramAndDmaEventsAct : Prop :=
  (∀ (s : State) (master : Fin 256) (write : Bool) (addr : Nat) (len : Nat) (data : List Nat), s.powered = true → Sys.dramBase ≤ fullAddr addr → 0 < len → (s.busCheck master false write (fullAddr addr) (min len (64 - fullAddr addr % 64))).2 = true → ((s.busCheck master false write (fullAddr addr) (min len (64 - fullAddr addr % 64))).1.dch ((s.busCheck master false write (fullAddr addr) (min len (64 - fullAddr addr % 64))).1.dramPlace (fullAddr addr)).ch).queue.length < 64 → exec (.dramRequest master write addr len data) s = .next (s.on (fun u => u.dramRequest master write addr len data))) ∧
  (∀ (s : State) (ch : Fin 2) (ok : Bool), s.powered = true → s.dramServes = true → (s.dch ch).queue ≠ [] → exec (.dramIssue ch ok) s = .next (s.on (fun u => u.dramIssue ch ok))) ∧
  (∀ (s : State) (ch : Fin 2) (bad : Nat) (r : DramReq) (rest : List DramReq), s.powered = true → (s.dch ch).flight = r :: rest → r.void = false → Sys.lanesOf (Sys.maskAddrs (r.addr / 64 * 64) 64 bad ++ s.badStored (r.addr / 64 * 64) 64) = 0 → r.write = false → exec (.dramReadData ch bad) s = .next (s.on (fun u => (let v := ((u.modDch ch (fun d => { d with flight := rest })).inc64 Key.DmcCnt.READS).emit (.data r.master r.val); if rest.all (fun x => !x.write) then v.refreshOwed ch else v)))) ∧
  (∀ (s : State) (ch : Fin 2) (bad : Nat) (r : DramReq) (rest : List DramReq), s.powered = true → (s.dch ch).flight = r :: rest → r.void = false → Sys.lanesOf (Sys.maskAddrs (r.addr / 64 * 64) 64 bad ++ s.badStored (r.addr / 64 * 64) 64) = 0 → r.write = true → r.len < 64 → exec (.dramReadData ch bad) s = .next (s.on (fun u => (let v := (((u.modDch ch (fun d => { d with flight := rest })).inc64 Key.DmcCnt.READS).inc Key.DmcCnt.RMW).inc64 Key.DmcCnt.WRITES; if rest.all (fun x => !x.write) then v.refreshOwed ch else v)))) ∧
  (∀ (s : State) (ch : Fin 2) (bad : Nat) (r : DramReq) (rest : List DramReq), s.powered = true → (s.dch ch).flight = r :: rest → r.void = false → Sys.lanesOf (Sys.maskAddrs (r.addr / 64 * 64) 64 bad ++ s.badStored (r.addr / 64 * 64) 64) ≠ 0 → exec (.dramReadData ch bad) s = .next (s.on (fun u => (u.freezeAt 0x58 (if r.write then 2 else 1) r (Sys.lanesOf (Sys.maskAddrs (r.addr / 64 * 64) 64 bad ++ u.badStored (r.addr / 64 * 64) 64)) (if r.write then 2 else 0)).modDch ch (fun d => { d with flight := d.flight.drop 1 })))) ∧
  (∀ (s : State) (ch : Fin 2) (bad : Nat) (r : DramReq) (rest : List DramReq), s.powered = true → (s.dch ch).flight = r :: rest → r.void = true → exec (.dramReadData ch bad) s = .next (s.on (fun u => ((u.modDch ch (fun d => { d with flight := d.flight.drop 1 })).when (decide (Sys.lanesOf (Sys.maskAddrs (r.addr / 64 * 64) 64 bad ++ u.badStored (r.addr / 64 * 64) 64) ≠ 0)) (fun u => u.inc Key.DmcErr.FURTHER))))) ∧
  (∀ (s : State) (ch : Fin 2) (low : Bool), s.powered = true → exec (.dramAlert ch low) s = .next (s.on (fun u => u.dramAlert ch low))) ∧
  (∀ (s : State), s.powered = true → s.rd Key.DmcSt.STATE ≠ 0 → s.rd Key.DmcSt.STATE ≠ 4 → s.runs 1 = true → exec (.refreshInterval) s = .next (s.on (fun u => u.refreshDue))) ∧
  (∀ (s : State) (hot : Bool), s.powered = true → s.rd Key.DmcSt.STATE ≠ 0 → s.rd Key.DmcSt.STATE ≠ 4 → s.runs 1 = true → exec (.mr4Poll hot) s = .next (s.on (fun u => u.wr Key.DmcRef.TREFI (if hot then 1950 else 3900)))) ∧
  (∀ (s : State) (counts : List Nat), s.powered = true → s.rd Key.DmcSt.STATE = 2 → s.runs 1 = true → exec (.oscRun counts) s = .next (s.on (fun u => (counts.zip (List.range counts.length)).foldl (fun u (x : Nat × Nat) => if x.2 / 10 < u.rd Key.Dmc.CHANNELS ∧ x.2 % 10 / 5 < u.rd Key.Dmc.RANKS then u.oscLane x.2 x.1 else u) u))) ∧
  (∀ (s : State) (hard : Bool) (word : Nat) (verified : Bool), s.powered = true → s.dram.ppr = some (hard, word) → exec (.pprComplete false verified) s = .next (s.on (fun u => ({ u with dram := { u.dram with ppr := none } } : Sys).wr Key.Ppr.PPR_RESULT 1))) ∧
  (∀ (s : State) (hard : Bool) (word : Nat) (verified : Bool), s.powered = true → s.dram.ppr = some (hard, word) → exec (.pprComplete true verified) s = .next (s.on (fun u => u.pprEnd true verified))) ∧
  (∀ (s : State) (bits : Nat) (errs : Nat), s.powered = true → s.rdB Key.TPat.PAT_BUSY = true → exec (.patComplete bits errs) s = .next (s.on (fun u => u.patternEnd bits errs))) ∧
  (∀ (s : State) (d : Fin 32) (armed : Bool), s.powered = true → (s.dmaCh d).edge = some armed → exec (.handOver d) s = .next (s.on (fun u => u.handOver d))) ∧
  (∀ (s : State) (d : Fin 32), s.powered = true → ((s.handOver d).dmaState d = 1 ∨ (s.handOver d).dmaState d = 2) → (s.handOver d).rdB (Key.DmaSh.ARM d) = true → (s.handOver d).dmaReads d = none → (s.handOver d).dmaHeld d = false → ((s.handOver d).dmaCh d).jobs.any (fun j => j.stop) = false → exec (.shadowTake d) s = .next (s.on (fun u => (u.handOver d).takeShadow d true))) ∧
  (∀ (s : State) (d : Fin 32) (ok : Bool), s.powered = true → s.rd (Key.Dma.MODE d) = 1 → s.dmaState d ≠ 0 → s.dmaState d ≠ 4 → s.rdB (Key.DmaSh.ARM d) = false → s.rd (Key.DmaRing.RING_LEN d) ≠ 0 → (s.dmaCh d).jobs = [] → s.rd (Key.DmaRing.HEAD d) % s.rd (Key.DmaRing.RING_LEN d) ≠ s.rd (Key.DmaRing.TAIL d) → exec (.descriptorFetch d ok) s = .next (s.on (fun u => u.descriptorFetch d ok))) ∧
  (∀ (s : State) (d : Fin 32) (j : DmaJob) (rest : List DmaJob), s.powered = true → (s.dmaCh d).jobs = j :: rest → j.rest = 0 → j.out = [] → exec (.transferComplete d) s = .next (s.on (fun u => (u.handOver d).completeHead d))) ∧
  (∀ (s : State) (d : Fin 32) (addr : Nat), s.powered = true → (s.dmaCh d).unfenced = true → s.gath.captured = true → exec (.lateErrorResponse d addr) s = .next (s.on (fun u => (u.wrBit (Key.Dma.FLAGS d) 2 true).faultNow 0x63 8 d))) ∧
  (∀ (s : State) (d : Fin 32) (addr : Nat), s.powered = true → (s.dmaCh d).unfenced = true → s.gath.captured = false → exec (.lateErrorResponse d addr) s = .next (s.on (fun u => (let v := u.wrBit (Key.Dma.FLAGS d) 2 true; ({ ((v.wr Key.Gath.ERR_ADDR addr).wr Key.Gath.ERR_MASTER (0x10 + d)) with gath := { v.gath with captured := true, addrRead := false, masterRead := false } } : Sys).faultNow 0x63 8 d)))) ∧
  (∀ (s : State) (bad : Nat), s.powered = true → exec (.dmaBurst bad) s = .next (burnt s ((fun u => (let v := u.dmaBurst (Sys.dmaAccess s.otpWord) bad; if decide (u.eng.waits.length < v.eng.waits.length) || [0, 1].any (fun c => decide (max 64 (u.dch c).queue.length < (v.dch c).queue.length)) then u else v)) s.toSys)))

/-- Fabric accesses, AP control, caches, fences, the PLIC, image checks, MRAM and the debug port act. A fabric access of a master that may issue it, a
write of AP_RUN or of a remote PMP register by the supervisor, the cache operations and fences, a PLIC claim and completion, the end of an image check
and of an MRAM command, a debug module access and an edge of TCK have their effect. Commands: FABRIC_ACCESS, AP_RUN_WRITE, REMOTE_PMP_WRITE,
CBO_CLEAN, CBO_FLUSH, CBO_INVAL, FENCE_W_O, FENCE_I_R, FENCE_I, PLIC_CLAIM, PLIC_COMPLETE, IMAGE_CHECK_COMPLETE, MRAM_COMMAND_COMPLETE,
DEBUG_MODULE_ACCESS, TCK_EDGE. Rests on: 01_architecture.md (R15); 15_compute_and_protection.md (R423, R425, R428, R429, R432, R437, R439, R443, R445,
R447). -/
def Obligations.CoreEventsAct : Prop :=
  (∀ (s : State) (m : Fin 256) (machine : Bool) (use : BusUse) (size : Nat) (addr : Nat) (v : Nat) (reqOk : Bool) (bad : Nat), s.powered = true → (4 < m.val ∨ s.hartIssues m use size addr = true) → s.mustHold (.access m machine use size addr v reqOk bad) = false → exec (.fabricAccess m machine use size addr v reqOk bad) s = .next (burnt s ((fun u => u.fabricAccess s.otpWord m machine use size addr v reqOk bad) s.toSys))) ∧
  (∀ (s : State) (m : Fin 256) (machine : Bool) (use : BusUse) (size : Nat) (addr : Nat) (v : Nat) (reqOk : Bool) (bad : Nat), s.powered = true → (4 < m.val ∨ s.hartIssues m use size addr = true) → s.mustHold (.access m machine use size addr v reqOk bad) = true → exec (.fabricAccess m machine use size addr v reqOk bad) s = .next (burnt s ((fun u => u.modCore (fun c => { c with held := c.held ++ [.access m machine use size addr v reqOk bad] })) s.toSys))) ∧
  (∀ (s : State) (hart : Fin 5) (machine : Bool) (v : Nat), s.powered = true → fromSv hart machine = true → exec (.apRunWrite hart machine v) s = .next (s.on (fun u => u.setApRun v))) ∧
  (∀ (s : State) (hart : Fin 5) (machine : Bool) (h : Fin 4) (off : Fin 256) (v : Nat), s.powered = true → fromSv hart machine = true → off.val = 0 → exec (.remotePmpWrite hart machine h off v) s = .next (s.on (fun u => u.setPmp h 0 v))) ∧
  (∀ (s : State) (hart : Fin 5) (machine : Bool) (h : Fin 4) (off : Fin 256) (v : Nat), s.powered = true → fromSv hart machine = true → off.val = 8 → exec (.remotePmpWrite hart machine h off v) s = .next (s.on (fun u => u.setPmp h 1 v))) ∧
  (∀ (s : State) (hart : Fin 5) (machine : Bool) (h : Fin 4) (off : Fin 256) (v : Nat), s.powered = true → fromSv hart machine = true → 0x80 ≤ off.val → off.val % 8 = 0 → exec (.remotePmpWrite hart machine h off v) s = .next (s.on (fun u => u.setPmp h (2 + (off.val - 0x80) / 8) v))) ∧
  (∀ (s : State) (h : Fin 4) (addr : Nat), s.powered = true → s.hartOut h = true → s.mustHold (.clean h addr) = false → exec (.cboClean h addr) s = .next (burnt s ((fun u => ((u.drainStores h).lineAt h (fullAddr addr)).elim (u.drainStores h) (u.drainStores h).writeBack) s.toSys))) ∧
  (∀ (s : State) (h : Fin 4) (addr : Nat), s.powered = true → s.hartOut h = true → s.mustHold (.clean h addr) = true → exec (.cboClean h addr) s = .next (burnt s ((fun u => u.modCore (fun c => { c with held := c.held ++ [.clean h addr] })) s.toSys))) ∧
  (∀ (s : State) (h : Fin 4) (addr : Nat), s.powered = true → s.hartOut h = true → s.mustHold (.flush h addr) = false → exec (.cboFlush h addr) s = .next (burnt s ((fun u => ((u.drainStores h).cleanLine (fullAddr addr)).dropLine (fullAddr addr)) s.toSys))) ∧
  (∀ (s : State) (h : Fin 4) (addr : Nat), s.powered = true → s.hartOut h = true → s.mustHold (.flush h addr) = true → exec (.cboFlush h addr) s = .next (burnt s ((fun u => u.modCore (fun c => { c with held := c.held ++ [.flush h addr] })) s.toSys))) ∧
  (∀ (s : State) (h : Fin 4) (mode : Fin 4) (addr : Nat), s.powered = true → s.hartOut h = true → s.mustHold (.inval h mode addr) = false → s.cbie h mode = 1 → exec (.cboInval h mode addr) s = .next (burnt s ((fun u => ((u.drainStores h).cleanLine (fullAddr addr)).dropLine (fullAddr addr)) s.toSys))) ∧
  (∀ (s : State) (h : Fin 4) (mode : Fin 4) (addr : Nat), s.powered = true → s.hartOut h = true → s.mustHold (.inval h mode addr) = false → s.cbie h mode ≠ 0 → s.cbie h mode ≠ 1 → exec (.cboInval h mode addr) s = .next (burnt s ((fun u => (u.drainStores h).dropLine (fullAddr addr)) s.toSys))) ∧
  (∀ (s : State) (h : Fin 4) (mode : Fin 4) (addr : Nat), s.powered = true → s.hartOut h = true → s.mustHold (.inval h mode addr) = true → exec (.cboInval h mode addr) s = .next (burnt s ((fun u => u.modCore (fun c => { c with held := c.held ++ [.inval h mode addr] })) s.toSys))) ∧
  (∀ (s : State) (h : Fin 5), s.powered = true → s.hartOut h = true → s.mustHold (.fenceWO h) = false → exec (.fenceWO h) s = .next (burnt s ((fun u => u.drainStores h) s.toSys))) ∧
  (∀ (s : State) (h : Fin 5), s.powered = true → s.hartOut h = true → s.mustHold (.fenceWO h) = true → exec (.fenceWO h) s = .next (burnt s ((fun u => u.modCore (fun c => { c with held := c.held ++ [.fenceWO h] })) s.toSys))) ∧
  (∀ (s : State) (h : Fin 4), s.powered = true → s.hartOut h = true → s.mustHold (.fenceIR h) = false → exec (.fenceIR h) s = .next (burnt s ((fun u => { u with eng := { u.eng with waits := u.eng.waits.map (fun q => { q with fenced := q.fenced || Sys.readWaits h q }) } }) s.toSys))) ∧
  (∀ (s : State) (h : Fin 4), s.powered = true → s.hartOut h = true → s.mustHold (.fenceIR h) = true → exec (.fenceIR h) s = .next (burnt s ((fun u => u.modCore (fun c => { c with held := c.held ++ [.fenceIR h] })) s.toSys))) ∧
  (∀ (s : State) (h : Fin 5), s.powered = true → s.hartOut h = true → s.mustHold (.fenceI h) = false → exec (.fenceI h) s = .next (burnt s ((fun u => (u.drainStores h).modCore (fun c => { c with fetched := c.fetched.filter (fun e => decide (e.1 ≠ h.val)) })) s.toSys))) ∧
  (∀ (s : State) (h : Fin 5), s.powered = true → s.hartOut h = true → s.mustHold (.fenceI h) = true → exec (.fenceI h) s = .next (burnt s ((fun u => u.modCore (fun c => { c with held := c.held ++ [.fenceI h] })) s.toSys))) ∧
  (∀ (s : State) (ctx : Fin 9), s.powered = true → s.plicBest ctx ≠ 0 → exec (.plicClaim ctx) s = .next (s.on (fun u => ({ u with plic := { u.plic with pending := u.plic.pending.erase (u.plicBest ctx), claimed := u.plic.claimed ++ [(u.plicBest ctx, ctx.val)] } } : Sys).emit (.data (Sys.hartMaster (Sys.ctxHart ctx)) (u.plicBest ctx))))) ∧
  (∀ (s : State) (ctx : Fin 9) (src : Fin 128), s.powered = true → exec (.plicComplete ctx src) s = .next (s.on (fun u => { u with plic := { u.plic with claimed := u.plic.claimed.erase (src.val, ctx.val) } }))) ∧
  (∀ (s : State) (slot : Nat), s.powered = true → s.core.check = some slot → exec (.imageCheckComplete) s = .next (s.on (fun u => u.imageDone s.otpWord))) ∧
  (∀ (s : State) (cmd : Nat) (fail : Option Nat), s.powered = true → s.core.mram = some cmd → exec (.mramCommandComplete fail) s = .next (s.on (fun u => u.mramDone fail))) ∧
  (∀ (s : State) (write : Bool) (addr : Fin 128) (data : Nat), s.powered = true → exec (.debugModuleAccess write addr data) s = .next (s.on (fun u => ((u.dmi s.otpWord write addr data).1.modTap (fun t => { t with dmiAddr := addr.val, dmiData := (u.dmi s.otpWord write addr data).2.1, dmiStat := (u.dmi s.otpWord write addr data).2.2 })).emit (.data 0x46 ((u.dmi s.otpWord write addr data).1.modTap (fun t => { t with dmiAddr := addr.val, dmiData := (u.dmi s.otpWord write addr data).2.1, dmiStat := (u.dmi s.otpWord write addr data).2.2 })).core.tap.dmiData)))) ∧
  (∀ (s : State) (rising : Bool) (tms : Bool) (tdi : Bool) (pins : List Bool), s.pw.state ≠ .off → s.pw.state ≠ .hold → s.pw.state ≠ .holdEntry → exec (.tckEdge true rising tms tdi pins) s = .next (s.on (fun u => if rising then u.tckRise tms tdi pins else u.tckFall s.otpWord))) ∧
  (∀ (s : State) (rising : Bool) (tms : Bool) (tdi : Bool) (pins : List Bool), s.pw.state ≠ .off → s.pw.state ≠ .hold → s.pw.state ≠ .holdEntry → exec (.tckEdge false rising tms tdi pins) s = .next (s.on (fun u => u.modTap (fun t => { t with state := 15, ir := 1 }))))

/-- Domains, wake, PLLs, NAP, HOLD, fault occurrences, merged reports, pins, temperature and the Sampler act. Under the conditions named, a domain that
has powered up is served, a wake event wakes, a PLL locks, a trial ends, NAP and HOLD are entered or abandoned, the wake timer and an idle domain act,
writes of the domain enables and of the clock sources act and let waiting requests go; a fault occurrence has its reaction, a merged report is sent or
forgotten, emission pins and die temperature are judged, and the Sampler ticks, writes its work area and clears. Commands: DOMAIN_POWERED, WAKE_EVENT,
PLL_LOCK, TRIAL_TIMEOUT, WFI, NAP_ENTRY_TIMEOUT, HOLD_ENTRY, WAKE_TIMER, DOMAIN_IDLE, FAULT_OCCURRENCE, REPORT_MERGE_EXPIRY, EMISSION_PIN, DIE_TEMP,
DIE_TEMP_CLEAR, SAMPLER_TICK, WORK_AREA_WRITE, SAMPLER_CLEAR_COMPLETE, DOMAIN_ENABLE_WRITE, CLOCK_SOURCE_WRITE. Rests on: 15_compute_and_protection.md
(R438); 16_power_and_wake.md (R455, R456, R457, R460, R464, R465, R468, R471, R472); 17_integrity_and_sampler.md (R486, R487, R493, R496, R498, R499,
R500, R501, R506). -/
def Obligations.PowerAndFaultEventsAct : Prop :=
  (∀ (s : State) (d : Fin 15), s.powered = true → s.pw.waking.testBit d = true → s.pw.state = .run → exec (.domainPowered d) s = .next (burnt s ((fun u => (u.domPowered d).replay s.otpWord) s.toSys))) ∧
  (∀ (s : State) (pins : Fin 16) (bad : Nat), (s.wakePins pins).waking ≠ 0 → (s.wakePins pins).pw.state = .nap → exec (.wakeEvent pins bad) s = .next (s.on (fun u => ((u.wakePins pins).napWake (u.wakePins pins).waking bad).replay s.otpWord))) ∧
  (∀ (s : State) (pins : Fin 16) (bad : Nat), (s.wakePins pins).waking ≠ 0 → (s.wakePins pins).pw.state ≠ .nap → exec (.wakeEvent pins bad) s = .next (s.on (fun u => ((u.wakePins pins).holdWake s.otpWord (u.wakePins pins).waking bad).replay s.otpWord))) ∧
  (∀ (s : State) (n : Fin 4), s.powered = true → s.dev ≠ .start → s.rdBit Key.Pll.PLL_ENABLE n = true → exec (.pllLock n) s = .next (burnt s ((fun u => (u.wrBit Key.Pll.PLL_LOCKED n true).replay s.otpWord) s.toSys))) ∧
  (∀ (s : State), s.powered = true → s.dev = .start → s.pw.state = .run → exec (.pllLock 0) s = .next (burnt s ((fun u => (((u.wrBit Key.Pll.PLL_ENABLE 0 true).wrBit Key.Pll.PLL_LOCKED 0 true).sourceWrite (((u.wrBit Key.Pll.PLL_ENABLE 0 true).wrBit Key.Pll.PLL_LOCKED 0 true).rd Key.Pll.SOURCE ||| 3)).replay s.otpWord) s.toSys))) ∧
  (∀ (s : State), s.powered = true → s.trialOver = true → exec (.trialTimeout) s = .next (s.on (fun u => u.flushRequests.trialReset s.otpWord))) ∧
  (∀ (s : State), s.powered = true → s.pw.napPending = true → s.pw.state = .run → exec (.wfi) s = .next (s.on (fun u => u.napEnter))) ∧
  (∀ (s : State), s.powered = true → s.pw.napPending = true → s.pw.napAt + 250000 ≤ s.core.mtime → exec (.napEntryTimeout) s = .next (s.on (fun u => { u.wr Key.PwrSt.RESULT 0x0805 with pw := { u.pw with napPending := false } }))) ∧
  (∀ (s : State), s.powered = true → s.pw.holdPending = true → s.pw.state = .run → exec (.holdEntry) s = .next (s.on (fun u => u.holdEnter))) ∧
  (∀ (s : State), (s.pw.state = .nap ∨ s.pw.state = .hold) → s.rdBit Key.Wake.ENABLE 4 = true → exec (.wakeTimer) s = .next (s.on (fun u => { u with pw := { u.pw with timerDone := true } }))) ∧
  (∀ (s : State) (d : Fin 15), s.powered = true → s.domainOn d = true → s.domainRests d = true → exec (.domainIdle d) s = .next (s.on (fun u => u.wrBit Key.Dom.CLOCKED d false))) ∧
  (∀ (s : State) (code : Fin 128) (kind : Fin 14) (inst : Nat) (t : Nat), s.powered = true → Sys.assignedCode code = true → exec (.faultOccurrence code kind inst t) s = .next (s.on (fun u => (if (u.occur code kind inst t).reaction code = 4 then (u.occur code kind inst t).enterFault code t else u.occur code kind inst t)))) ∧
  (∀ (s : State) (code : Fin 128) (m : Merge) (t : Nat), s.powered = true → (s.gath.merges.find? (fun m => decide (m.code = code.val ∧ m.since + 1000000 ≤ s.clk)) = some m) → m.merged = some t → exec (.reportMergeExpiry code) s = .next (s.on (fun u => u.report code t))) ∧
  (∀ (s : State) (code : Fin 128) (m : Merge), s.powered = true → (s.gath.merges.find? (fun m => decide (m.code = code.val ∧ m.since + 1000000 ≤ s.clk)) = some m) → m.merged = none → exec (.reportMergeExpiry code) s = .next (s.on (fun u => { u with gath := { u.gath with merges := u.gath.merges.filter (fun m => decide (m.code ≠ code.val)) } }))) ∧
  (∀ (s : State) (out : Fin 48) (level : Bool) (missed : Bool), s.powered = true → exec (.emissionPin out level missed) s = .next (s.on (fun u => u.emissionPin out level missed))) ∧
  (∀ (s : State) (t : Int), s.powered = true → s.dieLimit < t → s.pw.hot = false → exec (.dieTemp t) s = .next (s.on (fun u => ({ u with pw := { u.pw with hot := true } } : Sys).faultNow 0x6E 0 0))) ∧
  (∀ (s : State) (t : Int), s.powered = true → t < s.dieLimit - 80 → s.pw.hot = true → exec (.dieTempClear t) s = .next (s.on (fun u => ({ u with pw := { u.pw with hot := false } } : Sys).clearActive 0x6E 0 0))) ∧
  (∀ (s : State) (lin : List (Int × Int × Int)), s.powered = true → exec (.samplerTick lin) s = .next (s.on (fun u => u.smpTick lin))) ∧
  (∀ (s : State) (a : Bool) (b : Bool), s.powered = true → s.pw.state = .run → exec (.workAreaWrite a b) s = .next (s.on (fun u => u.modSmp (fun q => { q with workMinutes := u.rd Key.OpHours.OPERATING_HOURS, workResidue := q.residue, workOkA := a, workOkB := b })))) ∧
  (∀ (s : State), s.powered = true → s.smp.clearing = true → exec (.samplerClearComplete) s = .next (s.on (fun u => ({ u with mem := u.mem.filter (fun c => decide (c.1 < circulatingAt 0 ∨ circulatingAt 1024 ≤ c.1)) } : Sys).modSmp (fun q => { q with clearing := false, circulating := 0, next := 0 })))) ∧
  (∀ (s : State) (acc : Access) (v : Nat), v < 2 ^ 32 → s.accepts acc Key.Dom.ENABLE v {} = true → exec (.domainEnableWrite acc v) s = .next (burnt s (((((s.toSys.clocked Key.Dom.ENABLE).domWrite (v % 2 ^ 15)).counted acc (pairOf (keyIdx Key.Dom.ENABLE)) [(Key.Dom.ENABLE, BitVec.ofNat 64 (v % 2 ^ 15))]).answered acc Key.Dom.ENABLE v).replay s.otpWord))) ∧
  (∀ (s : State) (acc : Access) (v : Nat), v < 2 ^ 32 → s.accepts acc Key.Pll.SOURCE v {} = true → exec (.clockSourceWrite acc v) s = .next (burnt s ((((s.toSys.clocked Key.Pll.SOURCE).sourceWrite (v % 2 ^ 6)).answered acc Key.Pll.SOURCE v).replay s.otpWord)))

/-- Writes, low-word and split accesses, DOMAIN writes and reads of the error capture act. An OD write that the engine accepts is carried out; a low-word
window read and a read of the error capture that it takes are answered; the low word of an 8-byte entry is staged and its high word carries the write
out; a narrow entry takes its low word and ignores a zero high word; the address of a DOMAIN is staged and its length carries it out. Commands:
OD_WRITE, WINDOW_LOW_WORD_READ, ERR_CAPTURE_READ, WINDOW_SPLIT_WRITE, DOMAIN_ADDRESS_WRITE, DOMAIN_LENGTH_WRITE. Rests on: 02_object_dictionary.md
(R38, R48, R52); 17_integrity_and_sampler.md (R497). -/
def Obligations.AccessesAct : Prop :=
  (∀ (s : State) (acc : Access) (idx : Fin 65536) (sub : Fin 256) (v : Nat), s.accepts acc (idx * 256 + sub) v {} = true → exec (.odWrite acc idx sub (Sys.writeReq acc (idx * 256 + sub) v).size (Sys.writeReq acc (idx * 256 + sub) v).val) s = .next (s.afterWrite acc (idx * 256 + sub) v {})) ∧
  (∀ (s : State) (m : Master) (machine : Bool) (idx : Fin 65536) (sub : Fin 256), s.reads { acc := { who := .window m machine }, write := false, idx := idx, sub := sub, size := 4 } = true → exec (.windowLowWordRead m machine idx sub) s = .next (burnt s (s.readOut { acc := { who := .window m machine }, write := false, idx := idx, sub := sub, size := 4 }))) ∧
  (∀ (s : State) (who : Req) (master : Bool), s.reads (Sys.readReq who (if master then Key.Gath.ERR_MASTER else Key.Gath.ERR_ADDR)) = true → exec (.errCaptureRead who master) s = .next (burnt s (s.readOut (Sys.readReq who (if master then Key.Gath.ERR_MASTER else Key.Gath.ERR_ADDR))))) ∧
  (∀ (s : State) (acc : Access) (m : Master) (machine : Bool) (idx : Fin 65536) (sub : Fin 256) (word : Nat) (r : Dict.Row), acc.who = .window m machine → entryRow idx sub = some r → tySize r.ty = 8 → s.passes { acc := acc, write := true, idx := idx, sub := sub, size := 4, val := word % 2 ^ 32, high := false } r = true → exec (.windowSplitWrite acc false idx sub word) s = .next (burnt s (((s.toSys.clocked (idx * 256 + sub)).stageLow m (idx * 256 + sub) (word % 2 ^ 32)).dropSnap m))) ∧
  (∀ (s : State) (acc : Access) (m : Master) (machine : Bool) (idx : Fin 65536) (sub : Fin 256) (word : Nat) (r : Dict.Row) (low : Nat), acc.who = .window m machine → entryRow idx sub = some r → tySize r.ty = 8 → s.stagedLow m (idx * 256 + sub) = some low → s.accepts acc (idx * 256 + sub) (word % 2 ^ 32 * 2 ^ 32 + low % 2 ^ 32) {} = true → exec (.windowSplitWrite acc true idx sub word) s = .next (burnt s (((s.toSys.written s.otpWord acc (idx * 256 + sub) (word % 2 ^ 32 * 2 ^ 32 + low % 2 ^ 32) {}).unstage m).answered acc (idx * 256 + sub) (word % 2 ^ 32 * 2 ^ 32 + low % 2 ^ 32)))) ∧
  (∀ (s : State) (acc : Access) (m : Master) (machine : Bool) (idx : Fin 65536) (sub : Fin 256) (word : Nat) (r : Dict.Row), acc.who = .window m machine → entryRow idx sub = some r → tySize r.ty ≠ 8 → s.accepts acc (idx * 256 + sub) word {} = true → exec (.windowSplitWrite acc false idx sub word) s = .next (s.afterWrite acc (idx * 256 + sub) word {})) ∧
  (∀ (s : State) (acc : Access) (m : Master) (machine : Bool) (idx : Fin 65536) (sub : Fin 256) (word : Nat) (r : Dict.Row), acc.who = .window m machine → entryRow idx sub = some r → tySize r.ty ≠ 8 → word % 2 ^ 32 = 0 → s.passes { acc := acc, write := true, idx := idx, sub := sub, size := 4, val := word % 2 ^ 32, high := true } r = true → exec (.windowSplitWrite acc true idx sub word) s = .next (burnt s ((s.toSys.clocked (idx * 256 + sub)).dropSnap m))) ∧
  (∀ (s : State) (acc : Access) (idx : Fin 65536) (sub : Fin 256) (v : Nat), s.acceptsAddress acc (idx * 256 + sub) v = true → exec (.domainAddressWrite acc idx sub v) s = .next (burnt s ((s.addressStaged acc (idx * 256 + sub) v).answered acc (idx * 256 + sub) v))) ∧
  (∀ (s : State) (acc : Access) (idx : Fin 65536) (sub : Fin 256) (v : Nat), (entryRow idx sub).any (fun r => r.dom.isSome) = true → s.accepts acc (idx * 256 + sub) v {} = true → exec (.domainLengthWrite acc idx sub v) s = .next (s.afterWrite acc (idx * 256 + sub) v {}))

/-- A step carries out the command at the front of the queue. For every command and every state, the step of the state with that command at the front of
its queue is exec of the command on the state with the rest of the queue. Rests on: 02_object_dictionary.md (R47); 95_what_each_step_holds.md. -/
def Obligations.StepRunsFrontCommand : Prop :=
  ∀ (i : Instr) (rest : List Instr) (s : State), step { s with pending := i :: rest } = exec i { s with pending := rest }

/-- On an empty queue one idle tick passes, and device time gains the increment in force. A step on an empty queue is an idle tick (the model's choice,
log entry 5). Without power the tick changes nothing but the arming of the wake logic for HOLD. With the timebase running, no TIME_STEP pending and no
access held back, the accumulator T.F, 96 bits, gains exactly the increment in force and F stays below 2^32; with the timebase stopped or gated,
device time holds. Rests on: 12_network_time.md (R358); 16_power_and_wake.md (R453). -/
def Obligations.IdleTickAddsTheIncrement : Prop :=
  (∀ s : State, s.powered = true → step { s with pending := [] } = onOd (fun otp u => u.idleTick otp) { s with pending := [] }) ∧
  (∀ s : State, s.powered = false → step { s with pending := [] } = .next { s with pending := [], toSys := s.toSys.aonTick }) ∧
  (∀ s : Sys, s.pw.state ≠ .holdEntry → s.aonTick = s) ∧
  (∀ (otp : Nat → Nat) (s : Sys), s.powered = true → s.domainOn 6 = true → s.timeRuns = true → s.tb.step = none → s.core.held = [] →
    (s.idleTick otp).tb.t * 2 ^ 32 + (s.idleTick otp).tb.f = (s.tb.t * 2 ^ 32 + s.tb.f + s.increment) % 2 ^ 96 ∧ (s.idleTick otp).tb.f < 2 ^ 32) ∧
  (∀ (otp : Nat → Nat) (s : Sys), s.domainOn 6 = false ∨ s.timeRuns = false → s.core.held = [] → (s.idleTick otp).tb = s.tb)

/-- What reset leaves. Right after reset the unit is in START with no transition pending, no command waits, every entry holds its default, memory and
fuses list nothing and stand in canonical form, the restore is in progress, the unit has no chain address, both ports are DOWN, every channel, slot,
group and axis is off, device time is 0 and does not run, no interrupt is pending and every emission output is inactive. That memory and fuses list
nothing rests on log entries 2 and 4. Rests on: 02_object_dictionary.md (R56, R59, R64); 03_kwezu_chain.md (R74, R85); 12_network_time.md (R358). -/
def Obligations.ResetLeaves : Prop :=
  State.reset.dev = .start ∧ State.reset.pendState = none ∧ State.reset.pending = [] ∧ State.reset.od = [] ∧ State.reset.mem = [] ∧ State.reset.otp = [] ∧
  State.reset.canonical = true ∧ State.reset.rd Key.Restore.RESTORE_STATUS = 0 ∧ State.reset.address = 0 ∧
  (∀ p : Fin 2, State.reset.rd (Key.Port.STATE p) = 1) ∧ (∀ c : Fin 16, State.reset.chState c = 0) ∧ (∀ n : Fin 64, State.reset.slotState n = 0) ∧
  (∀ g : Fin 4, State.reset.grpState g = 0) ∧ (∀ a : Fin 8, State.reset.axState a = 0) ∧ State.reset.now = 0 ∧ State.reset.timeRuns = false ∧
  State.reset.plic.pending = [] ∧ State.reset.toSys.dark = true

/-- Every command answers a next state and leaves the queue alone. For every command and every state, exec answers a next state (never a fault, never a
refusal), and the queue of waiting commands is unchanged. Rests on: 95_what_each_step_holds.md; 02_object_dictionary.md (R47, R48). -/
def Obligations.CommandsAnswerNext : Prop :=
  ∀ (i : Instr) (s : State), ∃ t : State, exec i s = .next t ∧ t.pending = s.pending

/-- No step clears a fuse bit, and the fuse list keeps its canonical form. For every state whose fuse list is canonical, if a step answers a next state,
then its fuse list is canonical, and every bit of every fuse word that was set is still set. Rests on: 15_compute_and_protection.md (R441). -/
def Obligations.BurntFusesStayBurnt : Prop :=
  ∀ s t : State, Kv.wf (fun _ => (0 : Word)) s.otp = true → step s = .next t →
  Kv.wf (fun _ => (0 : Word)) t.otp = true ∧ ∀ word bit : Nat, (s.otpWord word).testBit bit = true → (t.otpWord word).testBit bit = true

/-- Any queue of commands is served whole, first in first out, one command a step. For every list of commands and every state, as many steps as the list
is long reach a state with an empty queue, and it is the state that the commands reach carried out one after another: the queue itself has no other
effect. Rests on: 02_object_dictionary.md (R47); 95_what_each_step_holds.md. -/
def Obligations.QueueIsServedInOrder : Prop :=
  ∀ (l : List Instr) (s : State), ∃ t : State, runSteps l.length { s with pending := l } = some t ∧ t.pending = [] ∧
  runInOrder l { s with pending := [] } = some t

/-- With the core rails off or a reset pin low, only AON, the reset pins and levels on balls act. For every state whose block is not powered, every
command leaves the state as it is, but for the commands of AON and the reset pins (VAON rise and loss, reset, cold start, wake event, wake timer), a
TCK edge and the levels that outside circuits put on balls. Rests on: 16_power_and_wake.md (R453, R459, R465). -/
def Obligations.UnpoweredBlockIgnores : Prop :=
  ∀ (i : Instr) (s : State), s.powered = false → exec i s = .next s ∨ i = .vaonRise ∨ i = .vaonLoss ∨ i = .resetAssert ∨ (∃ boot flash, i = .coldStart boot flash) ∨
  i = .lsafeFall ∨ i = .lsafeRise ∨ (∃ pins bad, i = .wakeEvent pins bad) ∨ i = .wakeTimer ∨ (∃ c level, i = .lpStsChange c level) ∨
  (∃ n level, i = .gateInputChange n level) ∨ (∃ trstN rising tms tdi pins, i = .tckEdge trstN rising tms tdi pins)

/-- The host holds no write right in 0300-03FF, whatever the rights table says. Whatever the state and the contents of the rights table, a chain write to
any index from 0300 to 03FF is never carried out: the engine refuses it with a non-zero code and no part of the block changes. Rests on:
02_object_dictionary.md (R45); 15_compute_and_protection.md (R449). -/
def Obligations.HostWritesNoRights : Prop :=
  ∀ (s : Sys) (otp : Nat → Nat) (q : WaitReq) (ext : Ext) (tag : Nat), q.acc.who = .chain tag → q.write = true → 0x300 ≤ q.idx → q.idx < 0x400 →
  ∃ code, code ≠ 0 ∧ s.serve otp q ext = (s, .done code)

/-- A claim gives the pending enabled source of highest priority, the lowest number among equals; a raise of a pending or claimed source is merged. The
source that a context would claim is 0 or pending and enabled; no pending enabled source has a higher priority, and none of equal priority (above that
of source 0) a lower number. A raise while the source is pending or claimed changes nothing; otherwise it appends the source to the pending ones. The
choice among sources is the PLIC of log entry 34. Rests on: 15_compute_and_protection.md (R432). -/
def Obligations.ClaimGivesHighestPriority : Prop :=
  (∀ (s : Sys) (ctx : Nat),
    (s.plicBest ctx ≠ 0 → s.plicBest ctx < 128 ∧ s.plicBest ctx ∈ s.plic.pending ∧ s.plicEnabled ctx (s.plicBest ctx) = true) ∧
    ∀ src : Fin 128, src.val ∈ s.plic.pending → s.plicEnabled ctx src = true →
      s.plicPriority src ≤ s.plicPriority (s.plicBest ctx) ∧
      (s.plicPriority src = s.plicPriority (s.plicBest ctx) → s.plicPriority 0 < s.plicPriority src → s.plicBest ctx ≤ src)) ∧
  (∀ (s : Sys) (src : Nat), src ∈ s.plic.pending ∨ src ∈ s.plic.claimed.map (fun c => c.1) → s.raise src = s) ∧
  (∀ (s : Sys) (src : Nat), src ∉ s.plic.pending → src ∉ s.plic.claimed.map (fun c => c.1) →
    s.raise src = { s with plic := { s.plic with pending := s.plic.pending ++ [src] } })

/-- With LSAFE_N low or outside ARMED every emission output is inactive, and DISARM brings that about. Judging the gates makes every LP_EN, LP_MOD and
FIRE output inactive whenever the device is not ARMED or LSAFE_N is low. An accepted DISARM and the fall of LSAFE_N each leave all of them inactive
and the device out of ARMED. The premise on the two pad words says that they have 16 bits. Rests on: 01_architecture.md (R23); 02_object_dictionary.md
(R56, R58). -/
def Obligations.EmissionNeedsArmedAndLsafe : Prop :=
  (∀ s : Sys, s.pads.lpEn < 2 ^ 16 → s.pads.lpMod < 2 ^ 16 → s.dev ≠ .armed ∨ s.pads.lsafe = false → s.refresh.dark = true) ∧
  (∀ (s t : State) (acc : Access), s.pads.lpEn < 2 ^ 16 → s.pads.lpMod < 2 ^ 16 → s.accepts acc Key.DevCmd.DEVICE_COMMAND 4 {} = true → s.dev = .armed →
    exec (.disarm acc) s = .next t → t.toSys.dark = true ∧ t.dev = .ready) ∧
  (∀ s t : State, s.pads.lpEn < 2 ^ 16 → s.pads.lpMod < 2 ^ 16 → s.powered = true → s.pads.lsafe = true → exec .lsafeFall s = .next t →
    t.toSys.dark = true ∧ t.dev ≠ .armed)

/-- Every edge of A or B counts one, up or down by the phase and INVERT, and changes nothing else. While PEN is powered with its clock and no MTU follows
the encoder, an edge of exactly one of its inputs, 10 ns or more after the last edge of the other, adds or subtracts one in COUNT, which wraps as an
I32, and records the levels and the time of the edge; every other part of the block is unchanged. Which phase counts up is the choice of log entry 10.
Rests on: 08_print_engine.md (R249). -/
def Obligations.EncoderEdgeCountsOne : Prop :=
  ∀ (s : State) (e : Fin 6) (a b : Bool), s.powered = true → s.runs 12 = true → (∀ m : Fin 4, s.rd (Key.Mtu.ENCODER m) ≠ e) →
  (decide (a ≠ (s.enc e).a) != decide (b ≠ (s.enc e).b)) = true →
  (∀ t, (s.enc e).edgeAt = some t → s.clk < t + 10 → (s.enc e).edgeA = decide (a ≠ (s.enc e).a)) →
  exec (.encoderEdge e a b) s = .next (s.on (fun u =>
    (u.modEnc e (fun q => { q with a := a, b := b, edgeAt := some u.clk, edgeA := decide (a ≠ q.a), before := u.rdI (Key.Enc.COUNT e) })).wrI (Key.Enc.COUNT e)
      (wrap32 (u.rdI (Key.Enc.COUNT e) + (if (if a ≠ (s.enc e).a then decide (a ≠ b) else decide (a = b)) = s.rdB (Key.Enc.INVERT e) then -1 else 1)))))

/-- ASSIGN for the unit's position gives it the address, where the state and the address allow. A whole ASSIGN frame that names the unit's position gives
it the address it carries when that lies in 0x01 to 0xFA and the unit has no address or is in START, CONFIG or SERVICE; otherwise the unit keeps its
address. Memory, the device state and the fuses are unchanged. Rests on: 03_kwezu_chain.md (R85, R86). -/
def Obligations.AssignTakesTheAddress : Prop :=
  ∀ (s : State) (p : Fin 2) (f : Frame), s.powered = true → s.intact p f = true → Sys.isEnum f 3 = true → s.forMe f = true ∨ f.dest = 0xFF → s.enumOpen p = true →
  5 ≤ f.payload.length → s.rd Key.Pos.POSITION ≠ 0 → u16At f.payload 2 = s.rd Key.Pos.POSITION →
    ∃ t, exec (.assign p f) s = .next t ∧
      t.address = (if (s.address = 0 ∨ s.dev = .start ∨ s.dev = .config ∨ s.dev = .service) ∧ 1 ≤ u8At f.payload 4 ∧ u8At f.payload 4 ≤ 0xFA then u8At f.payload 4
        else s.address) ∧
      (∀ a, t.byte a = s.byte a) ∧ t.dev = s.dev ∧ t.otp = s.otp

/-- A capture takes the stamp, counts it, queues up to 16 and raises the TMB source. An event of capture unit n writes LAST_TIME, increments COUNT,
appends the stamp to the FIFO of 16 or, when it is full, increments LOST and leaves the FIFO as it was, and makes the TMB source pending unless it is
claimed. No other entry, no other FIFO and no byte of memory changes. POP takes the oldest stamp away. Rests on: 12_network_time.md (R368). -/
def Obligations.CaptureKeepsSixteenStamps : Prop :=
  (∀ (s : Sys) (n : Fin 32) (stamp : Nat),
    (s.captureStamp n stamp).rd (Key.Cap.LAST_TIME n) = stamp % 2 ^ 64 ∧
    (s.captureStamp n stamp).rd (Key.Cap.COUNT n) = (s.rd (Key.Cap.COUNT n) + 1) % 2 ^ 32 ∧
    (s.captureStamp n stamp).tb.fifos = (if (s.tb.fifos.getD n []).length < 16 then s.tb.fifos.setIfInBounds n (s.tb.fifos.getD n [] ++ [stamp]) else s.tb.fifos) ∧
    (s.captureStamp n stamp).rd (Key.Cap.LOST n) = (if (s.tb.fifos.getD n []).length < 16 then s.rd (Key.Cap.LOST n) else (s.rd (Key.Cap.LOST n) + 1) % 2 ^ 32) ∧
    (52 ∈ (s.captureStamp n stamp).plic.pending ∨ 52 ∈ (s.captureStamp n stamp).plic.claimed.map (fun c => c.1)) ∧
    (∀ k, k ≠ Key.Cap.LAST_TIME n → k ≠ Key.Cap.COUNT n → k ≠ Key.Cap.LOST n → (s.captureStamp n stamp).rdW k = s.rdW k) ∧
    (s.captureStamp n stamp).mem = s.mem) ∧
  (∀ (s : State) (acc : Access) (n : Fin 32), s.accepts acc (Key.Cap.POP n) 1 {} = true → ∃ t, exec (.capturePop acc n 1) s = .next t ∧
    t.tb.fifos = s.tb.fifos.setIfInBounds n (s.tb.fifos.getD n []).tail ∧ s.keepsBut t [])

/-- The window address of an entry, and the fields that its bits carry. The window address of an entry is 0x6000_0000 + index x 0x800 + subindex x 8; its
bits [26:11] carry the index, bits [10:3] the subindex and bits [2:0] the byte offset, which is how a fabric access to the window is read; and the two
addresses of the rule's example come out. States: R50. -/
def Obligations.WindowAddressMap : Prop :=
  (∀ (idx : Fin 65536) (sub : Fin 256) (off : Fin 8),
    Sys2Proof.Machine.windowAddr idx sub = 0x60000000 + idx * 0x800 + sub * 8 ∧
    (Sys2Proof.Machine.windowAddr idx sub + off) / 2 ^ 11 % 2 ^ 16 = idx ∧ (Sys2Proof.Machine.windowAddr idx sub + off) / 2 ^ 3 % 2 ^ 8 = sub ∧
    (Sys2Proof.Machine.windowAddr idx sub + off) % 2 ^ 3 = off ∧
    ∀ (m : Master) (machine write : Bool) (len v : Nat) (parity : Bool),
      (Sys.windowReq m machine write (Sys2Proof.Machine.windowAddr idx sub + off) len v parity).idx = idx ∧
      (Sys.windowReq m machine write (Sys2Proof.Machine.windowAddr idx sub + off) len v parity).sub = sub) ∧
  Sys2Proof.Machine.windowAddr 0x111 0 = 0x60088800 ∧ Sys2Proof.Machine.windowAddr 0x2450 3 = 0x61228018

/-- A window access to 8000-EFFF is refused with 0x0601: bus error, recorded in WINDOW_ABORT, nothing else written. A window write to an index from 8000
to EFFF that the engine takes at once answers the refusal 0x0601: a bus error reaches the master, WINDOW_ABORT of that master holds the code, the
index, the subindex and that it was a write, and no other entry, no byte of memory and no device state changes. Rests on: 02_object_dictionary.md
(R53, R54). -/
def Obligations.FirmwareRangeHasNoWindow : Prop :=
  ∀ (s : State) (acc : Access) (m : Master) (machine : Bool) (idx : Fin 65536) (sub : Fin 256) (size v : Nat), acc.who = .window m machine → 0x8000 ≤ idx.val →
  idx.val < 0xF000 → s.powered = true → s.eng.warmPending = false → s.engineStops = false → s.eng.waits = [] →
    ∃ t, exec (.odWrite acc idx sub size v) s = .next t ∧ .busError (Sys2Proof.Machine.masterCode m) (Sys2Proof.Machine.windowAddr idx sub) ∈ t.sent ∧
      t.rd (match m with | .sv => Key.WinAbort.ABORT_SV | .ap h => Key.WinAbort.ABORT_AP h | .dma _ => Key.WinAbort.ABORT_DMA) % 2 ^ 16 = 0x0601 ∧
      t.rd (match m with | .sv => Key.WinAbort.ABORT_SV | .ap h => Key.WinAbort.ABORT_AP h | .dma _ => Key.WinAbort.ABORT_DMA) / 2 ^ 40 % 2 ^ 16 = idx ∧
      t.rd (match m with | .sv => Key.WinAbort.ABORT_SV | .ap h => Key.WinAbort.ABORT_AP h | .dma _ => Key.WinAbort.ABORT_DMA) / 2 ^ 32 % 2 ^ 8 = sub ∧
      (∀ k, k ≠ (match m with | .sv => Key.WinAbort.ABORT_SV | .ap h => Key.WinAbort.ABORT_AP h | .dma _ => Key.WinAbort.ABORT_DMA) → t.rdW k = s.rdW k) ∧
      (∀ a, t.byte a = s.byte a) ∧ t.dev = s.dev

/-- A write in a state whose mask bit is clear is refused with 0x0803, without side effects. Every writable subindex of the dictionary has a mask of six
bits, of which bits 0 to 5 stand for START, CONFIG, READY, ARMED, FAULT and SERVICE. A whole write that passes checks 1 to 7 of R48, none of whose own
checks comes earlier, and that the engine executes in a state whose bit is clear, is refused with 0x0803, and no part of the block changes: only the
clock of an accessed block runs (R33), and for a power command or a change of the domains RESULT and BLOCKER of 0401 show the answer and what it names
(R461), which is no effect of the write: BLOCKER is all that judging such a write can change. Rests on: 02_object_dictionary.md (R43). -/
def Obligations.StateMaskRefuses : Prop :=
  (∀ (idx sub : Nat) (r : Dict.Row), entryRow idx sub = some r → r.acc ≠ .ro → r.st < 2 ^ 6) ∧
  devCode .start = 0 ∧ devCode .config = 1 ∧ devCode .ready = 2 ∧ devCode .armed = 3 ∧ devCode .fault = 4 ∧ devCode .service = 5 ∧
  (∀ (s : Sys) (otp : Nat → Nat) (q : WaitReq) (ext : Ext) (r : Dict.Row) (w : Word), entryRow q.idx q.sub = some r → q.write = true →
    s.frontCode q (some r) = 0 → s.domainOn (domainOf q.idx) = true → s.reached (domainOf q.idx) = true →
    (s.ungate (domainOf q.idx)).formOf q r.ty = .word w →
    codeOrder 0x0803 ≤ codeOrder ((s.ungate (domainOf q.idx)).need (s.clsOf q.acc.who) (q.idx * 256 + q.sub) (maskWord r w).toNat
      (if tySigned r.ty then (maskWord r w).toInt else (maskWord r w).toNat) ext).2 →
      (r.st.testBit (devCode s.dev) = false → s.serve otp q ext =
        ((if (q.idx * 256 + q.sub = Key.Pwr.COMMAND ∨ q.idx * 256 + q.sub = Key.Dom.ENABLE) ∧ ((s.ungate (domainOf q.idx)).need (s.clsOf q.acc.who) (q.idx * 256 + q.sub) (maskWord r w).toNat
            (if tySigned r.ty then (maskWord r w).toInt else (maskWord r w).toNat) ext).2 = 0x0803 then
          ((s.ungate (domainOf q.idx)).need (s.clsOf q.acc.who) (q.idx * 256 + q.sub) (maskWord r w).toNat (if tySigned r.ty then (maskWord r w).toInt else (maskWord r w).toNat) ext).1
        else s.ungate (domainOf q.idx)).powerResult (q.idx * 256 + q.sub) (maskWord r w).toNat 0x0803, .done 0x0803))) ∧
  (∀ (s : Sys) (cls : Cls) (k v : Nat) (i : Int) (ext : Ext), k = Key.Pwr.COMMAND ∨ k = Key.Dom.ENABLE →
    (s.need cls k v i ext).1 = s ∨ ∃ b : Nat, (s.need cls k v i ext).1 = s.wr Key.PwrSt.BLOCKER b)

/-- A read of a WO subindex is refused with 0x0606, a write of a RO subindex with 0x0605, and reads pass in every device state. Every subindex is RO, RW
or WO. A request that passes checks 1 to 4 of R48 is refused with 0x0606 where it reads a WO subindex and with 0x0605 where it writes a RO subindex,
and the block is unchanged. A read that passes checks 1 to 7 is answered with the value in every device state, whatever the mask of writable states.
States: R42. -/
def Obligations.AccessClassRefuses : Prop :=
  (∀ r : Dict.Row, r.acc = .ro ∨ r.acc = .rw ∨ r.acc = .wo) ∧
  (∀ (s : Sys) (otp : Nat → Nat) (q : WaitReq) (ext : Ext) (r : Dict.Row), entryRow q.idx q.sub = some r → s.leaving = false →
    ¬(s.dev = .start ∧ s.rd Key.Restore.RESTORE_STATUS = 0) → q.idx < 0x8000 → Dict.indexExists q.idx = true →
    (s.entryRights q.idx r).testBit (clsBit (s.clsOf q.acc.who) + b2n q.write) = true →
      (q.write = false → r.acc = .wo → s.serve otp q ext = (s, .done 0x0606)) ∧ (q.write = true → r.acc = .ro → s.serve otp q ext = (s, .done 0x0605))) ∧
  (∀ (s : Sys) (otp : Nat → Nat) (q : WaitReq) (ext : Ext) (r : Dict.Row), entryRow q.idx q.sub = some r → q.write = false → q.acc.parity = true →
    s.frontCode q (some r) = 0 → s.domainOn (domainOf q.idx) = true → s.reached (domainOf q.idx) = true →
      (s.serve otp q ext).2 = .value r.ty ((s.ungate (domainOf q.idx)).value q.idx q.sub))

/-- The four DRAM freeze faults have the fixed reaction 4; another is refused with 0x0604, and REPORT stays writable. The reaction to DRAM_READ_PARITY,
DRAM_QUEUE_PARITY, DRAM_ALERT and DRAM_UNTRAINED (codes 0x58 to 0x5B) is 4 whatever the table holds. A write of another reaction for them that the
engine executes in a state of the entry's mask is refused with 0x0604 and changes nothing. A write of reaction 4 with REPORT 0 or 1 that the engine
accepts leaves that REPORT in the entry. States: R490. -/
def Obligations.DramFaultsFreeze : Prop :=
  ∀ code : Nat, 0x58 ≤ code → code ≤ 0x5B →
  (∀ s : Sys, s.reaction code = 4) ∧
  (∀ (s : Sys) (otp : Nat → Nat) (q : WaitReq) (ext : Ext) (r : Dict.Row) (w : Word), q.idx = 0x510 → q.sub = code → q.write = true → entryRow q.idx q.sub = some r →
    s.frontCode q (some r) = 0 → s.domainOn 15 = true → s.reached 15 = true → s.formOf q r.ty = .word w → (maskWord r w).toNat % 8 ≠ 4 → r.st.testBit (devCode s.dev) = true →
      s.serve otp q ext = (s, .done 0x0604)) ∧
  (∀ (s : State) (acc : Access) (sub : Fin 256) (report : Bool), sub.val = code → s.accepts acc (Key.React.REACTION code) (4 + 8 * b2n report) {} = true →
    ∃ t, exec (.odWrite acc 0x510 sub (Sys.writeReq acc (Key.React.REACTION code) (4 + 8 * b2n report)).size (4 + 8 * b2n report)) s = .next t ∧
      t.reportSet code = report ∧ t.reaction code = 4)

/-- An occurrence of a fault whose reaction is 4 takes the unit into FAULT and makes its outputs inactive. In CONFIG, READY, ARMED or SERVICE, an
occurrence of an assigned fault whose reaction is 4 answers a state in which the device is in FAULT with no transition pending, FIRST_FREEZE and the
cause of the state change name the code, and every emission output is inactive. Rests on: 02_object_dictionary.md (R59); 17_integrity_and_sampler.md
(R488, R494, R497). -/
def Obligations.FreezeFaultEntersFault : Prop :=
  ∀ (s : State) (code : Fin 128) (kind : Fin 14) (inst at_ : Nat), s.powered = true → Sys.assignedCode code = true → s.reaction code = 4 → s.dev ≠ .start → s.dev ≠ .fault →
  s.pads.lpEn < 2 ^ 16 → s.pads.lpMod < 2 ^ 16 →
    ∃ t, exec (.faultOccurrence code kind inst at_) s = .next t ∧ t.dev = .fault ∧ t.pendState = none ∧ t.rd Key.Gath.FIRST_FREEZE = code ∧
      t.rd Key.Cause.CAUSE = 0x20 ∧ t.rd Key.Cause.CAUSE_DETAIL = code ∧ t.rd Key.Cause.FROM_STATE = devCode s.dev ∧ t.toSys.dark = true

/-- A loss of VAON leaves the unit OFF, keeps MRAM, Kept entries and fuses, and loses the AON registers. The fall of VAON answers a state that is OFF and
in START, with every byte of MRAM, every Kept entry and every fuse as before, and every other entry at its default. Rests on: 16_power_and_wake.md
(R453, R459); 15_compute_and_protection.md (R433, R441). -/
def Obligations.PowerLossKeepsMram : Prop :=
  ∀ s : State, ∃ t, exec .vaonLoss s = .next t ∧ t.pw.state = .off ∧ t.dev = .start ∧ t.otp = s.otp ∧ t.pending = s.pending ∧
  (∀ a, 0x20000000 ≤ a → a < 0x21000000 → t.byte a = s.byte a) ∧ ∀ k, t.rdW k = if isKept k then s.rdW k else odDefaultWord k

/-- PROGRAM sets the bits of OTP_DATA in the word at OTP_ADDR and leaves every other fuse. An accepted PROGRAM whose readback agrees answers a state in
which the fuse word at OTP_ADDR is its old value with the 32 bits of OTP_DATA added, every other word is unchanged, OTP_RESULT is 0, and memory and
the device state are unchanged. Rests on: 15_compute_and_protection.md (R441, R452). -/
def Obligations.ProgramSetsFuseBits : Prop :=
  ∀ (s : State) (acc : Access), s.accepts acc Key.Otp.OTP_COMMAND 2 { ok := true } = true →
  ∃ t, exec (.otpProgram acc true) s = .next t ∧
    (∀ w, t.otpWord w = if w = s.rd Key.Otp.OTP_ADDR then s.otpWord w ||| s.rd Key.Otp.OTP_DATA % 2 ^ 32 else s.otpWord w) ∧
    t.rd Key.Otp.OTP_RESULT = 0 ∧ s.keepsBut t [Key.Otp.OTP_RESULT, Key.Otp.ROLLBACK_MIN, Key.Otp.KEYS]

/-- A store of a device master to SRAM or DRAM writes its bytes little-endian at the full address and nothing else. A store with good parity of a master
that is no hart, to shared SRAM or DRAM, that passes the checks of the fabric and that nothing holds back (a full queue of the DRAM, NAP, an earlier
access of the master that waits), leaves the bytes of its value from the full address up, lowest first; every byte outside them and every entry reads
as before, but for the controller's count of requests in order where the store is to DRAM. Rests on: 01_architecture.md (R6, R15, R17);
15_compute_and_protection.md (R443, R447). -/
def Obligations.FabricStoreWritesItsBytes : Prop :=
  ∀ (s : State) (m : Fin 256) (machine : Bool) (size addr v bad : Nat), s.powered = true → 4 < m.val → regionOf (fullAddr addr) = 2 ∨ regionOf (fullAddr addr) = 7 →
  s.busCheck m machine true addr size = (s.toSys, true) → s.mustHold (.access m machine .store size addr v true bad) = false →
    ∃ t, exec (.fabricAccess m machine .store size addr v true bad) s = .next t ∧
      (∀ i, i < size → t.byte (fullAddr addr + i) = BitVec.ofNat 8 (v / 256 ^ i)) ∧
      (∀ a, a < fullAddr addr ∨ fullAddr addr + size ≤ a → t.byte a = s.byte a) ∧
      (∀ k, (fullAddr addr < Sys.dramBase ∨ k ≠ Key.DmcCnt.IN_ORDER) → t.rdW k = s.rdW k) ∧ t.dev = s.dev

/-- A store to the boot ROM or to MRAM is ignored, raises a bus error and is captured. A store of a master that is no hart to the boot ROM or the
read-mapped MRAM, which no firewall range denies, that nothing holds back, and while the fault for it only logs or interrupts, leaves every byte of
memory as it was; a bus error at the address goes to the master, and an address stands captured, this one where none stood before. Rests on:
01_architecture.md (R15, R16). -/
def Obligations.ReadOnlyMemoryIgnoresStores : Prop :=
  ∀ (s : State) (m : Fin 256) (machine reqOk : Bool) (size addr v bad : Nat), s.powered = true → 4 < m.val → regionOf (fullAddr addr) = 1 ∨ regionOf (fullAddr addr) = 3 →
  s.firstDenied m machine true (fullAddr addr) size = none → s.reaction 0x6A ≤ 2 → s.mustHold (.access m machine .store size addr v reqOk bad) = false →
    ∃ t, exec (.fabricAccess m machine .store size addr v reqOk bad) s = .next t ∧ (∀ a, t.byte a = s.byte a) ∧ .busError m addr ∈ t.sent ∧
      t.gath.captured = true ∧ (s.gath.captured = false → t.rd Key.Gath.ERR_ADDR = fullAddr addr ∧ t.rd Key.Gath.ERR_MASTER = m)

/-- A low-word read answers the low half and keeps a snapshot, from which the next high-word read takes its half. A window read of the low word of an
entry that the engine takes at once sends the master the low 32 bits of the live value and keeps that whole value as the snapshot of the master; no
entry changes but the error capture where it is the one read, and no byte of memory. A high-word read of the same subindex that follows, whatever the
live value has become, answers the upper half of the snapshot and drops it. Rests on: 02_object_dictionary.md (R51, R52). -/
def Obligations.LowWordReadTakesSnapshot : Prop :=
  (∀ (s : State) (m : Master) (machine : Bool) (idx : Fin 65536) (sub : Fin 256) (r : Dict.Row), entryRow idx sub = some r →
    s.reads { acc := { who := .window m machine }, write := false, idx := idx, sub := sub, size := 4 } = true →
      ∃ t, exec (.windowLowWordRead m machine idx sub) s = .next t ∧
        t.sent = .window m (windowValue r.ty ((s.toSys.clocked (idx * 256 + sub)).value idx sub) % 2 ^ 32) :: s.sent ∧
        t.snapOf m (idx * 256 + sub) = some (windowValue r.ty ((s.toSys.clocked (idx * 256 + sub)).value idx sub)) ∧
        s.keepsBut t [Key.Gath.ERR_ADDR, Key.Gath.ERR_MASTER]) ∧
  (∀ (s : Sys) (m : Master) (lo hi : WaitReq) (ty : Dict.Ty) (w w' : Word), lo.size = 4 → lo.high = false → hi.size = 4 → hi.high = true →
    hi.idx * 256 + hi.sub = lo.idx * 256 + lo.sub →
      ((s.windowRead m lo ty w).1.windowRead m hi ty w').2 = windowValue ty w / 2 ^ 32 % 2 ^ 32 ∧
      ((s.windowRead m lo ty w).1.windowRead m hi ty w').1.snapOf m (lo.idx * 256 + lo.sub) = none)

/-- An accepted write of an entry that acts on nothing leaves the value in it and changes nothing else. For sixteen groups of entries, from every part of
the dictionary, and for every instance: an OD write that the engine accepts answers a state in which the entry holds the value written, and every
other entry, every byte of memory, the device state, the pads, the interrupts and the timebase are as before (the counters of sent frames move with
the answer, and the clock of the accessed block runs). Rests on: 02_object_dictionary.md (R47, R48); 03_kwezu_chain.md; 04_scan_channels.md;
05_control_loop_engines.md; 06_melt_pool_and_stitching.md; 07_live_calibration.md; 08_print_engine.md; 09_motion_axes.md; 10_camera_pipeline.md;
12_network_time.md; 17_integrity_and_sampler.md. -/
def Obligations.PlainEntriesHoldWhatIsWritten : Prop :=
  storesOnly Key.Fws.SERVICE_TIMEOUT ∧
  storesOnly Key.Alias.ALIAS ∧
  (∀ n : Fin 8, storesOnly (Key.Ep.CREDIT_PERIOD n)) ∧
  (∀ c : Fin 16, storesOnly (Key.Mark.MARK_SPEED_MAX c)) ∧
  (∀ n : Fin 64, storesOnly (Key.SlotOut.T_COAST n)) ∧
  (∀ (c : Fin 16) (z : Fin 8), storesOnly (Key.Zone.JOIN_TIME c z)) ∧
  storesOnly Key.Take.TAKEOVER_LEAD ∧
  (∀ c : Fin 16, storesOnly (Key.Upd.STEPS c)) ∧
  (∀ g : Fin 4, storesOnly (Key.Pat.PAT_RUN g)) ∧
  (∀ e : Fin 6, storesOnly (Key.Enc.FILTER e)) ∧
  (∀ g : Fin 4, storesOnly (Key.GrpCfg.MIN_PERIOD g)) ∧
  (∀ a : Fin 8, storesOnly (Key.AxMove.VMAX a)) ∧
  (∀ k : Fin 16, storesOnly (Key.Ctx.FRAME_TIMEOUT k)) ∧
  storesOnly Key.Sync.SYNC_INTERVAL ∧
  (∀ n : Fin 32, storesOnly (Key.Cap.FILTER n)) ∧
  storesOnly Key.Smp.INTERVAL

/-- What the commands that only set entries leave unchanged. For DESCRIBE selection, JOIN, CANCEL_JOIN, pattern CLEAR, encoder ZERO, the axis commands but
RUN_TABLE, the TX tail, the increments, ADJ_TICKS, trigger PULSE and CANCEL, the repair commands and DMA CLEAR: when an accepted command answers a
next state, every byte of memory, the device state and every entry but those named are unchanged (an axis command stores no entry at all: it takes
effect at the next update). Rests on: 02_object_dictionary.md (R41, R47); 06_melt_pool_and_stitching.md (R211); 07_live_calibration.md (R233);
08_print_engine.md (R249); 09_motion_axes.md (R307, R308); 11_serial_lanes.md (R351); 12_network_time.md (R359, R361, R364); 13_dram_controller.md
(R394); 14_dma_engine.md (R412). -/
def Obligations.RegisterCommandFrames : Prop :=
  (∀ (s t : State) (acc : Access) (pair : Cls) (v : Nat), s.accepts acc (Sys.selectKey pair) v {} = true → v < 2 ^ 32 → exec (.describeSelect acc pair v) s = .next t → s.keepsBut t [Sys.selectKey pair]) ∧
  (∀ (s t : State) (acc : Access) (w : Fin 192), s.accepts acc (Sys.zwCommand w) 1 {} = true → exec (.join acc w) s = .next t → s.keepsBut t [zwState w, zwEvent w]) ∧
  (∀ (s t : State) (acc : Access) (w : Fin 192), s.accepts acc (Sys.zwCommand w) 2 {} = true → exec (.cancelJoin acc w) s = .next t → s.keepsBut t [zwState w, zwEvent w]) ∧
  (∀ (s t : State) (acc : Access) (g : Fin 4), s.accepts acc (Key.Pat.PAT_COMMAND g) 2 {} = true → exec (.patClear acc g) s = .next t → s.keepsBut t [Key.Pat.PAT_QUEUED g]) ∧
  (∀ (s t : State) (acc : Access) (e : Fin 6), s.accepts acc (Key.Enc.COMMAND e) 2 {} = true → exec (.encoderZero acc e) s = .next t → s.keepsBut t [Key.Enc.COUNT e]) ∧
  (∀ (s t : State) (acc : Access) (a : Fin 8), s.accepts acc (Key.Axis.COMMAND a) 1 {} = true → exec (.axisEnable acc a) s = .next t → s.keepsBut t []) ∧
  (∀ (s t : State) (acc : Access) (a : Fin 8), s.accepts acc (Key.Axis.COMMAND a) 2 {} = true → exec (.axisDisable acc a) s = .next t → s.keepsBut t []) ∧
  (∀ (s t : State) (acc : Access) (a : Fin 8), s.accepts acc (Key.Axis.COMMAND a) 3 {} = true → exec (.moveAbs acc a) s = .next t → s.keepsBut t []) ∧
  (∀ (s t : State) (acc : Access) (a : Fin 8), s.accepts acc (Key.Axis.COMMAND a) 4 {} = true → exec (.moveRel acc a) s = .next t → s.keepsBut t []) ∧
  (∀ (s t : State) (acc : Access) (a : Fin 8), s.accepts acc (Key.Axis.COMMAND a) 6 {} = true → exec (.switchTable acc a) s = .next t → s.keepsBut t []) ∧
  (∀ (s t : State) (acc : Access) (a : Fin 8), s.accepts acc (Key.Axis.COMMAND a) 7 {} = true → exec (.axisStop acc a) s = .next t → s.keepsBut t []) ∧
  (∀ (s t : State) (acc : Access) (a : Fin 8), s.accepts acc (Key.Axis.COMMAND a) 8 {} = true → exec (.quickStop acc a) s = .next t → s.keepsBut t []) ∧
  (∀ (s t : State) (acc : Access) (a : Fin 8), s.accepts acc (Key.Axis.COMMAND a) 9 {} = true → exec (.axisReset acc a) s = .next t → s.keepsBut t []) ∧
  (∀ (s t : State) (acc : Access) (a : Fin 8), s.accepts acc (Key.Axis.COMMAND a) 10 {} = true → exec (.setPosition acc a) s = .next t → s.keepsBut t []) ∧
  (∀ (s t : State) (acc : Access) (m : Fin 2) (v : Nat), s.accepts acc (Key.MacRing.TX_TAIL m) v {} = true → v < 65536 → exec (.txTailWrite acc m v) s = .next t → s.keepsBut t [Key.MacRing.TX_TAIL m]) ∧
  (∀ (s t : State) (acc : Access) (adj : Bool) (v : Nat), s.accepts acc (if adj then Key.Inc.ADJ_INCREMENT else Key.Inc.INCREMENT) v {} = true → v < 2 ^ 64 → exec (.incrementWrite acc adj v) s = .next t → s.keepsBut t [if adj then Key.Inc.ADJ_INCREMENT else Key.Inc.INCREMENT]) ∧
  (∀ (s t : State) (acc : Access) (v : Nat), s.accepts acc Key.Inc.ADJ_TICKS v {} = true → v < 2 ^ 32 → exec (.adjTicksWrite acc v) s = .next t → s.keepsBut t [Key.Inc.ADJ_TICKS, Key.TimeSt.TIME_STATUS]) ∧
  (∀ (s t : State) (acc : Access) (n : Fin 32), s.accepts acc (Key.Trig.COMMAND n) 1 {} = true → exec (.pulse acc n) s = .next t → s.keepsBut t []) ∧
  (∀ (s t : State) (acc : Access) (n : Fin 32), s.accepts acc (Key.Trig.COMMAND n) 2 {} = true → exec (.cancel acc n) s = .next t → s.keepsBut t [Key.Trig.FLAGS n]) ∧
  (∀ (s t : State) (acc : Access), s.accepts acc Key.Ppr.PPR_COMMAND 1 {} = true → exec (.pprSoft acc) s = .next t → s.keepsBut t [Key.Ppr.PPR_RESULT, Key.DmcCnt.READS, Key.DmcCnt.WRITES, Key.DmcCnt.RMW]) ∧
  (∀ (s t : State) (acc : Access), s.accepts acc Key.Ppr.PPR_COMMAND 2 {} = true → exec (.pprHard acc) s = .next t → s.keepsBut t [Key.Ppr.PPR_RESULT, Key.DmcCnt.READS, Key.DmcCnt.WRITES, Key.DmcCnt.RMW]) ∧
  (∀ (s t : State) (acc : Access) (d : Fin 32), s.accepts acc (Key.Dma.COMMAND d) 3 {} = true → exec (.dmaClear acc d) s = .next t → s.keepsBut t [Key.Dma.FLAGS d, Key.Dma.CLASS d])

/-- What the events that touch one thing leave unchanged. For the MR4 poll, a PLIC claim and completion, the fence of reads of a hart, the idle clock of a
domain, the rise of VAON, the wake timer, a Heartbeat or a Credit that is sent: when the command answers a next state, every byte of memory, the
device state, the fuses and every entry but those named are unchanged. Rests on: 03_kwezu_chain.md (R83, R84); 13_dram_controller.md (R386);
15_compute_and_protection.md (R424, R425, R432); 16_power_and_wake.md (R455, R458, R468). -/
def Obligations.BlockEventFrames : Prop :=
  (∀ (s t : State) (hot : Bool), exec (.mr4Poll hot) s = .next t → s.keepsBut t [Key.DmcRef.TREFI] ∧ t.otp = s.otp) ∧
  (∀ (s t : State) (ctx : Fin 9), exec (.plicClaim ctx) s = .next t → s.keepsBut t [] ∧ t.otp = s.otp) ∧
  (∀ (s t : State) (ctx : Fin 9) (src : Fin 128), exec (.plicComplete ctx src) s = .next t → s.keepsBut t [] ∧ t.otp = s.otp) ∧
  (∀ (s t : State) (h : Fin 4), exec (.fenceIR h) s = .next t → s.keepsBut t [] ∧ t.otp = s.otp) ∧
  (∀ (s t : State) (d : Fin 15), exec (.domainIdle d) s = .next t → s.keepsBut t [Key.Dom.CLOCKED] ∧ t.otp = s.otp) ∧
  (∀ (s t : State), exec .vaonRise s = .next t → s.keepsBut t [] ∧ t.otp = s.otp) ∧
  (∀ (s t : State), exec .wakeTimer s = .next t → s.keepsBut t [] ∧ t.otp = s.otp) ∧
  (∀ (s t : State) (p : Fin 2), exec (.heartbeatSend p) s = .next t → s.keepsBut t [] ∧ t.otp = s.otp) ∧
  (∀ (s t : State) (p : Fin 2) (k : Fin 3), exec (.creditReturnTimer p k) s = .next t → s.keepsBut t [] ∧ t.otp = s.otp)

/-- DEVICE_COMMAND acts as its matrix states. The matrix of commands 1 to 8 in CONFIG, READY, ARMED, FAULT and SERVICE is the table of the rule (some
true: a transition, some false: None, none: 0x0803), and START refuses every command. A command that the matrix refuses is answered with 0x0803,
ENTER_SERVICE and LEAVE_SERVICE of class FS with 0x0701; a None command is accepted, unless a transition is pending, and has no effect. ARM leads to
ARMED, DISARM to READY, ENTER_SERVICE to SERVICE (while no axis is a feed of a group), CLEAR_FAULT to CONFIG, and WARM_RESET makes START pending. ARM
is refused with LSAFE_N low or a RESTORE_ACK owed. Rests on: 02_object_dictionary.md (R46, R57, R58). -/
def Obligations.DeviceCommandMatrix : Prop :=
  (∀ cmd, devMatrix .start cmd = none) ∧
  ((List.range 8).map (fun n => devMatrix .config (n + 1)) = [some false, some true, none, some false, some true, none, some false, some true]) ∧
  ((List.range 8).map (fun n => devMatrix .ready (n + 1)) = [some true, some false, some true, some false, none, none, some false, some true]) ∧
  ((List.range 8).map (fun n => devMatrix .armed (n + 1)) = [none, none, some false, some true, none, none, some false, some true]) ∧
  ((List.range 8).map (fun n => devMatrix .fault (n + 1)) = [none, none, none, some false, some true, none, some true, some true]) ∧
  ((List.range 8).map (fun n => devMatrix .service (n + 1)) = [none, none, none, some false, some false, some true, none, some true]) ∧
  (∀ (s : Sys) (cls : Cls) (cmd bad : Nat), 1 ≤ cmd → cmd ≤ 8 →
    ((cmd = 5 ∨ cmd = 6) → cls = .fs → s.devAbort cls cmd bad = (s, 0x0701)) ∧
    (¬((cmd = 5 ∨ cmd = 6) ∧ cls = .fs) → devMatrix s.dev cmd = none → s.devAbort cls cmd bad = (s, 0x0803)) ∧
    (¬((cmd = 5 ∨ cmd = 6) ∧ cls = .fs) → devMatrix s.dev cmd = some false → s.pendState = none → s.devAbort cls cmd bad = (s, 0) ∧ s.devAct cls cmd = s)) ∧
  (∀ (s : Sys) (cls : Cls) (bad : Nat), s.dev = .ready → s.pads.lsafe = false ∨ s.rdB Key.Restore.ACK_REQUIRED = true → (s.devAbort cls 3 bad).2 = 0x0803) ∧
  (∀ (s : Sys) (cls : Cls), (s.dev = .ready → (s.devAct cls 3).dev = .armed) ∧ (s.dev = .armed → (s.devAct cls 4).dev = .ready) ∧
    ((s.dev = .config ∨ s.dev = .fault) → (∀ a, (s.axis a).feedOf = none) → (s.devAct cls 5).dev = .service) ∧ (s.dev = .fault → (s.devAct cls 7).dev = .config) ∧
    (s.dev ≠ .start → (s.devAct cls 8).pendState = some .start))

/-- A chain request that finds 64 waiting is answered with 0x0805 at once and counted, and the queue stays as it is. While requests wait and 64 of them
are from the chain, a write over the chain is answered with 0x0805 at once: BUSY_ANSWERS counts it, the waiting requests are unchanged, no other entry
and no byte of memory changes. The engine is neither stopped in NAP, nor before its first restore, nor leaving for a reset or HOLD. Rests on:
03_kwezu_chain.md (R92, R93). -/
def Obligations.FullChainQueueAnswersBusy : Prop :=
  ∀ (s : State) (acc : Access) (tag : Nat) (idx : Fin 65536) (sub : Fin 256) (size v : Nat), acc.who = .chain tag → s.powered = true → s.leaving = false →
  ¬(s.dev = .start ∧ s.rd Key.Restore.RESTORE_STATUS = 0) → s.engineStops = false → s.eng.waits ≠ [] → 64 ≤ s.chainWaits →
    ∃ t, exec (.odWrite acc idx sub size v) s = .next t ∧ t.rd Key.Credits.BUSY_ANSWERS = (s.rd Key.Credits.BUSY_ANSWERS + 1) % 2 ^ 32 ∧
      t.eng.waits = s.eng.waits ∧ s.keepsBut t [Key.Credits.BUSY_ANSWERS]

/-- A frame whose header fails its check is discarded and counted, and nothing else comes of it. A frame that reaches an UP port with a wrong header
check, in a known class and of a legal length, is counted in FRAMES_RX and HEADER_DISCARDS of the port; every other entry, every byte of memory and
the device state are unchanged. Rests on: 03_kwezu_chain.md (R80). -/
def Obligations.BadHeaderIsDiscarded : Prop :=
  ∀ (s : State) (p : Fin 2) (f : Frame), s.powered = true → s.portUp p = true → f.hcrc ≠ hcrcOf f → f.cls < 3 → f.len ≤ 2048 →
  ∃ t, exec (.frameForward p f) s = .next t ∧ t.rd (Key.Port.HEADER_DISCARDS p) = (s.rd (Key.Port.HEADER_DISCARDS p) + 1) % 2 ^ 32 ∧
    t.rd (Key.Port.FRAMES_RX p) = (s.rd (Key.Port.FRAMES_RX p) + 1) % 2 ^ 64 ∧ s.keepsBut t [Key.Port.HEADER_DISCARDS p, Key.Port.FRAMES_RX p]

/-- A write to a Kept entry whose copy A fails verification is refused with 0x0A01, and only the failed copy is marked. A write to a Kept entry that the
engine would accept, but whose copy A fails verification, is refused with 0x0A01, and the failed copy is marked: that marking, beside the clock of the
accessed block (R33), is all that changes. Rests on: 02_object_dictionary.md (R61, R62). -/
def Obligations.FailedStoreCopyRefuses : Prop :=
  ∀ (s : Sys) (otp : Nat → Nat) (acc : Access) (k v : Nat) (ext : Ext) (r : Dict.Row), entryRow (keyIdx k) (keySub k) = some r → r.kept = true →
  s.accepts { acc with copyA := true } k v ext = true → acc.copyA = false →
    s.serve otp (Sys.writeReq acc k v) ext = ((s.clocked k).markCopy ((s.clocked k).storePair k) false, .done 0x0A01)

/-- No word spells a command. The table of operations gives its rows no bits: whatever the word, none spells a command, and placing a word changes
nothing. Rests on: INDEX.md (opcode_table.json gives no bits). -/
def Obligations.NoWordSpellsACommand : Prop :=
  ∀ (nbits w : Nat) (s : State), Sys2Proof.decodeTableWord nbits w = none ∧ s.withFetchWord nbits w = s
end

