-- ==== Sys2Proof/Laws/Kv.lean ====
section
/-! SUPPORT. Kv: reading, storing and the canonical form of the sparse maps that hold entries, memory and fuses. -/

namespace Sys2Proof.Machine

open Sys2Proof

variable {α : Type}

/-- Reading past a cell put in its place. -/
theorem Kv.get_insert (d : Nat → α) (k : Nat) (v : α) (l : List (Nat × α)) (k' : Nat) (h : k' = k → ∀ c ∈ l, c.1 ≠ k) :
    Kv.get d (Kv.insert k v l) k' = if k' = k then v else Kv.get d l k' := by
  induction l with
  | nil => simp [Kv.insert, Kv.get, eq_comm]
  | cons c t ih =>
    obtain ⟨a, b⟩ := c
    have ih' := ih (fun e x hx => h e x (List.mem_cons_of_mem _ hx))
    by_cases ha : k < a
    · simp [Kv.insert, ha, Kv.get, eq_comm]
    · by_cases hk : k' = k
      · subst hk
        have hne : a ≠ k' := h rfl (a, b) (List.mem_cons_self ..)
        simp [Kv.insert, ha, Kv.get, hne, ih']
      · simp [Kv.insert, ha, Kv.get, ih', hk]

/-- A key that is taken out reads as its default, every other key as before. -/
theorem Kv.get_erase (d : Nat → α) (k : Nat) (l : List (Nat × α)) (k' : Nat) :
    Kv.get d (Kv.erase k l) k' = if k' = k then d k' else Kv.get d l k' := by
  induction l with
  | nil => simp [Kv.erase, Kv.get]
  | cons c t ih =>
    obtain ⟨a, b⟩ := c
    simp only [Kv.erase] at ih
    by_cases ha : a = k <;> by_cases hk : k' = k <;> by_cases hb : a = k' <;>
      simp_all [Kv.erase, Kv.get]

/-- No cell of a map holds a key that was taken out. -/
theorem Kv.erase_ne (k : Nat) (l : List (Nat × α)) : ∀ c ∈ Kv.erase k l, c.1 ≠ k := by
  intro c hc
  simpa using (List.mem_filter.mp hc).2

/-- What is stored at a key is read there, and nowhere else. -/
@[simp] theorem Kv.get_put [DecidableEq α] (d : Nat → α) (k : Nat) (v : α) (l : List (Nat × α)) (k' : Nat) :
    Kv.get d (Kv.put d k v l) k' = if k' = k then v else Kv.get d l k' := by
  unfold Kv.put
  split
  · rename_i h
    rw [Kv.get_erase]
    by_cases hk : k' = k <;> simp_all
  · rw [Kv.get_insert _ _ _ _ _ (fun _ => Kv.erase_ne k l), Kv.get_erase]
    by_cases hk : k' = k <;> simp_all

/-- The cells of a map with one more. -/
theorem Kv.mem_insert (k : Nat) (v : α) (l : List (Nat × α)) (c : Nat × α) : c ∈ Kv.insert k v l ↔ c = (k, v) ∨ c ∈ l := by
  induction l with
  | nil => simp [Kv.insert]
  | cons x t ih =>
    obtain ⟨a, b⟩ := x
    unfold Kv.insert
    split
    · simp
    · simp [ih, or_left_comm]

/-- Keys rise strictly, said of the list's pairs. -/
theorem Kv.sorted_iff (l : List (Nat × α)) : Kv.sorted l = true ↔ l.Pairwise (fun a b => a.1 < b.1) := by
  simp [Kv.sorted]

/-- Putting a new key in its place keeps the order. -/
theorem Kv.insert_sorted (k : Nat) (v : α) (l : List (Nat × α)) (hs : l.Pairwise (fun a b => a.1 < b.1)) (hk : ∀ c ∈ l, c.1 ≠ k) :
    (Kv.insert k v l).Pairwise (fun a b => a.1 < b.1) := by
  induction l with
  | nil => simp [Kv.insert]
  | cons x t ih =>
    obtain ⟨a, b⟩ := x
    rw [List.pairwise_cons] at hs
    unfold Kv.insert
    split
    · rename_i hlt
      refine List.pairwise_cons.mpr ⟨?_, List.pairwise_cons.mpr hs⟩
      intro c hc
      rcases List.mem_cons.mp hc with rfl | hc
      · exact hlt
      · exact Nat.lt_trans hlt (hs.1 c hc)
    · rename_i hge
      have hne : a ≠ k := hk (a, b) (List.mem_cons_self ..)
      refine List.pairwise_cons.mpr ⟨?_, ih hs.2 (fun c hc => hk c (List.mem_cons_of_mem _ hc))⟩
      intro c hc
      rcases (Kv.mem_insert k v t c).mp hc with rfl | hc
      · show a < k
        omega
      · exact hs.1 c hc

/-- Storing keeps the canonical form. -/
theorem Kv.put_wf [DecidableEq α] (d : Nat → α) (k : Nat) (v : α) (l : List (Nat × α)) (h : Kv.wf d l = true) : Kv.wf d (Kv.put d k v l) = true := by
  simp only [Kv.wf, Bool.and_eq_true, Kv.sorted_iff, List.all_eq_true, decide_eq_true_eq] at h ⊢
  have he : (Kv.erase k l).Pairwise (fun a b => a.1 < b.1) := List.Pairwise.filter _ h.1
  have hd : ∀ c ∈ Kv.erase k l, c.2 ≠ d c.1 := fun c hc => h.2 c (List.mem_filter.mp hc).1
  unfold Kv.put
  split
  · exact ⟨he, hd⟩
  · rename_i hv
    refine ⟨Kv.insert_sorted k v _ he (Kv.erase_ne k l), ?_⟩
    intro c hc
    rcases (Kv.mem_insert k v _ c).mp hc with rfl | hc
    · exact hv
    · exact hd c hc

/-- Dropping cells keeps the canonical form. -/
theorem Kv.filter_wf [DecidableEq α] (d : Nat → α) (p : Nat × α → Bool) (l : List (Nat × α)) (h : Kv.wf d l = true) :
    Kv.wf d (l.filter p) = true := by
  simp only [Kv.wf, Bool.and_eq_true, Kv.sorted_iff, List.all_eq_true, decide_eq_true_eq] at h ⊢
  exact ⟨List.Pairwise.filter _ h.1, fun c hc => h.2 c (List.mem_filter.mp hc).1⟩

end Sys2Proof.Machine
end

