-- ==== Sys2Proof/Laws/State.lean ====
section
/-! SUPPORT. State: what each named update of the block leaves unchanged, field by field, and what an entry reads as after it. -/

namespace Sys2Proof.Machine

open Sys2Proof

namespace Sys

@[simp] theorem wrW_dev (s : Sys) (k : Nat) (w : Word) : (s.wrW k w).dev = s.dev := rfl
@[simp] theorem wrW_pendState (s : Sys) (k : Nat) (w : Word) : (s.wrW k w).pendState = s.pendState := rfl
@[simp] theorem wrW_mem (s : Sys) (k : Nat) (w : Word) : (s.wrW k w).mem = s.mem := rfl
@[simp] theorem wrW_clk (s : Sys) (k : Nat) (w : Word) : (s.wrW k w).clk = s.clk := rfl
@[simp] theorem wrW_sramEpoch (s : Sys) (k : Nat) (w : Word) : (s.wrW k w).sramEpoch = s.sramEpoch := rfl
@[simp] theorem wrW_dramEpoch (s : Sys) (k : Nat) (w : Word) : (s.wrW k w).dramEpoch = s.dramEpoch := rfl
@[simp] theorem wrW_aonEpoch (s : Sys) (k : Nat) (w : Word) : (s.wrW k w).aonEpoch = s.aonEpoch := rfl
@[simp] theorem wrW_sent (s : Sys) (k : Nat) (w : Word) : (s.wrW k w).sent = s.sent := rfl
@[simp] theorem wrW_free (s : Sys) (k : Nat) (w : Word) : (s.wrW k w).free = s.free := rfl
@[simp] theorem wrW_chain (s : Sys) (k : Nat) (w : Word) : (s.wrW k w).chain = s.chain := rfl
@[simp] theorem wrW_eng (s : Sys) (k : Nat) (w : Word) : (s.wrW k w).eng = s.eng := rfl
@[simp] theorem wrW_gath (s : Sys) (k : Nat) (w : Word) : (s.wrW k w).gath = s.gath := rfl
@[simp] theorem wrW_smp (s : Sys) (k : Nat) (w : Word) : (s.wrW k w).smp = s.smp := rfl
@[simp] theorem wrW_tb (s : Sys) (k : Nat) (w : Word) : (s.wrW k w).tb = s.tb := rfl
@[simp] theorem wrW_pw (s : Sys) (k : Nat) (w : Word) : (s.wrW k w).pw = s.pw := rfl
@[simp] theorem wrW_pads (s : Sys) (k : Nat) (w : Word) : (s.wrW k w).pads = s.pads := rfl
@[simp] theorem wrW_scu (s : Sys) (k : Nat) (w : Word) : (s.wrW k w).scu = s.scu := rfl
@[simp] theorem wrW_slots (s : Sys) (k : Nat) (w : Word) : (s.wrW k w).slots = s.slots := rfl
@[simp] theorem wrW_mpl (s : Sys) (k : Nat) (w : Word) : (s.wrW k w).mpl = s.mpl := rfl
@[simp] theorem wrW_stitch (s : Sys) (k : Nat) (w : Word) : (s.wrW k w).stitch = s.stitch := rfl
@[simp] theorem wrW_cal (s : Sys) (k : Nat) (w : Word) : (s.wrW k w).cal = s.cal := rfl
@[simp] theorem wrW_groups (s : Sys) (k : Nat) (w : Word) : (s.wrW k w).groups = s.groups := rfl
@[simp] theorem wrW_pen (s : Sys) (k : Nat) (w : Word) : (s.wrW k w).pen = s.pen := rfl
@[simp] theorem wrW_axes (s : Sys) (k : Nat) (w : Word) : (s.wrW k w).axes = s.axes := rfl
@[simp] theorem wrW_vbus (s : Sys) (k : Nat) (w : Word) : (s.wrW k w).vbus = s.vbus := rfl
@[simp] theorem wrW_cam (s : Sys) (k : Nat) (w : Word) : (s.wrW k w).cam = s.cam := rfl
@[simp] theorem wrW_lanes (s : Sys) (k : Nat) (w : Word) : (s.wrW k w).lanes = s.lanes := rfl
@[simp] theorem wrW_dram (s : Sys) (k : Nat) (w : Word) : (s.wrW k w).dram = s.dram := rfl
@[simp] theorem wrW_dma (s : Sys) (k : Nat) (w : Word) : (s.wrW k w).dma = s.dma := rfl
@[simp] theorem wrW_plic (s : Sys) (k : Nat) (w : Word) : (s.wrW k w).plic = s.plic := rfl
@[simp] theorem wrW_core (s : Sys) (k : Nat) (w : Word) : (s.wrW k w).core = s.core := rfl

@[simp] theorem wr_dev (s : Sys) (k v : Nat) : (s.wr k v).dev = s.dev := rfl
@[simp] theorem wr_pendState (s : Sys) (k v : Nat) : (s.wr k v).pendState = s.pendState := rfl
@[simp] theorem wr_mem (s : Sys) (k v : Nat) : (s.wr k v).mem = s.mem := rfl
@[simp] theorem wr_clk (s : Sys) (k v : Nat) : (s.wr k v).clk = s.clk := rfl
@[simp] theorem wr_sramEpoch (s : Sys) (k v : Nat) : (s.wr k v).sramEpoch = s.sramEpoch := rfl
@[simp] theorem wr_dramEpoch (s : Sys) (k v : Nat) : (s.wr k v).dramEpoch = s.dramEpoch := rfl
@[simp] theorem wr_aonEpoch (s : Sys) (k v : Nat) : (s.wr k v).aonEpoch = s.aonEpoch := rfl
@[simp] theorem wr_sent (s : Sys) (k v : Nat) : (s.wr k v).sent = s.sent := rfl
@[simp] theorem wr_free (s : Sys) (k v : Nat) : (s.wr k v).free = s.free := rfl
@[simp] theorem wr_chain (s : Sys) (k v : Nat) : (s.wr k v).chain = s.chain := rfl
@[simp] theorem wr_eng (s : Sys) (k v : Nat) : (s.wr k v).eng = s.eng := rfl
@[simp] theorem wr_gath (s : Sys) (k v : Nat) : (s.wr k v).gath = s.gath := rfl
@[simp] theorem wr_smp (s : Sys) (k v : Nat) : (s.wr k v).smp = s.smp := rfl
@[simp] theorem wr_tb (s : Sys) (k v : Nat) : (s.wr k v).tb = s.tb := rfl
@[simp] theorem wr_pw (s : Sys) (k v : Nat) : (s.wr k v).pw = s.pw := rfl
@[simp] theorem wr_pads (s : Sys) (k v : Nat) : (s.wr k v).pads = s.pads := rfl
@[simp] theorem wr_scu (s : Sys) (k v : Nat) : (s.wr k v).scu = s.scu := rfl
@[simp] theorem wr_slots (s : Sys) (k v : Nat) : (s.wr k v).slots = s.slots := rfl
@[simp] theorem wr_mpl (s : Sys) (k v : Nat) : (s.wr k v).mpl = s.mpl := rfl
@[simp] theorem wr_stitch (s : Sys) (k v : Nat) : (s.wr k v).stitch = s.stitch := rfl
@[simp] theorem wr_cal (s : Sys) (k v : Nat) : (s.wr k v).cal = s.cal := rfl
@[simp] theorem wr_groups (s : Sys) (k v : Nat) : (s.wr k v).groups = s.groups := rfl
@[simp] theorem wr_pen (s : Sys) (k v : Nat) : (s.wr k v).pen = s.pen := rfl
@[simp] theorem wr_axes (s : Sys) (k v : Nat) : (s.wr k v).axes = s.axes := rfl
@[simp] theorem wr_vbus (s : Sys) (k v : Nat) : (s.wr k v).vbus = s.vbus := rfl
@[simp] theorem wr_cam (s : Sys) (k v : Nat) : (s.wr k v).cam = s.cam := rfl
@[simp] theorem wr_lanes (s : Sys) (k v : Nat) : (s.wr k v).lanes = s.lanes := rfl
@[simp] theorem wr_dram (s : Sys) (k v : Nat) : (s.wr k v).dram = s.dram := rfl
@[simp] theorem wr_dma (s : Sys) (k v : Nat) : (s.wr k v).dma = s.dma := rfl
@[simp] theorem wr_plic (s : Sys) (k v : Nat) : (s.wr k v).plic = s.plic := rfl
@[simp] theorem wr_core (s : Sys) (k v : Nat) : (s.wr k v).core = s.core := rfl

@[simp] theorem wrI_dev (s : Sys) (k : Nat) (v : Int) : (s.wrI k v).dev = s.dev := rfl
@[simp] theorem wrI_pendState (s : Sys) (k : Nat) (v : Int) : (s.wrI k v).pendState = s.pendState := rfl
@[simp] theorem wrI_mem (s : Sys) (k : Nat) (v : Int) : (s.wrI k v).mem = s.mem := rfl
@[simp] theorem wrI_clk (s : Sys) (k : Nat) (v : Int) : (s.wrI k v).clk = s.clk := rfl
@[simp] theorem wrI_sramEpoch (s : Sys) (k : Nat) (v : Int) : (s.wrI k v).sramEpoch = s.sramEpoch := rfl
@[simp] theorem wrI_dramEpoch (s : Sys) (k : Nat) (v : Int) : (s.wrI k v).dramEpoch = s.dramEpoch := rfl
@[simp] theorem wrI_aonEpoch (s : Sys) (k : Nat) (v : Int) : (s.wrI k v).aonEpoch = s.aonEpoch := rfl
@[simp] theorem wrI_sent (s : Sys) (k : Nat) (v : Int) : (s.wrI k v).sent = s.sent := rfl
@[simp] theorem wrI_free (s : Sys) (k : Nat) (v : Int) : (s.wrI k v).free = s.free := rfl
@[simp] theorem wrI_chain (s : Sys) (k : Nat) (v : Int) : (s.wrI k v).chain = s.chain := rfl
@[simp] theorem wrI_eng (s : Sys) (k : Nat) (v : Int) : (s.wrI k v).eng = s.eng := rfl
@[simp] theorem wrI_gath (s : Sys) (k : Nat) (v : Int) : (s.wrI k v).gath = s.gath := rfl
@[simp] theorem wrI_smp (s : Sys) (k : Nat) (v : Int) : (s.wrI k v).smp = s.smp := rfl
@[simp] theorem wrI_tb (s : Sys) (k : Nat) (v : Int) : (s.wrI k v).tb = s.tb := rfl
@[simp] theorem wrI_pw (s : Sys) (k : Nat) (v : Int) : (s.wrI k v).pw = s.pw := rfl
@[simp] theorem wrI_pads (s : Sys) (k : Nat) (v : Int) : (s.wrI k v).pads = s.pads := rfl
@[simp] theorem wrI_scu (s : Sys) (k : Nat) (v : Int) : (s.wrI k v).scu = s.scu := rfl
@[simp] theorem wrI_slots (s : Sys) (k : Nat) (v : Int) : (s.wrI k v).slots = s.slots := rfl
@[simp] theorem wrI_mpl (s : Sys) (k : Nat) (v : Int) : (s.wrI k v).mpl = s.mpl := rfl
@[simp] theorem wrI_stitch (s : Sys) (k : Nat) (v : Int) : (s.wrI k v).stitch = s.stitch := rfl
@[simp] theorem wrI_cal (s : Sys) (k : Nat) (v : Int) : (s.wrI k v).cal = s.cal := rfl
@[simp] theorem wrI_groups (s : Sys) (k : Nat) (v : Int) : (s.wrI k v).groups = s.groups := rfl
@[simp] theorem wrI_pen (s : Sys) (k : Nat) (v : Int) : (s.wrI k v).pen = s.pen := rfl
@[simp] theorem wrI_axes (s : Sys) (k : Nat) (v : Int) : (s.wrI k v).axes = s.axes := rfl
@[simp] theorem wrI_vbus (s : Sys) (k : Nat) (v : Int) : (s.wrI k v).vbus = s.vbus := rfl
@[simp] theorem wrI_cam (s : Sys) (k : Nat) (v : Int) : (s.wrI k v).cam = s.cam := rfl
@[simp] theorem wrI_lanes (s : Sys) (k : Nat) (v : Int) : (s.wrI k v).lanes = s.lanes := rfl
@[simp] theorem wrI_dram (s : Sys) (k : Nat) (v : Int) : (s.wrI k v).dram = s.dram := rfl
@[simp] theorem wrI_dma (s : Sys) (k : Nat) (v : Int) : (s.wrI k v).dma = s.dma := rfl
@[simp] theorem wrI_plic (s : Sys) (k : Nat) (v : Int) : (s.wrI k v).plic = s.plic := rfl
@[simp] theorem wrI_core (s : Sys) (k : Nat) (v : Int) : (s.wrI k v).core = s.core := rfl

@[simp] theorem wrB_dev (s : Sys) (k : Nat) (b : Bool) : (s.wrB k b).dev = s.dev := rfl
@[simp] theorem wrB_pendState (s : Sys) (k : Nat) (b : Bool) : (s.wrB k b).pendState = s.pendState := rfl
@[simp] theorem wrB_mem (s : Sys) (k : Nat) (b : Bool) : (s.wrB k b).mem = s.mem := rfl
@[simp] theorem wrB_clk (s : Sys) (k : Nat) (b : Bool) : (s.wrB k b).clk = s.clk := rfl
@[simp] theorem wrB_sramEpoch (s : Sys) (k : Nat) (b : Bool) : (s.wrB k b).sramEpoch = s.sramEpoch := rfl
@[simp] theorem wrB_dramEpoch (s : Sys) (k : Nat) (b : Bool) : (s.wrB k b).dramEpoch = s.dramEpoch := rfl
@[simp] theorem wrB_aonEpoch (s : Sys) (k : Nat) (b : Bool) : (s.wrB k b).aonEpoch = s.aonEpoch := rfl
@[simp] theorem wrB_sent (s : Sys) (k : Nat) (b : Bool) : (s.wrB k b).sent = s.sent := rfl
@[simp] theorem wrB_free (s : Sys) (k : Nat) (b : Bool) : (s.wrB k b).free = s.free := rfl
@[simp] theorem wrB_chain (s : Sys) (k : Nat) (b : Bool) : (s.wrB k b).chain = s.chain := rfl
@[simp] theorem wrB_eng (s : Sys) (k : Nat) (b : Bool) : (s.wrB k b).eng = s.eng := rfl
@[simp] theorem wrB_gath (s : Sys) (k : Nat) (b : Bool) : (s.wrB k b).gath = s.gath := rfl
@[simp] theorem wrB_smp (s : Sys) (k : Nat) (b : Bool) : (s.wrB k b).smp = s.smp := rfl
@[simp] theorem wrB_tb (s : Sys) (k : Nat) (b : Bool) : (s.wrB k b).tb = s.tb := rfl
@[simp] theorem wrB_pw (s : Sys) (k : Nat) (b : Bool) : (s.wrB k b).pw = s.pw := rfl
@[simp] theorem wrB_pads (s : Sys) (k : Nat) (b : Bool) : (s.wrB k b).pads = s.pads := rfl
@[simp] theorem wrB_scu (s : Sys) (k : Nat) (b : Bool) : (s.wrB k b).scu = s.scu := rfl
@[simp] theorem wrB_slots (s : Sys) (k : Nat) (b : Bool) : (s.wrB k b).slots = s.slots := rfl
@[simp] theorem wrB_mpl (s : Sys) (k : Nat) (b : Bool) : (s.wrB k b).mpl = s.mpl := rfl
@[simp] theorem wrB_stitch (s : Sys) (k : Nat) (b : Bool) : (s.wrB k b).stitch = s.stitch := rfl
@[simp] theorem wrB_cal (s : Sys) (k : Nat) (b : Bool) : (s.wrB k b).cal = s.cal := rfl
@[simp] theorem wrB_groups (s : Sys) (k : Nat) (b : Bool) : (s.wrB k b).groups = s.groups := rfl
@[simp] theorem wrB_pen (s : Sys) (k : Nat) (b : Bool) : (s.wrB k b).pen = s.pen := rfl
@[simp] theorem wrB_axes (s : Sys) (k : Nat) (b : Bool) : (s.wrB k b).axes = s.axes := rfl
@[simp] theorem wrB_vbus (s : Sys) (k : Nat) (b : Bool) : (s.wrB k b).vbus = s.vbus := rfl
@[simp] theorem wrB_cam (s : Sys) (k : Nat) (b : Bool) : (s.wrB k b).cam = s.cam := rfl
@[simp] theorem wrB_lanes (s : Sys) (k : Nat) (b : Bool) : (s.wrB k b).lanes = s.lanes := rfl
@[simp] theorem wrB_dram (s : Sys) (k : Nat) (b : Bool) : (s.wrB k b).dram = s.dram := rfl
@[simp] theorem wrB_dma (s : Sys) (k : Nat) (b : Bool) : (s.wrB k b).dma = s.dma := rfl
@[simp] theorem wrB_plic (s : Sys) (k : Nat) (b : Bool) : (s.wrB k b).plic = s.plic := rfl
@[simp] theorem wrB_core (s : Sys) (k : Nat) (b : Bool) : (s.wrB k b).core = s.core := rfl

@[simp] theorem wrBit_dev (s : Sys) (k i : Nat) (b : Bool) : (s.wrBit k i b).dev = s.dev := rfl
@[simp] theorem wrBit_pendState (s : Sys) (k i : Nat) (b : Bool) : (s.wrBit k i b).pendState = s.pendState := rfl
@[simp] theorem wrBit_mem (s : Sys) (k i : Nat) (b : Bool) : (s.wrBit k i b).mem = s.mem := rfl
@[simp] theorem wrBit_clk (s : Sys) (k i : Nat) (b : Bool) : (s.wrBit k i b).clk = s.clk := rfl
@[simp] theorem wrBit_sramEpoch (s : Sys) (k i : Nat) (b : Bool) : (s.wrBit k i b).sramEpoch = s.sramEpoch := rfl
@[simp] theorem wrBit_dramEpoch (s : Sys) (k i : Nat) (b : Bool) : (s.wrBit k i b).dramEpoch = s.dramEpoch := rfl
@[simp] theorem wrBit_aonEpoch (s : Sys) (k i : Nat) (b : Bool) : (s.wrBit k i b).aonEpoch = s.aonEpoch := rfl
@[simp] theorem wrBit_sent (s : Sys) (k i : Nat) (b : Bool) : (s.wrBit k i b).sent = s.sent := rfl
@[simp] theorem wrBit_free (s : Sys) (k i : Nat) (b : Bool) : (s.wrBit k i b).free = s.free := rfl
@[simp] theorem wrBit_chain (s : Sys) (k i : Nat) (b : Bool) : (s.wrBit k i b).chain = s.chain := rfl
@[simp] theorem wrBit_eng (s : Sys) (k i : Nat) (b : Bool) : (s.wrBit k i b).eng = s.eng := rfl
@[simp] theorem wrBit_gath (s : Sys) (k i : Nat) (b : Bool) : (s.wrBit k i b).gath = s.gath := rfl
@[simp] theorem wrBit_smp (s : Sys) (k i : Nat) (b : Bool) : (s.wrBit k i b).smp = s.smp := rfl
@[simp] theorem wrBit_tb (s : Sys) (k i : Nat) (b : Bool) : (s.wrBit k i b).tb = s.tb := rfl
@[simp] theorem wrBit_pw (s : Sys) (k i : Nat) (b : Bool) : (s.wrBit k i b).pw = s.pw := rfl
@[simp] theorem wrBit_pads (s : Sys) (k i : Nat) (b : Bool) : (s.wrBit k i b).pads = s.pads := rfl
@[simp] theorem wrBit_scu (s : Sys) (k i : Nat) (b : Bool) : (s.wrBit k i b).scu = s.scu := rfl
@[simp] theorem wrBit_slots (s : Sys) (k i : Nat) (b : Bool) : (s.wrBit k i b).slots = s.slots := rfl
@[simp] theorem wrBit_mpl (s : Sys) (k i : Nat) (b : Bool) : (s.wrBit k i b).mpl = s.mpl := rfl
@[simp] theorem wrBit_stitch (s : Sys) (k i : Nat) (b : Bool) : (s.wrBit k i b).stitch = s.stitch := rfl
@[simp] theorem wrBit_cal (s : Sys) (k i : Nat) (b : Bool) : (s.wrBit k i b).cal = s.cal := rfl
@[simp] theorem wrBit_groups (s : Sys) (k i : Nat) (b : Bool) : (s.wrBit k i b).groups = s.groups := rfl
@[simp] theorem wrBit_pen (s : Sys) (k i : Nat) (b : Bool) : (s.wrBit k i b).pen = s.pen := rfl
@[simp] theorem wrBit_axes (s : Sys) (k i : Nat) (b : Bool) : (s.wrBit k i b).axes = s.axes := rfl
@[simp] theorem wrBit_vbus (s : Sys) (k i : Nat) (b : Bool) : (s.wrBit k i b).vbus = s.vbus := rfl
@[simp] theorem wrBit_cam (s : Sys) (k i : Nat) (b : Bool) : (s.wrBit k i b).cam = s.cam := rfl
@[simp] theorem wrBit_lanes (s : Sys) (k i : Nat) (b : Bool) : (s.wrBit k i b).lanes = s.lanes := rfl
@[simp] theorem wrBit_dram (s : Sys) (k i : Nat) (b : Bool) : (s.wrBit k i b).dram = s.dram := rfl
@[simp] theorem wrBit_dma (s : Sys) (k i : Nat) (b : Bool) : (s.wrBit k i b).dma = s.dma := rfl
@[simp] theorem wrBit_plic (s : Sys) (k i : Nat) (b : Bool) : (s.wrBit k i b).plic = s.plic := rfl
@[simp] theorem wrBit_core (s : Sys) (k i : Nat) (b : Bool) : (s.wrBit k i b).core = s.core := rfl

@[simp] theorem toDefault_dev (s : Sys) (k : Nat) : (s.toDefault k).dev = s.dev := rfl
@[simp] theorem toDefault_pendState (s : Sys) (k : Nat) : (s.toDefault k).pendState = s.pendState := rfl
@[simp] theorem toDefault_mem (s : Sys) (k : Nat) : (s.toDefault k).mem = s.mem := rfl
@[simp] theorem toDefault_clk (s : Sys) (k : Nat) : (s.toDefault k).clk = s.clk := rfl
@[simp] theorem toDefault_sramEpoch (s : Sys) (k : Nat) : (s.toDefault k).sramEpoch = s.sramEpoch := rfl
@[simp] theorem toDefault_dramEpoch (s : Sys) (k : Nat) : (s.toDefault k).dramEpoch = s.dramEpoch := rfl
@[simp] theorem toDefault_aonEpoch (s : Sys) (k : Nat) : (s.toDefault k).aonEpoch = s.aonEpoch := rfl
@[simp] theorem toDefault_sent (s : Sys) (k : Nat) : (s.toDefault k).sent = s.sent := rfl
@[simp] theorem toDefault_free (s : Sys) (k : Nat) : (s.toDefault k).free = s.free := rfl
@[simp] theorem toDefault_chain (s : Sys) (k : Nat) : (s.toDefault k).chain = s.chain := rfl
@[simp] theorem toDefault_eng (s : Sys) (k : Nat) : (s.toDefault k).eng = s.eng := rfl
@[simp] theorem toDefault_gath (s : Sys) (k : Nat) : (s.toDefault k).gath = s.gath := rfl
@[simp] theorem toDefault_smp (s : Sys) (k : Nat) : (s.toDefault k).smp = s.smp := rfl
@[simp] theorem toDefault_tb (s : Sys) (k : Nat) : (s.toDefault k).tb = s.tb := rfl
@[simp] theorem toDefault_pw (s : Sys) (k : Nat) : (s.toDefault k).pw = s.pw := rfl
@[simp] theorem toDefault_pads (s : Sys) (k : Nat) : (s.toDefault k).pads = s.pads := rfl
@[simp] theorem toDefault_scu (s : Sys) (k : Nat) : (s.toDefault k).scu = s.scu := rfl
@[simp] theorem toDefault_slots (s : Sys) (k : Nat) : (s.toDefault k).slots = s.slots := rfl
@[simp] theorem toDefault_mpl (s : Sys) (k : Nat) : (s.toDefault k).mpl = s.mpl := rfl
@[simp] theorem toDefault_stitch (s : Sys) (k : Nat) : (s.toDefault k).stitch = s.stitch := rfl
@[simp] theorem toDefault_cal (s : Sys) (k : Nat) : (s.toDefault k).cal = s.cal := rfl
@[simp] theorem toDefault_groups (s : Sys) (k : Nat) : (s.toDefault k).groups = s.groups := rfl
@[simp] theorem toDefault_pen (s : Sys) (k : Nat) : (s.toDefault k).pen = s.pen := rfl
@[simp] theorem toDefault_axes (s : Sys) (k : Nat) : (s.toDefault k).axes = s.axes := rfl
@[simp] theorem toDefault_vbus (s : Sys) (k : Nat) : (s.toDefault k).vbus = s.vbus := rfl
@[simp] theorem toDefault_cam (s : Sys) (k : Nat) : (s.toDefault k).cam = s.cam := rfl
@[simp] theorem toDefault_lanes (s : Sys) (k : Nat) : (s.toDefault k).lanes = s.lanes := rfl
@[simp] theorem toDefault_dram (s : Sys) (k : Nat) : (s.toDefault k).dram = s.dram := rfl
@[simp] theorem toDefault_dma (s : Sys) (k : Nat) : (s.toDefault k).dma = s.dma := rfl
@[simp] theorem toDefault_plic (s : Sys) (k : Nat) : (s.toDefault k).plic = s.plic := rfl
@[simp] theorem toDefault_core (s : Sys) (k : Nat) : (s.toDefault k).core = s.core := rfl

@[simp] theorem add_dev (s : Sys) (k bits n : Nat) : (s.add k bits n).dev = s.dev := rfl
@[simp] theorem add_pendState (s : Sys) (k bits n : Nat) : (s.add k bits n).pendState = s.pendState := rfl
@[simp] theorem add_mem (s : Sys) (k bits n : Nat) : (s.add k bits n).mem = s.mem := rfl
@[simp] theorem add_clk (s : Sys) (k bits n : Nat) : (s.add k bits n).clk = s.clk := rfl
@[simp] theorem add_sramEpoch (s : Sys) (k bits n : Nat) : (s.add k bits n).sramEpoch = s.sramEpoch := rfl
@[simp] theorem add_dramEpoch (s : Sys) (k bits n : Nat) : (s.add k bits n).dramEpoch = s.dramEpoch := rfl
@[simp] theorem add_aonEpoch (s : Sys) (k bits n : Nat) : (s.add k bits n).aonEpoch = s.aonEpoch := rfl
@[simp] theorem add_sent (s : Sys) (k bits n : Nat) : (s.add k bits n).sent = s.sent := rfl
@[simp] theorem add_free (s : Sys) (k bits n : Nat) : (s.add k bits n).free = s.free := rfl
@[simp] theorem add_chain (s : Sys) (k bits n : Nat) : (s.add k bits n).chain = s.chain := rfl
@[simp] theorem add_eng (s : Sys) (k bits n : Nat) : (s.add k bits n).eng = s.eng := rfl
@[simp] theorem add_gath (s : Sys) (k bits n : Nat) : (s.add k bits n).gath = s.gath := rfl
@[simp] theorem add_smp (s : Sys) (k bits n : Nat) : (s.add k bits n).smp = s.smp := rfl
@[simp] theorem add_tb (s : Sys) (k bits n : Nat) : (s.add k bits n).tb = s.tb := rfl
@[simp] theorem add_pw (s : Sys) (k bits n : Nat) : (s.add k bits n).pw = s.pw := rfl
@[simp] theorem add_pads (s : Sys) (k bits n : Nat) : (s.add k bits n).pads = s.pads := rfl
@[simp] theorem add_scu (s : Sys) (k bits n : Nat) : (s.add k bits n).scu = s.scu := rfl
@[simp] theorem add_slots (s : Sys) (k bits n : Nat) : (s.add k bits n).slots = s.slots := rfl
@[simp] theorem add_mpl (s : Sys) (k bits n : Nat) : (s.add k bits n).mpl = s.mpl := rfl
@[simp] theorem add_stitch (s : Sys) (k bits n : Nat) : (s.add k bits n).stitch = s.stitch := rfl
@[simp] theorem add_cal (s : Sys) (k bits n : Nat) : (s.add k bits n).cal = s.cal := rfl
@[simp] theorem add_groups (s : Sys) (k bits n : Nat) : (s.add k bits n).groups = s.groups := rfl
@[simp] theorem add_pen (s : Sys) (k bits n : Nat) : (s.add k bits n).pen = s.pen := rfl
@[simp] theorem add_axes (s : Sys) (k bits n : Nat) : (s.add k bits n).axes = s.axes := rfl
@[simp] theorem add_vbus (s : Sys) (k bits n : Nat) : (s.add k bits n).vbus = s.vbus := rfl
@[simp] theorem add_cam (s : Sys) (k bits n : Nat) : (s.add k bits n).cam = s.cam := rfl
@[simp] theorem add_lanes (s : Sys) (k bits n : Nat) : (s.add k bits n).lanes = s.lanes := rfl
@[simp] theorem add_dram (s : Sys) (k bits n : Nat) : (s.add k bits n).dram = s.dram := rfl
@[simp] theorem add_dma (s : Sys) (k bits n : Nat) : (s.add k bits n).dma = s.dma := rfl
@[simp] theorem add_plic (s : Sys) (k bits n : Nat) : (s.add k bits n).plic = s.plic := rfl
@[simp] theorem add_core (s : Sys) (k bits n : Nat) : (s.add k bits n).core = s.core := rfl

@[simp] theorem inc_dev (s : Sys) (k : Nat) : (s.inc k).dev = s.dev := rfl
@[simp] theorem inc_pendState (s : Sys) (k : Nat) : (s.inc k).pendState = s.pendState := rfl
@[simp] theorem inc_mem (s : Sys) (k : Nat) : (s.inc k).mem = s.mem := rfl
@[simp] theorem inc_clk (s : Sys) (k : Nat) : (s.inc k).clk = s.clk := rfl
@[simp] theorem inc_sramEpoch (s : Sys) (k : Nat) : (s.inc k).sramEpoch = s.sramEpoch := rfl
@[simp] theorem inc_dramEpoch (s : Sys) (k : Nat) : (s.inc k).dramEpoch = s.dramEpoch := rfl
@[simp] theorem inc_aonEpoch (s : Sys) (k : Nat) : (s.inc k).aonEpoch = s.aonEpoch := rfl
@[simp] theorem inc_sent (s : Sys) (k : Nat) : (s.inc k).sent = s.sent := rfl
@[simp] theorem inc_free (s : Sys) (k : Nat) : (s.inc k).free = s.free := rfl
@[simp] theorem inc_chain (s : Sys) (k : Nat) : (s.inc k).chain = s.chain := rfl
@[simp] theorem inc_eng (s : Sys) (k : Nat) : (s.inc k).eng = s.eng := rfl
@[simp] theorem inc_gath (s : Sys) (k : Nat) : (s.inc k).gath = s.gath := rfl
@[simp] theorem inc_smp (s : Sys) (k : Nat) : (s.inc k).smp = s.smp := rfl
@[simp] theorem inc_tb (s : Sys) (k : Nat) : (s.inc k).tb = s.tb := rfl
@[simp] theorem inc_pw (s : Sys) (k : Nat) : (s.inc k).pw = s.pw := rfl
@[simp] theorem inc_pads (s : Sys) (k : Nat) : (s.inc k).pads = s.pads := rfl
@[simp] theorem inc_scu (s : Sys) (k : Nat) : (s.inc k).scu = s.scu := rfl
@[simp] theorem inc_slots (s : Sys) (k : Nat) : (s.inc k).slots = s.slots := rfl
@[simp] theorem inc_mpl (s : Sys) (k : Nat) : (s.inc k).mpl = s.mpl := rfl
@[simp] theorem inc_stitch (s : Sys) (k : Nat) : (s.inc k).stitch = s.stitch := rfl
@[simp] theorem inc_cal (s : Sys) (k : Nat) : (s.inc k).cal = s.cal := rfl
@[simp] theorem inc_groups (s : Sys) (k : Nat) : (s.inc k).groups = s.groups := rfl
@[simp] theorem inc_pen (s : Sys) (k : Nat) : (s.inc k).pen = s.pen := rfl
@[simp] theorem inc_axes (s : Sys) (k : Nat) : (s.inc k).axes = s.axes := rfl
@[simp] theorem inc_vbus (s : Sys) (k : Nat) : (s.inc k).vbus = s.vbus := rfl
@[simp] theorem inc_cam (s : Sys) (k : Nat) : (s.inc k).cam = s.cam := rfl
@[simp] theorem inc_lanes (s : Sys) (k : Nat) : (s.inc k).lanes = s.lanes := rfl
@[simp] theorem inc_dram (s : Sys) (k : Nat) : (s.inc k).dram = s.dram := rfl
@[simp] theorem inc_dma (s : Sys) (k : Nat) : (s.inc k).dma = s.dma := rfl
@[simp] theorem inc_plic (s : Sys) (k : Nat) : (s.inc k).plic = s.plic := rfl
@[simp] theorem inc_core (s : Sys) (k : Nat) : (s.inc k).core = s.core := rfl

@[simp] theorem inc64_dev (s : Sys) (k : Nat) : (s.inc64 k).dev = s.dev := rfl
@[simp] theorem inc64_pendState (s : Sys) (k : Nat) : (s.inc64 k).pendState = s.pendState := rfl
@[simp] theorem inc64_mem (s : Sys) (k : Nat) : (s.inc64 k).mem = s.mem := rfl
@[simp] theorem inc64_clk (s : Sys) (k : Nat) : (s.inc64 k).clk = s.clk := rfl
@[simp] theorem inc64_sramEpoch (s : Sys) (k : Nat) : (s.inc64 k).sramEpoch = s.sramEpoch := rfl
@[simp] theorem inc64_dramEpoch (s : Sys) (k : Nat) : (s.inc64 k).dramEpoch = s.dramEpoch := rfl
@[simp] theorem inc64_aonEpoch (s : Sys) (k : Nat) : (s.inc64 k).aonEpoch = s.aonEpoch := rfl
@[simp] theorem inc64_sent (s : Sys) (k : Nat) : (s.inc64 k).sent = s.sent := rfl
@[simp] theorem inc64_free (s : Sys) (k : Nat) : (s.inc64 k).free = s.free := rfl
@[simp] theorem inc64_chain (s : Sys) (k : Nat) : (s.inc64 k).chain = s.chain := rfl
@[simp] theorem inc64_eng (s : Sys) (k : Nat) : (s.inc64 k).eng = s.eng := rfl
@[simp] theorem inc64_gath (s : Sys) (k : Nat) : (s.inc64 k).gath = s.gath := rfl
@[simp] theorem inc64_smp (s : Sys) (k : Nat) : (s.inc64 k).smp = s.smp := rfl
@[simp] theorem inc64_tb (s : Sys) (k : Nat) : (s.inc64 k).tb = s.tb := rfl
@[simp] theorem inc64_pw (s : Sys) (k : Nat) : (s.inc64 k).pw = s.pw := rfl
@[simp] theorem inc64_pads (s : Sys) (k : Nat) : (s.inc64 k).pads = s.pads := rfl
@[simp] theorem inc64_scu (s : Sys) (k : Nat) : (s.inc64 k).scu = s.scu := rfl
@[simp] theorem inc64_slots (s : Sys) (k : Nat) : (s.inc64 k).slots = s.slots := rfl
@[simp] theorem inc64_mpl (s : Sys) (k : Nat) : (s.inc64 k).mpl = s.mpl := rfl
@[simp] theorem inc64_stitch (s : Sys) (k : Nat) : (s.inc64 k).stitch = s.stitch := rfl
@[simp] theorem inc64_cal (s : Sys) (k : Nat) : (s.inc64 k).cal = s.cal := rfl
@[simp] theorem inc64_groups (s : Sys) (k : Nat) : (s.inc64 k).groups = s.groups := rfl
@[simp] theorem inc64_pen (s : Sys) (k : Nat) : (s.inc64 k).pen = s.pen := rfl
@[simp] theorem inc64_axes (s : Sys) (k : Nat) : (s.inc64 k).axes = s.axes := rfl
@[simp] theorem inc64_vbus (s : Sys) (k : Nat) : (s.inc64 k).vbus = s.vbus := rfl
@[simp] theorem inc64_cam (s : Sys) (k : Nat) : (s.inc64 k).cam = s.cam := rfl
@[simp] theorem inc64_lanes (s : Sys) (k : Nat) : (s.inc64 k).lanes = s.lanes := rfl
@[simp] theorem inc64_dram (s : Sys) (k : Nat) : (s.inc64 k).dram = s.dram := rfl
@[simp] theorem inc64_dma (s : Sys) (k : Nat) : (s.inc64 k).dma = s.dma := rfl
@[simp] theorem inc64_plic (s : Sys) (k : Nat) : (s.inc64 k).plic = s.plic := rfl
@[simp] theorem inc64_core (s : Sys) (k : Nat) : (s.inc64 k).core = s.core := rfl

@[simp] theorem clearEntries_dev (s : Sys) (p : Nat → Bool) : (s.clearEntries p).dev = s.dev := rfl
@[simp] theorem clearEntries_pendState (s : Sys) (p : Nat → Bool) : (s.clearEntries p).pendState = s.pendState := rfl
@[simp] theorem clearEntries_mem (s : Sys) (p : Nat → Bool) : (s.clearEntries p).mem = s.mem := rfl
@[simp] theorem clearEntries_clk (s : Sys) (p : Nat → Bool) : (s.clearEntries p).clk = s.clk := rfl
@[simp] theorem clearEntries_sramEpoch (s : Sys) (p : Nat → Bool) : (s.clearEntries p).sramEpoch = s.sramEpoch := rfl
@[simp] theorem clearEntries_dramEpoch (s : Sys) (p : Nat → Bool) : (s.clearEntries p).dramEpoch = s.dramEpoch := rfl
@[simp] theorem clearEntries_aonEpoch (s : Sys) (p : Nat → Bool) : (s.clearEntries p).aonEpoch = s.aonEpoch := rfl
@[simp] theorem clearEntries_sent (s : Sys) (p : Nat → Bool) : (s.clearEntries p).sent = s.sent := rfl
@[simp] theorem clearEntries_free (s : Sys) (p : Nat → Bool) : (s.clearEntries p).free = s.free := rfl
@[simp] theorem clearEntries_chain (s : Sys) (p : Nat → Bool) : (s.clearEntries p).chain = s.chain := rfl
@[simp] theorem clearEntries_eng (s : Sys) (p : Nat → Bool) : (s.clearEntries p).eng = s.eng := rfl
@[simp] theorem clearEntries_gath (s : Sys) (p : Nat → Bool) : (s.clearEntries p).gath = s.gath := rfl
@[simp] theorem clearEntries_smp (s : Sys) (p : Nat → Bool) : (s.clearEntries p).smp = s.smp := rfl
@[simp] theorem clearEntries_tb (s : Sys) (p : Nat → Bool) : (s.clearEntries p).tb = s.tb := rfl
@[simp] theorem clearEntries_pw (s : Sys) (p : Nat → Bool) : (s.clearEntries p).pw = s.pw := rfl
@[simp] theorem clearEntries_pads (s : Sys) (p : Nat → Bool) : (s.clearEntries p).pads = s.pads := rfl
@[simp] theorem clearEntries_scu (s : Sys) (p : Nat → Bool) : (s.clearEntries p).scu = s.scu := rfl
@[simp] theorem clearEntries_slots (s : Sys) (p : Nat → Bool) : (s.clearEntries p).slots = s.slots := rfl
@[simp] theorem clearEntries_mpl (s : Sys) (p : Nat → Bool) : (s.clearEntries p).mpl = s.mpl := rfl
@[simp] theorem clearEntries_stitch (s : Sys) (p : Nat → Bool) : (s.clearEntries p).stitch = s.stitch := rfl
@[simp] theorem clearEntries_cal (s : Sys) (p : Nat → Bool) : (s.clearEntries p).cal = s.cal := rfl
@[simp] theorem clearEntries_groups (s : Sys) (p : Nat → Bool) : (s.clearEntries p).groups = s.groups := rfl
@[simp] theorem clearEntries_pen (s : Sys) (p : Nat → Bool) : (s.clearEntries p).pen = s.pen := rfl
@[simp] theorem clearEntries_axes (s : Sys) (p : Nat → Bool) : (s.clearEntries p).axes = s.axes := rfl
@[simp] theorem clearEntries_vbus (s : Sys) (p : Nat → Bool) : (s.clearEntries p).vbus = s.vbus := rfl
@[simp] theorem clearEntries_cam (s : Sys) (p : Nat → Bool) : (s.clearEntries p).cam = s.cam := rfl
@[simp] theorem clearEntries_lanes (s : Sys) (p : Nat → Bool) : (s.clearEntries p).lanes = s.lanes := rfl
@[simp] theorem clearEntries_dram (s : Sys) (p : Nat → Bool) : (s.clearEntries p).dram = s.dram := rfl
@[simp] theorem clearEntries_dma (s : Sys) (p : Nat → Bool) : (s.clearEntries p).dma = s.dma := rfl
@[simp] theorem clearEntries_plic (s : Sys) (p : Nat → Bool) : (s.clearEntries p).plic = s.plic := rfl
@[simp] theorem clearEntries_core (s : Sys) (p : Nat → Bool) : (s.clearEntries p).core = s.core := rfl

@[simp] theorem emit_dev (s : Sys) (o : Out) : (s.emit o).dev = s.dev := rfl
@[simp] theorem emit_pendState (s : Sys) (o : Out) : (s.emit o).pendState = s.pendState := rfl
@[simp] theorem emit_od (s : Sys) (o : Out) : (s.emit o).od = s.od := rfl
@[simp] theorem emit_mem (s : Sys) (o : Out) : (s.emit o).mem = s.mem := rfl
@[simp] theorem emit_clk (s : Sys) (o : Out) : (s.emit o).clk = s.clk := rfl
@[simp] theorem emit_sramEpoch (s : Sys) (o : Out) : (s.emit o).sramEpoch = s.sramEpoch := rfl
@[simp] theorem emit_dramEpoch (s : Sys) (o : Out) : (s.emit o).dramEpoch = s.dramEpoch := rfl
@[simp] theorem emit_aonEpoch (s : Sys) (o : Out) : (s.emit o).aonEpoch = s.aonEpoch := rfl
@[simp] theorem emit_free (s : Sys) (o : Out) : (s.emit o).free = s.free := rfl
@[simp] theorem emit_chain (s : Sys) (o : Out) : (s.emit o).chain = s.chain := rfl
@[simp] theorem emit_eng (s : Sys) (o : Out) : (s.emit o).eng = s.eng := rfl
@[simp] theorem emit_gath (s : Sys) (o : Out) : (s.emit o).gath = s.gath := rfl
@[simp] theorem emit_smp (s : Sys) (o : Out) : (s.emit o).smp = s.smp := rfl
@[simp] theorem emit_tb (s : Sys) (o : Out) : (s.emit o).tb = s.tb := rfl
@[simp] theorem emit_pw (s : Sys) (o : Out) : (s.emit o).pw = s.pw := rfl
@[simp] theorem emit_pads (s : Sys) (o : Out) : (s.emit o).pads = s.pads := rfl
@[simp] theorem emit_scu (s : Sys) (o : Out) : (s.emit o).scu = s.scu := rfl
@[simp] theorem emit_slots (s : Sys) (o : Out) : (s.emit o).slots = s.slots := rfl
@[simp] theorem emit_mpl (s : Sys) (o : Out) : (s.emit o).mpl = s.mpl := rfl
@[simp] theorem emit_stitch (s : Sys) (o : Out) : (s.emit o).stitch = s.stitch := rfl
@[simp] theorem emit_cal (s : Sys) (o : Out) : (s.emit o).cal = s.cal := rfl
@[simp] theorem emit_groups (s : Sys) (o : Out) : (s.emit o).groups = s.groups := rfl
@[simp] theorem emit_pen (s : Sys) (o : Out) : (s.emit o).pen = s.pen := rfl
@[simp] theorem emit_axes (s : Sys) (o : Out) : (s.emit o).axes = s.axes := rfl
@[simp] theorem emit_vbus (s : Sys) (o : Out) : (s.emit o).vbus = s.vbus := rfl
@[simp] theorem emit_cam (s : Sys) (o : Out) : (s.emit o).cam = s.cam := rfl
@[simp] theorem emit_lanes (s : Sys) (o : Out) : (s.emit o).lanes = s.lanes := rfl
@[simp] theorem emit_dram (s : Sys) (o : Out) : (s.emit o).dram = s.dram := rfl
@[simp] theorem emit_dma (s : Sys) (o : Out) : (s.emit o).dma = s.dma := rfl
@[simp] theorem emit_plic (s : Sys) (o : Out) : (s.emit o).plic = s.plic := rfl
@[simp] theorem emit_core (s : Sys) (o : Out) : (s.emit o).core = s.core := rfl

@[simp] theorem useFree_dev (s : Sys) : (s.useFree).dev = s.dev := rfl
@[simp] theorem useFree_pendState (s : Sys) : (s.useFree).pendState = s.pendState := rfl
@[simp] theorem useFree_od (s : Sys) : (s.useFree).od = s.od := rfl
@[simp] theorem useFree_mem (s : Sys) : (s.useFree).mem = s.mem := rfl
@[simp] theorem useFree_clk (s : Sys) : (s.useFree).clk = s.clk := rfl
@[simp] theorem useFree_sramEpoch (s : Sys) : (s.useFree).sramEpoch = s.sramEpoch := rfl
@[simp] theorem useFree_dramEpoch (s : Sys) : (s.useFree).dramEpoch = s.dramEpoch := rfl
@[simp] theorem useFree_aonEpoch (s : Sys) : (s.useFree).aonEpoch = s.aonEpoch := rfl
@[simp] theorem useFree_sent (s : Sys) : (s.useFree).sent = s.sent := rfl
@[simp] theorem useFree_chain (s : Sys) : (s.useFree).chain = s.chain := rfl
@[simp] theorem useFree_eng (s : Sys) : (s.useFree).eng = s.eng := rfl
@[simp] theorem useFree_gath (s : Sys) : (s.useFree).gath = s.gath := rfl
@[simp] theorem useFree_smp (s : Sys) : (s.useFree).smp = s.smp := rfl
@[simp] theorem useFree_tb (s : Sys) : (s.useFree).tb = s.tb := rfl
@[simp] theorem useFree_pw (s : Sys) : (s.useFree).pw = s.pw := rfl
@[simp] theorem useFree_pads (s : Sys) : (s.useFree).pads = s.pads := rfl
@[simp] theorem useFree_scu (s : Sys) : (s.useFree).scu = s.scu := rfl
@[simp] theorem useFree_slots (s : Sys) : (s.useFree).slots = s.slots := rfl
@[simp] theorem useFree_mpl (s : Sys) : (s.useFree).mpl = s.mpl := rfl
@[simp] theorem useFree_stitch (s : Sys) : (s.useFree).stitch = s.stitch := rfl
@[simp] theorem useFree_cal (s : Sys) : (s.useFree).cal = s.cal := rfl
@[simp] theorem useFree_groups (s : Sys) : (s.useFree).groups = s.groups := rfl
@[simp] theorem useFree_pen (s : Sys) : (s.useFree).pen = s.pen := rfl
@[simp] theorem useFree_axes (s : Sys) : (s.useFree).axes = s.axes := rfl
@[simp] theorem useFree_vbus (s : Sys) : (s.useFree).vbus = s.vbus := rfl
@[simp] theorem useFree_cam (s : Sys) : (s.useFree).cam = s.cam := rfl
@[simp] theorem useFree_lanes (s : Sys) : (s.useFree).lanes = s.lanes := rfl
@[simp] theorem useFree_dram (s : Sys) : (s.useFree).dram = s.dram := rfl
@[simp] theorem useFree_dma (s : Sys) : (s.useFree).dma = s.dma := rfl
@[simp] theorem useFree_plic (s : Sys) : (s.useFree).plic = s.plic := rfl
@[simp] theorem useFree_core (s : Sys) : (s.useFree).core = s.core := rfl

@[simp] theorem setDev_pendState (s : Sys) (d : DevState) : (s.setDev d).pendState = s.pendState := rfl
@[simp] theorem setDev_od (s : Sys) (d : DevState) : (s.setDev d).od = s.od := rfl
@[simp] theorem setDev_mem (s : Sys) (d : DevState) : (s.setDev d).mem = s.mem := rfl
@[simp] theorem setDev_clk (s : Sys) (d : DevState) : (s.setDev d).clk = s.clk := rfl
@[simp] theorem setDev_sramEpoch (s : Sys) (d : DevState) : (s.setDev d).sramEpoch = s.sramEpoch := rfl
@[simp] theorem setDev_dramEpoch (s : Sys) (d : DevState) : (s.setDev d).dramEpoch = s.dramEpoch := rfl
@[simp] theorem setDev_aonEpoch (s : Sys) (d : DevState) : (s.setDev d).aonEpoch = s.aonEpoch := rfl
@[simp] theorem setDev_sent (s : Sys) (d : DevState) : (s.setDev d).sent = s.sent := rfl
@[simp] theorem setDev_free (s : Sys) (d : DevState) : (s.setDev d).free = s.free := rfl
@[simp] theorem setDev_chain (s : Sys) (d : DevState) : (s.setDev d).chain = s.chain := rfl
@[simp] theorem setDev_eng (s : Sys) (d : DevState) : (s.setDev d).eng = s.eng := rfl
@[simp] theorem setDev_gath (s : Sys) (d : DevState) : (s.setDev d).gath = s.gath := rfl
@[simp] theorem setDev_smp (s : Sys) (d : DevState) : (s.setDev d).smp = s.smp := rfl
@[simp] theorem setDev_tb (s : Sys) (d : DevState) : (s.setDev d).tb = s.tb := rfl
@[simp] theorem setDev_pw (s : Sys) (d : DevState) : (s.setDev d).pw = s.pw := rfl
@[simp] theorem setDev_pads (s : Sys) (d : DevState) : (s.setDev d).pads = s.pads := rfl
@[simp] theorem setDev_scu (s : Sys) (d : DevState) : (s.setDev d).scu = s.scu := rfl
@[simp] theorem setDev_slots (s : Sys) (d : DevState) : (s.setDev d).slots = s.slots := rfl
@[simp] theorem setDev_mpl (s : Sys) (d : DevState) : (s.setDev d).mpl = s.mpl := rfl
@[simp] theorem setDev_stitch (s : Sys) (d : DevState) : (s.setDev d).stitch = s.stitch := rfl
@[simp] theorem setDev_cal (s : Sys) (d : DevState) : (s.setDev d).cal = s.cal := rfl
@[simp] theorem setDev_groups (s : Sys) (d : DevState) : (s.setDev d).groups = s.groups := rfl
@[simp] theorem setDev_pen (s : Sys) (d : DevState) : (s.setDev d).pen = s.pen := rfl
@[simp] theorem setDev_axes (s : Sys) (d : DevState) : (s.setDev d).axes = s.axes := rfl
@[simp] theorem setDev_vbus (s : Sys) (d : DevState) : (s.setDev d).vbus = s.vbus := rfl
@[simp] theorem setDev_cam (s : Sys) (d : DevState) : (s.setDev d).cam = s.cam := rfl
@[simp] theorem setDev_lanes (s : Sys) (d : DevState) : (s.setDev d).lanes = s.lanes := rfl
@[simp] theorem setDev_dram (s : Sys) (d : DevState) : (s.setDev d).dram = s.dram := rfl
@[simp] theorem setDev_dma (s : Sys) (d : DevState) : (s.setDev d).dma = s.dma := rfl
@[simp] theorem setDev_plic (s : Sys) (d : DevState) : (s.setDev d).plic = s.plic := rfl
@[simp] theorem setDev_core (s : Sys) (d : DevState) : (s.setDev d).core = s.core := rfl

@[simp] theorem setByte_dev (s : Sys) (a : Nat) (b : Byte) : (s.setByte a b).dev = s.dev := rfl
@[simp] theorem setByte_pendState (s : Sys) (a : Nat) (b : Byte) : (s.setByte a b).pendState = s.pendState := rfl
@[simp] theorem setByte_od (s : Sys) (a : Nat) (b : Byte) : (s.setByte a b).od = s.od := rfl
@[simp] theorem setByte_clk (s : Sys) (a : Nat) (b : Byte) : (s.setByte a b).clk = s.clk := rfl
@[simp] theorem setByte_sramEpoch (s : Sys) (a : Nat) (b : Byte) : (s.setByte a b).sramEpoch = s.sramEpoch := rfl
@[simp] theorem setByte_dramEpoch (s : Sys) (a : Nat) (b : Byte) : (s.setByte a b).dramEpoch = s.dramEpoch := rfl
@[simp] theorem setByte_aonEpoch (s : Sys) (a : Nat) (b : Byte) : (s.setByte a b).aonEpoch = s.aonEpoch := rfl
@[simp] theorem setByte_sent (s : Sys) (a : Nat) (b : Byte) : (s.setByte a b).sent = s.sent := rfl
@[simp] theorem setByte_free (s : Sys) (a : Nat) (b : Byte) : (s.setByte a b).free = s.free := rfl
@[simp] theorem setByte_chain (s : Sys) (a : Nat) (b : Byte) : (s.setByte a b).chain = s.chain := rfl
@[simp] theorem setByte_eng (s : Sys) (a : Nat) (b : Byte) : (s.setByte a b).eng = s.eng := rfl
@[simp] theorem setByte_gath (s : Sys) (a : Nat) (b : Byte) : (s.setByte a b).gath = s.gath := rfl
@[simp] theorem setByte_smp (s : Sys) (a : Nat) (b : Byte) : (s.setByte a b).smp = s.smp := rfl
@[simp] theorem setByte_tb (s : Sys) (a : Nat) (b : Byte) : (s.setByte a b).tb = s.tb := rfl
@[simp] theorem setByte_pw (s : Sys) (a : Nat) (b : Byte) : (s.setByte a b).pw = s.pw := rfl
@[simp] theorem setByte_pads (s : Sys) (a : Nat) (b : Byte) : (s.setByte a b).pads = s.pads := rfl
@[simp] theorem setByte_scu (s : Sys) (a : Nat) (b : Byte) : (s.setByte a b).scu = s.scu := rfl
@[simp] theorem setByte_slots (s : Sys) (a : Nat) (b : Byte) : (s.setByte a b).slots = s.slots := rfl
@[simp] theorem setByte_mpl (s : Sys) (a : Nat) (b : Byte) : (s.setByte a b).mpl = s.mpl := rfl
@[simp] theorem setByte_stitch (s : Sys) (a : Nat) (b : Byte) : (s.setByte a b).stitch = s.stitch := rfl
@[simp] theorem setByte_cal (s : Sys) (a : Nat) (b : Byte) : (s.setByte a b).cal = s.cal := rfl
@[simp] theorem setByte_groups (s : Sys) (a : Nat) (b : Byte) : (s.setByte a b).groups = s.groups := rfl
@[simp] theorem setByte_pen (s : Sys) (a : Nat) (b : Byte) : (s.setByte a b).pen = s.pen := rfl
@[simp] theorem setByte_axes (s : Sys) (a : Nat) (b : Byte) : (s.setByte a b).axes = s.axes := rfl
@[simp] theorem setByte_vbus (s : Sys) (a : Nat) (b : Byte) : (s.setByte a b).vbus = s.vbus := rfl
@[simp] theorem setByte_cam (s : Sys) (a : Nat) (b : Byte) : (s.setByte a b).cam = s.cam := rfl
@[simp] theorem setByte_lanes (s : Sys) (a : Nat) (b : Byte) : (s.setByte a b).lanes = s.lanes := rfl
@[simp] theorem setByte_dram (s : Sys) (a : Nat) (b : Byte) : (s.setByte a b).dram = s.dram := rfl
@[simp] theorem setByte_dma (s : Sys) (a : Nat) (b : Byte) : (s.setByte a b).dma = s.dma := rfl
@[simp] theorem setByte_plic (s : Sys) (a : Nat) (b : Byte) : (s.setByte a b).plic = s.plic := rfl
@[simp] theorem setByte_core (s : Sys) (a : Nat) (b : Byte) : (s.setByte a b).core = s.core := rfl

@[simp] theorem emit_sent (s : Sys) (o : Out) : (s.emit o).sent = o :: s.sent := rfl
@[simp] theorem useFree_free (s : Sys) : s.useFree.free = s.free + 1 := rfl
@[simp] theorem setDev_dev (s : Sys) (d : DevState) : (s.setDev d).dev = d := rfl

/-! ### Entries -/

@[simp] theorem rdW_wrW (s : Sys) (k k' : Nat) (w : Word) : (s.wrW k w).rdW k' = if k' = k then w else s.rdW k' := by
  simp [rdW, wrW]

/-- An entry that is written reads as its value of 64 bits, every other entry as before. -/
@[simp] theorem rd_wr (s : Sys) (k k' v : Nat) : (s.wr k v).rd k' = if k' = k then v % 2 ^ 64 else s.rd k' := by
  simp only [rd, wr, rdW_wrW]
  split <;> simp

@[simp] theorem rd_wrI (s : Sys) (k k' : Nat) (v : Int) :
    (s.wrI k v).rd k' = if k' = k then (BitVec.ofInt 64 v).toNat else s.rd k' := by
  simp only [rd, wrI, rdW_wrW]
  split <;> rfl

@[simp] theorem rd_wrB (s : Sys) (k k' : Nat) (b : Bool) : (s.wrB k b).rd k' = if k' = k then b2n b else s.rd k' := by
  cases b <;> simp [wrB, b2n]

@[simp] theorem rd_wrBit (s : Sys) (k k' i : Nat) (b : Bool) :
    (s.wrBit k i b).rd k' = if k' = k then putBit (s.rd k) i b % 2 ^ 64 else s.rd k' := by
  simp [wrBit]

@[simp] theorem rd_add (s : Sys) (k k' bits n : Nat) :
    (s.add k bits n).rd k' = if k' = k then (s.rd k + n) % 2 ^ bits % 2 ^ 64 else s.rd k' := by
  simp [add]

/-- A 32-bit counter counts one more and wraps. -/
@[simp] theorem rd_inc (s : Sys) (k k' : Nat) : (s.inc k).rd k' = if k' = k then (s.rd k + 1) % 2 ^ 32 else s.rd k' := by
  simp only [inc, rd_add]
  split <;> omega

@[simp] theorem rd_inc64 (s : Sys) (k k' : Nat) : (s.inc64 k).rd k' = if k' = k then (s.rd k + 1) % 2 ^ 64 else s.rd k' := by
  simp [inc64]

@[simp] theorem rd_toDefault (s : Sys) (k k' : Nat) :
    (s.toDefault k).rd k' = if k' = k then (odDefaultWord k).toNat else s.rd k' := by
  simp only [rd, toDefault, rdW_wrW]
  split <;> rfl

@[simp] theorem rd_emit (s : Sys) (o : Out) (k : Nat) : (s.emit o).rd k = s.rd k := rfl
@[simp] theorem rd_useFree (s : Sys) (k : Nat) : s.useFree.rd k = s.rd k := rfl
@[simp] theorem rd_setDev (s : Sys) (d : DevState) (k : Nat) : (s.setDev d).rd k = s.rd k := rfl
@[simp] theorem rd_setByte (s : Sys) (a : Nat) (b : Byte) (k : Nat) : (s.setByte a b).rd k = s.rd k := rfl

/-- Storing in a sparse map of the entries keeps their canonical form. -/
theorem wrW_odWf (s : Sys) (k : Nat) (w : Word) (h : Kv.wf odDefaultWord s.od = true) : Kv.wf odDefaultWord (s.wrW k w).od = true :=
  Kv.put_wf _ _ _ _ h

/-! ### Memory -/

/-- A byte that is stored is read back, every other byte reads as before. -/
@[simp] theorem byte_setByte (s : Sys) (a a' : Nat) (b : Byte) : (s.setByte a b).byte a' = if a' = a then b else s.byte a' := by
  simp [byte, setByte]

@[simp] theorem byte_wrW (s : Sys) (k a : Nat) (w : Word) : (s.wrW k w).byte a = s.byte a := rfl
@[simp] theorem byte_wr (s : Sys) (k v a : Nat) : (s.wr k v).byte a = s.byte a := rfl
@[simp] theorem byte_emit (s : Sys) (o : Out) (a : Nat) : (s.emit o).byte a = s.byte a := rfl
@[simp] theorem byte_useFree (s : Sys) (a : Nat) : s.useFree.byte a = s.byte a := rfl

/-- Storing a byte keeps the canonical form of memory. -/
theorem setByte_memWf (s : Sys) (a : Nat) (b : Byte) (h : s.memWf = true) : (s.setByte a b).memWf = true :=
  Kv.put_wf _ _ _ _ h

/-- Storing bytes leaves every byte outside them as it was. -/
theorem byte_setBytes_out (s : Sys) (a : Nat) (l : List Nat) (a' : Nat) (h : a' < a ∨ a + l.length ≤ a') :
    (s.setBytes a l).byte a' = s.byte a' := by
  induction l generalizing s a with
  | nil => rfl
  | cons b t ih =>
    simp only [List.length_cons] at h
    rw [setBytes, ih _ _ (by omega), byte_setByte, if_neg (by omega)]

/-- Stored bytes are read back. -/
theorem byte_setBytes_in (s : Sys) (a : Nat) (l : List Nat) (i : Nat) (h : i < l.length) :
    (s.setBytes a l).byte (a + i) = BitVec.ofNat 8 (l.getD i 0) := by
  induction l generalizing s a i with
  | nil => simp at h
  | cons b t ih =>
    cases i with
    | zero => rw [setBytes, byte_setBytes_out _ _ _ _ (by omega)]; simp
    | succ i =>
      have := ih (s.setByte a (BitVec.ofNat 8 b)) (a + 1) i (by simpa using h)
      rw [setBytes, show a + (i + 1) = a + 1 + i by omega, this]; simp

/-- Storing bytes keeps the canonical form of memory. -/
theorem setBytes_memWf (s : Sys) (a : Nat) (l : List Nat) (h : s.memWf = true) : (s.setBytes a l).memWf = true := by
  induction l generalizing s a with
  | nil => exact h
  | cons b t ih => exact ih _ _ (setByte_memWf s a _ h)

/-- Storing bytes changes memory alone. -/
theorem setBytes_eq (s : Sys) (a : Nat) (l : List Nat) : ∃ m, s.setBytes a l = { s with mem := m } := by
  induction l generalizing s a with
  | nil => exact ⟨s.mem, rfl⟩
  | cons b t ih =>
    obtain ⟨m, hm⟩ := ih (s.setByte a (BitVec.ofNat 8 b)) (a + 1)
    exact ⟨m, by rw [setBytes, hm]; rfl⟩

end Sys

end Sys2Proof.Machine
end

