-- ==== Sys2Proof/Laws/Send.lean ====
section
/-! SUPPORT. Send: sending changes the chain, the record of what was sent and the counters of sent frames, and nothing else. -/

namespace Sys2Proof.Machine

open Sys2Proof

/-- `t` is `s` but for what sending changes. -/
structure SendOnly (s t : Sys) : Prop where
  rest : t = { s with chain := t.chain, sent := t.sent, od := t.od }
  entries : ∀ k, k ∉ sendKeys → t.rdW k = s.rdW k

theorem SendOnly.refl (s : Sys) : SendOnly s s := ⟨rfl, fun _ _ => rfl⟩

theorem SendOnly.trans {s t u : Sys} (a : SendOnly s t) (b : SendOnly t u) : SendOnly s u :=
  ⟨by rw [b.rest, a.rest], fun k hk => (b.entries k hk).trans (a.entries k hk)⟩

/-- An entry that is no counter of sent frames reads as before. -/
theorem SendOnly.rd {s t : Sys} (a : SendOnly s t) (k : Nat) (hk : k ∉ sendKeys) : t.rd k = s.rd k := by
  simp only [Sys.rd, a.entries k hk]

theorem SendOnly.of_chain (s : Sys) (c : Chain) : SendOnly s { s with chain := c } := ⟨rfl, fun _ _ => rfl⟩

theorem SendOnly.emit (s : Sys) (o : Out) : SendOnly s (s.emit o) := ⟨rfl, fun _ _ => rfl⟩

theorem SendOnly.modPort (s : Sys) (p : Nat) (f : Port → Port) : SendOnly s (s.modPort p f) := ⟨rfl, fun _ _ => rfl⟩

theorem SendOnly.wr (s : Sys) (k v : Nat) (hk : k ∈ sendKeys) : SendOnly s (s.wr k v) := by
  refine ⟨rfl, fun k' hk' => ?_⟩
  have : k' ≠ k := fun e => hk' (e ▸ hk)
  simp [Sys.wr, this]

theorem SendOnly.inc (s : Sys) (k : Nat) (hk : k ∈ sendKeys) : SendOnly s (s.inc k) := SendOnly.wr s k _ hk

theorem SendOnly.inc64 (s : Sys) (k : Nat) (hk : k ∈ sendKeys) : SendOnly s (s.inc64 k) := SendOnly.wr s k _ hk

theorem SendOnly.when (s : Sys) (b : Bool) (f : Sys → Sys) (h : SendOnly s (f s)) : SendOnly s (s.when b f) := by
  cases b
  · exact SendOnly.refl s
  · exact h

theorem SendOnly.each (l : List Nat) (f : Sys → Nat → Sys) (h : ∀ s n, n ∈ l → SendOnly s (f s n)) (s : Sys) : SendOnly s (s.each l f) := by
  induction l generalizing s with
  | nil => exact SendOnly.refl s
  | cons n t ih =>
    exact (h s n (List.mem_cons_self ..)).trans (ih (fun s m hm => h s m (List.mem_cons_of_mem _ hm)) (f s n))

theorem SendOnly.iter (f : Sys → Sys) (h : ∀ s, SendOnly s (f s)) (n : Nat) (s : Sys) : SendOnly s (iter f n s) := by
  induction n generalizing s with
  | zero => exact SendOnly.refl s
  | succ n ih => exact (h s).trans (ih (f s))

theorem SendOnly.ite {s t u : Sys} {c : Prop} [Decidable c] (h : SendOnly s t) (k : SendOnly s u) : SendOnly s (if c then t else u) := by
  split
  · exact h
  · exact k

theorem freeCells_sendOnly (s : Sys) (p cls n : Nat) : SendOnly s (s.freeCells p cls n) := by
  unfold Sys.freeCells
  refine .ite (.modPort s p _) ?_
  exact .ite (((SendOnly.modPort s p _).trans (.modPort _ p _)).trans ((SendOnly.modPort _ p _).trans (.emit _ _))) ((SendOnly.modPort s p _).trans (.modPort _ p _))

theorem framesTx_mem (p : Nat) (hp : p < 2) : Key.Port.FRAMES_TX p ∈ sendKeys := by
  rcases (by omega : p = 0 ∨ p = 1) with rfl | rfl <;> simp [sendKeys]

theorem askedNow_sendOnly (s : Sys) (p : Nat) (i : TxItem) : SendOnly s (s.askedNow p i) := by
  unfold Sys.askedNow
  split
  · exact .modPort s p _
  · exact .refl s

theorem sendOne_sendOnly (s : Sys) (p : Nat) (hp : p < 2) : SendOnly s (s.sendOne p) := by
  unfold Sys.sendOne
  split
  · exact SendOnly.refl s
  · dsimp only
    split
    · exact SendOnly.refl s
    · have h := fun (t : Sys) (i : TxItem) (f : Frame) => (askedNow_sendOnly t p i).trans
        ((SendOnly.inc64 _ (Key.Port.FRAMES_TX p) (framesTx_mem p hp)).trans (SendOnly.emit _ (.frame p f)))
      split
      · exact (SendOnly.modPort s p _).trans ((h _ _ _).trans (freeCells_sendOnly _ _ _ _))
      · exact (SendOnly.modPort s p _).trans (h _ _ _)

/-- A frame that turns back at a looped port only moves between the queues (R68). -/
theorem turnBack_sendOnly (s : Sys) (q : Nat) : SendOnly s (s.turnBack q) := by
  unfold Sys.turnBack
  refine .ite (.refl s) ?_
  split
  · exact .refl s
  · split
    · exact .refl s
    · rename_i i _ _
      dsimp only
      refine SendOnly.trans ?_ (SendOnly.modPort _ _ _)
      cases i.held with
      | none => exact ⟨rfl, fun _ _ => rfl⟩
      | some h => exact (SendOnly.modPort s q _).trans (freeCells_sendOnly _ _ _ _)

theorem pump_sendOnly (s : Sys) (p : Nat) (hp : p < 2) : SendOnly s (s.pump p) := by
  unfold Sys.pump
  exact .ite (.iter _ (fun s => (turnBack_sendOnly s _).trans (.when _ _ _ (sendOne_sendOnly _ p hp))) _ _) (.refl s)

theorem enqueue_sendOnly (s : Sys) (p : Nat) (i : TxItem) (hp : p < 2) : SendOnly s (s.enqueue p i) :=
  (SendOnly.modPort s p _).trans (pump_sendOnly _ p hp)

theorem sendPorts_sendOnly (s : Sys) (ports : List Nat) (f : Frame) (h : ∀ p ∈ ports, p < 2) : SendOnly s (s.sendPorts ports f) := by
  refine SendOnly.each _ _ (fun s n hn => enqueue_sendOnly s n _ ?_) s
  split at hn
  · have := (List.mem_filter.mp hn).1
    simp only [List.mem_cons, List.not_mem_nil, or_false] at this
    omega
  · exact h n (List.mem_filter.mp hn).1

theorem gatewayFrame_sendOnly (s : Sys) (m : Nat) (d : List Nat) (hm : m < 2) : SendOnly s (s.gatewayFrame m d) := by
  unfold Sys.gatewayFrame
  refine .ite (SendOnly.of_chain s _) (SendOnly.inc s _ ?_)
  rcases (by omega : m = 0 ∨ m = 1) with rfl | rfl <;> simp [sendKeys]

theorem sendDatagram_sendOnly (s : Sys) (data : List Nat) : SendOnly s (s.sendDatagram data) := by
  unfold Sys.sendDatagram
  dsimp only
  refine (SendOnly.of_chain s { s.chain with ident := (s.chain.ident + 1) % 65536 }).trans ?_
  exact (SendOnly.when _ _ _ (SendOnly.inc _ _ (by simp [sendKeys]))).trans (gatewayFrame_sendOnly _ _ _ (Nat.mod_lt _ (by omega)))

/-- A frame of the unit's own changes only what sending changes. -/
theorem originate_sendOnly (s : Sys) (dest typ : Nat) (ts : Bool) (corr : Int) (payload : List Nat) :
    SendOnly s (s.originate dest typ ts corr payload) := by
  unfold Sys.originate
  dsimp only
  refine (SendOnly.of_chain s { s.chain with seq := (s.chain.seq + 1) % 65536 }).trans ?_
  generalize ({ s with chain := { s.chain with seq := (s.chain.seq + 1) % 65536 } } : Sys) = t
  split
  · split
    · exact sendDatagram_sendOnly _ _
    · split
      · rename_i h
        exact sendPorts_sendOnly _ _ _ (by simpa using h)
      · exact sendPorts_sendOnly _ _ _ (by simp)
  · exact (SendOnly.when _ _ _ (sendDatagram_sendOnly _ _)).trans (sendPorts_sendOnly _ _ _ (by simp))

end Sys2Proof.Machine
end

