-- ==== Sys2Proof/Laws/Write.lean ====
section
/-! SUPPORT. Write: what the engine does with a write that it accepts (R47, R48), and what its answer leaves unchanged. -/

namespace Sys2Proof.Machine

open Sys2Proof

/-- No abort is picked exactly where no condition with a code holds (R48). -/
theorem pickAbort_zero : ∀ l : List (Bool × Nat), (∀ x ∈ l, x.1 = true → x.2 = 0) → pickAbort l = 0
  | [], _ => rfl
  | (b, c) :: l, h => by
    have ih := pickAbort_zero l (fun x hx => h x (List.mem_cons_of_mem _ hx))
    have hc := h (b, c) (List.mem_cons_self ..)
    unfold pickAbort
    rw [if_neg (by simp only [ne_eq, not_and]; intro hb hn; exact absurd (hc hb) hn)]
    exact ih

theorem key_split (k : Nat) : keyIdx k * 256 + keySub k = k := by
  unfold keyIdx keySub
  omega

namespace Sys

/-- The checks of R48 in one line: a write that `accepts` passes is carried out. -/
theorem serve_accepted (s : Sys) (otp : Nat → Nat) (acc : Access) (k v : Nat) (ext : Ext) (h : s.accepts acc k v ext = true) :
    s.serve otp (writeReq acc k v) ext = (s.written otp acc k v ext, .done 0) := by
  unfold accepts at h
  rw [Bool.and_eq_true] at h
  obtain ⟨-, h⟩ := h
  unfold serve
  have hw : (writeReq acc k v).write = true := rfl
  have hh : (writeReq acc k v).high = false := rfl
  have hi : (writeReq acc k v).idx = keyIdx k := rfl
  have hs : (writeReq acc k v).sub = keySub k := rfl
  have ha : (writeReq acc k v).acc = acc := rfl
  simp only [hw, hh, hi, hs, ha, key_split] at h ⊢
  cases hr : entryRow (keyIdx k) (keySub k) with
  | none => simp [hr] at h
  | some r =>
    simp only [hr] at h ⊢
    unfold wordOf at h
    cases hf : (s.clocked k).formOf (writeReq acc k v) r.ty with
    | word w =>
      simp only [hf, Bool.and_eq_true, decide_eq_true_eq, Bool.not_eq_true', Bool.or_eq_true] at h
      obtain ⟨⟨⟨⟨⟨⟨⟨⟨⟨hfc, hd⟩, hre⟩, hst⟩, hn⟩, hra⟩, hsb⟩, hp⟩, hkp⟩, hty⟩ := h
      have hf' : (s.ungate (domainOf (keyIdx k))).formOf (writeReq acc k v) r.ty = .word w := hf
      simp only [hfc, hd, hre, hf', ne_eq, not_true_eq_false, if_false, Bool.not_true, Bool.false_eq_true]
      have key : (s.clocked k).writeEntry otp acc k r w ext = (s.written otp acc k v ext, .done 0) := by
        unfold writeEntry written wordOf
        simp only [hi, hs, hr, hf]
        have hn' : ((s.clocked k).need ((s.clocked k).clsOf acc.who) k (maskWord r w).toNat (intOf r (maskWord r w)) ext).2 = 0 := hn
        have hc : pickAbort [(!r.st.testBit (devCode (s.clocked k).dev), 0x0803),
            (true, ((s.clocked k).need ((s.clocked k).clsOf acc.who) k (maskWord r w).toNat (intOf r (maskWord r w)) ext).2),
            (!(s.clocked k).rangeOk ((s.clocked k).clsOf acc.who) k r (maskWord r w).toNat (intOf r (maskWord r w)), 0x0604),
            ((s.clocked k).storeBusy k r, 0x0805), (!acc.parity, 0x0901)] = 0 := by
          refine pickAbort_zero _ ?_
          have hst' : r.st.testBit (devCode (s.clocked k).dev) = true := by
            have : (s.clocked k).dev = s.dev := by unfold clocked ungate; split <;> rfl
            rw [this]; exact hst
          simp only [List.mem_cons, List.not_mem_nil, or_false, forall_eq_or_imp, forall_eq, hst', hn', hra, hsb, hp, Bool.not_true, Bool.false_eq_true,
            false_imp_iff, implies_true, and_self]
        have hi' : (if tySigned r.ty = true then (maskWord r w).toInt else ((maskWord r w).toNat : Int)) = intOf r (maskWord r w) := rfl
        have hkb : (r.kept && ((s.clocked k).pair ((s.clocked k).storePair k)).building) = false := by
          cases hkk : r.kept
          · rfl
          · rcases hkp with hkp | hkp
            · simp [hkk] at hkp
            · simpa using hkp.2
        have hca : (r.kept && !acc.copyA) = false := by
          cases hkk : r.kept
          · rfl
          · rcases hkp with hkp | hkp
            · simp [hkk] at hkp
            · simp [hkp.1]
        simp only [hi', hc, ne_eq, not_true_eq_false, if_false, hkb, hca, hty, Bool.false_eq_true, needed, counted]
      have key' : (s.ungate (domainOf (keyIdx k))).writeEntry otp acc k r w ext = (s.written otp acc k v ext, .done 0) := key
      cases acc.who <;> simp [key']
    | stage _ => simp [hf] at h
    | nothing => simp [hf] at h
    | bad => simp [hf] at h

/-- A write that is accepted is answered at once (R53, R92). -/
theorem request_accepted (s : Sys) (otp : Nat → Nat) (acc : Access) (k v : Nat) (ext : Ext) (h : s.accepts acc k v ext = true) :
    s.request otp (writeReq acc k v) ext = s.afterWrite otp acc k v ext := by
  have hs := serve_accepted s otp acc k v ext h
  have hq : (writeReq acc k v).acc = acc := rfl
  unfold accepts engineFree at h
  simp only [Bool.and_eq_true, Bool.not_eq_true', decide_eq_false_iff_not, List.isEmpty_iff] at h
  obtain ⟨⟨⟨⟨⟨-, hl⟩, hst⟩, hen⟩, hwt⟩, h⟩ := h
  have hfw : isFirmware (writeReq acc k v) = false := by
    simp only [isFirmware, writeReq, Bool.and_eq_false_iff]
    refine Or.inr (decide_eq_false fun hb => ?_)
    split at h
    · exact absurd h (by decide)
    · rename_i r hr
      split at h
      · exact absurd h (by decide)
      · simp only [Bool.and_eq_true, decide_eq_true_eq] at h
        have hfc := h.1.1.1.1.1.1.1.1.1
        unfold frontCode at hfc
        simp only [writeReq, hb.1, true_or, if_true] at hfc
        repeat' split at hfc
        all_goals exact absurd hfc (by decide)
  unfold request take
  simp only [hq, hl, hst, hen, hwt, hfw, hs, Bool.and_false, decide_false, Bool.false_eq_true, if_false, ne_eq, not_true_eq_false,
    reduceCtorEq, Bool.not_false, Bool.and_true, afterWrite, answered, if_true]

end Sys

/-! ### Answers -/

/-- `t` is `s` but for what an answer changes: what sending changes, and what the engine holds of masters and of requests that wait. -/
structure Answered (s t : Sys) : Prop where
  rest : t = { s with chain := t.chain, sent := t.sent, od := t.od, eng := { s.eng with snaps := t.eng.snaps, waits := t.eng.waits } }
  entries : ∀ k, k ∉ sendKeys → t.rdW k = s.rdW k

theorem Answered.of_send {s t : Sys} (h : SendOnly s t) : Answered s t := ⟨by rw [h.rest], h.entries⟩

theorem Answered.refl (s : Sys) : Answered s s := .of_send (.refl s)

theorem Answered.trans {s t u : Sys} (a : Answered s t) (b : Answered t u) : Answered s u :=
  ⟨by rw [b.rest, a.rest], fun k hk => (b.entries k hk).trans (a.entries k hk)⟩

/-- An entry that is no counter of sent frames reads as before an answer. -/
theorem Answered.rd {s t : Sys} (a : Answered s t) (k : Nat) (hk : k ∉ sendKeys) : t.rd k = s.rd k := by
  simp only [Sys.rd, a.entries k hk]

theorem answer_answered (s : Sys) (op idx sub tag code : Nat) (data : List Nat) : Answered s (s.answer op idx sub tag code data) :=
  .of_send (originate_sendOnly _ _ _ _ _ _)

/-- The answer to a write that was carried out. -/
theorem respond_done_answered (s : Sys) (q : WaitReq) : Answered s (s.respond q (.done 0)) := by
  unfold Sys.respond
  split
  · exact Answered.refl s
  · exact answer_answered ..
  · rename_i h; exact absurd h (by simp)
  · rename_i h
    cases h
    exact ⟨rfl, fun _ _ => rfl⟩
  · rename_i h; exact absurd h (by simp)

/-- What a command that is an accepted write of one entry answers. -/
theorem onWrite_accepted (s : State) (acc : Access) (k v : Nat) (ext : Ext) (h : s.accepts acc k v ext = true) :
    onWrite acc k v ext s = .next (s.afterWrite acc k v ext) := by
  have hp : s.powered = true := by
    unfold Sys.accepts Sys.engineFree at h
    simp only [Bool.and_eq_true] at h
    exact h.1.1.1.1.1
  unfold onWrite onOd State.afterWrite burnt
  simp only [hp, Bool.not_true, Bool.false_eq_true, if_false, Sys.request_accepted s.toSys s.otpWord acc k v ext h]
  split <;> simp_all

end Sys2Proof.Machine
end

