-- ==== Sys2Proof/Laws/Calm.lean ====
section
/-! SUPPORT. Calm: recording a fault, stopping and capturing leave the device state, the pads and the record of the last state change as they
are; what enters FAULT is said once. -/

namespace Sys2Proof.Machine

open Sys2Proof

/-- The entries that name the last state change and the first freeze (R59, R497). -/
def calmKeys : List Nat := [Key.Cause.CAUSE, Key.Cause.CAUSE_DETAIL, Key.Cause.FROM_STATE, Key.Cause.TO_STATE, Key.Cause.REQUESTER, Key.Gath.FIRST_FREEZE]

/-- The device state, the transition that is pending, the pads and the record of the last state change are as they were. -/
structure Calm (s t : Sys) : Prop where
  dev : t.dev = s.dev
  pend : t.pendState = s.pendState
  pads : t.pads = s.pads
  entries : ∀ k ∈ calmKeys, t.rdW k = s.rdW k

theorem Calm.refl (s : Sys) : Calm s s := ⟨rfl, rfl, rfl, fun _ _ => rfl⟩

theorem Calm.trans {s t u : Sys} (a : Calm s t) (b : Calm t u) : Calm s u :=
  ⟨b.dev.trans a.dev, b.pend.trans a.pend, b.pads.trans a.pads, fun k hk => (b.entries k hk).trans (a.entries k hk)⟩

theorem Calm.rd {s t : Sys} (a : Calm s t) (k : Nat) (hk : k ∈ calmKeys) : t.rd k = s.rd k := by simp only [Sys.rd, a.entries k hk]

theorem Calm.wrW (s : Sys) (k : Nat) (w : Word) (h : k ∉ calmKeys) : Calm s (s.wrW k w) :=
  ⟨rfl, rfl, rfl, fun k' hk' => by have : k' ≠ k := fun e => h (e ▸ hk'); simp [this]⟩

theorem Calm.wr (s : Sys) (k v : Nat) (h : k ∉ calmKeys) : Calm s (s.wr k v) := Calm.wrW s k _ h

theorem Calm.inc (s : Sys) (k : Nat) (h : k ∉ calmKeys) : Calm s (s.inc k) := Calm.wrW s k _ h

theorem Calm.ite {s a b : Sys} {p : Prop} [Decidable p] (ha : Calm s a) (hb : Calm s b) : Calm s (if p then a else b) := by split <;> assumption

theorem Calm.when {s : Sys} (b : Bool) (f : Sys → Sys) (h : Calm s (f s)) : Calm s (s.when b f) := by
  cases b
  · exact Calm.refl s
  · exact h

theorem Calm.each (l : List Nat) (f : Sys → Nat → Sys) (h : ∀ s n, Calm s (f s n)) (s : Sys) : Calm s (s.each l f) := by
  induction l generalizing s with
  | nil => exact Calm.refl s
  | cons n t ih => exact (h s n).trans (ih (f s n))

theorem Calm.of_send {s t : Sys} (h : SendOnly s t) : Calm s t := by
  refine ⟨by rw [h.rest], by rw [h.rest], by rw [h.rest], fun k hk => h.entries k ?_⟩
  simp only [calmKeys, List.mem_cons, List.not_mem_nil, or_false] at hk
  rcases hk with rfl | rfl | rfl | rfl | rfl | rfl <;> decide

theorem calmKeys_small {k : Nat} (h : k ∈ calmKeys) : k < 0x50100 := by
  simp only [calmKeys, List.mem_cons, List.not_mem_nil, or_false] at h
  rcases h with rfl | rfl | rfl | rfl | rfl | rfl <;> decide

/-- An entry above the gatherer's own is none of them. -/
theorem calmKeys_above {k : Nat} (h : 0x50100 ≤ k) : k ∉ calmKeys := fun m => by have := calmKeys_small m; omega

theorem Calm.setBytes (s : Sys) (a : Nat) (l : List Nat) : Calm s (s.setBytes a l) := by
  obtain ⟨m, h⟩ := Sys.setBytes_eq s a l
  rw [h]
  exact ⟨rfl, rfl, rfl, fun _ _ => rfl⟩

namespace Sys

theorem raise_calm (s : Sys) (n : Nat) : Calm s (s.raise n) := by
  unfold raise
  exact Calm.ite (Calm.refl s) ⟨rfl, rfl, rfl, fun _ _ => rfl⟩

theorem captureStamp_calm (s : Sys) (n stamp : Nat) : Calm s (s.captureStamp n stamp) := by
  unfold captureStamp
  dsimp only
  refine Calm.trans ?_ (raise_calm _ _)
  have h1 : Calm s ((s.wr (Key.Cap.LAST_TIME n) stamp).inc (Key.Cap.COUNT n)) :=
    (Calm.wr _ _ _ (calmKeys_above (by show _ ≤ (0xE40 + n) * 256 + 4; omega))).trans (Calm.inc _ _ (calmKeys_above (by show _ ≤ (0xE40 + n) * 256 + 5; omega)))
  refine Calm.trans h1 (Calm.ite ⟨rfl, rfl, rfl, fun _ _ => rfl⟩ (Calm.inc _ _ (calmKeys_above (by show _ ≤ (0xE40 + n) * 256 + 9; omega))))

theorem captureSource_calm (s : Sys) (src stamp : Nat) : Calm s (s.captureSource src stamp) := by
  unfold captureSource
  exact Calm.ite (Calm.each _ _ (fun s n => Calm.when _ _ (captureStamp_calm s n stamp)) s) (Calm.refl s)

theorem setEdge_calm (s : Sys) (n : Nat) (v : Option (Bool × Nat × Nat)) : Calm s (s.setEdge n v) := ⟨rfl, rfl, rfl, fun _ _ => rfl⟩

theorem captureEdge_calm (s : Sys) (n : Nat) (rising : Bool) : Calm s (s.captureEdge n rising) := by
  unfold captureEdge
  exact Calm.ite ((setEdge_calm s n none).trans (Calm.when _ _ (captureStamp_calm _ n _))) (Calm.ite (setEdge_calm s n none) (setEdge_calm s n _))

theorem capturePin_calm (s : Sys) (src : Nat) (rising : Bool) : Calm s (s.capturePin src rising) := by
  unfold capturePin
  exact Calm.ite (Calm.each _ _ (fun s n => Calm.when _ _ (captureEdge_calm s n _)) s) (Calm.refl s)

theorem setChState_calm (s : Sys) (c st : Nat) : Calm s (s.setChState c st) := by
  unfold setChState
  exact (Calm.wr _ _ _ (calmKeys_above (by show _ ≤ (0x1000 + 0x100 * c) * 256 + 2; omega))).trans (Calm.when _ _ (raise_calm _ _))

theorem setChCause_calm (s : Sys) (c cause : Nat) : Calm s (s.setChCause c cause) := by
  unfold setChCause
  exact (Calm.wr _ _ _ (calmKeys_above (by show _ ≤ (0x1000 + 0x100 * c) * 256 + _; omega))).trans
    (Calm.wr _ _ _ (calmKeys_above (by show _ ≤ (0x1000 + 0x100 * c) * 256 + _; omega)))

theorem modCh_calm (s : Sys) (c : Nat) (f : Scu → Scu) : Calm s (s.modCh c f) := ⟨rfl, rfl, rfl, fun _ _ => rfl⟩

theorem safeStop_calm (s : Sys) (c cause : Nat) : Calm s (s.safeStop c cause) := by
  unfold safeStop
  exact Calm.ite (((setChState_calm s c 4).trans (setChCause_calm _ _ _)).trans (modCh_calm _ _ _)) (Calm.refl s)

theorem chFault_calm (s : Sys) (c : Nat) : Calm s (s.chFault c) := by
  unfold chFault
  exact Calm.ite (setChCause_calm _ _ _) (safeStop_calm _ _ _)

theorem setGrpState_calm (s : Sys) (g st : Nat) : Calm s (s.setGrpState g st) := by
  unfold setGrpState
  exact Calm.ite (Calm.refl s) ((Calm.wr _ _ _ (calmKeys_above (by show _ ≤ (0x3100 + 0x40 * g) * 256 + _; omega))).trans (raise_calm _ _))

theorem setGrpCause_calm (s : Sys) (g cause : Nat) : Calm s (s.setGrpCause g cause) := by
  unfold setGrpCause
  exact (Calm.wr _ _ _ (calmKeys_above (by show _ ≤ (0x3100 + 0x40 * g) * 256 + _; omega))).trans
    (Calm.wr _ _ _ (calmKeys_above (by show _ ≤ (0x3100 + 0x40 * g) * 256 + _; omega)))

theorem modGroup_calm (s : Sys) (g : Nat) (f : Group → Group) : Calm s (s.modGroup g f) := ⟨rfl, rfl, rfl, fun _ _ => rfl⟩

theorem grpStop_calm (s : Sys) (g cause : Nat) : Calm s (s.grpStop g cause) := by
  unfold grpStop
  have h := (setGrpState_calm s g 6).trans (setGrpCause_calm _ g cause)
  exact Calm.ite h (Calm.ite (h.trans (modGroup_calm _ _ _)) (Calm.ite (Calm.ite h ((setGrpCause_calm s g cause).trans (modGroup_calm _ _ _))) (Calm.refl s)))

theorem modAxis_calm (s : Sys) (a : Nat) (f : Ax → Ax) : Calm s (s.modAxis a f) := ⟨rfl, rfl, rfl, fun _ _ => rfl⟩

theorem axCause_calm (s : Sys) (a : Nat) (e : Bool) (cause : Nat) : Calm s (s.axCause a e cause) := modAxis_calm _ _ _

theorem slotLeave_calm (s : Sys) (n : Nat) : Calm s (s.slotLeave n) := by
  unfold slotLeave
  exact Calm.ite ⟨rfl, rfl, rfl, fun _ _ => rfl⟩ (Calm.refl s)

theorem collectOf_calm (s : Sys) (code : Nat) (b : Bool) (l : List Nat) : Calm s (s.collectOf code b l) := by
  unfold collectOf
  exact Calm.ite (Calm.refl s) ⟨rfl, rfl, rfl, fun _ _ => rfl⟩

theorem collect_calm (s : Sys) (code : Nat) (c h : List Nat) : Calm s (s.collect code c h) :=
  (collectOf_calm s code false c).trans (collectOf_calm _ code true h)

theorem takeoverOf_calm (s : Sys) (code kind inst : Nat) : Calm s (s.takeoverOf code kind inst) := by
  unfold takeoverOf
  refine Calm.ite (collect_calm _ _ _ _) (Calm.ite ?_ ?_)
  · split
    · exact collect_calm _ _ _ _
    · exact Calm.refl s
  · split
    · exact collect_calm _ _ _ _
    · exact Calm.refl s

theorem safeStopInstance_calm (s : Sys) (code kind inst : Nat) : Calm s (s.safeStopInstance code kind inst) := by
  unfold safeStopInstance
  split
  · exact safeStop_calm _ _ _
  · refine Calm.ite (safeStop_calm _ _ _) ?_
    split
    · exact axCause_calm _ _ _ _
    · exact Calm.refl s
  · exact grpStop_calm _ _ _
  · exact grpStop_calm _ _ _
  · exact axCause_calm _ _ _ _
  · exact Calm.each _ _ (fun s g => Calm.when _ _ (grpStop_calm s g _)) s
  · exact Calm.each _ _ (fun s a => Calm.when _ _ (axCause_calm s a _ _)) s
  · exact Calm.each _ _ (fun s g => Calm.when _ _ (grpStop_calm s g _)) s
  · exact ((Calm.each _ _ (fun s c => safeStop_calm s c _) s).trans (Calm.each _ _ (fun s g => grpStop_calm s g _) _)).trans
      (Calm.each _ _ (fun s a => Calm.when _ _ (axCause_calm s a _ _)) _)

theorem sendAlarm_calm (s : Sys) (kind code detect takeover : Nat) (items : List Nat) : Calm s (s.sendAlarm kind code detect takeover items) := by
  unfold sendAlarm
  dsimp only
  exact Calm.trans (t := { s with smp := { s.smp with alarms := s.smp.alarms + 1 } }) ⟨rfl, rfl, rfl, fun _ _ => rfl⟩ (Calm.of_send (originate_sendOnly _ _ _ _ _ _))

theorem report_calm (s : Sys) (code t : Nat) : Calm s (s.report code t) := by
  unfold report
  dsimp only
  exact Calm.trans (t := { s with gath := { s.gath with merges := s.gath.merges.filter (fun m => decide (m.code ≠ code)) ++ [{ code := code, since := s.clk }] } })
    ⟨rfl, rfl, rfl, fun _ _ => rfl⟩ (sendAlarm_calm _ _ _ _ _ _)

theorem reportOrMerge_calm (s : Sys) (code t : Nat) : Calm s (s.reportOrMerge code t) := by
  unfold reportOrMerge
  split
  · exact report_calm _ _ _
  · exact Calm.ite (report_calm _ _ _) ⟨rfl, rfl, rfl, fun _ _ => rfl⟩

theorem logFault_calm (s : Sys) (code kind inst react : Nat) (r : Bool) (t : Nat) : Calm s (s.logFault code kind inst react r t) := by
  unfold logFault
  exact Calm.ite ⟨rfl, rfl, rfl, fun _ _ => rfl⟩ (Calm.ite (Calm.inc _ _ (calmKeys_above (by decide))) ⟨rfl, rfl, rfl, fun _ _ => rfl⟩)

/-- An occurrence that is recorded and reacted to, short of entering FAULT (R487 to R494). -/
theorem occur_calm (s : Sys) (code kind inst t : Nat) : Calm s (s.occur code kind inst t) := by
  unfold occur
  have h0 : Calm s ((s.inc (Key.FCount.COUNT code)).inc Key.Gath.RECORDED) :=
    (Calm.inc _ _ (calmKeys_above (by show _ ≤ 0x502 * 256 + code; omega))).trans (Calm.inc _ _ (by decide))
  dsimp only
  refine Calm.trans (h0.trans (Calm.when _ _ ⟨rfl, rfl, rfl, fun _ _ => rfl⟩)) (Calm.ite (takeoverOf_calm _ _ _ _) ?_)
  refine Calm.trans ?_ (takeoverOf_calm _ _ _ _)
  refine Calm.trans ?_ (Calm.when _ _ (reportOrMerge_calm _ _ _))
  refine Calm.trans ?_ (Calm.when _ _ (safeStopInstance_calm _ _ _ _))
  refine Calm.trans ?_ (Calm.when _ _ (Calm.trans (raise_calm _ 61) ⟨rfl, rfl, rfl, fun _ _ => rfl⟩))
  refine Calm.trans ?_ (captureSource_calm _ _ _)
  exact Calm.trans (logFault_calm _ _ _ _ _ _ _) ⟨rfl, rfl, rfl, fun _ _ => rfl⟩

theorem setBad_calm (s : Sys) (a n : Nat) (l : List Nat) : Calm s (s.setBad a n l) := ⟨rfl, rfl, rfl, fun _ _ => rfl⟩

theorem modDch_calm (s : Sys) (c : Nat) (f : DramChan → DramChan) : Calm s (s.modDch c f) := ⟨rfl, rfl, rfl, fun _ _ => rfl⟩

/-- A request that enters a queue of the DRAM (R384). -/
theorem dramEnter_calm (s : Sys) (m : Nat) (write : Bool) (a n : Nat) (data : List Nat) (bad : Nat) : Calm s (s.dramEnter m write a n data bad) := by
  unfold dramEnter
  dsimp only
  have h := fun t f => (Calm.when (s := s) t (fun s => s.inc Key.DmcCnt.IN_ORDER) (Calm.inc _ _ (calmKeys_above (by decide)))).trans (modDch_calm _ (s.dramPlace a).ch f)
  exact Calm.ite (((h _ _).trans (Calm.setBytes _ _ _)).trans (setBad_calm _ _ _ _)) (h _ _)

theorem busStore_calm (s : Sys) (m a : Nat) (data : List Nat) (bad : Nat) : Calm s (s.busStore m a data bad) := by
  unfold busStore
  dsimp only
  refine (Calm.when (s := s) _ (fun s => s.breakSv a data.length) ⟨rfl, rfl, rfl, fun _ _ => rfl⟩).trans (Calm.ite ?_ (Calm.setBytes _ _ _))
  unfold dramPost
  exact Calm.each _ _ (fun s _ => dramEnter_calm s _ _ _ _ _ _) _

theorem captureAt_calm (s : Sys) (addr master : Nat) : Calm s (s.captureAt addr master) := by
  unfold captureAt
  refine Calm.ite (Calm.refl s) ?_
  exact ((Calm.wr s Key.Gath.ERR_ADDR addr (by decide)).trans (Calm.wr _ Key.Gath.ERR_MASTER master (by decide))).trans ⟨rfl, rfl, rfl, fun _ _ => rfl⟩

theorem wall_lt {s : Sys} {a w : Nat} (h : s.wallOf a = some w) : w < 32 := List.mem_range.mp (List.mem_of_find?_eq_some h)

theorem noteRefusal_calm (s : Sys) (m : Nat) (machine : Bool) (r : Nat × Nat) : Calm s (s.noteRefusal m machine r) := by
  unfold noteRefusal
  refine Calm.ite ?_ (captureAt_calm _ _ _)
  dsimp only
  have h := (((Calm.inc s Key.Prot.FW_DENIALS (by decide)).trans (Calm.wr _ Key.Prot.FW_LAST_ADDR r.2 (by decide))).trans
    (Calm.wr _ Key.Prot.FW_LAST_MASTER m (by decide))).trans (Calm.wr _ Key.Prot.FW_LAST_CLASS (2 ^ s.wallClass m machine) (by decide))
  split
  · rename_i w hw
    have := wall_lt hw
    refine h.trans (Calm.inc _ _ (fun hk => ?_))
    simp only [calmKeys, List.mem_cons, List.not_mem_nil, or_false] at hk
    simp only [Key.Wall.DENIALS, Key.Cause.CAUSE, Key.Cause.CAUSE_DETAIL, Key.Cause.FROM_STATE, Key.Cause.TO_STATE, Key.Cause.REQUESTER, Key.Gath.FIRST_FREEZE] at hk
    omega
  · exact h

theorem logCheck_calm (s : Sys) (a len : Nat) : Calm s (s.logCheck a len).1 := by
  unfold logCheck
  split
  · exact (noteRefusal_calm s _ _ _).trans (occur_calm _ _ _ _ _)
  · exact Calm.refl s

theorem ringPut_calm (s : Sys) (m : Nat) (check : Sys → Nat → Nat → Sys × Bool) (addr len head tail lost : Nat) (rec : List Nat)
    (hc : ∀ s a n, Calm s (check s a n).1) (h1 : head ∉ calmKeys) (h2 : lost ∉ calmKeys) : Calm s (s.ringPut m check addr len head tail lost rec) := by
  unfold ringPut
  dsimp only
  exact Calm.ite (Calm.refl s) (Calm.ite (Calm.inc _ _ h2) ((hc s _ _).trans (Calm.ite ((busStore_calm _ _ _ _ _).trans (Calm.wr _ _ _ h1)) (Calm.inc _ _ h2))))

theorem swapRecord_calm (s : Sys) (u status t : Nat) : Calm s (s.swapRecord u status t) := by
  unfold swapRecord calLog
  exact (ringPut_calm _ _ _ _ _ _ _ _ _ logCheck_calm (calmKeys_above (by decide)) (calmKeys_above (by decide))).trans (raise_calm _ _)

theorem haltUpdateCore_calm (s : Sys) (u cause status : Nat) : Calm s (s.haltUpdateCore u cause status) := by
  have hk : ∀ j, updKey u j ∉ calmKeys := fun j => calmKeys_above (by unfold updKey; split <;> omega)
  unfold haltUpdateCore
  exact (((Calm.wr s _ 4 (hk _)).trans (Calm.wr _ _ _ (hk _))).trans (swapRecord_calm _ _ _ _)).trans (occur_calm _ _ _ _ _)

theorem calDeviceState_calm (s : Sys) : Calm s s.calDeviceState := by
  unfold calDeviceState
  refine Calm.each _ _ (fun s u => ?_) s
  exact Calm.when _ (fun s => s.haltUpdateCore u 5 6) (haltUpdateCore_calm s u 5 6)

/-! ### The gates -/

@[simp] theorem modPads_pads (s : Sys) (f : Pads → Pads) : (s.modPads f).pads = f s.pads := rfl
@[simp] theorem modPads_dev (s : Sys) (f : Pads → Pads) : (s.modPads f).dev = s.dev := rfl
@[simp] theorem modPads_pendState (s : Sys) (f : Pads → Pads) : (s.modPads f).pendState = s.pendState := rfl
@[simp] theorem rdW_modPads (s : Sys) (f : Pads → Pads) (k : Nat) : (s.modPads f).rdW k = s.rdW k := rfl
@[simp] theorem modLoop_pads (s : Sys) (c : Nat) (f : Mpl → Mpl) : (s.modLoop c f).pads = s.pads := rfl
@[simp] theorem modLoop_dev (s : Sys) (c : Nat) (f : Mpl → Mpl) : (s.modLoop c f).dev = s.dev := rfl

theorem modLoop_calm (s : Sys) (c : Nat) (f : Mpl → Mpl) : Calm s (s.modLoop c f) := ⟨rfl, rfl, rfl, fun _ _ => rfl⟩

theorem enableTime_calm (s : Sys) (c : Nat) (en was : Bool) : Calm s (s.enableTime c en was) :=
  Calm.ite (modCh_calm _ _ _) (Calm.ite (modCh_calm _ _ _) (Calm.refl s))

/-- What judging one gate does: a calm change, and the two bits of the channel's pads, which are low where nothing may be emitted (R23, R56). -/
theorem refreshGate_eq (s : Sys) (c : Nat) : ∃ t en lit, Calm s t ∧ (s.mayEmit = false → en = false ∧ lit = false) ∧
    Calm (t.modPads (fun p => { p with lpEn := putBit p.lpEn c en, lpMod := putBit p.lpMod c lit })) (s.refreshGate c) := by
  unfold refreshGate gateAt
  dsimp only
  refine ⟨_, _, _, ?_, ?_, enableTime_calm _ _ _ _⟩
  · refine Calm.trans ?_ (modLoop_calm _ _ _)
    refine Calm.trans ?_ (modLoop_calm _ _ _)
    have h : ∀ b n, 0x50100 ≤ (0x1000 + 0x100 * c + b) * 256 + n := by intros; omega
    refine Calm.trans ?_ (Calm.wr _ _ _ (calmKeys_above (by show _ ≤ _ * 256 + _; omega)))
    refine Calm.trans ?_ (Calm.wr _ _ _ (calmKeys_above (by show _ ≤ _ * 256 + _; omega)))
    refine Calm.trans (Calm.wr _ _ _ (calmKeys_above (by show _ ≤ _ * 256 + _; omega))) (Calm.wr _ _ _ (calmKeys_above (by show _ ≤ _ * 256 + _; omega)))
  · intro h
    simp only [gateEdge, modLoop_pads, wrB_pads, wr_pads]
    unfold mayEmit at h
    cases hs : s.pads.lsafe
    · simp
    · have hd : s.dev ≠ .armed := by simp_all
      have hg : s.gateCauses c s.now ≠ 0 := by unfold gateCauses; simp [hd, b2n]
      have he : s.enRequest c = false := by unfold enRequest; simp [hd]
      simp [hg, he]

end Sys

end Sys2Proof.Machine
end

