-- ==== Sys2Proof/Laws/Exec.lean ====
section
/-! SUPPORT. Exec: the shapes of a command's answer: the block alone changes, or the block and a fuse word that PROGRAM burns; the queue of
commands never changes. -/

namespace Sys2Proof.Machine

open Sys2Proof

/-- A command on the part as a whole changes the block alone. -/
theorem onUnit_eq (f : Sys → Sys) (s : State) : onUnit f s = .next { s with toSys := f s.toSys } := rfl

/-- A command on the powered block. -/
theorem onSys_on (f : Sys → Sys) (s : State) (h : s.powered = true) : onSys f s = .next { s with toSys := f s.toSys } := by
  simp [onSys, onUnit, h]

/-- A command on a block without power does nothing (R453, R459). -/
theorem onSys_off (f : Sys → Sys) (s : State) (h : s.powered = false) : onSys f s = .next s := by
  simp [onSys, onUnit, h]

theorem onOd_on (f : (Nat → Nat) → Sys → Sys) (s : State) (h : s.powered = true) : onOd f s = .next (burnt s (f s.otpWord s.toSys)) := by
  unfold onOd burnt
  simp only [h, Bool.not_true, Bool.false_eq_true, if_false]
  split <;> simp_all

theorem onOd_off (f : (Nat → Nat) → Sys → Sys) (s : State) (h : s.powered = false) : onOd f s = .next s := by
  simp [onOd, h]

theorem burnt_none (s : State) (t : Sys) (h : t.eng.burn = none) : burnt s t = { s with toSys := t } := by
  simp [burnt, h]

@[simp] theorem burnt_pending (s : State) (t : Sys) : (burnt s t).pending = s.pending := by
  unfold burnt
  split <;> rfl

/-- Everything that a command can answer: a next state in which the queue is as it was and the fuses are as they were, or one word of them
has taken bits (R441). -/
structure Answers (s : State) (o : Host.Outcome State Fault Refusal) : Prop where
  next : ∃ t, o = .next t ∧ t.pending = s.pending ∧
    (t.otp = s.otp ∨ ∃ w bits, t.otp = Kv.put (fun _ => (0 : Word)) w (BitVec.ofNat 64 (programmed (s.otpWord w) bits)) s.otp)

theorem Answers.same (s : State) : Answers s (.next s) := ⟨s, rfl, rfl, Or.inl rfl⟩

theorem Answers.onUnit (f : Sys → Sys) (s : State) : Answers s (onUnit f s) := ⟨_, rfl, rfl, Or.inl rfl⟩

theorem Answers.onSys (f : Sys → Sys) (s : State) : Answers s (onSys f s) := Answers.onUnit _ s

theorem Answers.onOd (f : (Nat → Nat) → Sys → Sys) (s : State) : Answers s (onOd f s) := by
  cases h : s.powered
  · rw [onOd_off f s h]; exact Answers.same s
  · rw [onOd_on f s h]
    refine ⟨_, rfl, burnt_pending _ _, ?_⟩
    unfold burnt
    split
    · exact Or.inl rfl
    · exact Or.inr ⟨_, _, rfl⟩

theorem Answers.onWrite (acc : Access) (k v : Nat) (ext : Ext) (s : State) : Answers s (onWrite acc k v ext s) := Answers.onOd _ s

theorem Answers.coldStart (boot : Fin 4) (flash : List (List Nat)) (s : State) : Answers s (execColdStart boot flash s) := by
  unfold execColdStart
  split
  · exact Answers.same s
  · dsimp only
    split
    · exact ⟨_, rfl, rfl, Or.inr ⟨2, 0x800, rfl⟩⟩
    · exact ⟨_, rfl, rfl, Or.inl rfl⟩

/-- Every command answers so. -/
theorem exec_answers (i : Instr) (s : State) : Answers s (exec i s) := by
  cases i with
  | vaonRise => show Answers s (execVaonRise s); unfold execVaonRise; exact Answers.onUnit _ s
  | coldStart => show Answers s (execColdStart _ _ s); unfold execColdStart; exact Answers.coldStart _ _ s
  | resetAssert => show Answers s (execResetAssert s); unfold execResetAssert; exact Answers.onUnit _ s
  | vaonLoss => show Answers s (execVaonLoss s); unfold execVaonLoss; exact Answers.onUnit _ s
  | restored => show Answers s (execRestored _ _ s); unfold execRestored; exact Answers.onSys _ s
  | odReq => show Answers s (execOdReq _ _ s); unfold execOdReq; exact Answers.onOd _ s
  | odWrite => show Answers s (execOdWrite _ _ _ _ _ s); unfold execOdWrite; exact Answers.onOd _ s
  | windowLowWordRead => show Answers s (execWindowLowWordRead _ _ _ _ s); unfold execWindowLowWordRead; exact Answers.onOd _ s
  | windowSplitWrite => show Answers s (execWindowSplitWrite _ _ _ _ _ s); unfold execWindowSplitWrite; exact Answers.onOd _ s
  | describeSelect => show Answers s (execDescribeSelect _ _ _ s); unfold execDescribeSelect; exact Answers.onWrite _ _ _ _ s
  | domainAddressWrite => show Answers s (execDomainAddressWrite _ _ _ _ s); unfold execDomainAddressWrite; exact Answers.onOd _ s
  | domainLengthWrite => show Answers s (execDomainLengthWrite _ _ _ _ s); unfold execDomainLengthWrite; exact Answers.onOd _ s
  | rspCommit => show Answers s (execRspCommit _ _ s); unfold execRspCommit; exact Answers.onWrite _ _ _ _ s
  | serviceTimeout => show Answers s (execServiceTimeout _ s); unfold execServiceTimeout; exact Answers.onSys _ s
  | fwsDataWrite => show Answers s (execFwsDataWrite _ _ s); unfold execFwsDataWrite; exact Answers.onWrite _ _ _ _ s
  | storeRebuildComplete => show Answers s (execStoreRebuildComplete _ s); unfold execStoreRebuildComplete; exact Answers.onOd _ s
  | goConfig => show Answers s (execGoConfig _ s); unfold execGoConfig; exact Answers.onWrite _ _ _ _ s
  | goConfigComplete => show Answers s (execGoConfigComplete s); unfold execGoConfigComplete; exact Answers.onSys _ s
  | goReady => show Answers s (execGoReady _ _ s); unfold execGoReady; exact Answers.onWrite _ _ _ _ s
  | arm => show Answers s (execArm _ s); unfold execArm; exact Answers.onWrite _ _ _ _ s
  | disarm => show Answers s (execDisarm _ s); unfold execDisarm; exact Answers.onWrite _ _ _ _ s
  | enterService => show Answers s (execEnterService _ s); unfold execEnterService; exact Answers.onWrite _ _ _ _ s
  | leaveService => show Answers s (execLeaveService _ s); unfold execLeaveService; exact Answers.onWrite _ _ _ _ s
  | clearFault => show Answers s (execClearFault _ s); unfold execClearFault; exact Answers.onWrite _ _ _ _ s
  | warmReset => show Answers s (execWarmReset _ s); unfold execWarmReset; exact Answers.onWrite _ _ _ _ s
  | warmResetActs => show Answers s (execWarmResetActs s); unfold execWarmResetActs; exact Answers.onSys _ s
  | lsafeFall => show Answers s (execLsafeFall s); unfold execLsafeFall; exact Answers.onUnit _ s
  | lsafeRise => show Answers s (execLsafeRise s); unfold execLsafeRise; exact Answers.onUnit _ s
  | defaultsKeepIdentity => show Answers s (execDefaultsKeepIdentity _ s); unfold execDefaultsKeepIdentity; exact Answers.onWrite _ _ _ _ s
  | defaultsAll => show Answers s (execDefaultsAll _ s); unfold execDefaultsAll; exact Answers.onWrite _ _ _ _ s
  | verify => show Answers s (execVerify _ s); unfold execVerify; exact Answers.onWrite _ _ _ _ s
  | rebuild => show Answers s (execRebuild _ s); unfold execRebuild; exact Answers.onWrite _ _ _ _ s
  | storeCommandComplete => show Answers s (execStoreCommandComplete _ s); unfold execStoreCommandComplete; exact Answers.onSys _ s
  | restoreAck => show Answers s (execRestoreAck _ s); unfold execRestoreAck; exact Answers.onWrite _ _ _ _ s
  | frameForward => show Answers s (execFrameForward _ _ s); unfold execFrameForward; exact Answers.onOd _ s
  | count => show Answers s (execCount _ _ s); unfold execCount; exact Answers.onSys _ s
  | identify => show Answers s (execIdentify _ _ s); unfold execIdentify; exact Answers.onSys _ s
  | assign => show Answers s (execAssign _ _ s); unfold execAssign; exact Answers.onSys _ s
  | assignAlias => show Answers s (execAssignAlias _ _ s); unfold execAssignAlias; exact Answers.onSys _ s
  | release => show Answers s (execRelease _ _ s); unfold execRelease; exact Answers.onSys _ s
  | stream => show Answers s (execStream _ _ s); unfold execStream; exact Answers.onSys _ s
  | alarm => show Answers s (execAlarm _ _ s); unfold execAlarm; exact Answers.onSys _ s
  | sync => show Answers s (execSync _ _ s); unfold execSync; exact Answers.onSys _ s
  | delayReq => show Answers s (execDelayReq _ _ s); unfold execDelayReq; exact Answers.onSys _ s
  | delayRsp => show Answers s (execDelayRsp _ _ s); unfold execDelayRsp; exact Answers.onSys _ s
  | bootData => show Answers s (execBootData _ _ s); unfold execBootData; exact Answers.onOd _ s
  | bootReqTimeout => show Answers s (execBootReqTimeout s); unfold execBootReqTimeout; exact Answers.onSys _ s
  | bootRestart => show Answers s (execBootRestart s); unfold execBootRestart; exact Answers.onSys _ s
  | creditSymbol => show Answers s (execCreditSymbol _ _ _ s); unfold execCreditSymbol; exact Answers.onSys _ s
  | creditReturnTimer => show Answers s (execCreditReturnTimer _ _ s); unfold execCreditReturnTimer; exact Answers.onSys _ s
  | heartbeat => show Answers s (execHeartbeat _ _ _ _ s); unfold execHeartbeat; exact Answers.onSys _ s
  | heartbeatSend => show Answers s (execHeartbeatSend _ s); unfold execHeartbeatSend; exact Answers.onSys _ s
  | heartbeatTimeout => show Answers s (execHeartbeatTimeout _ s); unfold execHeartbeatTimeout; exact Answers.onSys _ s
  | portEnableWrite => show Answers s (execPortEnableWrite _ _ _ s); unfold execPortEnableWrite; exact Answers.onWrite _ _ _ _ s
  | endpointEnableWrite => show Answers s (execEndpointEnableWrite _ _ _ s); unfold execEndpointEnableWrite; exact Answers.onWrite _ _ _ _ s
  | releaseOffsetWrite => show Answers s (execReleaseOffsetWrite _ _ _ s); unfold execReleaseOffsetWrite; exact Answers.onWrite _ _ _ _ s
  | creditPeriodExpiry => show Answers s (execCreditPeriodExpiry _ s); unfold execCreditPeriodExpiry; exact Answers.onSys _ s
  | gatewayDatagram => show Answers s (execGatewayDatagram _ _ s); unfold execGatewayDatagram; exact Answers.onOd _ s
  | arpRequest => show Answers s (execArpRequest _ _ s); unfold execArpRequest; exact Answers.onSys _ s
  | channelEnable => show Answers s (execChannelEnable _ _ _ s); unfold execChannelEnable; exact Answers.onWrite _ _ _ _ s
  | channelDisable => show Answers s (execChannelDisable _ _ s); unfold execChannelDisable; exact Answers.onWrite _ _ _ _ s
  | channelStart => show Answers s (execChannelStart _ _ s); unfold execChannelStart; exact Answers.onWrite _ _ _ _ s
  | channelPause => show Answers s (execChannelPause _ _ s); unfold execChannelPause; exact Answers.onWrite _ _ _ _ s
  | channelResume => show Answers s (execChannelResume _ _ s); unfold execChannelResume; exact Answers.onWrite _ _ _ _ s
  | channelStop => show Answers s (execChannelStop _ _ s); unfold execChannelStop; exact Answers.onWrite _ _ _ _ s
  | channelReset => show Answers s (execChannelReset _ _ s); unfold execChannelReset; exact Answers.onWrite _ _ _ _ s
  | hoopEnableWrite => show Answers s (execHoopEnableWrite _ _ _ _ s); unfold execHoopEnableWrite; exact Answers.onWrite _ _ _ _ s
  | blockFetch => show Answers s (execBlockFetch _ _ s); unfold execBlockFetch; exact Answers.onSys _ s
  | descriptorLookahead => show Answers s (execDescriptorLookahead _ _ s); unfold execDescriptorLookahead; exact Answers.onSys _ s
  | scuSample => show Answers s (execScuSample _ _ s); unfold execScuSample; exact Answers.onSys _ s
  | jump => show Answers s (execJump _ s); unfold execJump; exact Answers.onSys _ s
  | mark => show Answers s (execMark _ s); unfold execMark; exact Answers.onSys _ s
  | arc => show Answers s (execArc _ s); unfold execArc; exact Answers.onSys _ s
  | dwell => show Answers s (execDwell _ s); unfold execDwell; exact Answers.onSys _ s
  | power => show Answers s (execPower _ s); unfold execPower; exact Answers.onSys _ s
  | waitTime => show Answers s (execWaitTime _ s); unfold execWaitTime; exact Answers.onSys _ s
  | waitTimeReached => show Answers s (execWaitTimeReached _ s); unfold execWaitTimeReached; exact Answers.onSys _ s
  | waitEvent => show Answers s (execWaitEvent _ s); unfold execWaitEvent; exact Answers.onSys _ s
  | waitEventTimeout => show Answers s (execWaitEventTimeout _ s); unfold execWaitEventTimeout; exact Answers.onSys _ s
  | seamPoint => show Answers s (execSeamPoint _ s); unfold execSeamPoint; exact Answers.onSys _ s
  | calMark => show Answers s (execCalMark _ s); unfold execCalMark; exact Answers.onSys _ s
  | linkBlock => show Answers s (execLinkBlock _ s); unfold execLinkBlock; exact Answers.onSys _ s
  | endDescr => show Answers s (execEndDescr _ s); unfold execEndDescr; exact Answers.onSys _ s
  | readyTimeout => show Answers s (execReadyTimeout _ s); unfold execReadyTimeout; exact Answers.onSys _ s
  | lpStsChange => show Answers s (execLpStsChange _ _ s); unfold execLpStsChange; exact Answers.onUnit _ s
  | sosTimeout => show Answers s (execSosTimeout _ s); unfold execSosTimeout; exact Answers.onSys _ s
  | triggerEdge => show Answers s (execTriggerEdge _ s); unfold execTriggerEdge; exact Answers.onSys _ s
  | slotEvaluation => show Answers s (execSlotEvaluation _ _ _ _ _ _ s); unfold execSlotEvaluation; exact Answers.onSys _ s
  | lineBreak => show Answers s (execLineBreak _ _ s); unfold execLineBreak; exact Answers.onSys _ s
  | slotClose => show Answers s (execSlotClose _ _ s); unfold execSlotClose; exact Answers.onWrite _ _ _ _ s
  | slotOpen => show Answers s (execSlotOpen _ _ s); unfold execSlotOpen; exact Answers.onWrite _ _ _ _ s
  | slotReset => show Answers s (execSlotReset _ _ s); unfold execSlotReset; exact Answers.onWrite _ _ _ _ s
  | rcLearn => show Answers s (execRcLearn _ _ s); unfold execRcLearn; exact Answers.onWrite _ _ _ _ s
  | rcFreeze => show Answers s (execRcFreeze _ _ s); unfold execRcFreeze; exact Answers.onWrite _ _ _ _ s
  | rcClear => show Answers s (execRcClear _ _ s); unfold execRcClear; exact Answers.onWrite _ _ _ _ s
  | slotModeWrite => show Answers s (execSlotModeWrite _ _ _ s); unfold execSlotModeWrite; exact Answers.onWrite _ _ _ _ s
  | bqEnableWrite => show Answers s (execBqEnableWrite _ _ _ s); unfold execBqEnableWrite; exact Answers.onWrite _ _ _ _ s
  | rcConfigWrite => show Answers s (execRcConfigWrite _ _ _ _ s); unfold execRcConfigWrite; exact Answers.onWrite _ _ _ _ s
  | faultHoldExpiry => show Answers s (execFaultHoldExpiry _ s); unfold execFaultHoldExpiry; exact Answers.onSys _ s
  | mplUpdate => show Answers s (execMplUpdate _ _ _ _ _ s); unfold execMplUpdate; exact Answers.onSys _ s
  | gateMismatch => show Answers s (execGateMismatch _ _ _ s); unfold execGateMismatch; exact Answers.onSys _ s
  | zoneEnableWrite => show Answers s (execZoneEnableWrite _ _ _ s); unfold execZoneEnableWrite; exact Answers.onWrite _ _ _ _ s
  | join => show Answers s (execJoin _ _ s); unfold execJoin; exact Answers.onWrite _ _ _ _ s
  | cancelJoin => show Answers s (execCancelJoin _ _ s); unfold execCancelJoin; exact Answers.onWrite _ _ _ _ s
  | joinTimeReached => show Answers s (execJoinTimeReached s); unfold execJoinTimeReached; exact Answers.onSys _ s
  | takeoverCollectionClose => show Answers s (execTakeoverCollectionClose s); unfold execTakeoverCollectionClose; exact Answers.onSys _ s
  | takeoverInstant => show Answers s (execTakeoverInstant s); unfold execTakeoverInstant; exact Answers.onSys _ s
  | reportPop => show Answers s (execReportPop _ _ s); unfold execReportPop; exact Answers.onWrite _ _ _ _ s
  | updateStart => show Answers s (execUpdateStart _ _ s); unfold execUpdateStart; exact Answers.onWrite _ _ _ _ s
  | updateResume => show Answers s (execUpdateResume _ _ s); unfold execUpdateResume; exact Answers.onWrite _ _ _ _ s
  | updateAbort => show Answers s (execUpdateAbort _ _ s); unfold execUpdateAbort; exact Answers.onWrite _ _ _ _ s
  | updateRollback => show Answers s (execUpdateRollback _ _ s); unfold execUpdateRollback; exact Answers.onWrite _ _ _ _ s
  | updateInstall => show Answers s (execUpdateInstall _ _ _ s); unfold execUpdateInstall; exact Answers.onWrite _ _ _ _ s
  | checksComplete => show Answers s (execChecksComplete _ _ s); unfold execChecksComplete; exact Answers.onSys _ s
  | stepBuilt => show Answers s (execStepBuilt _ _ _ _ s); unfold execStepBuilt; exact Answers.onSys _ s
  | swapWindowExpiry => show Answers s (execSwapWindowExpiry _ s); unfold execSwapWindowExpiry; exact Answers.onSys _ s
  | calCopyWrite => show Answers s (execCalCopyWrite _ s); unfold execCalCopyWrite; exact Answers.onSys _ s
  | loadRecord => show Answers s (execLoadRecord _ s); unfold execLoadRecord; exact Answers.onSys _ s
  | patRequest => show Answers s (execPatRequest _ _ s); unfold execPatRequest; exact Answers.onWrite _ _ _ _ s
  | patClear => show Answers s (execPatClear _ _ s); unfold execPatClear; exact Answers.onWrite _ _ _ _ s
  | encoderEdge => show Answers s (execEncoderEdge _ _ _ s); unfold execEncoderEdge; exact Answers.onSys _ s
  | encoderZ => show Answers s (execEncoderZ _ s); unfold execEncoderZ; exact Answers.onSys _ s
  | encoderLoss => show Answers s (execEncoderLoss _ _ _ s); unfold execEncoderLoss; exact Answers.onSys _ s
  | encoderClear => show Answers s (execEncoderClear _ _ s); unfold execEncoderClear; exact Answers.onWrite _ _ _ _ s
  | encoderZero => show Answers s (execEncoderZero _ _ s); unfold execEncoderZero; exact Answers.onWrite _ _ _ _ s
  | sosEdge => show Answers s (execSosEdge _ _ s); unfold execSosEdge; exact Answers.onSys _ s
  | fixInstant => show Answers s (execFixInstant _ s); unfold execFixInstant; exact Answers.onSys _ s
  | sliceFetch => show Answers s (execSliceFetch _ _ s); unfold execSliceFetch; exact Answers.onSys _ s
  | dataSend => show Answers s (execDataSend _ _ s); unfold execDataSend; exact Answers.onSys _ s
  | ackFrame => show Answers s (execAckFrame _ _ s); unfold execAckFrame; exact Answers.onSys _ s
  | ackTimeout => show Answers s (execAckTimeout _ s); unfold execAckTimeout; exact Answers.onSys _ s
  | fireStrobe => show Answers s (execFireStrobe _ s); unfold execFireStrobe; exact Answers.onSys _ s
  | swathEnd => show Answers s (execSwathEnd _ s); unfold execSwathEnd; exact Answers.onSys _ s
  | feedSettleExpiry => show Answers s (execFeedSettleExpiry _ s); unfold execFeedSettleExpiry; exact Answers.onSys _ s
  | statusFrame => show Answers s (execStatusFrame _ _ s); unfold execStatusFrame; exact Answers.onSys _ s
  | nozzleFrame => show Answers s (execNozzleFrame _ _ s); unfold execNozzleFrame; exact Answers.onSys _ s
  | wackFrame => show Answers s (execWackFrame _ _ s); unfold execWackFrame; exact Answers.onSys _ s
  | ctrlRsp => show Answers s (execCtrlRsp _ _ s); unfold execCtrlRsp; exact Answers.onSys _ s
  | linkHeartbeat => show Answers s (execLinkHeartbeat _ _ _ s); unfold execLinkHeartbeat; exact Answers.onSys _ s
  | linkHeartbeatTimeout => show Answers s (execLinkHeartbeatTimeout _ s); unfold execLinkHeartbeatTimeout; exact Answers.onSys _ s
  | ctrlWrite => show Answers s (execCtrlWrite _ _ s); unfold execCtrlWrite; exact Answers.onWrite _ _ _ _ s
  | ctrlRead => show Answers s (execCtrlRead _ _ s); unfold execCtrlRead; exact Answers.onWrite _ _ _ _ s
  | ctrlTimeout => show Answers s (execCtrlTimeout _ s); unfold execCtrlTimeout; exact Answers.onSys _ s
  | picotStore => show Answers s (execPicotStore _ _ s); unfold execPicotStore; exact Answers.onWrite _ _ _ _ s
  | picotSend => show Answers s (execPicotSend _ s); unfold execPicotSend; exact Answers.onWrite _ _ _ _ s
  | picotCheck => show Answers s (execPicotCheck _ _ s); unfold execPicotCheck; exact Answers.onWrite _ _ _ _ s
  | headTempReading => show Answers s (execHeadTempReading _ _ s); unfold execHeadTempReading; exact Answers.onSys _ s
  | gateInputChange => show Answers s (execGateInputChange _ _ s); unfold execGateInputChange; exact Answers.onUnit _ s
  | groupEnable => show Answers s (execGroupEnable _ _ s); unfold execGroupEnable; exact Answers.onWrite _ _ _ _ s
  | groupDisable => show Answers s (execGroupDisable _ _ s); unfold execGroupDisable; exact Answers.onWrite _ _ _ _ s
  | groupStart => show Answers s (execGroupStart _ _ s); unfold execGroupStart; exact Answers.onWrite _ _ _ _ s
  | groupPause => show Answers s (execGroupPause _ _ s); unfold execGroupPause; exact Answers.onWrite _ _ _ _ s
  | groupResume => show Answers s (execGroupResume _ _ s); unfold execGroupResume; exact Answers.onWrite _ _ _ _ s
  | groupStop => show Answers s (execGroupStop _ _ s); unfold execGroupStop; exact Answers.onWrite _ _ _ _ s
  | groupReset => show Answers s (execGroupReset _ _ s); unfold execGroupReset; exact Answers.onWrite _ _ _ _ s
  | axisUpdate => show Answers s (execAxisUpdate _ _ s); unfold execAxisUpdate; exact Answers.onSys _ s
  | axisEnable => show Answers s (execAxisEnable _ _ s); unfold execAxisEnable; exact Answers.onWrite _ _ _ _ s
  | axisDisable => show Answers s (execAxisDisable _ _ s); unfold execAxisDisable; exact Answers.onWrite _ _ _ _ s
  | moveAbs => show Answers s (execMoveAbs _ _ s); unfold execMoveAbs; exact Answers.onWrite _ _ _ _ s
  | moveRel => show Answers s (execMoveRel _ _ s); unfold execMoveRel; exact Answers.onWrite _ _ _ _ s
  | runTable => show Answers s (execRunTable _ _ _ s); unfold execRunTable; exact Answers.onWrite _ _ _ _ s
  | switchTable => show Answers s (execSwitchTable _ _ s); unfold execSwitchTable; exact Answers.onWrite _ _ _ _ s
  | axisStop => show Answers s (execAxisStop _ _ s); unfold execAxisStop; exact Answers.onWrite _ _ _ _ s
  | quickStop => show Answers s (execQuickStop _ _ s); unfold execQuickStop; exact Answers.onWrite _ _ _ _ s
  | axisReset => show Answers s (execAxisReset _ _ s); unfold execAxisReset; exact Answers.onWrite _ _ _ _ s
  | setPosition => show Answers s (execSetPosition _ _ s); unfold execSetPosition; exact Answers.onWrite _ _ _ _ s
  | pwmPeriod => show Answers s (execPwmPeriod _ _ s); unfold execPwmPeriod; exact Answers.onSys _ s
  | inposTimeout => show Answers s (execInposTimeout _ s); unfold execInposTimeout; exact Answers.onSys _ s
  | holdDelayExpiry => show Answers s (execHoldDelayExpiry _ s); unfold execHoldDelayExpiry; exact Answers.onSys _ s
  | vbusFault => show Answers s (execVbusFault _ _ s); unfold execVbusFault; exact Answers.onSys _ s
  | frameStart => show Answers s (execFrameStart _ _ _ _ s); unfold execFrameStart; exact Answers.onSys _ s
  | csiLine => show Answers s (execCsiLine _ _ _ _ _ _ s); unfold execCsiLine; exact Answers.onSys _ s
  | frameEnd => show Answers s (execFrameEnd _ _ _ s); unfold execFrameEnd; exact Answers.onSys _ s
  | csiPacket => show Answers s (execCsiPacket _ _ _ _ _ _ s); unfold execCsiPacket; exact Answers.onSys _ s
  | frameTimeout => show Answers s (execFrameTimeout _ s); unfold execFrameTimeout; exact Answers.onSys _ s
  | lineGrant => show Answers s (execLineGrant _ s); unfold execLineGrant; exact Answers.onSys _ s
  | frameRecord => show Answers s (execFrameRecord _ s); unfold execFrameRecord; exact Answers.onSys _ s
  | contextEnableWrite => show Answers s (execContextEnableWrite _ _ _ s); unfold execContextEnableWrite; exact Answers.onWrite _ _ _ _ s
  | outputEnableWrite => show Answers s (execOutputEnableWrite _ _ _ _ s); unfold execOutputEnableWrite; exact Answers.onWrite _ _ _ _ s
  | profEnableWrite => show Answers s (execProfEnableWrite _ _ _ s); unfold execProfEnableWrite; exact Answers.onWrite _ _ _ _ s
  | detectProbe => show Answers s (execDetectProbe _ _ s); unfold execDetectProbe; exact Answers.onSys _ s
  | symbolLock => show Answers s (execSymbolLock _ s); unfold execSymbolLock; exact Answers.onSys _ s
  | trainTimeout => show Answers s (execTrainTimeout _ s); unfold execTrainTimeout; exact Answers.onSys _ s
  | capSet => show Answers s (execCapSet _ _ _ _ _ s); unfold execCapSet; exact Answers.onSys _ s
  | capabilityTimeout => show Answers s (execCapabilityTimeout _ s); unfold execCapabilityTimeout; exact Answers.onSys _ s
  | lossOfLock => show Answers s (execLossOfLock _ _ _ s); unfold execLossOfLock; exact Answers.onSys _ s
  | singleLaneTimeout => show Answers s (execSingleLaneTimeout _ s); unfold execSingleLaneTimeout; exact Answers.onSys _ s
  | retrain => show Answers s (execRetrain _ _ s); unfold execRetrain; exact Answers.onWrite _ _ _ _ s
  | reloadEq => show Answers s (execReloadEq _ _ s); unfold execReloadEq; exact Answers.onWrite _ _ _ _ s
  | testStart => show Answers s (execTestStart _ _ s); unfold execTestStart; exact Answers.onWrite _ _ _ _ s
  | testStop => show Answers s (execTestStop _ _ s); unfold execTestStop; exact Answers.onWrite _ _ _ _ s
  | lanePll => show Answers s (execLanePll _ _ s); unfold execLanePll; exact Answers.onSys _ s
  | macFrameReceive => show Answers s (execMacFrameReceive _ _ _ _ s); unfold execMacFrameReceive; exact Answers.onOd _ s
  | txTailWrite => show Answers s (execTxTailWrite _ _ _ s); unfold execTxTailWrite; exact Answers.onWrite _ _ _ _ s
  | macFrameSent => show Answers s (execMacFrameSent _ _ s); unfold execMacFrameSent; exact Answers.onSys _ s
  | ethLink => show Answers s (execEthLink _ _ _ _ s); unfold execEthLink; exact Answers.onSys _ s
  | incrementWrite => show Answers s (execIncrementWrite _ _ _ s); unfold execIncrementWrite; exact Answers.onWrite _ _ _ _ s
  | adjTicksWrite => show Answers s (execAdjTicksWrite _ _ s); unfold execAdjTicksWrite; exact Answers.onWrite _ _ _ _ s
  | adjTicksExpiry => show Answers s (execAdjTicksExpiry s); unfold execAdjTicksExpiry; exact Answers.onSys _ s
  | timeStep => show Answers s (execTimeStep _ _ s); unfold execTimeStep; exact Answers.onWrite _ _ _ _ s
  | triggerConfigWrite => show Answers s (execTriggerConfigWrite _ _ _ _ s); unfold execTriggerConfigWrite; exact Answers.onWrite _ _ _ _ s
  | triggerArm => show Answers s (execTriggerArm _ _ _ s); unfold execTriggerArm; exact Answers.onWrite _ _ _ _ s
  | pulse => show Answers s (execPulse _ _ s); unfold execPulse; exact Answers.onWrite _ _ _ _ s
  | cancel => show Answers s (execCancel _ _ s); unfold execCancel; exact Answers.onWrite _ _ _ _ s
  | captureEvent => show Answers s (execCaptureEvent _ _ s); unfold execCaptureEvent; exact Answers.onSys _ s
  | capturePop => show Answers s (execCapturePop _ _ _ s); unfold execCapturePop; exact Answers.onWrite _ _ _ _ s
  | captureConfigWrite => show Answers s (execCaptureConfigWrite _ _ _ _ s); unfold execCaptureConfigWrite; exact Answers.onWrite _ _ _ _ s
  | delayReqSend => show Answers s (execDelayReqSend _ s); unfold execDelayReqSend; exact Answers.onSys _ s
  | delayRspTimeout => show Answers s (execDelayRspTimeout _ s); unfold execDelayRspTimeout; exact Answers.onSys _ s
  | syncSend => show Answers s (execSyncSend s); unfold execSyncSend; exact Answers.onSys _ s
  | dramRequest => show Answers s (execDramRequest _ _ _ _ _ s); unfold execDramRequest; exact Answers.onSys _ s
  | dramIssue => show Answers s (execDramIssue _ _ s); unfold execDramIssue; exact Answers.onSys _ s
  | dramReadData => show Answers s (execDramReadData _ _ s); unfold execDramReadData; exact Answers.onSys _ s
  | dramAlert => show Answers s (execDramAlert _ _ s); unfold execDramAlert; exact Answers.onSys _ s
  | refreshInterval => show Answers s (execRefreshInterval s); unfold execRefreshInterval; exact Answers.onSys _ s
  | mr4Poll => show Answers s (execMr4Poll _ s); unfold execMr4Poll; exact Answers.onSys _ s
  | oscRun => show Answers s (execOscRun _ s); unfold execOscRun; exact Answers.onSys _ s
  | unfreeze => show Answers s (execUnfreeze _ s); unfold execUnfreeze; exact Answers.onWrite _ _ _ _ s
  | debugRead => show Answers s (execDebugRead _ _ s); unfold execDebugRead; exact Answers.onWrite _ _ _ _ s
  | pprSoft => show Answers s (execPprSoft _ s); unfold execPprSoft; exact Answers.onWrite _ _ _ _ s
  | pprHard => show Answers s (execPprHard _ s); unfold execPprHard; exact Answers.onWrite _ _ _ _ s
  | pprComplete => show Answers s (execPprComplete _ _ s); unfold execPprComplete; exact Answers.onSys _ s
  | trainBegin => show Answers s (execTrainBegin _ s); unfold execTrainBegin; exact Answers.onWrite _ _ _ _ s
  | trainEnd => show Answers s (execTrainEnd _ _ _ s); unfold execTrainEnd; exact Answers.onWrite _ _ _ _ s
  | trainAbort => show Answers s (execTrainAbort _ s); unfold execTrainAbort; exact Answers.onWrite _ _ _ _ s
  | mrw => show Answers s (execMrw _ s); unfold execMrw; exact Answers.onWrite _ _ _ _ s
  | mrr => show Answers s (execMrr _ _ s); unfold execMrr; exact Answers.onWrite _ _ _ _ s
  | mpc => show Answers s (execMpc _ s); unfold execMpc; exact Answers.onWrite _ _ _ _ s
  | mrwLane => show Answers s (execMrwLane _ s); unfold execMrwLane; exact Answers.onWrite _ _ _ _ s
  | patWrite => show Answers s (execPatWrite _ s); unfold execPatWrite; exact Answers.onWrite _ _ _ _ s
  | patCompare => show Answers s (execPatCompare _ s); unfold execPatCompare; exact Answers.onWrite _ _ _ _ s
  | sample => show Answers s (execSample _ s); unfold execSample; exact Answers.onWrite _ _ _ _ s
  | patComplete => show Answers s (execPatComplete _ _ s); unfold execPatComplete; exact Answers.onSys _ s
  | dmaArm => show Answers s (execDmaArm _ _ _ s); unfold execDmaArm; exact Answers.onWrite _ _ _ _ s
  | handOver => show Answers s (execHandOver _ s); unfold execHandOver; exact Answers.onSys _ s
  | shadowTake => show Answers s (execShadowTake _ s); unfold execShadowTake; exact Answers.onSys _ s
  | descriptorFetch => show Answers s (execDescriptorFetch _ _ s); unfold execDescriptorFetch; exact Answers.onSys _ s
  | dmaStop => show Answers s (execDmaStop _ _ s); unfold execDmaStop; exact Answers.onWrite _ _ _ _ s
  | dmaStart => show Answers s (execDmaStart _ _ s); unfold execDmaStart; exact Answers.onWrite _ _ _ _ s
  | dmaClear => show Answers s (execDmaClear _ _ s); unfold execDmaClear; exact Answers.onWrite _ _ _ _ s
  | dmaEnableWrite => show Answers s (execDmaEnableWrite _ _ _ s); unfold execDmaEnableWrite; exact Answers.onWrite _ _ _ _ s
  | dmaBurst => show Answers s (execDmaBurst _ s); unfold execDmaBurst; exact Answers.onOd _ s
  | transferComplete => show Answers s (execTransferComplete _ s); unfold execTransferComplete; exact Answers.onSys _ s
  | cqTailWrite => show Answers s (execCqTailWrite _ _ _ s); unfold execCqTailWrite; exact Answers.onWrite _ _ _ _ s
  | lateErrorResponse => show Answers s (execLateErrorResponse _ _ s); unfold execLateErrorResponse; exact Answers.onSys _ s
  | apRunWrite => show Answers s (execApRunWrite _ _ _ s); unfold execApRunWrite; exact Answers.onSys _ s
  | fabricAccess => show Answers s (execFabricAccess _ _ _ _ _ _ _ _ s); unfold execFabricAccess; exact Answers.onOd _ s
  | remotePmpWrite => show Answers s (execRemotePmpWrite _ _ _ _ _ s); unfold execRemotePmpWrite; exact Answers.onSys _ s
  | cboClean => show Answers s (execCboClean _ _ s); unfold execCboClean; exact Answers.onOd _ s
  | cboFlush => show Answers s (execCboFlush _ _ s); unfold execCboFlush; exact Answers.onOd _ s
  | cboInval => show Answers s (execCboInval _ _ _ s); unfold execCboInval; exact Answers.onOd _ s
  | fenceWO => show Answers s (execFenceWO _ s); unfold execFenceWO; exact Answers.onOd _ s
  | fenceIR => show Answers s (execFenceIR _ s); unfold execFenceIR; exact Answers.onOd _ s
  | fenceI => show Answers s (execFenceI _ s); unfold execFenceI; exact Answers.onOd _ s
  | wfi => show Answers s (execWfi s); unfold execWfi; exact Answers.onSys _ s
  | checkA => show Answers s (execCheckA _ s); unfold execCheckA; exact Answers.onWrite _ _ _ _ s
  | checkB => show Answers s (execCheckB _ s); unfold execCheckB; exact Answers.onWrite _ _ _ _ s
  | imageCheckComplete => show Answers s (execImageCheckComplete s); unfold execImageCheckComplete; exact Answers.onSys _ s
  | invalidateA => show Answers s (execInvalidateA _ s); unfold execInvalidateA; exact Answers.onWrite _ _ _ _ s
  | invalidateB => show Answers s (execInvalidateB _ s); unfold execInvalidateB; exact Answers.onWrite _ _ _ _ s
  | confirm => show Answers s (execConfirm _ s); unfold execConfirm; exact Answers.onWrite _ _ _ _ s
  | trialTimeout => show Answers s (execTrialTimeout s); unfold execTrialTimeout; exact Answers.onSys _ s
  | mramWrite => show Answers s (execMramWrite _ s); unfold execMramWrite; exact Answers.onWrite _ _ _ _ s
  | mramCompare => show Answers s (execMramCompare _ s); unfold execMramCompare; exact Answers.onWrite _ _ _ _ s
  | mramZero => show Answers s (execMramZero _ s); unfold execMramZero; exact Answers.onWrite _ _ _ _ s
  | mramCommandComplete => show Answers s (execMramCommandComplete _ s); unfold execMramCommandComplete; exact Answers.onSys _ s
  | otpRead => show Answers s (execOtpRead _ s); unfold execOtpRead; exact Answers.onWrite _ _ _ _ s
  | otpProgram => show Answers s (execOtpProgram _ _ s); unfold execOtpProgram; exact Answers.onWrite _ _ _ _ s
  | debugModuleAccess => show Answers s (execDebugModuleAccess _ _ _ s); unfold execDebugModuleAccess; exact Answers.onSys _ s
  | nap => show Answers s (execNap _ s); unfold execNap; exact Answers.onWrite _ _ _ _ s
  | napEntryTimeout => show Answers s (execNapEntryTimeout s); unfold execNapEntryTimeout; exact Answers.onSys _ s
  | hold => show Answers s (execHold _ s); unfold execHold; exact Answers.onWrite _ _ _ _ s
  | holdEntry => show Answers s (execHoldEntry s); unfold execHoldEntry; exact Answers.onSys _ s
  | wakeEvent => show Answers s (execWakeEvent _ _ s); unfold execWakeEvent; exact Answers.onUnit _ s
  | wakeTimer => show Answers s (execWakeTimer s); unfold execWakeTimer; exact Answers.onUnit _ s
  | domainEnableWrite => show Answers s (execDomainEnableWrite _ _ s); unfold execDomainEnableWrite; exact Answers.onOd _ s
  | domainPowered => show Answers s (execDomainPowered _ s); unfold execDomainPowered; exact Answers.onOd _ s
  | domainIdle => show Answers s (execDomainIdle _ s); unfold execDomainIdle; exact Answers.onSys _ s
  | padRelease => show Answers s (execPadRelease _ _ s); unfold execPadRelease; exact Answers.onWrite _ _ _ _ s
  | pllEnableWrite => show Answers s (execPllEnableWrite _ _ s); unfold execPllEnableWrite; exact Answers.onWrite _ _ _ _ s
  | pllLock => show Answers s (execPllLock _ s); unfold execPllLock; exact Answers.onOd _ s
  | clockSourceWrite => show Answers s (execClockSourceWrite _ _ s); unfold execClockSourceWrite; exact Answers.onOd _ s
  | faultOccurrence => show Answers s (execFaultOccurrence _ _ _ _ s); unfold execFaultOccurrence; exact Answers.onSys _ s
  | reportMergeExpiry => show Answers s (execReportMergeExpiry _ s); unfold execReportMergeExpiry; exact Answers.onSys _ s
  | faultLogPop => show Answers s (execFaultLogPop _ _ s); unfold execFaultLogPop; exact Answers.onWrite _ _ _ _ s
  | errCaptureRead => show Answers s (execErrCaptureRead _ _ s); unfold execErrCaptureRead; exact Answers.onOd _ s
  | emissionPin => show Answers s (execEmissionPin _ _ _ s); unfold execEmissionPin; exact Answers.onSys _ s
  | dieTemp => show Answers s (execDieTemp _ s); unfold execDieTemp; exact Answers.onSys _ s
  | samplerTick => show Answers s (execSamplerTick _ s); unfold execSamplerTick; exact Answers.onSys _ s
  | workAreaWrite => show Answers s (execWorkAreaWrite _ _ s); unfold execWorkAreaWrite; exact Answers.onSys _ s
  | closeNow => show Answers s (execCloseNow _ s); unfold execCloseNow; exact Answers.onWrite _ _ _ _ s
  | clearCirculating => show Answers s (execClearCirculating _ s); unfold execClearCirculating; exact Answers.onWrite _ _ _ _ s
  | samplerClearComplete => show Answers s (execSamplerClearComplete s); unfold execSamplerClearComplete; exact Answers.onSys _ s
  | samplerSelect => show Answers s (execSamplerSelect _ _ _ s); unfold execSamplerSelect; exact Answers.onWrite _ _ _ _ s
  | plicClaim => show Answers s (execPlicClaim _ s); unfold execPlicClaim; exact Answers.onSys _ s
  | plicComplete => show Answers s (execPlicComplete _ _ s); unfold execPlicComplete; exact Answers.onSys _ s
  | vbusReturn => show Answers s (execVbusReturn _ _ s); unfold execVbusReturn; exact Answers.onSys _ s
  | dieTempClear => show Answers s (execDieTempClear _ s); unfold execDieTempClear; exact Answers.onSys _ s
  | checkerLock => show Answers s (execCheckerLock _ s); unfold execCheckerLock; exact Answers.onSys _ s
  | checkerLockLoss => show Answers s (execCheckerLockLoss _ _ s); unfold execCheckerLockLoss; exact Answers.onSys _ s
  | skewCalibration => show Answers s (execSkewCalibration _ s); unfold execSkewCalibration; exact Answers.onSys _ s
  | ulps => show Answers s (execUlps _ _ s); unfold execUlps; exact Answers.onSys _ s
  | linkHeartbeatSend => show Answers s (execLinkHeartbeatSend _ s); unfold execLinkHeartbeatSend; exact Answers.onSys _ s
  | malformedLinkFrame => show Answers s (execMalformedLinkFrame _ _ s); unfold execMalformedLinkFrame; exact Answers.onSys _ s
  | tckEdge => show Answers s (execTckEdge _ _ _ _ _ s); unfold execTckEdge; exact Answers.onUnit _ s

/-- Bits that are set in a fuse word stay set (R441). -/
theorem programmed_keeps (old data b : Nat) (h : old.testBit b = true) : (programmed old data).testBit b = true := by
  simp [programmed, h]

end Sys2Proof.Machine
end

