-- ==== Sys2Proof/Laws/Queue.lean ====
section
/-! SUPPORT. Queue: no command reads or changes the queue of waiting commands. -/

namespace Sys2Proof.Machine

open Sys2Proof

/-- An answer with another queue. -/
def requeue (q : List Instr) : Host.Outcome State Fault Refusal → Host.Outcome State Fault Refusal
  | .next t => .next { t with pending := q }
  | o => o

theorem onUnit_requeue (f : Sys → Sys) (s : State) (q : List Instr) : onUnit f { s with pending := q } = requeue q (onUnit f s) := rfl

theorem onSys_requeue (f : Sys → Sys) (s : State) (q : List Instr) : onSys f { s with pending := q } = requeue q (onSys f s) := rfl

theorem onOd_requeue (f : (Nat → Nat) → Sys → Sys) (s : State) (q : List Instr) : onOd f { s with pending := q } = requeue q (onOd f s) := by
  cases h : s.powered
  · rw [onOd_off f s h, onOd_off f { s with pending := q } h]; rfl
  · rw [onOd_on f s h, onOd_on f { s with pending := q } h]
    show Host.Outcome.next (burnt { s with pending := q } (f s.otpWord s.toSys)) = .next { burnt s (f s.otpWord s.toSys) with pending := q }
    unfold burnt
    cases (f s.otpWord s.toSys).eng.burn <;> rfl

theorem onWrite_requeue (acc : Access) (k v : Nat) (ext : Ext) (s : State) (q : List Instr) :
    onWrite acc k v ext { s with pending := q } = requeue q (onWrite acc k v ext s) := onOd_requeue _ s q

theorem coldStart_requeue (boot : Fin 4) (flash : List (List Nat)) (s : State) (q : List Instr) :
    execColdStart boot flash { s with pending := q } = requeue q (execColdStart boot flash s) := by
  unfold execColdStart
  by_cases h : s.pw.state = .off ∧ s.pw.pmic ≠ 15
  · rw [if_pos h, if_pos (show _ from h)]; rfl
  · rw [if_neg h, if_neg (show _ from h)]
    have e : State.otpWord { s with pending := q } = s.otpWord := rfl
    dsimp only
    rw [e]
    by_cases w : ((Sys.otpByte s.otpWord 9).testBit 2 && !(Sys.otpByte s.otpWord 9).testBit 3) = true
    · simp only [w, if_true, requeue]
    · simp only [w, requeue, Bool.false_eq_true, if_false]

/-- With another queue a command answers the same, with that queue. -/
theorem exec_requeue (i : Instr) (s : State) (q : List Instr) : exec i { s with pending := q } = requeue q (exec i s) := by
  cases i with
  | vaonRise => show execVaonRise { s with pending := q } = requeue q (execVaonRise s); unfold execVaonRise; exact onUnit_requeue _ s q
  | coldStart => show execColdStart _ _ { s with pending := q } = requeue q (execColdStart _ _ s); unfold execColdStart; exact coldStart_requeue _ _ s q
  | resetAssert => show execResetAssert { s with pending := q } = requeue q (execResetAssert s); unfold execResetAssert; exact onUnit_requeue _ s q
  | vaonLoss => show execVaonLoss { s with pending := q } = requeue q (execVaonLoss s); unfold execVaonLoss; exact onUnit_requeue _ s q
  | restored => show execRestored _ _ { s with pending := q } = requeue q (execRestored _ _ s); unfold execRestored; exact onSys_requeue _ s q
  | odReq => show execOdReq _ _ { s with pending := q } = requeue q (execOdReq _ _ s); unfold execOdReq; exact onOd_requeue _ s q
  | odWrite => show execOdWrite _ _ _ _ _ { s with pending := q } = requeue q (execOdWrite _ _ _ _ _ s); unfold execOdWrite; exact onOd_requeue _ s q
  | windowLowWordRead => show execWindowLowWordRead _ _ _ _ { s with pending := q } = requeue q (execWindowLowWordRead _ _ _ _ s); unfold execWindowLowWordRead; exact onOd_requeue _ s q
  | windowSplitWrite => show execWindowSplitWrite _ _ _ _ _ { s with pending := q } = requeue q (execWindowSplitWrite _ _ _ _ _ s); unfold execWindowSplitWrite; exact onOd_requeue _ s q
  | describeSelect => show execDescribeSelect _ _ _ { s with pending := q } = requeue q (execDescribeSelect _ _ _ s); unfold execDescribeSelect; exact onWrite_requeue _ _ _ _ s q
  | domainAddressWrite => show execDomainAddressWrite _ _ _ _ { s with pending := q } = requeue q (execDomainAddressWrite _ _ _ _ s); unfold execDomainAddressWrite; exact onOd_requeue _ s q
  | domainLengthWrite => show execDomainLengthWrite _ _ _ _ { s with pending := q } = requeue q (execDomainLengthWrite _ _ _ _ s); unfold execDomainLengthWrite; exact onOd_requeue _ s q
  | rspCommit => show execRspCommit _ _ { s with pending := q } = requeue q (execRspCommit _ _ s); unfold execRspCommit; exact onWrite_requeue _ _ _ _ s q
  | serviceTimeout => show execServiceTimeout _ { s with pending := q } = requeue q (execServiceTimeout _ s); unfold execServiceTimeout; exact onSys_requeue _ s q
  | fwsDataWrite => show execFwsDataWrite _ _ { s with pending := q } = requeue q (execFwsDataWrite _ _ s); unfold execFwsDataWrite; exact onWrite_requeue _ _ _ _ s q
  | storeRebuildComplete => show execStoreRebuildComplete _ { s with pending := q } = requeue q (execStoreRebuildComplete _ s); unfold execStoreRebuildComplete; exact onOd_requeue _ s q
  | goConfig => show execGoConfig _ { s with pending := q } = requeue q (execGoConfig _ s); unfold execGoConfig; exact onWrite_requeue _ _ _ _ s q
  | goConfigComplete => show execGoConfigComplete { s with pending := q } = requeue q (execGoConfigComplete s); unfold execGoConfigComplete; exact onSys_requeue _ s q
  | goReady => show execGoReady _ _ { s with pending := q } = requeue q (execGoReady _ _ s); unfold execGoReady; exact onWrite_requeue _ _ _ _ s q
  | arm => show execArm _ { s with pending := q } = requeue q (execArm _ s); unfold execArm; exact onWrite_requeue _ _ _ _ s q
  | disarm => show execDisarm _ { s with pending := q } = requeue q (execDisarm _ s); unfold execDisarm; exact onWrite_requeue _ _ _ _ s q
  | enterService => show execEnterService _ { s with pending := q } = requeue q (execEnterService _ s); unfold execEnterService; exact onWrite_requeue _ _ _ _ s q
  | leaveService => show execLeaveService _ { s with pending := q } = requeue q (execLeaveService _ s); unfold execLeaveService; exact onWrite_requeue _ _ _ _ s q
  | clearFault => show execClearFault _ { s with pending := q } = requeue q (execClearFault _ s); unfold execClearFault; exact onWrite_requeue _ _ _ _ s q
  | warmReset => show execWarmReset _ { s with pending := q } = requeue q (execWarmReset _ s); unfold execWarmReset; exact onWrite_requeue _ _ _ _ s q
  | warmResetActs => show execWarmResetActs { s with pending := q } = requeue q (execWarmResetActs s); unfold execWarmResetActs; exact onSys_requeue _ s q
  | lsafeFall => show execLsafeFall { s with pending := q } = requeue q (execLsafeFall s); unfold execLsafeFall; exact onUnit_requeue _ s q
  | lsafeRise => show execLsafeRise { s with pending := q } = requeue q (execLsafeRise s); unfold execLsafeRise; exact onUnit_requeue _ s q
  | defaultsKeepIdentity => show execDefaultsKeepIdentity _ { s with pending := q } = requeue q (execDefaultsKeepIdentity _ s); unfold execDefaultsKeepIdentity; exact onWrite_requeue _ _ _ _ s q
  | defaultsAll => show execDefaultsAll _ { s with pending := q } = requeue q (execDefaultsAll _ s); unfold execDefaultsAll; exact onWrite_requeue _ _ _ _ s q
  | verify => show execVerify _ { s with pending := q } = requeue q (execVerify _ s); unfold execVerify; exact onWrite_requeue _ _ _ _ s q
  | rebuild => show execRebuild _ { s with pending := q } = requeue q (execRebuild _ s); unfold execRebuild; exact onWrite_requeue _ _ _ _ s q
  | storeCommandComplete => show execStoreCommandComplete _ { s with pending := q } = requeue q (execStoreCommandComplete _ s); unfold execStoreCommandComplete; exact onSys_requeue _ s q
  | restoreAck => show execRestoreAck _ { s with pending := q } = requeue q (execRestoreAck _ s); unfold execRestoreAck; exact onWrite_requeue _ _ _ _ s q
  | frameForward => show execFrameForward _ _ { s with pending := q } = requeue q (execFrameForward _ _ s); unfold execFrameForward; exact onOd_requeue _ s q
  | count => show execCount _ _ { s with pending := q } = requeue q (execCount _ _ s); unfold execCount; exact onSys_requeue _ s q
  | identify => show execIdentify _ _ { s with pending := q } = requeue q (execIdentify _ _ s); unfold execIdentify; exact onSys_requeue _ s q
  | assign => show execAssign _ _ { s with pending := q } = requeue q (execAssign _ _ s); unfold execAssign; exact onSys_requeue _ s q
  | assignAlias => show execAssignAlias _ _ { s with pending := q } = requeue q (execAssignAlias _ _ s); unfold execAssignAlias; exact onSys_requeue _ s q
  | release => show execRelease _ _ { s with pending := q } = requeue q (execRelease _ _ s); unfold execRelease; exact onSys_requeue _ s q
  | stream => show execStream _ _ { s with pending := q } = requeue q (execStream _ _ s); unfold execStream; exact onSys_requeue _ s q
  | alarm => show execAlarm _ _ { s with pending := q } = requeue q (execAlarm _ _ s); unfold execAlarm; exact onSys_requeue _ s q
  | sync => show execSync _ _ { s with pending := q } = requeue q (execSync _ _ s); unfold execSync; exact onSys_requeue _ s q
  | delayReq => show execDelayReq _ _ { s with pending := q } = requeue q (execDelayReq _ _ s); unfold execDelayReq; exact onSys_requeue _ s q
  | delayRsp => show execDelayRsp _ _ { s with pending := q } = requeue q (execDelayRsp _ _ s); unfold execDelayRsp; exact onSys_requeue _ s q
  | bootData => show execBootData _ _ { s with pending := q } = requeue q (execBootData _ _ s); unfold execBootData; exact onOd_requeue _ s q
  | bootReqTimeout => show execBootReqTimeout { s with pending := q } = requeue q (execBootReqTimeout s); unfold execBootReqTimeout; exact onSys_requeue _ s q
  | bootRestart => show execBootRestart { s with pending := q } = requeue q (execBootRestart s); unfold execBootRestart; exact onSys_requeue _ s q
  | creditSymbol => show execCreditSymbol _ _ _ { s with pending := q } = requeue q (execCreditSymbol _ _ _ s); unfold execCreditSymbol; exact onSys_requeue _ s q
  | creditReturnTimer => show execCreditReturnTimer _ _ { s with pending := q } = requeue q (execCreditReturnTimer _ _ s); unfold execCreditReturnTimer; exact onSys_requeue _ s q
  | heartbeat => show execHeartbeat _ _ _ _ { s with pending := q } = requeue q (execHeartbeat _ _ _ _ s); unfold execHeartbeat; exact onSys_requeue _ s q
  | heartbeatSend => show execHeartbeatSend _ { s with pending := q } = requeue q (execHeartbeatSend _ s); unfold execHeartbeatSend; exact onSys_requeue _ s q
  | heartbeatTimeout => show execHeartbeatTimeout _ { s with pending := q } = requeue q (execHeartbeatTimeout _ s); unfold execHeartbeatTimeout; exact onSys_requeue _ s q
  | portEnableWrite => show execPortEnableWrite _ _ _ { s with pending := q } = requeue q (execPortEnableWrite _ _ _ s); unfold execPortEnableWrite; exact onWrite_requeue _ _ _ _ s q
  | endpointEnableWrite => show execEndpointEnableWrite _ _ _ { s with pending := q } = requeue q (execEndpointEnableWrite _ _ _ s); unfold execEndpointEnableWrite; exact onWrite_requeue _ _ _ _ s q
  | releaseOffsetWrite => show execReleaseOffsetWrite _ _ _ { s with pending := q } = requeue q (execReleaseOffsetWrite _ _ _ s); unfold execReleaseOffsetWrite; exact onWrite_requeue _ _ _ _ s q
  | creditPeriodExpiry => show execCreditPeriodExpiry _ { s with pending := q } = requeue q (execCreditPeriodExpiry _ s); unfold execCreditPeriodExpiry; exact onSys_requeue _ s q
  | gatewayDatagram => show execGatewayDatagram _ _ { s with pending := q } = requeue q (execGatewayDatagram _ _ s); unfold execGatewayDatagram; exact onOd_requeue _ s q
  | arpRequest => show execArpRequest _ _ { s with pending := q } = requeue q (execArpRequest _ _ s); unfold execArpRequest; exact onSys_requeue _ s q
  | channelEnable => show execChannelEnable _ _ _ { s with pending := q } = requeue q (execChannelEnable _ _ _ s); unfold execChannelEnable; exact onWrite_requeue _ _ _ _ s q
  | channelDisable => show execChannelDisable _ _ { s with pending := q } = requeue q (execChannelDisable _ _ s); unfold execChannelDisable; exact onWrite_requeue _ _ _ _ s q
  | channelStart => show execChannelStart _ _ { s with pending := q } = requeue q (execChannelStart _ _ s); unfold execChannelStart; exact onWrite_requeue _ _ _ _ s q
  | channelPause => show execChannelPause _ _ { s with pending := q } = requeue q (execChannelPause _ _ s); unfold execChannelPause; exact onWrite_requeue _ _ _ _ s q
  | channelResume => show execChannelResume _ _ { s with pending := q } = requeue q (execChannelResume _ _ s); unfold execChannelResume; exact onWrite_requeue _ _ _ _ s q
  | channelStop => show execChannelStop _ _ { s with pending := q } = requeue q (execChannelStop _ _ s); unfold execChannelStop; exact onWrite_requeue _ _ _ _ s q
  | channelReset => show execChannelReset _ _ { s with pending := q } = requeue q (execChannelReset _ _ s); unfold execChannelReset; exact onWrite_requeue _ _ _ _ s q
  | hoopEnableWrite => show execHoopEnableWrite _ _ _ _ { s with pending := q } = requeue q (execHoopEnableWrite _ _ _ _ s); unfold execHoopEnableWrite; exact onWrite_requeue _ _ _ _ s q
  | blockFetch => show execBlockFetch _ _ { s with pending := q } = requeue q (execBlockFetch _ _ s); unfold execBlockFetch; exact onSys_requeue _ s q
  | descriptorLookahead => show execDescriptorLookahead _ _ { s with pending := q } = requeue q (execDescriptorLookahead _ _ s); unfold execDescriptorLookahead; exact onSys_requeue _ s q
  | scuSample => show execScuSample _ _ { s with pending := q } = requeue q (execScuSample _ _ s); unfold execScuSample; exact onSys_requeue _ s q
  | jump => show execJump _ { s with pending := q } = requeue q (execJump _ s); unfold execJump; exact onSys_requeue _ s q
  | mark => show execMark _ { s with pending := q } = requeue q (execMark _ s); unfold execMark; exact onSys_requeue _ s q
  | arc => show execArc _ { s with pending := q } = requeue q (execArc _ s); unfold execArc; exact onSys_requeue _ s q
  | dwell => show execDwell _ { s with pending := q } = requeue q (execDwell _ s); unfold execDwell; exact onSys_requeue _ s q
  | power => show execPower _ { s with pending := q } = requeue q (execPower _ s); unfold execPower; exact onSys_requeue _ s q
  | waitTime => show execWaitTime _ { s with pending := q } = requeue q (execWaitTime _ s); unfold execWaitTime; exact onSys_requeue _ s q
  | waitTimeReached => show execWaitTimeReached _ { s with pending := q } = requeue q (execWaitTimeReached _ s); unfold execWaitTimeReached; exact onSys_requeue _ s q
  | waitEvent => show execWaitEvent _ { s with pending := q } = requeue q (execWaitEvent _ s); unfold execWaitEvent; exact onSys_requeue _ s q
  | waitEventTimeout => show execWaitEventTimeout _ { s with pending := q } = requeue q (execWaitEventTimeout _ s); unfold execWaitEventTimeout; exact onSys_requeue _ s q
  | seamPoint => show execSeamPoint _ { s with pending := q } = requeue q (execSeamPoint _ s); unfold execSeamPoint; exact onSys_requeue _ s q
  | calMark => show execCalMark _ { s with pending := q } = requeue q (execCalMark _ s); unfold execCalMark; exact onSys_requeue _ s q
  | linkBlock => show execLinkBlock _ { s with pending := q } = requeue q (execLinkBlock _ s); unfold execLinkBlock; exact onSys_requeue _ s q
  | endDescr => show execEndDescr _ { s with pending := q } = requeue q (execEndDescr _ s); unfold execEndDescr; exact onSys_requeue _ s q
  | readyTimeout => show execReadyTimeout _ { s with pending := q } = requeue q (execReadyTimeout _ s); unfold execReadyTimeout; exact onSys_requeue _ s q
  | lpStsChange => show execLpStsChange _ _ { s with pending := q } = requeue q (execLpStsChange _ _ s); unfold execLpStsChange; exact onUnit_requeue _ s q
  | sosTimeout => show execSosTimeout _ { s with pending := q } = requeue q (execSosTimeout _ s); unfold execSosTimeout; exact onSys_requeue _ s q
  | triggerEdge => show execTriggerEdge _ { s with pending := q } = requeue q (execTriggerEdge _ s); unfold execTriggerEdge; exact onSys_requeue _ s q
  | slotEvaluation => show execSlotEvaluation _ _ _ _ _ _ { s with pending := q } = requeue q (execSlotEvaluation _ _ _ _ _ _ s); unfold execSlotEvaluation; exact onSys_requeue _ s q
  | lineBreak => show execLineBreak _ _ { s with pending := q } = requeue q (execLineBreak _ _ s); unfold execLineBreak; exact onSys_requeue _ s q
  | slotClose => show execSlotClose _ _ { s with pending := q } = requeue q (execSlotClose _ _ s); unfold execSlotClose; exact onWrite_requeue _ _ _ _ s q
  | slotOpen => show execSlotOpen _ _ { s with pending := q } = requeue q (execSlotOpen _ _ s); unfold execSlotOpen; exact onWrite_requeue _ _ _ _ s q
  | slotReset => show execSlotReset _ _ { s with pending := q } = requeue q (execSlotReset _ _ s); unfold execSlotReset; exact onWrite_requeue _ _ _ _ s q
  | rcLearn => show execRcLearn _ _ { s with pending := q } = requeue q (execRcLearn _ _ s); unfold execRcLearn; exact onWrite_requeue _ _ _ _ s q
  | rcFreeze => show execRcFreeze _ _ { s with pending := q } = requeue q (execRcFreeze _ _ s); unfold execRcFreeze; exact onWrite_requeue _ _ _ _ s q
  | rcClear => show execRcClear _ _ { s with pending := q } = requeue q (execRcClear _ _ s); unfold execRcClear; exact onWrite_requeue _ _ _ _ s q
  | slotModeWrite => show execSlotModeWrite _ _ _ { s with pending := q } = requeue q (execSlotModeWrite _ _ _ s); unfold execSlotModeWrite; exact onWrite_requeue _ _ _ _ s q
  | bqEnableWrite => show execBqEnableWrite _ _ _ { s with pending := q } = requeue q (execBqEnableWrite _ _ _ s); unfold execBqEnableWrite; exact onWrite_requeue _ _ _ _ s q
  | rcConfigWrite => show execRcConfigWrite _ _ _ _ { s with pending := q } = requeue q (execRcConfigWrite _ _ _ _ s); unfold execRcConfigWrite; exact onWrite_requeue _ _ _ _ s q
  | faultHoldExpiry => show execFaultHoldExpiry _ { s with pending := q } = requeue q (execFaultHoldExpiry _ s); unfold execFaultHoldExpiry; exact onSys_requeue _ s q
  | mplUpdate => show execMplUpdate _ _ _ _ _ { s with pending := q } = requeue q (execMplUpdate _ _ _ _ _ s); unfold execMplUpdate; exact onSys_requeue _ s q
  | gateMismatch => show execGateMismatch _ _ _ { s with pending := q } = requeue q (execGateMismatch _ _ _ s); unfold execGateMismatch; exact onSys_requeue _ s q
  | zoneEnableWrite => show execZoneEnableWrite _ _ _ { s with pending := q } = requeue q (execZoneEnableWrite _ _ _ s); unfold execZoneEnableWrite; exact onWrite_requeue _ _ _ _ s q
  | join => show execJoin _ _ { s with pending := q } = requeue q (execJoin _ _ s); unfold execJoin; exact onWrite_requeue _ _ _ _ s q
  | cancelJoin => show execCancelJoin _ _ { s with pending := q } = requeue q (execCancelJoin _ _ s); unfold execCancelJoin; exact onWrite_requeue _ _ _ _ s q
  | joinTimeReached => show execJoinTimeReached { s with pending := q } = requeue q (execJoinTimeReached s); unfold execJoinTimeReached; exact onSys_requeue _ s q
  | takeoverCollectionClose => show execTakeoverCollectionClose { s with pending := q } = requeue q (execTakeoverCollectionClose s); unfold execTakeoverCollectionClose; exact onSys_requeue _ s q
  | takeoverInstant => show execTakeoverInstant { s with pending := q } = requeue q (execTakeoverInstant s); unfold execTakeoverInstant; exact onSys_requeue _ s q
  | reportPop => show execReportPop _ _ { s with pending := q } = requeue q (execReportPop _ _ s); unfold execReportPop; exact onWrite_requeue _ _ _ _ s q
  | updateStart => show execUpdateStart _ _ { s with pending := q } = requeue q (execUpdateStart _ _ s); unfold execUpdateStart; exact onWrite_requeue _ _ _ _ s q
  | updateResume => show execUpdateResume _ _ { s with pending := q } = requeue q (execUpdateResume _ _ s); unfold execUpdateResume; exact onWrite_requeue _ _ _ _ s q
  | updateAbort => show execUpdateAbort _ _ { s with pending := q } = requeue q (execUpdateAbort _ _ s); unfold execUpdateAbort; exact onWrite_requeue _ _ _ _ s q
  | updateRollback => show execUpdateRollback _ _ { s with pending := q } = requeue q (execUpdateRollback _ _ s); unfold execUpdateRollback; exact onWrite_requeue _ _ _ _ s q
  | updateInstall => show execUpdateInstall _ _ _ { s with pending := q } = requeue q (execUpdateInstall _ _ _ s); unfold execUpdateInstall; exact onWrite_requeue _ _ _ _ s q
  | checksComplete => show execChecksComplete _ _ { s with pending := q } = requeue q (execChecksComplete _ _ s); unfold execChecksComplete; exact onSys_requeue _ s q
  | stepBuilt => show execStepBuilt _ _ _ _ { s with pending := q } = requeue q (execStepBuilt _ _ _ _ s); unfold execStepBuilt; exact onSys_requeue _ s q
  | swapWindowExpiry => show execSwapWindowExpiry _ { s with pending := q } = requeue q (execSwapWindowExpiry _ s); unfold execSwapWindowExpiry; exact onSys_requeue _ s q
  | calCopyWrite => show execCalCopyWrite _ { s with pending := q } = requeue q (execCalCopyWrite _ s); unfold execCalCopyWrite; exact onSys_requeue _ s q
  | loadRecord => show execLoadRecord _ { s with pending := q } = requeue q (execLoadRecord _ s); unfold execLoadRecord; exact onSys_requeue _ s q
  | patRequest => show execPatRequest _ _ { s with pending := q } = requeue q (execPatRequest _ _ s); unfold execPatRequest; exact onWrite_requeue _ _ _ _ s q
  | patClear => show execPatClear _ _ { s with pending := q } = requeue q (execPatClear _ _ s); unfold execPatClear; exact onWrite_requeue _ _ _ _ s q
  | encoderEdge => show execEncoderEdge _ _ _ { s with pending := q } = requeue q (execEncoderEdge _ _ _ s); unfold execEncoderEdge; exact onSys_requeue _ s q
  | encoderZ => show execEncoderZ _ { s with pending := q } = requeue q (execEncoderZ _ s); unfold execEncoderZ; exact onSys_requeue _ s q
  | encoderLoss => show execEncoderLoss _ _ _ { s with pending := q } = requeue q (execEncoderLoss _ _ _ s); unfold execEncoderLoss; exact onSys_requeue _ s q
  | encoderClear => show execEncoderClear _ _ { s with pending := q } = requeue q (execEncoderClear _ _ s); unfold execEncoderClear; exact onWrite_requeue _ _ _ _ s q
  | encoderZero => show execEncoderZero _ _ { s with pending := q } = requeue q (execEncoderZero _ _ s); unfold execEncoderZero; exact onWrite_requeue _ _ _ _ s q
  | sosEdge => show execSosEdge _ _ { s with pending := q } = requeue q (execSosEdge _ _ s); unfold execSosEdge; exact onSys_requeue _ s q
  | fixInstant => show execFixInstant _ { s with pending := q } = requeue q (execFixInstant _ s); unfold execFixInstant; exact onSys_requeue _ s q
  | sliceFetch => show execSliceFetch _ _ { s with pending := q } = requeue q (execSliceFetch _ _ s); unfold execSliceFetch; exact onSys_requeue _ s q
  | dataSend => show execDataSend _ _ { s with pending := q } = requeue q (execDataSend _ _ s); unfold execDataSend; exact onSys_requeue _ s q
  | ackFrame => show execAckFrame _ _ { s with pending := q } = requeue q (execAckFrame _ _ s); unfold execAckFrame; exact onSys_requeue _ s q
  | ackTimeout => show execAckTimeout _ { s with pending := q } = requeue q (execAckTimeout _ s); unfold execAckTimeout; exact onSys_requeue _ s q
  | fireStrobe => show execFireStrobe _ { s with pending := q } = requeue q (execFireStrobe _ s); unfold execFireStrobe; exact onSys_requeue _ s q
  | swathEnd => show execSwathEnd _ { s with pending := q } = requeue q (execSwathEnd _ s); unfold execSwathEnd; exact onSys_requeue _ s q
  | feedSettleExpiry => show execFeedSettleExpiry _ { s with pending := q } = requeue q (execFeedSettleExpiry _ s); unfold execFeedSettleExpiry; exact onSys_requeue _ s q
  | statusFrame => show execStatusFrame _ _ { s with pending := q } = requeue q (execStatusFrame _ _ s); unfold execStatusFrame; exact onSys_requeue _ s q
  | nozzleFrame => show execNozzleFrame _ _ { s with pending := q } = requeue q (execNozzleFrame _ _ s); unfold execNozzleFrame; exact onSys_requeue _ s q
  | wackFrame => show execWackFrame _ _ { s with pending := q } = requeue q (execWackFrame _ _ s); unfold execWackFrame; exact onSys_requeue _ s q
  | ctrlRsp => show execCtrlRsp _ _ { s with pending := q } = requeue q (execCtrlRsp _ _ s); unfold execCtrlRsp; exact onSys_requeue _ s q
  | linkHeartbeat => show execLinkHeartbeat _ _ _ { s with pending := q } = requeue q (execLinkHeartbeat _ _ _ s); unfold execLinkHeartbeat; exact onSys_requeue _ s q
  | linkHeartbeatTimeout => show execLinkHeartbeatTimeout _ { s with pending := q } = requeue q (execLinkHeartbeatTimeout _ s); unfold execLinkHeartbeatTimeout; exact onSys_requeue _ s q
  | ctrlWrite => show execCtrlWrite _ _ { s with pending := q } = requeue q (execCtrlWrite _ _ s); unfold execCtrlWrite; exact onWrite_requeue _ _ _ _ s q
  | ctrlRead => show execCtrlRead _ _ { s with pending := q } = requeue q (execCtrlRead _ _ s); unfold execCtrlRead; exact onWrite_requeue _ _ _ _ s q
  | ctrlTimeout => show execCtrlTimeout _ { s with pending := q } = requeue q (execCtrlTimeout _ s); unfold execCtrlTimeout; exact onSys_requeue _ s q
  | picotStore => show execPicotStore _ _ { s with pending := q } = requeue q (execPicotStore _ _ s); unfold execPicotStore; exact onWrite_requeue _ _ _ _ s q
  | picotSend => show execPicotSend _ { s with pending := q } = requeue q (execPicotSend _ s); unfold execPicotSend; exact onWrite_requeue _ _ _ _ s q
  | picotCheck => show execPicotCheck _ _ { s with pending := q } = requeue q (execPicotCheck _ _ s); unfold execPicotCheck; exact onWrite_requeue _ _ _ _ s q
  | headTempReading => show execHeadTempReading _ _ { s with pending := q } = requeue q (execHeadTempReading _ _ s); unfold execHeadTempReading; exact onSys_requeue _ s q
  | gateInputChange => show execGateInputChange _ _ { s with pending := q } = requeue q (execGateInputChange _ _ s); unfold execGateInputChange; exact onUnit_requeue _ s q
  | groupEnable => show execGroupEnable _ _ { s with pending := q } = requeue q (execGroupEnable _ _ s); unfold execGroupEnable; exact onWrite_requeue _ _ _ _ s q
  | groupDisable => show execGroupDisable _ _ { s with pending := q } = requeue q (execGroupDisable _ _ s); unfold execGroupDisable; exact onWrite_requeue _ _ _ _ s q
  | groupStart => show execGroupStart _ _ { s with pending := q } = requeue q (execGroupStart _ _ s); unfold execGroupStart; exact onWrite_requeue _ _ _ _ s q
  | groupPause => show execGroupPause _ _ { s with pending := q } = requeue q (execGroupPause _ _ s); unfold execGroupPause; exact onWrite_requeue _ _ _ _ s q
  | groupResume => show execGroupResume _ _ { s with pending := q } = requeue q (execGroupResume _ _ s); unfold execGroupResume; exact onWrite_requeue _ _ _ _ s q
  | groupStop => show execGroupStop _ _ { s with pending := q } = requeue q (execGroupStop _ _ s); unfold execGroupStop; exact onWrite_requeue _ _ _ _ s q
  | groupReset => show execGroupReset _ _ { s with pending := q } = requeue q (execGroupReset _ _ s); unfold execGroupReset; exact onWrite_requeue _ _ _ _ s q
  | axisUpdate => show execAxisUpdate _ _ { s with pending := q } = requeue q (execAxisUpdate _ _ s); unfold execAxisUpdate; exact onSys_requeue _ s q
  | axisEnable => show execAxisEnable _ _ { s with pending := q } = requeue q (execAxisEnable _ _ s); unfold execAxisEnable; exact onWrite_requeue _ _ _ _ s q
  | axisDisable => show execAxisDisable _ _ { s with pending := q } = requeue q (execAxisDisable _ _ s); unfold execAxisDisable; exact onWrite_requeue _ _ _ _ s q
  | moveAbs => show execMoveAbs _ _ { s with pending := q } = requeue q (execMoveAbs _ _ s); unfold execMoveAbs; exact onWrite_requeue _ _ _ _ s q
  | moveRel => show execMoveRel _ _ { s with pending := q } = requeue q (execMoveRel _ _ s); unfold execMoveRel; exact onWrite_requeue _ _ _ _ s q
  | runTable => show execRunTable _ _ _ { s with pending := q } = requeue q (execRunTable _ _ _ s); unfold execRunTable; exact onWrite_requeue _ _ _ _ s q
  | switchTable => show execSwitchTable _ _ { s with pending := q } = requeue q (execSwitchTable _ _ s); unfold execSwitchTable; exact onWrite_requeue _ _ _ _ s q
  | axisStop => show execAxisStop _ _ { s with pending := q } = requeue q (execAxisStop _ _ s); unfold execAxisStop; exact onWrite_requeue _ _ _ _ s q
  | quickStop => show execQuickStop _ _ { s with pending := q } = requeue q (execQuickStop _ _ s); unfold execQuickStop; exact onWrite_requeue _ _ _ _ s q
  | axisReset => show execAxisReset _ _ { s with pending := q } = requeue q (execAxisReset _ _ s); unfold execAxisReset; exact onWrite_requeue _ _ _ _ s q
  | setPosition => show execSetPosition _ _ { s with pending := q } = requeue q (execSetPosition _ _ s); unfold execSetPosition; exact onWrite_requeue _ _ _ _ s q
  | pwmPeriod => show execPwmPeriod _ _ { s with pending := q } = requeue q (execPwmPeriod _ _ s); unfold execPwmPeriod; exact onSys_requeue _ s q
  | inposTimeout => show execInposTimeout _ { s with pending := q } = requeue q (execInposTimeout _ s); unfold execInposTimeout; exact onSys_requeue _ s q
  | holdDelayExpiry => show execHoldDelayExpiry _ { s with pending := q } = requeue q (execHoldDelayExpiry _ s); unfold execHoldDelayExpiry; exact onSys_requeue _ s q
  | vbusFault => show execVbusFault _ _ { s with pending := q } = requeue q (execVbusFault _ _ s); unfold execVbusFault; exact onSys_requeue _ s q
  | frameStart => show execFrameStart _ _ _ _ { s with pending := q } = requeue q (execFrameStart _ _ _ _ s); unfold execFrameStart; exact onSys_requeue _ s q
  | csiLine => show execCsiLine _ _ _ _ _ _ { s with pending := q } = requeue q (execCsiLine _ _ _ _ _ _ s); unfold execCsiLine; exact onSys_requeue _ s q
  | frameEnd => show execFrameEnd _ _ _ { s with pending := q } = requeue q (execFrameEnd _ _ _ s); unfold execFrameEnd; exact onSys_requeue _ s q
  | csiPacket => show execCsiPacket _ _ _ _ _ _ { s with pending := q } = requeue q (execCsiPacket _ _ _ _ _ _ s); unfold execCsiPacket; exact onSys_requeue _ s q
  | frameTimeout => show execFrameTimeout _ { s with pending := q } = requeue q (execFrameTimeout _ s); unfold execFrameTimeout; exact onSys_requeue _ s q
  | lineGrant => show execLineGrant _ { s with pending := q } = requeue q (execLineGrant _ s); unfold execLineGrant; exact onSys_requeue _ s q
  | frameRecord => show execFrameRecord _ { s with pending := q } = requeue q (execFrameRecord _ s); unfold execFrameRecord; exact onSys_requeue _ s q
  | contextEnableWrite => show execContextEnableWrite _ _ _ { s with pending := q } = requeue q (execContextEnableWrite _ _ _ s); unfold execContextEnableWrite; exact onWrite_requeue _ _ _ _ s q
  | outputEnableWrite => show execOutputEnableWrite _ _ _ _ { s with pending := q } = requeue q (execOutputEnableWrite _ _ _ _ s); unfold execOutputEnableWrite; exact onWrite_requeue _ _ _ _ s q
  | profEnableWrite => show execProfEnableWrite _ _ _ { s with pending := q } = requeue q (execProfEnableWrite _ _ _ s); unfold execProfEnableWrite; exact onWrite_requeue _ _ _ _ s q
  | detectProbe => show execDetectProbe _ _ { s with pending := q } = requeue q (execDetectProbe _ _ s); unfold execDetectProbe; exact onSys_requeue _ s q
  | symbolLock => show execSymbolLock _ { s with pending := q } = requeue q (execSymbolLock _ s); unfold execSymbolLock; exact onSys_requeue _ s q
  | trainTimeout => show execTrainTimeout _ { s with pending := q } = requeue q (execTrainTimeout _ s); unfold execTrainTimeout; exact onSys_requeue _ s q
  | capSet => show execCapSet _ _ _ _ _ { s with pending := q } = requeue q (execCapSet _ _ _ _ _ s); unfold execCapSet; exact onSys_requeue _ s q
  | capabilityTimeout => show execCapabilityTimeout _ { s with pending := q } = requeue q (execCapabilityTimeout _ s); unfold execCapabilityTimeout; exact onSys_requeue _ s q
  | lossOfLock => show execLossOfLock _ _ _ { s with pending := q } = requeue q (execLossOfLock _ _ _ s); unfold execLossOfLock; exact onSys_requeue _ s q
  | singleLaneTimeout => show execSingleLaneTimeout _ { s with pending := q } = requeue q (execSingleLaneTimeout _ s); unfold execSingleLaneTimeout; exact onSys_requeue _ s q
  | retrain => show execRetrain _ _ { s with pending := q } = requeue q (execRetrain _ _ s); unfold execRetrain; exact onWrite_requeue _ _ _ _ s q
  | reloadEq => show execReloadEq _ _ { s with pending := q } = requeue q (execReloadEq _ _ s); unfold execReloadEq; exact onWrite_requeue _ _ _ _ s q
  | testStart => show execTestStart _ _ { s with pending := q } = requeue q (execTestStart _ _ s); unfold execTestStart; exact onWrite_requeue _ _ _ _ s q
  | testStop => show execTestStop _ _ { s with pending := q } = requeue q (execTestStop _ _ s); unfold execTestStop; exact onWrite_requeue _ _ _ _ s q
  | lanePll => show execLanePll _ _ { s with pending := q } = requeue q (execLanePll _ _ s); unfold execLanePll; exact onSys_requeue _ s q
  | macFrameReceive => show execMacFrameReceive _ _ _ _ { s with pending := q } = requeue q (execMacFrameReceive _ _ _ _ s); unfold execMacFrameReceive; exact onOd_requeue _ s q
  | txTailWrite => show execTxTailWrite _ _ _ { s with pending := q } = requeue q (execTxTailWrite _ _ _ s); unfold execTxTailWrite; exact onWrite_requeue _ _ _ _ s q
  | macFrameSent => show execMacFrameSent _ _ { s with pending := q } = requeue q (execMacFrameSent _ _ s); unfold execMacFrameSent; exact onSys_requeue _ s q
  | ethLink => show execEthLink _ _ _ _ { s with pending := q } = requeue q (execEthLink _ _ _ _ s); unfold execEthLink; exact onSys_requeue _ s q
  | incrementWrite => show execIncrementWrite _ _ _ { s with pending := q } = requeue q (execIncrementWrite _ _ _ s); unfold execIncrementWrite; exact onWrite_requeue _ _ _ _ s q
  | adjTicksWrite => show execAdjTicksWrite _ _ { s with pending := q } = requeue q (execAdjTicksWrite _ _ s); unfold execAdjTicksWrite; exact onWrite_requeue _ _ _ _ s q
  | adjTicksExpiry => show execAdjTicksExpiry { s with pending := q } = requeue q (execAdjTicksExpiry s); unfold execAdjTicksExpiry; exact onSys_requeue _ s q
  | timeStep => show execTimeStep _ _ { s with pending := q } = requeue q (execTimeStep _ _ s); unfold execTimeStep; exact onWrite_requeue _ _ _ _ s q
  | triggerConfigWrite => show execTriggerConfigWrite _ _ _ _ { s with pending := q } = requeue q (execTriggerConfigWrite _ _ _ _ s); unfold execTriggerConfigWrite; exact onWrite_requeue _ _ _ _ s q
  | triggerArm => show execTriggerArm _ _ _ { s with pending := q } = requeue q (execTriggerArm _ _ _ s); unfold execTriggerArm; exact onWrite_requeue _ _ _ _ s q
  | pulse => show execPulse _ _ { s with pending := q } = requeue q (execPulse _ _ s); unfold execPulse; exact onWrite_requeue _ _ _ _ s q
  | cancel => show execCancel _ _ { s with pending := q } = requeue q (execCancel _ _ s); unfold execCancel; exact onWrite_requeue _ _ _ _ s q
  | captureEvent => show execCaptureEvent _ _ { s with pending := q } = requeue q (execCaptureEvent _ _ s); unfold execCaptureEvent; exact onSys_requeue _ s q
  | capturePop => show execCapturePop _ _ _ { s with pending := q } = requeue q (execCapturePop _ _ _ s); unfold execCapturePop; exact onWrite_requeue _ _ _ _ s q
  | captureConfigWrite => show execCaptureConfigWrite _ _ _ _ { s with pending := q } = requeue q (execCaptureConfigWrite _ _ _ _ s); unfold execCaptureConfigWrite; exact onWrite_requeue _ _ _ _ s q
  | delayReqSend => show execDelayReqSend _ { s with pending := q } = requeue q (execDelayReqSend _ s); unfold execDelayReqSend; exact onSys_requeue _ s q
  | delayRspTimeout => show execDelayRspTimeout _ { s with pending := q } = requeue q (execDelayRspTimeout _ s); unfold execDelayRspTimeout; exact onSys_requeue _ s q
  | syncSend => show execSyncSend { s with pending := q } = requeue q (execSyncSend s); unfold execSyncSend; exact onSys_requeue _ s q
  | dramRequest => show execDramRequest _ _ _ _ _ { s with pending := q } = requeue q (execDramRequest _ _ _ _ _ s); unfold execDramRequest; exact onSys_requeue _ s q
  | dramIssue => show execDramIssue _ _ { s with pending := q } = requeue q (execDramIssue _ _ s); unfold execDramIssue; exact onSys_requeue _ s q
  | dramReadData => show execDramReadData _ _ { s with pending := q } = requeue q (execDramReadData _ _ s); unfold execDramReadData; exact onSys_requeue _ s q
  | dramAlert => show execDramAlert _ _ { s with pending := q } = requeue q (execDramAlert _ _ s); unfold execDramAlert; exact onSys_requeue _ s q
  | refreshInterval => show execRefreshInterval { s with pending := q } = requeue q (execRefreshInterval s); unfold execRefreshInterval; exact onSys_requeue _ s q
  | mr4Poll => show execMr4Poll _ { s with pending := q } = requeue q (execMr4Poll _ s); unfold execMr4Poll; exact onSys_requeue _ s q
  | oscRun => show execOscRun _ { s with pending := q } = requeue q (execOscRun _ s); unfold execOscRun; exact onSys_requeue _ s q
  | unfreeze => show execUnfreeze _ { s with pending := q } = requeue q (execUnfreeze _ s); unfold execUnfreeze; exact onWrite_requeue _ _ _ _ s q
  | debugRead => show execDebugRead _ _ { s with pending := q } = requeue q (execDebugRead _ _ s); unfold execDebugRead; exact onWrite_requeue _ _ _ _ s q
  | pprSoft => show execPprSoft _ { s with pending := q } = requeue q (execPprSoft _ s); unfold execPprSoft; exact onWrite_requeue _ _ _ _ s q
  | pprHard => show execPprHard _ { s with pending := q } = requeue q (execPprHard _ s); unfold execPprHard; exact onWrite_requeue _ _ _ _ s q
  | pprComplete => show execPprComplete _ _ { s with pending := q } = requeue q (execPprComplete _ _ s); unfold execPprComplete; exact onSys_requeue _ s q
  | trainBegin => show execTrainBegin _ { s with pending := q } = requeue q (execTrainBegin _ s); unfold execTrainBegin; exact onWrite_requeue _ _ _ _ s q
  | trainEnd => show execTrainEnd _ _ _ { s with pending := q } = requeue q (execTrainEnd _ _ _ s); unfold execTrainEnd; exact onWrite_requeue _ _ _ _ s q
  | trainAbort => show execTrainAbort _ { s with pending := q } = requeue q (execTrainAbort _ s); unfold execTrainAbort; exact onWrite_requeue _ _ _ _ s q
  | mrw => show execMrw _ { s with pending := q } = requeue q (execMrw _ s); unfold execMrw; exact onWrite_requeue _ _ _ _ s q
  | mrr => show execMrr _ _ { s with pending := q } = requeue q (execMrr _ _ s); unfold execMrr; exact onWrite_requeue _ _ _ _ s q
  | mpc => show execMpc _ { s with pending := q } = requeue q (execMpc _ s); unfold execMpc; exact onWrite_requeue _ _ _ _ s q
  | mrwLane => show execMrwLane _ { s with pending := q } = requeue q (execMrwLane _ s); unfold execMrwLane; exact onWrite_requeue _ _ _ _ s q
  | patWrite => show execPatWrite _ { s with pending := q } = requeue q (execPatWrite _ s); unfold execPatWrite; exact onWrite_requeue _ _ _ _ s q
  | patCompare => show execPatCompare _ { s with pending := q } = requeue q (execPatCompare _ s); unfold execPatCompare; exact onWrite_requeue _ _ _ _ s q
  | sample => show execSample _ { s with pending := q } = requeue q (execSample _ s); unfold execSample; exact onWrite_requeue _ _ _ _ s q
  | patComplete => show execPatComplete _ _ { s with pending := q } = requeue q (execPatComplete _ _ s); unfold execPatComplete; exact onSys_requeue _ s q
  | dmaArm => show execDmaArm _ _ _ { s with pending := q } = requeue q (execDmaArm _ _ _ s); unfold execDmaArm; exact onWrite_requeue _ _ _ _ s q
  | handOver => show execHandOver _ { s with pending := q } = requeue q (execHandOver _ s); unfold execHandOver; exact onSys_requeue _ s q
  | shadowTake => show execShadowTake _ { s with pending := q } = requeue q (execShadowTake _ s); unfold execShadowTake; exact onSys_requeue _ s q
  | descriptorFetch => show execDescriptorFetch _ _ { s with pending := q } = requeue q (execDescriptorFetch _ _ s); unfold execDescriptorFetch; exact onSys_requeue _ s q
  | dmaStop => show execDmaStop _ _ { s with pending := q } = requeue q (execDmaStop _ _ s); unfold execDmaStop; exact onWrite_requeue _ _ _ _ s q
  | dmaStart => show execDmaStart _ _ { s with pending := q } = requeue q (execDmaStart _ _ s); unfold execDmaStart; exact onWrite_requeue _ _ _ _ s q
  | dmaClear => show execDmaClear _ _ { s with pending := q } = requeue q (execDmaClear _ _ s); unfold execDmaClear; exact onWrite_requeue _ _ _ _ s q
  | dmaEnableWrite => show execDmaEnableWrite _ _ _ { s with pending := q } = requeue q (execDmaEnableWrite _ _ _ s); unfold execDmaEnableWrite; exact onWrite_requeue _ _ _ _ s q
  | dmaBurst => show execDmaBurst _ { s with pending := q } = requeue q (execDmaBurst _ s); unfold execDmaBurst; exact onOd_requeue _ s q
  | transferComplete => show execTransferComplete _ { s with pending := q } = requeue q (execTransferComplete _ s); unfold execTransferComplete; exact onSys_requeue _ s q
  | cqTailWrite => show execCqTailWrite _ _ _ { s with pending := q } = requeue q (execCqTailWrite _ _ _ s); unfold execCqTailWrite; exact onWrite_requeue _ _ _ _ s q
  | lateErrorResponse => show execLateErrorResponse _ _ { s with pending := q } = requeue q (execLateErrorResponse _ _ s); unfold execLateErrorResponse; exact onSys_requeue _ s q
  | apRunWrite => show execApRunWrite _ _ _ { s with pending := q } = requeue q (execApRunWrite _ _ _ s); unfold execApRunWrite; exact onSys_requeue _ s q
  | fabricAccess => show execFabricAccess _ _ _ _ _ _ _ _ { s with pending := q } = requeue q (execFabricAccess _ _ _ _ _ _ _ _ s); unfold execFabricAccess; exact onOd_requeue _ s q
  | remotePmpWrite => show execRemotePmpWrite _ _ _ _ _ { s with pending := q } = requeue q (execRemotePmpWrite _ _ _ _ _ s); unfold execRemotePmpWrite; exact onSys_requeue _ s q
  | cboClean => show execCboClean _ _ { s with pending := q } = requeue q (execCboClean _ _ s); unfold execCboClean; exact onOd_requeue _ s q
  | cboFlush => show execCboFlush _ _ { s with pending := q } = requeue q (execCboFlush _ _ s); unfold execCboFlush; exact onOd_requeue _ s q
  | cboInval => show execCboInval _ _ _ { s with pending := q } = requeue q (execCboInval _ _ _ s); unfold execCboInval; exact onOd_requeue _ s q
  | fenceWO => show execFenceWO _ { s with pending := q } = requeue q (execFenceWO _ s); unfold execFenceWO; exact onOd_requeue _ s q
  | fenceIR => show execFenceIR _ { s with pending := q } = requeue q (execFenceIR _ s); unfold execFenceIR; exact onOd_requeue _ s q
  | fenceI => show execFenceI _ { s with pending := q } = requeue q (execFenceI _ s); unfold execFenceI; exact onOd_requeue _ s q
  | wfi => show execWfi { s with pending := q } = requeue q (execWfi s); unfold execWfi; exact onSys_requeue _ s q
  | checkA => show execCheckA _ { s with pending := q } = requeue q (execCheckA _ s); unfold execCheckA; exact onWrite_requeue _ _ _ _ s q
  | checkB => show execCheckB _ { s with pending := q } = requeue q (execCheckB _ s); unfold execCheckB; exact onWrite_requeue _ _ _ _ s q
  | imageCheckComplete => show execImageCheckComplete { s with pending := q } = requeue q (execImageCheckComplete s); unfold execImageCheckComplete; exact onSys_requeue _ s q
  | invalidateA => show execInvalidateA _ { s with pending := q } = requeue q (execInvalidateA _ s); unfold execInvalidateA; exact onWrite_requeue _ _ _ _ s q
  | invalidateB => show execInvalidateB _ { s with pending := q } = requeue q (execInvalidateB _ s); unfold execInvalidateB; exact onWrite_requeue _ _ _ _ s q
  | confirm => show execConfirm _ { s with pending := q } = requeue q (execConfirm _ s); unfold execConfirm; exact onWrite_requeue _ _ _ _ s q
  | trialTimeout => show execTrialTimeout { s with pending := q } = requeue q (execTrialTimeout s); unfold execTrialTimeout; exact onSys_requeue _ s q
  | mramWrite => show execMramWrite _ { s with pending := q } = requeue q (execMramWrite _ s); unfold execMramWrite; exact onWrite_requeue _ _ _ _ s q
  | mramCompare => show execMramCompare _ { s with pending := q } = requeue q (execMramCompare _ s); unfold execMramCompare; exact onWrite_requeue _ _ _ _ s q
  | mramZero => show execMramZero _ { s with pending := q } = requeue q (execMramZero _ s); unfold execMramZero; exact onWrite_requeue _ _ _ _ s q
  | mramCommandComplete => show execMramCommandComplete _ { s with pending := q } = requeue q (execMramCommandComplete _ s); unfold execMramCommandComplete; exact onSys_requeue _ s q
  | otpRead => show execOtpRead _ { s with pending := q } = requeue q (execOtpRead _ s); unfold execOtpRead; exact onWrite_requeue _ _ _ _ s q
  | otpProgram => show execOtpProgram _ _ { s with pending := q } = requeue q (execOtpProgram _ _ s); unfold execOtpProgram; exact onWrite_requeue _ _ _ _ s q
  | debugModuleAccess => show execDebugModuleAccess _ _ _ { s with pending := q } = requeue q (execDebugModuleAccess _ _ _ s); unfold execDebugModuleAccess; exact onSys_requeue _ s q
  | nap => show execNap _ { s with pending := q } = requeue q (execNap _ s); unfold execNap; exact onWrite_requeue _ _ _ _ s q
  | napEntryTimeout => show execNapEntryTimeout { s with pending := q } = requeue q (execNapEntryTimeout s); unfold execNapEntryTimeout; exact onSys_requeue _ s q
  | hold => show execHold _ { s with pending := q } = requeue q (execHold _ s); unfold execHold; exact onWrite_requeue _ _ _ _ s q
  | holdEntry => show execHoldEntry { s with pending := q } = requeue q (execHoldEntry s); unfold execHoldEntry; exact onSys_requeue _ s q
  | wakeEvent => show execWakeEvent _ _ { s with pending := q } = requeue q (execWakeEvent _ _ s); unfold execWakeEvent; exact onUnit_requeue _ s q
  | wakeTimer => show execWakeTimer { s with pending := q } = requeue q (execWakeTimer s); unfold execWakeTimer; exact onUnit_requeue _ s q
  | domainEnableWrite => show execDomainEnableWrite _ _ { s with pending := q } = requeue q (execDomainEnableWrite _ _ s); unfold execDomainEnableWrite; exact onOd_requeue _ s q
  | domainPowered => show execDomainPowered _ { s with pending := q } = requeue q (execDomainPowered _ s); unfold execDomainPowered; exact onOd_requeue _ s q
  | domainIdle => show execDomainIdle _ { s with pending := q } = requeue q (execDomainIdle _ s); unfold execDomainIdle; exact onSys_requeue _ s q
  | padRelease => show execPadRelease _ _ { s with pending := q } = requeue q (execPadRelease _ _ s); unfold execPadRelease; exact onWrite_requeue _ _ _ _ s q
  | pllEnableWrite => show execPllEnableWrite _ _ { s with pending := q } = requeue q (execPllEnableWrite _ _ s); unfold execPllEnableWrite; exact onWrite_requeue _ _ _ _ s q
  | pllLock => show execPllLock _ { s with pending := q } = requeue q (execPllLock _ s); unfold execPllLock; exact onOd_requeue _ s q
  | clockSourceWrite => show execClockSourceWrite _ _ { s with pending := q } = requeue q (execClockSourceWrite _ _ s); unfold execClockSourceWrite; exact onOd_requeue _ s q
  | faultOccurrence => show execFaultOccurrence _ _ _ _ { s with pending := q } = requeue q (execFaultOccurrence _ _ _ _ s); unfold execFaultOccurrence; exact onSys_requeue _ s q
  | reportMergeExpiry => show execReportMergeExpiry _ { s with pending := q } = requeue q (execReportMergeExpiry _ s); unfold execReportMergeExpiry; exact onSys_requeue _ s q
  | faultLogPop => show execFaultLogPop _ _ { s with pending := q } = requeue q (execFaultLogPop _ _ s); unfold execFaultLogPop; exact onWrite_requeue _ _ _ _ s q
  | errCaptureRead => show execErrCaptureRead _ _ { s with pending := q } = requeue q (execErrCaptureRead _ _ s); unfold execErrCaptureRead; exact onOd_requeue _ s q
  | emissionPin => show execEmissionPin _ _ _ { s with pending := q } = requeue q (execEmissionPin _ _ _ s); unfold execEmissionPin; exact onSys_requeue _ s q
  | dieTemp => show execDieTemp _ { s with pending := q } = requeue q (execDieTemp _ s); unfold execDieTemp; exact onSys_requeue _ s q
  | samplerTick => show execSamplerTick _ { s with pending := q } = requeue q (execSamplerTick _ s); unfold execSamplerTick; exact onSys_requeue _ s q
  | workAreaWrite => show execWorkAreaWrite _ _ { s with pending := q } = requeue q (execWorkAreaWrite _ _ s); unfold execWorkAreaWrite; exact onSys_requeue _ s q
  | closeNow => show execCloseNow _ { s with pending := q } = requeue q (execCloseNow _ s); unfold execCloseNow; exact onWrite_requeue _ _ _ _ s q
  | clearCirculating => show execClearCirculating _ { s with pending := q } = requeue q (execClearCirculating _ s); unfold execClearCirculating; exact onWrite_requeue _ _ _ _ s q
  | samplerClearComplete => show execSamplerClearComplete { s with pending := q } = requeue q (execSamplerClearComplete s); unfold execSamplerClearComplete; exact onSys_requeue _ s q
  | samplerSelect => show execSamplerSelect _ _ _ { s with pending := q } = requeue q (execSamplerSelect _ _ _ s); unfold execSamplerSelect; exact onWrite_requeue _ _ _ _ s q
  | plicClaim => show execPlicClaim _ { s with pending := q } = requeue q (execPlicClaim _ s); unfold execPlicClaim; exact onSys_requeue _ s q
  | plicComplete => show execPlicComplete _ _ { s with pending := q } = requeue q (execPlicComplete _ _ s); unfold execPlicComplete; exact onSys_requeue _ s q
  | vbusReturn => show execVbusReturn _ _ { s with pending := q } = requeue q (execVbusReturn _ _ s); unfold execVbusReturn; exact onSys_requeue _ s q
  | dieTempClear => show execDieTempClear _ { s with pending := q } = requeue q (execDieTempClear _ s); unfold execDieTempClear; exact onSys_requeue _ s q
  | checkerLock => show execCheckerLock _ { s with pending := q } = requeue q (execCheckerLock _ s); unfold execCheckerLock; exact onSys_requeue _ s q
  | checkerLockLoss => show execCheckerLockLoss _ _ { s with pending := q } = requeue q (execCheckerLockLoss _ _ s); unfold execCheckerLockLoss; exact onSys_requeue _ s q
  | skewCalibration => show execSkewCalibration _ { s with pending := q } = requeue q (execSkewCalibration _ s); unfold execSkewCalibration; exact onSys_requeue _ s q
  | ulps => show execUlps _ _ { s with pending := q } = requeue q (execUlps _ _ s); unfold execUlps; exact onSys_requeue _ s q
  | linkHeartbeatSend => show execLinkHeartbeatSend _ { s with pending := q } = requeue q (execLinkHeartbeatSend _ s); unfold execLinkHeartbeatSend; exact onSys_requeue _ s q
  | malformedLinkFrame => show execMalformedLinkFrame _ _ { s with pending := q } = requeue q (execMalformedLinkFrame _ _ s); unfold execMalformedLinkFrame; exact onSys_requeue _ s q
  | tckEdge => show execTckEdge _ _ _ _ _ { s with pending := q } = requeue q (execTckEdge _ _ _ _ _ s); unfold execTckEdge; exact onUnit_requeue _ s q

end Sys2Proof.Machine
end

