-- ==== Sys2Proof/Laws/Receive.lean ====
section
/-! SUPPORT. Receive: what becomes of a chain frame that no case of R80 discards. -/

namespace Sys2Proof.Machine

open Sys2Proof

namespace Sys

theorem taken_address (s : Sys) (p : Nat) (f : Frame) (hp : p < 2) : (s.taken p f).address = s.address := by
  show ((s.inc64 (Key.Port.FRAMES_RX p)).rd Key.Chain.CHAIN_ADDRESS) = s.rd Key.Chain.CHAIN_ADDRESS
  rw [rd_inc64, if_neg]
  rcases (by omega : p = 0 ∨ p = 1) with rfl | rfl <;> decide

/-- A whole frame for this unit or for all is processed and passed on (R69, R70). -/
theorem receive_intact (s : Sys) (p : Nat) (f : Frame) (proc : Sys → Nat → Frame → Sys) (hp : p < 2) (h : s.intact p f = true)
    (hd : (s.forMe f || decide (f.dest = 0xFF)) = true) :
    s.receive p f proc = s.processed p f (fun u => proc u p f) := by
  unfold intact at h
  simp only [Bool.and_eq_true, Bool.not_eq_true', decide_eq_true_eq, decide_eq_false_iff_not, Bool.and_eq_false_iff] at h
  obtain ⟨⟨⟨⟨⟨⟨⟨⟨⟨⟨⟨⟨h1, h2⟩, h3⟩, h4⟩, h5⟩, h6⟩, h7⟩, h8⟩, h9⟩, h10⟩, h11⟩, h12⟩, h13⟩ := h
  have ha := taken_address s p f hp
  have ha' : (s.inc64 (Key.Port.FRAMES_RX p)).address = s.address := ha
  have hm : (s.taken p f).forMe f = s.forMe f := by simp only [forMe, ha]
  have hm' : (decide (f.dest = (s.inc64 (Key.Port.FRAMES_RX p)).address) && decide ((s.inc64 (Key.Port.FRAMES_RX p)).address ≠ 0)) = s.forMe f := by
    rw [ha']; rfl
  have h5' : ¬ fullCells.get f.cls < ((s.inc64 (Key.Port.FRAMES_RX p)).port p).held.get f.cls + ((s.inc64 (Key.Port.FRAMES_RX p)).port p).freed.get f.cls +
      cellsOf f.len := by
    have : (s.inc64 (Key.Port.FRAMES_RX p)).port p = s.port p := rfl
    rw [this]; omega
  have h13' : ¬ (classOf f.typ = none ∨ (f.src ≠ 0xFE ∧ hostOnly f = true)) := by
    rintro (h | h)
    · exact h12 h
    · rcases h13 with hc | hc
      · exact hc h.1
      · simp [hc] at h
  have hd' : ((decide (f.dest = s.address) && decide ¬s.address = 0) || decide (f.dest = 0xFF)) = true := hd
  have ho : (decide (f.src = s.address) && decide ¬s.address = 0) = false := by
    rw [Bool.and_eq_false_iff, decide_eq_false_iff_not, decide_eq_false_iff_not]
    by_cases e : f.src = s.address
    · exact Or.inr (fun z => h6 ⟨e, z⟩)
    · exact Or.inl e
  unfold receive processed passed fromHost
  simp only [ho, Bool.false_or, h1, h2, h3, h4, h5', h7, h8, h9, h10, h11, h13', ha', hd', Bool.not_true, Bool.false_eq_true, if_false, ne_eq, not_true_eq_false,
    or_false, and_false, if_true, Nat.lt_irrefl, Bool.not_false]
  rfl

end Sys

end Sys2Proof.Machine
end

