-- ==== Sys2Proof/Laws/Rows.lean ====
section
/-! SUPPORT. Rows: what an accepted write leaves, by the kind of its entry: write-only, read and write, or kept in the store. -/

namespace Sys2Proof.Machine

open Sys2Proof

namespace Sys

/-- An entry has this access, is kept or not, and holds an unsigned number of `n` bytes that is no DOMAIN; its bits are those of `m`, all
of them where that is 0. -/
def rowIs (k : Nat) (a : Dict.Acc) (kept : Bool) (n m : Nat) : Bool :=
  (entryRow (keyIdx k) (keySub k)).any (fun r =>
    decide (r.acc = a) && decide (r.kept = kept) && decide (r.mask = m) && r.dom.isNone && !tySigned r.ty && decide (tySize r.ty = n))

theorem rowIs_row {k : Nat} {a : Dict.Acc} {kept : Bool} {n m : Nat} (h : rowIs k a kept n m = true) :
    ∃ r, entryRow (keyIdx k) (keySub k) = some r ∧ r.acc = a ∧ r.kept = kept ∧ r.mask = m ∧ r.dom.isSome = false ∧ tySigned r.ty = false ∧ tySize r.ty = n := by
  unfold rowIs at h
  cases hr : entryRow (keyIdx k) (keySub k) with
  | none => simp [hr] at h
  | some r =>
    simp only [hr, Option.any_some, Bool.and_eq_true, decide_eq_true_eq, Bool.not_eq_true', Option.isNone_iff_eq_none] at h
    obtain ⟨⟨⟨⟨⟨h1, h2⟩, h3⟩, h4⟩, h5⟩, h6⟩ := h
    exact ⟨r, rfl, h1, h2, h3, by rw [h4]; rfl, h5, h6⟩

/-- A write of an unsigned value that fits its entry brings it as it is (R37). -/
theorem formOf_unsigned (t : Sys) (acc : Access) (k v : Nat) (r : Dict.Row) (hr : entryRow (keyIdx k) (keySub k) = some r)
    (hs : tySigned r.ty = false) (hv : v < 2 ^ (8 * tySize r.ty)) : t.formOf (writeReq acc k v) r.ty = .word (BitVec.ofNat 64 v) := by
  unfold formOf
  cases hw : acc.who with
  | chain tag =>
    have : (writeReq acc k v).acc.who = .chain tag := hw
    rw [this]
    simp only [writeReq, hr, Option.elim, hw, isChain, if_true]
    unfold chainForm slotWord wordRule formWord
    revert hv hs; cases r.ty <;> simp [tySize, tySigned] <;> intro h <;> (first | omega | (congr 1 ; omega))
  | window m mach =>
    have : (writeReq acc k v).acc.who = .window m mach := hw
    rw [this]
    simp only [writeReq, hr, Option.elim, hw, isChain]
    unfold windowForm slotWord wordRule formWord
    revert hv hs; cases r.ty <;> simp [tySize, tySigned] <;> intro h <;> rw [Nat.mod_eq_of_lt (by omega)] <;> rw [if_pos h]

theorem size_le (ty : Dict.Ty) : 2 ^ (8 * tySize ty) ≤ 2 ^ 64 := by cases ty <;> simp [tySize]

/-- The block after an accepted write, for a word that the entry holds. -/
theorem written_word (s : Sys) (otp : Nat → Nat) (acc : Access) (k v : Nat) (ext : Ext) (r : Dict.Row)
    (hr : entryRow (keyIdx k) (keySub k) = some r) (hs : tySigned r.ty = false) (hv : v < 2 ^ (8 * tySize r.ty)) :
    s.written otp acc k v ext =
      (let w := maskWord r (BitVec.ofNat 64 v)
       let u := (s.needed acc k r w ext).1
       let cls := (s.clocked k).clsOf acc.who
       ((u.act (u.storeValue cls k r w) otp cls k w.toNat w.toNat ext).powerResult k w.toNat 0).when r.kept
         (fun x => x.counted acc ((s.clocked k).storePair k) (u.storeCells cls k r w))) := by
  have hf := (s.clocked k).formOf_unsigned acc k v r hr hs hv
  have h1 : (writeReq acc k v).idx = keyIdx k := rfl
  have h2 : (writeReq acc k v).sub = keySub k := rfl
  have hi (w : Word) : intOf r w = (w.toNat : Int) := by simp [intOf, hs]
  unfold written wordOf
  simp only [h1, h2, hr, hf, hi]

/-- Whatever the entry requires holds of a write that is accepted. -/
theorem needed_accepted (s : Sys) (acc : Access) (k v : Nat) (ext : Ext) (h : s.accepts acc k v ext = true) (r : Dict.Row)
    (hr : entryRow (keyIdx k) (keySub k) = some r) (hs : tySigned r.ty = false) (hv : v < 2 ^ (8 * tySize r.ty)) :
    (s.needed acc k r (maskWord r (BitVec.ofNat 64 v)) ext).2 = 0 := by
  have hf := (s.clocked k).formOf_unsigned acc k v r hr hs hv
  have h1 : (writeReq acc k v).idx = keyIdx k := rfl
  have h2 : (writeReq acc k v).sub = keySub k := rfl
  unfold accepts wordOf at h
  simp only [h1, h2, hr, hf, Bool.and_eq_true, decide_eq_true_eq] at h
  exact h.2.1.1.1.1.1.2

/-- The cells of the store that a write of a number to an entry that is no DOMAIN sets: the eight bytes of FWS_DATA, else the entry (R61). -/
def wordCells (u : Sys) (k v : Nat) : List (Nat × Word) :=
  if k = Key.FwStore.FWS_DATA then (List.range 8).map (fun j => (u.fwsAt + j, BitVec.ofNat 64 ((BitVec.ofNat 64 v).toNat / 256 ^ j % 256)))
  else [(k, BitVec.ofNat 64 v)]

theorem storeCells_word (u : Sys) (cls : Cls) (k v : Nat) (r : Dict.Row) (hd : r.dom.isSome = false) :
    u.storeCells cls k r (BitVec.ofNat 64 v) = u.wordCells k v := by
  unfold storeCells wordCells
  rw [hd]; simp only [Bool.false_eq_true, if_false]

/-- Every entry but FWS_DATA sets its own cell. -/
theorem wordCells_other (u : Sys) {k : Nat} (v : Nat) (h : k ≠ Key.FwStore.FWS_DATA) : u.wordCells k v = [(k, BitVec.ofNat 64 v)] := by
  unfold wordCells
  rw [if_neg h]

/-- What the block requires of a write and what it does beside storing a value. -/
def need0 (s : Sys) (acc : Access) (k v : Nat) (ext : Ext) : Sys × Nat :=
  (s.clocked k).need ((s.clocked k).clsOf acc.who) k v v ext

theorem needed_unsigned (s : Sys) (acc : Access) (k : Nat) (w : Word) (ext : Ext) (r : Dict.Row) (hs : tySigned r.ty = false) :
    s.needed acc k r w ext = s.need0 acc k w.toNat ext := by
  simp only [needed, need0, intOf, hs, Bool.false_eq_true, if_false]

/-- The bits of a value that an entry with the bits of `m` takes. -/
def masked (m v : Nat) : Nat := if m = 0 then v else v &&& m

theorem maskWord_toNat (r : Dict.Row) (v : Nat) (hv : v < 2 ^ 64) (hm : r.mask < 2 ^ 64) : (maskWord r (BitVec.ofNat 64 v)).toNat = masked r.mask v := by
  unfold maskWord masked
  split
  · rw [BitVec.toNat_ofNat]; omega
  · rw [BitVec.toNat_and, BitVec.toNat_ofNat, BitVec.toNat_ofNat, Nat.mod_eq_of_lt hv, Nat.mod_eq_of_lt hm]

end Sys

open Sys

/-- A command that is an accepted write answers with its effect on the block: `hf` names it. -/
theorem onWrite_row (s : State) (acc : Access) (k v : Nat) (ext : Ext) (a : Dict.Acc) (kept : Bool) (n m : Nat) (f : Sys → Sys)
    (h : s.accepts acc k v ext = true) (hrow : rowIs k a kept n m = true) (hv : v < 2 ^ (8 * n)) (hm : m < 2 ^ 64)
    (hf : (s.toSys.need0 acc k (masked m v) ext).2 = 0 →
      f (s.toSys.clocked k) =
        (let u := (s.toSys.need0 acc k (masked m v) ext).1
         let cls := (s.toSys.clocked k).clsOf acc.who
         ((u.act (if a = .wo then u else u.wr k (masked m v)) s.otpWord cls k (masked m v) (masked m v) ext).powerResult k (masked m v) 0).when kept
           (fun x => x.counted acc ((s.toSys.clocked k).storePair k) (u.wordCells k (masked m v))))) :
    onWrite acc k v ext s = .next (s.answers acc k v f) := by
  obtain ⟨r, hr, ha, hk, hmr, hd, hs, hn⟩ := rowIs_row hrow
  have hv' : v < 2 ^ (8 * tySize r.ty) := by rw [hn]; exact hv
  have h64 : v < 2 ^ 64 := Nat.lt_of_lt_of_le hv' (size_le r.ty)
  have hw := maskWord_toNat r v h64 (by rw [hmr]; exact hm)
  rw [hmr] at hw
  have hc := needed_accepted s.toSys acc k v ext h r hr hs hv'
  have hN := needed_unsigned s.toSys acc k (maskWord r (BitVec.ofNat 64 v)) ext r hs
  rw [hw] at hN
  rw [hN] at hc
  rw [onWrite_accepted s acc k v ext h]
  unfold State.afterWrite State.answers Sys.afterWrite
  rw [written_word s.toSys s.otpWord acc k v ext r hr hs hv', hf hc]
  have hww : maskWord r (BitVec.ofNat 64 v) = BitVec.ofNat 64 (masked m v) := by rw [← hw]; simp
  simp only [hN, hw, hk, storeValue, ha, hd, Bool.false_eq_true, if_false]
  rw [hww]
  simp only [storeCells_word _ _ _ _ r hd]
  rfl

namespace Sys

theorem idx_of {k : Nat} (i sub : Nat) (h : sub < 256) (hk : k = i * 256 + sub) : keyIdx k = i := by subst hk; unfold keyIdx; omega
theorem sub_of {k : Nat} (i sub : Nat) (h : sub < 256) (hk : k = i * 256 + sub) : keySub k = sub := by subst hk; unfold keySub; omega

theorem rd_clocked (s : Sys) (k j : Nat) (h : j ≠ Key.Dom.CLOCKED) : (s.clocked k).rd j = s.rd j := by
  unfold clocked ungate
  split
  · rfl
  · rw [rd_wrBit, if_neg h]

@[simp] theorem clocked_dev (s : Sys) (k : Nat) : (s.clocked k).dev = s.dev := by unfold clocked ungate; split <;> rfl

/-! ### Where the requirements and the effects of an entry stand (R11)

A key is `i * 256 + sub`; each region of indexes has its own requirements and effects. -/

theorem need_system (t : Sys) (cls : Cls) {k : Nat} (i sub v : Nat) (x : Int) (ext : Ext) (hk : k = i * 256 + sub) (hs : sub < 256) (hi : i < 0x800)
    (h1 : k ≠ Key.DevCmd.DEVICE_COMMAND) (h2 : k ≠ Key.Pwr.COMMAND) (h3 : k ≠ Key.Dom.ENABLE) :
    t.need cls k v x ext = (t, t.needSystem cls k v) := by
  unfold need
  simp only [idx_of i sub hs hk]
  rw [if_neg h1, if_neg h2, if_neg h3, if_neg (by simp only [Key.Train.TRAIN_COMMAND]; omega), if_pos hi]

theorem need_fabric (t : Sys) (cls : Cls) {k : Nat} (i sub v : Nat) (x : Int) (ext : Ext) (hk : k = i * 256 + sub) (hs : sub < 256) (hi : 0x800 ≤ i) (hj : i < 0x1000)
    (h1 : k ≠ Key.Train.TRAIN_COMMAND) : t.need cls k v x ext = (t, t.needFabric cls k v x) := by
  unfold need
  simp only [idx_of i sub hs hk]
  rw [if_neg (by simp only [Key.DevCmd.DEVICE_COMMAND]; omega), if_neg (by simp only [Key.Pwr.COMMAND]; omega), if_neg (by simp only [Key.Dom.ENABLE]; omega),
    if_neg (by simp only [h1, false_and, not_false_eq_true]), if_neg (by omega), if_pos hj]

theorem need_channel (t : Sys) (cls : Cls) {k : Nat} (c b sub v : Nat) (x : Int) (ext : Ext) (hk : k = (0x1000 + 256 * c + b) * 256 + sub) (hc : c < 16) (hb : b < 256)
    (hs : sub < 256) (hx : b < 0xF0) : t.need cls k v x ext = t.needChannel c b sub v x ext := by
  unfold need
  simp only [idx_of _ _ hs hk, sub_of _ _ hs hk]
  have e1 : (0x1000 + 256 * c + b) / 256 - 16 = c := by omega
  have e2 : (0x1000 + 256 * c + b) % 256 = b := by omega
  rw [if_neg (by simp only [Key.DevCmd.DEVICE_COMMAND]; omega), if_neg (by simp only [Key.Pwr.COMMAND]; omega), if_neg (by simp only [Key.Dom.ENABLE]; omega),
    if_neg (by simp only [Key.Train.TRAIN_COMMAND]; omega), if_neg (by omega), if_neg (by omega), if_neg (by omega), if_pos (by omega), e1, e2]

theorem need_slot (t : Sys) (cls : Cls) {k : Nat} (n b sub v : Nat) (x : Int) (ext : Ext) (hk : k = (0x2400 + 16 * n + b) * 256 + sub) (hc : n < 64) (hb : b < 16)
    (hs : sub < 256) : t.need cls k v x ext = (t, t.needSlot n b sub v x) := by
  unfold need
  simp only [idx_of _ _ hs hk, sub_of _ _ hs hk]
  have e1 : (0x2400 + 16 * n + b - 0x2400) / 16 = n := by omega
  have e2 : (0x2400 + 16 * n + b) % 16 = b := by omega
  rw [if_neg (by simp only [Key.DevCmd.DEVICE_COMMAND]; omega), if_neg (by simp only [Key.Pwr.COMMAND]; omega), if_neg (by simp only [Key.Dom.ENABLE]; omega),
    if_neg (by simp only [Key.Train.TRAIN_COMMAND]; omega), if_neg (by omega), if_neg (by omega), if_neg (by omega), if_neg (by omega), if_pos (by omega), e1, e2]

theorem need_print (t : Sys) (cls : Cls) {k : Nat} (i sub v : Nat) (x : Int) (ext : Ext) (hk : k = i * 256 + sub) (hs : sub < 256) (hi : 0x3000 ≤ i) (hj : i < 0x4000) :
    t.need cls k v x ext = (t, t.needPrint k v x) := by
  unfold need
  simp only [idx_of i sub hs hk]
  rw [if_neg (by simp only [Key.DevCmd.DEVICE_COMMAND]; omega), if_neg (by simp only [Key.Pwr.COMMAND]; omega), if_neg (by simp only [Key.Dom.ENABLE]; omega),
    if_neg (by simp only [Key.Train.TRAIN_COMMAND]; omega), if_neg (by omega), if_neg (by omega), if_neg (by omega), if_neg (by omega), if_neg (by omega), if_pos (by omega)]

theorem need_rest (t : Sys) (cls : Cls) {k : Nat} (i sub v : Nat) (x : Int) (ext : Ext) (hk : k = i * 256 + sub) (hs : sub < 256) (hi : 0x4000 ≤ i)
    (hu : ¬(0x4860 ≤ i ∧ i < 0x4880 ∧ sub = 9)) (ha : ¬(0x4000 ≤ i ∧ i < 0x4800 ∧ i % 256 = 0 ∧ sub = 1)) : t.need cls k v x ext = (t, t.needRest k v) := by
  unfold need
  simp only [idx_of i sub hs hk, sub_of i sub hs hk]
  rw [if_neg (by simp only [Key.DevCmd.DEVICE_COMMAND]; omega), if_neg (by simp only [Key.Pwr.COMMAND]; omega), if_neg (by simp only [Key.Dom.ENABLE]; omega),
    if_neg (by simp only [Key.Train.TRAIN_COMMAND]; omega), if_neg (by omega), if_neg (by omega), if_neg (by omega), if_neg (by omega), if_neg (by omega), if_neg (by omega), if_neg hu, if_neg ha]

/-- COMMAND of an axis is judged with what the judging leaves behind (R308, R311). -/
theorem need_axisCommand (t : Sys) (cls : Cls) {k : Nat} (a v : Nat) (x : Int) (ext : Ext) (hk : k = (0x4000 + 256 * a) * 256 + 1) (ha : a < 8) :
    t.need cls k v x ext = t.axCmdCheck a v ext.ok := by
  unfold need
  simp only [idx_of _ 1 (by omega) hk, sub_of _ 1 (by omega) hk]
  have e : (0x4000 + 256 * a - 0x4000) / 256 = a := by omega
  rw [if_neg (by simp only [Key.DevCmd.DEVICE_COMMAND]; omega), if_neg (by simp only [Key.Pwr.COMMAND]; omega), if_neg (by simp only [Key.Dom.ENABLE]; omega),
    if_neg (by simp only [Key.Train.TRAIN_COMMAND]; omega), if_neg (by omega), if_neg (by omega), if_neg (by omega), if_neg (by omega), if_neg (by omega), if_neg (by omega),
    if_neg (by omega), if_pos ⟨by omega, by omega, by omega, trivial⟩, e]

/-- COMMAND of the update of a nozzle map is judged with what the judging leaves behind (R235, R243). -/
theorem need_mapUpdate (t : Sys) (cls : Cls) {k : Nat} (m v : Nat) (x : Int) (ext : Ext) (hk : k = (0x4860 + m) * 256 + 9) (hm : m < 32) :
    t.need cls k v x ext = t.updCmdCheck (m + 16) v ext.ok := by
  unfold need
  simp only [idx_of _ 9 (by omega) hk, sub_of _ 9 (by omega) hk]
  have e : 0x4860 + m - 0x4860 + 16 = m + 16 := by omega
  rw [if_neg (by simp only [Key.DevCmd.DEVICE_COMMAND]; omega), if_neg (by simp only [Key.Pwr.COMMAND]; omega), if_neg (by simp only [Key.Dom.ENABLE]; omega),
    if_neg (by simp only [Key.Train.TRAIN_COMMAND]; omega), if_neg (by omega), if_neg (by omega), if_neg (by omega), if_neg (by omega), if_neg (by omega), if_neg (by omega),
    if_pos ⟨by omega, by omega, trivial⟩, e]

theorem act_system (t s : Sys) (otp : Nat → Nat) (cls : Cls) {k : Nat} (i sub v : Nat) (x : Int) (ext : Ext) (hk : k = i * 256 + sub) (hs : sub < 256) (hi : i < 0x800) :
    t.act s otp cls k v x ext = t.actSystem s cls k v := by
  unfold act
  simp only [idx_of i sub hs hk]
  rw [if_pos hi]

theorem act_fabric (t s : Sys) (otp : Nat → Nat) (cls : Cls) {k : Nat} (i sub v : Nat) (x : Int) (ext : Ext) (hk : k = i * 256 + sub) (hs : sub < 256) (hi : 0x800 ≤ i)
    (hj : i < 0x1000) : t.act s otp cls k v x ext = t.actFabric s otp cls k v x ext := by
  unfold act
  simp only [idx_of i sub hs hk]
  rw [if_neg (by omega), if_pos hj]

theorem act_channel (t s : Sys) (otp : Nat → Nat) (cls : Cls) {k : Nat} (c b sub v : Nat) (x : Int) (ext : Ext) (hk : k = (0x1000 + 256 * c + b) * 256 + sub) (hc : c < 16)
    (hb : b < 256) (hs : sub < 256) (hx : b < 0xF0) : t.act s otp cls k v x ext = s.actChannel c b sub v := by
  unfold act
  simp only [idx_of _ _ hs hk, sub_of _ _ hs hk]
  have e1 : (0x1000 + 256 * c + b) / 256 - 16 = c := by omega
  have e2 : (0x1000 + 256 * c + b) % 256 = b := by omega
  rw [if_neg (by omega), if_neg (by omega), if_neg (by omega), if_neg (by omega), if_pos (by omega), e1, e2]

theorem act_slot (t s : Sys) (otp : Nat → Nat) (cls : Cls) {k : Nat} (n b sub v : Nat) (x : Int) (ext : Ext) (hk : k = (0x2400 + 16 * n + b) * 256 + sub) (hc : n < 64)
    (hb : b < 16) (hs : sub < 256) : t.act s otp cls k v x ext = t.actSlot s n b sub v x := by
  unfold act
  simp only [idx_of _ _ hs hk, sub_of _ _ hs hk]
  have e1 : (0x2400 + 16 * n + b - 0x2400) / 16 = n := by omega
  have e2 : (0x2400 + 16 * n + b) % 16 = b := by omega
  rw [if_neg (by omega), if_neg (by omega), if_neg (by omega), if_neg (by omega), if_neg (by omega), if_pos (by omega), e1, e2]

theorem act_print (t s : Sys) (otp : Nat → Nat) (cls : Cls) {k : Nat} (i sub v : Nat) (x : Int) (ext : Ext) (hk : k = i * 256 + sub) (hs : sub < 256) (hi : 0x3000 ≤ i)
    (hj : i < 0x4000) : t.act s otp cls k v x ext = t.actPrint s k v ext := by
  unfold act
  simp only [idx_of i sub hs hk]
  rw [if_neg (by omega), if_neg (by omega), if_neg (by omega), if_neg (by omega), if_neg (by omega), if_neg (by omega), if_pos (by omega)]

theorem act_rest (t s : Sys) (otp : Nat → Nat) (cls : Cls) {k : Nat} (i sub v : Nat) (x : Int) (ext : Ext) (hk : k = i * 256 + sub) (hs : sub < 256) (hi : 0x4000 ≤ i) :
    t.act s otp cls k v x ext = t.actRest s k v := by
  unfold act
  simp only [idx_of i sub hs hk]
  rw [if_neg (by omega), if_neg (by omega), if_neg (by omega), if_neg (by omega), if_neg (by omega), if_neg (by omega), if_neg (by omega)]

/-- The pair that a write counts in, but for FWS_DATA. -/
theorem storePair_other (s : Sys) {k : Nat} (h : k ≠ Key.FwStore.FWS_DATA) : s.storePair k = pairOf (keyIdx k) := by
  unfold storePair
  rw [if_neg h]

/-- No power command leaves its RESULT by a write to another entry. -/
theorem powerResult_other (s : Sys) {k : Nat} (v c : Nat) (h : k ≠ Key.Pwr.COMMAND) : s.powerResult k v c = s := by
  unfold powerResult
  rw [if_neg (by simp only [h, false_and, not_false_eq_true])]

end Sys

end Sys2Proof.Machine
end

