-- ==== Sys2Proof/Tests/Slice0.lean ====
section
/-! SUPPORT. Slice0: the checks of WellFormed refuse what they should, the worked examples of the spec come out, single steps do what a rule
says, and for every statement with hypotheses a concrete state and operands meet all of them (the witness theorems, one or more for each
statement, by its name). -/

namespace Sys2Proof.Tests

set_option linter.unusedVariables false
set_option Elab.async false

open Sys2Proof Sys2Proof.Machine Sys2Proof.Machine.Sys

/-! ### Small states -/

/-- The block with the entries given. -/
def sets (s : Sys) (l : List (Nat × Nat)) : Sys := l.foldl (fun s e => s.wr e.1 e.2) s

/-- The block restored, with its clocks running, LSAFE_N high and chain address 1, in device state `d`. -/
def base (d : DevState) : Sys := sets { Sys.reset with dev := d, pw := { Sys.reset.pw with state := .run }, pads := { Sys.reset.pads with lsafe := true }, clk := 100000000000, tb := { Sys.reset.tb with t := 100000000000 } } 
    [(Key.Restore.RESTORE_STATUS, 1), (Key.Pll.SOURCE, 63), (Key.Pll.PLL_ENABLE, 15), (Key.Pll.PLL_LOCKED, 15),
      (Key.Dom.POWERED, 65535), (Key.Chain.CHAIN_ADDRESS, 1), (Key.TimeSt.TIME_STATUS, 1)]

/-- An access of the supervisor through the window. -/
def byFw : Access := { who := .window .sv true }

/-- An access of the host over the chain. -/
def byHost : Access := { who := .chain 1 }

/-- A whole frame of the host. -/
def frame (dest typ : Nat) (payload : List Nat) : Frame :=
  let f : Frame := { dest := dest, src := 0xFE, cls := (classOf typ).getD 0, typ := typ, payload := payload, len := payload.length }
  sealFrame { f with crc := crcOf f }

/-! ### WellFormed refuses an ill-formed operand of each kind -/

theorem test_refuses_wide_tag : (Instr.goConfig { who := .chain 65536 }).wellFormed = false := by decide
theorem test_refuses_wide_value : (Instr.capturePop byFw 0 (2 ^ 64)).wellFormed = false := by decide
theorem test_refuses_wide_word : (Instr.windowSplitWrite byFw false 0 0 (2 ^ 32)).wellFormed = false := by decide
theorem test_refuses_wide_byte : (Instr.gatewayDatagram 0 [256]).wellFormed = false := by decide
theorem test_refuses_wide_code : (Instr.pwmPeriod 0 [65536]).wellFormed = false := by decide
theorem test_refuses_wide_flash : (Instr.coldStart 0 [[256]]).wellFormed = false := by decide
theorem test_refuses_wide_signed : (Instr.timeStep byFw (2 ^ 63)).wellFormed = false := by decide
theorem test_refuses_wide_sample : (Instr.slotEvaluation 0 (-(2 ^ 17) - 1) true 0 true true).wellFormed = false := by decide
theorem test_refuses_wide_temperature : (Instr.dieTemp 32768).wellFormed = false := by decide
theorem test_refuses_wide_linear : (Instr.samplerTick [(2 ^ 63, 0, 0)]).wellFormed = false := by decide
theorem test_refuses_wide_debug : (Instr.debugModuleAccess true 0 (2 ^ 32)).wellFormed = false := by decide
theorem test_refuses_bad_heartbeat : (Instr.heartbeat 0 1 6 false).wellFormed = false := by decide
theorem test_refuses_empty_access : (Instr.fabricAccess 0 true .load 0 0 0 true 0).wellFormed = false := by decide
theorem test_refuses_long_access : (Instr.dramRequest 0 false 0 65 []).wellFormed = false := by decide
theorem test_refuses_wide_mram : (Instr.mramCommandComplete (some (2 ^ 64))).wellFormed = false := by decide
theorem test_refuses_wide_credit : (Instr.creditSymbol 0 0 65536).wellFormed = false := by decide
theorem test_refuses_wide_reader : (Instr.errCaptureRead (.chain 65536) false).wellFormed = false := by decide
theorem test_refuses_frame_class : (Instr.stream 0 { frame 1 4 [] with cls := 4 }).wellFormed = false := by decide +kernel
theorem test_refuses_frame_type : (Instr.stream 0 { frame 1 4 [] with typ := 64 }).wellFormed = false := by decide +kernel
theorem test_refuses_frame_address : (Instr.stream 0 { frame 1 4 [] with dest := 256 }).wellFormed = false := by decide +kernel
theorem test_takes_a_frame : (Instr.stream 0 (frame 1 4 [])).wellFormed = true := by decide +kernel

/-! ### Worked examples of the spec -/

/-- The example of 13_dram_controller.md (R383): byte 0x10_1234_5678 with two channels and two ranks. -/
theorem test_dram_place :
    (sets Sys.reset [(Key.Dmc.CHANNELS, 2), (Key.Dmc.RANKS, 2), (Key.Dmc.DENSITY, 1)]).dramPlace 0x1012345678 =
      { ch := 1, rank := 0, bg := 1, ba := 1, row := 1165, burst := 5 } := by decide +kernel
/-- The example of 06_melt_pool_and_stitching.md: p_plan 40,632 gives P = 81,264 + 1. -/
theorem test_full_power : fullPower 40632 = 81265 := by decide
/-- The example of 07_live_calibration.md: 8 x (16 + 8) pixels. -/
theorem test_pattern_width : patWidth { heads := 32, kind := 1, band := 0, level := 1, run := 16, gap := 8, stagger := 8, id := 0 } = 192 := by decide
/-- The example of 17_integrity_and_sampler.md: 71.3 degrees lie in bin 11, 752 mV in bin 7, 640 PU in log2 bin 10. -/
theorem test_bins : linearBin 713 (-400) 100 = 11 ∧ linearBin 752 690 8 = 7 ∧ logBin 640 = 10 := by decide +kernel
/-- The example of 02_object_dictionary.md: RANGE1 and RANGE25. -/
theorem test_ranges : Sys.reset.value 0x10 1 = 0x00FF0000 ∧ Sys.reset.value 0x10 0x19 = 0x47FF4000 := by decide +kernel
/-- The example of 04_scan_channels.md: x = 1,600,000 lies in column 38 of the table, y = -640,000 in row 29. -/
theorem test_hoop_node : ((1600000 : Int) + 2 ^ 23) / 2 ^ 18 = 38 ∧ ((-640000 : Int) + 2 ^ 23) / 2 ^ 18 = 29 := by decide
/-- The example of 03_kwezu_chain.md: with LIMIT 0x0040_0000 the frame at 0x0034_07F8 fits. -/
theorem test_limit : newer32 0x00400000 (0x003407F8 + 2040) = true ∧ newer32 0x00400000 0x00400001 = false := by decide

/-! ### Single steps -/

/-- A state in device state `d` with the entries given. -/
def inState (d : DevState) (l : List (Nat × Nat)) : State := { toSys := sets (base d) l }

/-- What a step leaves, seen by `f`; none where it stops. -/
def after (s : State) (f : State → Nat) : Option Nat :=
  match step s with
  | .next t => some (f t)
  | _ => none

/-- ARM in READY leads to ARMED (R57). -/
theorem test_arm : after { inState .ready [] with pending := [.arm byFw] } (fun t => devCode t.dev) = some 3 := by decide +kernel
/-- ARM in CONFIG is refused (R57): the state stays. -/
theorem test_arm_config : after { inState .config [] with pending := [.arm byFw] } (fun t => devCode t.dev) = some 1 := by decide +kernel
/-- The fall of LSAFE_N leaves ARMED for READY (R23). -/
theorem test_lsafe : after { inState .armed [] with pending := [.lsafeFall] } (fun t => devCode t.dev) = some 2 := by decide +kernel
/-- The front command is taken first (R47). -/
theorem test_fifo : after { inState .ready [] with pending := [.arm byFw, .disarm byFw] } (fun t => t.pending.length) = some 1 := by decide +kernel
/-- A window write to an index without an entry is captured with 0x0601 (R48, R54). -/
theorem test_no_entry : after { inState .ready [] with pending := [.odWrite byFw 0x7FFF 0 4 0] } (fun t => t.rd Key.WinAbort.ABORT_SV % 2 ^ 16) = some 0x0601 := by decide +kernel
/-- An idle tick moves device time (R358). -/
theorem test_idle : after { inState .ready [] with pending := [] } (fun t => b2n (decide (100000000000 < t.tb.t))) = some 1 := by decide +kernel
/-- An edge of A with B low counts one (R249). -/
theorem test_encoder : after { inState .armed [(Key.Enc.COUNT 1, 7)] with pending := [.encoderEdge 1 true false] } (fun t => b2n (decide (t.rdI (Key.Enc.COUNT 1) = 8 ∨ t.rdI (Key.Enc.COUNT 1) = 6))) = some 1 := by
  decide +kernel
/-- A burnt fuse word reads back (R441). -/
theorem test_program : after { inState .service [(Key.Otp.OTP_ADDR, 200), (Key.Otp.OTP_DATA, 5)] with pending := [.otpProgram byFw true] } (fun t => t.otpWord 200) = some 5 := by decide +kernel
/-- A word spells no command. -/
theorem test_no_word : Sys2Proof.decodeTableWord 16 0xFFFF = none := by decide

/-! ### Witnesses of the commands that are accepted writes -/

theorem witness_DeviceCommandsAct :
    (let s := ({ toSys := sets (base .ready) [] } : State); let acc := byFw; s.accepts acc Key.DevCmd.DEVICE_COMMAND 1 {} && decide (devMatrix s.dev 1 = some true)) = true ∧
    (let s := ({ toSys := sets (base .config) [] } : State); let acc := byFw; let bad : Nat := 0; s.accepts acc Key.DevCmd.DEVICE_COMMAND 2 { bad := bad } && decide (devMatrix s.dev 2 = some true)) = true ∧
    (let s := ({ toSys := sets (base .ready) [] } : State); let acc := byFw; s.accepts acc Key.DevCmd.DEVICE_COMMAND 3 {} && decide (devMatrix s.dev 3 = some true)) = true ∧
    (let s := ({ toSys := sets (base .armed) [] } : State); let acc := byFw; s.accepts acc Key.DevCmd.DEVICE_COMMAND 4 {} && decide (devMatrix s.dev 4 = some true)) = true ∧
    (let s := ({ toSys := sets (base .fault) [] } : State); let acc := byFw; s.accepts acc Key.DevCmd.DEVICE_COMMAND 5 {} && decide (devMatrix s.dev 5 = some true)) = true ∧
    (let s := ({ toSys := sets (base .service) [] } : State); let acc := byFw; s.accepts acc Key.DevCmd.DEVICE_COMMAND 6 {} && decide (devMatrix s.dev 6 = some true)) = true ∧
    (let s := ({ toSys := sets (base .fault) [] } : State); let acc := byFw; s.accepts acc Key.DevCmd.DEVICE_COMMAND 7 {} && decide (devMatrix s.dev 7 = some true)) = true ∧
    (let s := ({ toSys := sets (base .fault) [] } : State); let acc := byFw; s.accepts acc Key.DevCmd.DEVICE_COMMAND 8 {} && decide (devMatrix s.dev 8 = some true)) = true := by decide +kernel

theorem witness_StoreCommandsAct :
    (let s := ({ toSys := sets (base .config) [] } : State); let acc := byFw; s.accepts acc Key.Store.STORE_COMMAND 1 {}) = true ∧
    (let s := ({ toSys := sets (base .service) [] } : State); let acc := byFw; s.accepts acc Key.Store.STORE_COMMAND 2 {}) = true ∧
    (let s := ({ toSys := sets (base .config) [] } : State); let acc := byFw; s.accepts acc Key.Store.STORE_COMMAND 3 {}) = true ∧
    (let s := ({ toSys := sets (base .config) [] } : State); let acc := byFw; s.accepts acc Key.Store.STORE_COMMAND 4 {}) = true ∧
    (let s := ({ toSys := sets (base .config) [] } : State); let acc := byHost; s.accepts acc Key.RestoreAck.RESTORE_ACK 1 {}) = true ∧
    (let s := ({ toSys := sets (base .start) [] } : State); let acc := byFw; let v : Nat := 2 ^ 64 - 1; s.accepts acc Key.FwStore.FWS_DATA v {} && decide (v < 2 ^ 64)) = true ∧
    (let s := ({ toSys := sets (base .armed) [] } : State); let acc := byFw; let pair : Cls := .fm; let v : Nat := 2 ^ 32 - 1; s.accepts acc (Sys.selectKey pair) v {} && decide (v < 2 ^ 32)) = true ∧
    (let s := ({ toSys := sets (base .ready) [] } : State); let acc := byFw; let v : Nat := 48; s.accepts acc Key.Fws.RSP_COMMIT v {} && decide (v < 256)) = true := by decide +kernel

theorem witness_ChainWritesAct :
    (let s := ({ toSys := sets (base .config) [] } : State); let acc := byFw; let p : Fin 2 := 1; let v : Nat := 1; s.accepts acc (Key.Port.ENABLE p) v {} && decide (v < 256)) = true ∧
    (let s := ({ toSys := sets (base .config) [(Key.Ep.RING_LEN 7, 2 ^ 16)] } : State); let acc := byFw; let n : Fin 8 := 7; let v : Nat := 1; s.accepts acc (Key.Ep.ENABLE n) v {} && decide (v < 256)) = true ∧
    (let s := ({ toSys := sets (base .config) [(Key.EpSt.NEXT_OFFSET 7, 64)] } : State); let acc := byFw; let n : Fin 8 := 7; let v : Nat := 0; s.accepts acc (Key.EpSt.RELEASE_OFFSET n) v {} && decide (v < 2 ^ 32)) = true := by decide +kernel

theorem witness_ChannelCommandsAct :
    (let s := ({ toSys := sets (base .config) [] } : State); let acc := byFw; let c : Fin 16 := 15; let tableOk : Bool := true; s.accepts acc (Key.Ch.COMMAND c) 1 { ok := tableOk } && decide (s.chState c = 0)) = true ∧
    (let s := ({ toSys := sets (base .config) [(Key.Ch.STATE 15, 1)] } : State); let acc := byFw; let c : Fin 16 := 15; s.accepts acc (Key.Ch.COMMAND c) 2 {} && decide (s.chState c ≠ 0)) = true ∧
    (let s := (let s := ({ toSys := sets (base .armed) [(Key.Ch.STATE 15, 1)] } : State); { s with pads := { s.pads with lpSts := 65535 } }); let acc := byFw; let c : Fin 16 := 15; s.accepts acc (Key.Ch.COMMAND c) 3 {} && decide (s.chState c = 1)) = true ∧
    (let s := ({ toSys := sets (base .armed) [(Key.Ch.STATE 15, 2)] } : State); let acc := byFw; let c : Fin 16 := 15; s.accepts acc (Key.Ch.COMMAND c) 4 {} && decide (s.chState c = 2)) = true ∧
    (let s := ({ toSys := sets (base .armed) [(Key.Ch.STATE 15, 3)] } : State); let acc := byFw; let c : Fin 16 := 15; s.accepts acc (Key.Ch.COMMAND c) 5 {}) = true ∧
    (let s := ({ toSys := sets (base .armed) [(Key.Ch.STATE 15, 2)] } : State); let acc := byFw; let c : Fin 16 := 15; s.accepts acc (Key.Ch.COMMAND c) 6 {} && decide (s.chState c = 2 ∨ s.chState c = 3)) = true ∧
    (let s := ({ toSys := sets (base .config) [(Key.Ch.STATE 15, 5)] } : State); let acc := byFw; let c : Fin 16 := 15; s.accepts acc (Key.Ch.COMMAND c) 7 {}) = true ∧
    (let s := ({ toSys := sets (base .ready) [] } : State); let acc := byFw; let c : Fin 16 := 15; let v : Nat := 1; let tableOk : Bool := true; s.accepts acc (Key.Hoop.HOOP_ENABLE c) v { ok := tableOk } && decide (v < 256)) = true := by decide +kernel

theorem witness_SlotCommandsAct_a :
    (let s := ({ toSys := sets (base .ready) [(Key.Slot.ENABLE 63, 1)] } : State); let acc := byFw; let n : Fin 64 := 63; s.accepts acc (Key.Slot.COMMAND n) 1 {} && decide (s.slotState n = 0)) = true ∧
    (let s := ({ toSys := sets (base .armed) [(Key.Slot.STATE 63, 2)] } : State); let acc := byFw; let n : Fin 64 := 63; s.accepts acc (Key.Slot.COMMAND n) 2 {} && decide (s.slotState n = 1 ∨ s.slotState n = 2)) = true ∧
    (let s := ({ toSys := sets (base .config) [] } : State); let acc := byFw; let n : Fin 64 := 63; s.accepts acc (Key.Slot.COMMAND n) 3 {}) = true ∧
    (let s := ({ toSys := sets (base .ready) [(Key.SlotRc.RC_SOURCE 63, 1)] } : State); let acc := byFw; let n : Fin 64 := 63; s.accepts acc (Key.Slot.COMMAND n) 4 {}) = true ∧
    (let s := ({ toSys := sets (base .ready) [(Key.SlotRc.RC_SOURCE 63, 1)] } : State); let acc := byFw; let n : Fin 64 := 63; s.accepts acc (Key.Slot.COMMAND n) 5 {}) = true ∧
    (let s := ({ toSys := sets (base .ready) [] } : State); let acc := byFw; let n : Fin 64 := 63; s.accepts acc (Key.Slot.COMMAND n) 6 {}) = true ∧
    (let s := ({ toSys := sets (base .config) [] } : State); let acc := byFw; let n : Fin 64 := 63; let v : Nat := 1; s.accepts acc (Key.Slot.MODE n) v {} && decide (v < 256)) = true ∧
    (let s := ({ toSys := sets (base .config) [] } : State); let acc := byFw; let n : Fin 64 := 63; let v : Nat := 15; s.accepts acc (Key.SlotBq.BQ_ENABLE n) v {} && decide (v < 2 ^ 32)) = true := by decide +kernel

theorem witness_SlotCommandsAct_b :
    (let s := ({ toSys := sets (base .config) [] } : State); let acc := byFw; let n : Fin 64 := 63; let sub : Fin 4 := 0; let v : Nat := 1; s.accepts acc (Key.SlotRc.RC_SOURCE n + sub) v {} && decide (Sys.fits (Key.SlotRc.RC_SOURCE n + sub) v = true)) = true := by decide +kernel

theorem witness_StitchAndUpdateCommandsAct_a :
    (let s := ({ toSys := sets (base .config) [] } : State); let acc := byFw; let w : Fin 192 := 191; let v : Nat := 1; s.accepts acc (zwEnable w) v {} && decide (v < 256)) = true ∧
    (let s := ({ toSys := sets (base .armed) [(zwState 191, 3), (zwJoin 191, 200000000000)] } : State); let acc := byFw; let w : Fin 192 := 191; s.accepts acc (Sys.zwCommand w) 1 {} && decide (s.rd (zwState w) = 3 ∨ s.rd (zwState w) = 4 ∨ s.rd (zwState w) = 5)) = true ∧
    (let s := ({ toSys := sets (base .armed) [(zwState 191, 6)] } : State); let acc := byFw; let w : Fin 192 := 191; s.accepts acc (Sys.zwCommand w) 2 {} && decide (s.rd (zwState w) = 6)) = true ∧
    (let s := ({ toSys := sets (base .start) [] } : State); let acc := byFw; let v : Nat := 1; s.accepts acc Key.Rep.POP v {} && decide (v < 256)) = true ∧
    (let s := ({ toSys := sets (base .ready) [] } : State); let acc := byFw; let m : Fin 48 := 47; s.accepts acc (Sys.updKey m 9) 1 {}) = true ∧
    (let s := ({ toSys := sets (base .armed) [(Sys.updKey 47 0x0A, 4)] } : State); let acc := byFw; let m : Fin 48 := 47; s.accepts acc (Sys.updKey m 9) 2 {}) = true ∧
    (let s := ({ toSys := sets (base .ready) [] } : State); let acc := byFw; let m : Fin 48 := 47; s.accepts acc (Sys.updKey m 9) 3 {}) = true ∧
    (let s := ({ toSys := sets (base .ready) [(Sys.updKey 47 0x0A, 6), (Sys.updKey 47 0x11, 1)] } : State); let acc := byFw; let m : Fin 48 := 47; let ok : Bool := true; s.accepts acc (Sys.updKey m 9) 4 { ok := ok }) = true := by decide +kernel

theorem witness_StitchAndUpdateCommandsAct_b :
    (let s := ({ toSys := sets (base .ready) [(Key.Pat.PAT_HEADS 3, 1), (Key.Head.GROUP 0, 3), (Key.Pat.PAT_RUN 3, 1), (Key.Pat.PAT_LEVEL 3, 1), (Key.Pat.BAND0_WIDTH 3, 128), (Key.Head.DEPTH 0, 2)] } : State); let acc := byFw; let g : Fin 4 := 3; s.accepts acc (Key.Pat.PAT_COMMAND g) 1 {}) = true ∧
    (let s := ({ toSys := sets (base .ready) [] } : State); let acc := byFw; let g : Fin 4 := 3; s.accepts acc (Key.Pat.PAT_COMMAND g) 2 {}) = true := by decide +kernel

theorem witness_PrintCommandsAct_a :
    (let s := ({ toSys := sets (base .start) [] } : State); let acc := byFw; let e : Fin 6 := 5; s.accepts acc (Key.Enc.COMMAND e) 1 {}) = true ∧
    (let s := ({ toSys := sets (base .start) [] } : State); let acc := byFw; let e : Fin 6 := 5; s.accepts acc (Key.Enc.COMMAND e) 2 {}) = true ∧
    (let s := ({ toSys := sets (base .config) [] } : State); let acc := byFw; let l : Fin 8 := 7; s.accepts acc (Key.LinkSt.CTRL_COMMAND l) 1 {}) = true ∧
    (let s := ({ toSys := sets (base .config) [] } : State); let acc := byFw; let l : Fin 8 := 7; s.accepts acc (Key.LinkSt.CTRL_COMMAND l) 2 {}) = true ∧
    (let s := ({ toSys := sets (base .ready) [] } : State); let acc := byFw; let ok : Bool := true; s.accepts acc Key.Picot.COMMAND 1 { ok := ok }) = true ∧
    (let s := ({ toSys := sets (base .ready) [] } : State); let acc := byFw; s.accepts acc Key.Picot.COMMAND 2 {}) = true ∧
    (let s := ({ toSys := sets (base .ready) [] } : State); let acc := byFw; let bad : Nat := 0; s.accepts acc Key.Picot.COMMAND 3 { bad := bad }) = true ∧
    (let s := ({ toSys := sets (base .config) [(Key.Grp.STATE 3, 0)] } : State); let acc := byFw; let g : Fin 4 := 3; s.accepts acc (Key.Grp.COMMAND g) 1 {} && decide (s.grpState g = 0)) = true := by decide +kernel

theorem witness_PrintCommandsAct_b :
    (let s := ({ toSys := sets (base .config) [(Key.Grp.STATE 3, 6)] } : State); let acc := byFw; let g : Fin 4 := 3; s.accepts acc (Key.Grp.COMMAND g) 2 {} && decide (s.grpState g = 1 ∨ s.grpState g = 6)) = true ∧
    (let s := ({ toSys := sets (base .armed) [(Key.Grp.STATE 3, 1)] } : State); let acc := byFw; let g : Fin 4 := 3; s.accepts acc (Key.Grp.COMMAND g) 3 {} && decide (s.grpState g = 1)) = true ∧
    (let s := ({ toSys := sets (base .armed) [(Key.Grp.STATE 3, 5)] } : State); let acc := byFw; let g : Fin 4 := 3; s.accepts acc (Key.Grp.COMMAND g) 4 {} && decide (s.grpState g = 2 ∨ s.grpState g = 3 ∨ s.grpState g = 4 ∨ s.grpState g = 5)) = true ∧
    (let s := ({ toSys := sets (base .armed) [(Key.Grp.STATE 3, 5)] } : State); let acc := byFw; let g : Fin 4 := 3; s.accepts acc (Key.Grp.COMMAND g) 5 {} && decide (s.grpState g = 3 ∨ s.grpState g = 4 ∨ s.grpState g = 5)) = true ∧
    (let s := ({ toSys := sets (base .armed) [(Key.Grp.STATE 3, 3)] } : State); let acc := byFw; let g : Fin 4 := 3; s.accepts acc (Key.Grp.COMMAND g) 6 {}) = true ∧
    (let s := ({ toSys := sets (base .config) [(Key.Grp.STATE 3, 6)] } : State); let acc := byFw; let g : Fin 4 := 3; s.accepts acc (Key.Grp.COMMAND g) 7 {} && decide (s.grpState g = 1 ∨ s.grpState g = 6)) = true := by decide +kernel

theorem witness_AxisCommandsAreTaken_a :
    (let s := ({ toSys := sets (base .ready) [] } : State); let acc := byFw; let a : Fin 8 := 7; s.accepts acc (Key.Axis.COMMAND a) 1 {}) = true ∧
    (let s := ({ toSys := sets (base .config) [] } : State); let acc := byFw; let a : Fin 8 := 7; s.accepts acc (Key.Axis.COMMAND a) 2 {}) = true ∧
    (let s := ({ toSys := sets (base .ready) [(Key.Axis.STATE 7, 2)] } : State); let acc := byFw; let a : Fin 8 := 7; s.accepts acc (Key.Axis.COMMAND a) 3 {}) = true ∧
    (let s := ({ toSys := sets (base .ready) [(Key.Axis.STATE 7, 2)] } : State); let acc := byFw; let a : Fin 8 := 7; s.accepts acc (Key.Axis.COMMAND a) 4 {}) = true ∧
    (let s := (let s := ({ toSys := sets (base .ready) [(Key.Axis.STATE 7, 1), (Key.AxTab.TABLE0_ADDR 7, 0x10000000), (Key.AxTab.TABLE0_LEN 7, 16)] } : State); { s with mem := [(0x10000000, 1), (0x1000000C, 1)] }); let acc := byFw; let a : Fin 8 := 7; let ok : Bool := true; s.accepts acc (Key.Axis.COMMAND a) 5 { ok := ok }) = true ∧
    (let s := ({ toSys := sets (base .armed) [(Key.Axis.STATE 7, 3)] } : State); let acc := byFw; let a : Fin 8 := 7; s.accepts acc (Key.Axis.COMMAND a) 6 {}) = true ∧
    (let s := ({ toSys := sets (base .config) [] } : State); let acc := byFw; let a : Fin 8 := 7; s.accepts acc (Key.Axis.COMMAND a) 7 {}) = true ∧
    (let s := ({ toSys := sets (base .config) [] } : State); let acc := byFw; let a : Fin 8 := 7; s.accepts acc (Key.Axis.COMMAND a) 8 {}) = true := by decide +kernel

theorem witness_AxisCommandsAreTaken_b :
    (let s := ({ toSys := sets (base .config) [] } : State); let acc := byFw; let a : Fin 8 := 7; s.accepts acc (Key.Axis.COMMAND a) 9 {}) = true ∧
    (let s := ({ toSys := sets (base .config) [] } : State); let acc := byFw; let a : Fin 8 := 7; s.accepts acc (Key.Axis.COMMAND a) 10 {}) = true := by decide +kernel

theorem witness_CameraAndLaneCommandsAct :
    (let s := ({ toSys := sets (base .config) [] } : State); let acc := byFw; let k : Fin 16 := 15; let v : Nat := 0; s.accepts acc (Key.Ctx.ENABLE k) v {} && decide (v < 256)) = true ∧
    (let s := ({ toSys := sets (base .config) [] } : State); let acc := byFw; let k : Fin 16 := 15; let n : Fin 3 := 2; let v : Nat := 0; s.accepts acc (Key.Out.ENABLE k n) v {} && decide (v < 256)) = true ∧
    (let s := ({ toSys := sets (base .config) [] } : State); let acc := byFw; let k : Fin 16 := 15; let v : Nat := 0; s.accepts acc (Key.Profl.PROF_ENABLE k) v {} && decide (v < 256)) = true ∧
    (let s := ({ toSys := sets (base .service) [] } : State); let acc := byFw; let l : Fin 16 := 15; s.accepts acc (Key.Lane.COMMAND l) 1 {}) = true ∧
    (let s := ({ toSys := sets (base .config) [] } : State); let acc := byFw; let l : Fin 16 := 15; s.accepts acc (Key.Lane.COMMAND l) 2 {}) = true ∧
    (let s := ({ toSys := sets (base .service) [] } : State); let acc := byFw; let l : Fin 16 := 15; s.accepts acc (Key.Lane.COMMAND l) 3 {}) = true ∧
    (let s := ({ toSys := sets (base .config) [] } : State); let acc := byFw; let l : Fin 16 := 15; s.accepts acc (Key.Lane.COMMAND l) 4 {}) = true ∧
    (let s := ({ toSys := sets (base .config) [(Key.MacRing.TX_LEN 1, 65536)] } : State); let acc := byFw; let m : Fin 2 := 1; let v : Nat := 1; s.accepts acc (Key.MacRing.TX_TAIL m) v {} && decide (v < 65536)) = true := by decide +kernel

theorem witness_TimeCommandsAct_a :
    (let s := ({ toSys := sets (base .config) [] } : State); let acc := byFw; let adj : Bool := true; let v : Nat := 17179869184; s.accepts acc (if adj then Key.Inc.ADJ_INCREMENT else Key.Inc.INCREMENT) v {} && decide (v < 2 ^ 64)) = true ∧
    (let s := ({ toSys := sets (base .armed) [] } : State); let acc := byFw; let v : Nat := 2 ^ 32 - 1; s.accepts acc Key.Inc.ADJ_TICKS v {} && decide (v < 2 ^ 32)) = true ∧
    (let s := ({ toSys := sets (base .config) [] } : State); let acc := byFw; let i : Int := 0; s.accepts acc Key.Step.TIME_STEP (trunc 64 i) {} && decide (-(2 ^ 63) ≤ i) && decide (i < 2 ^ 63)) = true ∧
    (let s := ({ toSys := sets (base .config) [] } : State); let acc := byFw; let n : Fin 32 := 31; let sub : Fin 3 := 0; let v : Nat := 3; s.accepts acc (Key.Trig.MODE n + sub) v {} && decide (Sys.fits (Key.Trig.MODE n + sub) v = true)) = true ∧
    (let s := ({ toSys := sets (base .config) [] } : State); let acc := byFw; let n : Fin 32 := 31; let v : Nat := 2 ^ 64 - 1; s.accepts acc (Key.Trig.AT n) v {} && decide (v < 2 ^ 64)) = true ∧
    (let s := ({ toSys := sets (base .armed) [(Key.Trig.MODE 31, 3)] } : State); let acc := byFw; let n : Fin 32 := 31; s.accepts acc (Key.Trig.COMMAND n) 1 {}) = true ∧
    (let s := ({ toSys := sets (base .armed) [] } : State); let acc := byFw; let n : Fin 32 := 31; s.accepts acc (Key.Trig.COMMAND n) 2 {}) = true ∧
    (let s := ({ toSys := sets (base .fault) [] } : State); let acc := byFw; let n : Fin 32 := 31; let v : Nat := 1; s.accepts acc (Key.Cap.POP n) v {} && decide (v < 256)) = true := by decide +kernel

theorem witness_TimeCommandsAct_b :
    (let s := ({ toSys := sets (base .ready) [] } : State); let acc := byFw; let n : Fin 32 := 31; let edge : Bool := true; let v : Nat := 1; s.accepts acc (if edge then Key.Cap.EDGE n else Key.Cap.SOURCE n) v {} && decide (v < 256)) = true := by decide +kernel

theorem witness_DramCommandsAct_a :
    (let s := ({ toSys := sets (base .fault) [(Key.DmcSt.STATE, 3)] } : State); let acc := byFw; s.accepts acc Key.DmcSt.COMMAND 1 {}) = true ∧
    (let s := ({ toSys := sets (base .fault) [(Key.DmcSt.STATE, 3)] } : State); let acc := byFw; let bad : Nat := 0; s.accepts acc Key.DmcDbg.DEBUG_COMMAND 1 { bad := bad }) = true ∧
    (let s := ({ toSys := sets (base .service) [(Key.DmcSt.STATE, 2)] } : State); let acc := byFw; s.accepts acc Key.Ppr.PPR_COMMAND 1 {}) = true ∧
    (let s := ({ toSys := sets (base .service) [(Key.DmcSt.STATE, 2)] } : State); let acc := byFw; s.accepts acc Key.Ppr.PPR_COMMAND 2 {}) = true ∧
    (let s := ({ toSys := sets (base .start) [] } : State); let acc := byFw; s.accepts acc Key.Train.TRAIN_COMMAND 1 {}) = true ∧
    (let s := ({ toSys := sets (base .start) [(Key.DmcSt.STATE, 1)] } : State); let acc := byFw; let pass : Bool := true; let osc : List Nat := []; s.accepts acc Key.Train.TRAIN_COMMAND 2 { ok := pass, osc := some osc }) = true ∧
    (let s := ({ toSys := sets (base .start) [(Key.DmcSt.STATE, 1)] } : State); let acc := byFw; s.accepts acc Key.Train.TRAIN_COMMAND 3 {}) = true ∧
    (let s := ({ toSys := sets (base .start) [(Key.DmcSt.STATE, 1)] } : State); let acc := byFw; s.accepts acc Key.Mr.MR_COMMAND 1 {}) = true := by decide +kernel

theorem witness_DramCommandsAct_b :
    (let s := ({ toSys := sets (base .start) [(Key.DmcSt.STATE, 1)] } : State); let acc := byFw; let val : Nat := 1; s.accepts acc Key.Mr.MR_COMMAND 2 { val := some val }) = true ∧
    (let s := ({ toSys := sets (base .start) [(Key.DmcSt.STATE, 1)] } : State); let acc := byFw; s.accepts acc Key.Mr.MR_COMMAND 3 {}) = true ∧
    (let s := ({ toSys := sets (base .start) [(Key.DmcSt.STATE, 1)] } : State); let acc := byFw; s.accepts acc Key.Mr.MR_COMMAND 4 {}) = true ∧
    (let s := ({ toSys := sets (base .start) [(Key.DmcSt.STATE, 1)] } : State); let acc := byFw; s.accepts acc Key.TPat.PAT_COMMAND 1 {}) = true ∧
    (let s := ({ toSys := sets (base .start) [(Key.DmcSt.STATE, 1)] } : State); let acc := byFw; s.accepts acc Key.TPat.PAT_COMMAND 2 {}) = true ∧
    (let s := ({ toSys := sets (base .start) [(Key.DmcSt.STATE, 1)] } : State); let acc := byFw; s.accepts acc Key.TPat.PAT_COMMAND 3 {}) = true := by decide +kernel

theorem witness_DmaCommandsAct :
    (let s := ({ toSys := sets (base .armed) [] } : State); let acc := byFw; let d : Fin 32 := 31; let v : Nat := 0; s.accepts acc (Key.DmaSh.ARM d) v {} && decide (v < 256)) = true ∧
    (let s := ({ toSys := sets (base .armed) [(Key.Dma.STATE 31, 1)] } : State); let acc := byFw; let d : Fin 32 := 31; s.accepts acc (Key.Dma.COMMAND d) 1 {}) = true ∧
    (let s := ({ toSys := sets (base .armed) [(Key.Dma.STATE 31, 4)] } : State); let acc := byFw; let d : Fin 32 := 31; s.accepts acc (Key.Dma.COMMAND d) 2 {}) = true ∧
    (let s := ({ toSys := sets (base .armed) [] } : State); let acc := byFw; let d : Fin 32 := 31; s.accepts acc (Key.Dma.COMMAND d) 3 {}) = true ∧
    (let s := ({ toSys := sets (base .armed) [] } : State); let acc := byFw; let d : Fin 32 := 31; let v : Nat := 1; s.accepts acc (Key.Dma.ENABLE d) v {} && decide (v < 256)) = true ∧
    (let s := ({ toSys := sets (base .armed) [(Key.Cq.LEN 7, 64)] } : State); let acc := byFw; let q : Fin 8 := 7; let v : Nat := 16; s.accepts acc (Key.Cq.TAIL q) v {} && decide (v < 2 ^ 32)) = true := by decide +kernel

theorem witness_ImageAndMramCommandsAct :
    (let s := ({ toSys := sets (base .config) [] } : State); let acc := byFw; s.accepts acc Key.Image.COMMAND 1 {}) = true ∧
    (let s := ({ toSys := sets (base .config) [] } : State); let acc := byFw; s.accepts acc Key.Image.COMMAND 2 {}) = true ∧
    (let s := ({ toSys := sets (base .config) [] } : State); let acc := byFw; s.accepts acc Key.Image.COMMAND 3 {}) = true ∧
    (let s := ({ toSys := sets (base .config) [] } : State); let acc := byFw; s.accepts acc Key.Image.COMMAND 4 {}) = true ∧
    (let s := ({ toSys := sets (base .config) [(Key.Image.BOOT_STATE, 1)] } : State); let acc := byFw; s.accepts acc Key.Image.COMMAND 5 {} && decide (s.rdBit Key.Image.BOOT_STATE 0 = true)) = true ∧
    (let s := ({ toSys := sets (base .config) [(Key.Mram.SRC_LEN, 64)] } : State); let acc := byFw; s.accepts acc Key.Mram.COMMAND 1 {}) = true ∧
    (let s := ({ toSys := sets (base .config) [(Key.Mram.SRC_LEN, 64)] } : State); let acc := byFw; s.accepts acc Key.Mram.COMMAND 2 {}) = true ∧
    (let s := ({ toSys := sets (base .config) [(Key.Mram.SRC_LEN, 64)] } : State); let acc := byFw; s.accepts acc Key.Mram.COMMAND 3 {}) = true := by decide +kernel

theorem witness_FusePowerAndLogCommandsAct_a :
    (let s := ({ toSys := sets (base .start) [] } : State); let acc := byFw; s.accepts acc Key.Otp.OTP_COMMAND 1 {}) = true ∧
    (let s := ({ toSys := sets (base .service) [] } : State); let acc := byFw; let ok : Bool := true; s.accepts acc Key.Otp.OTP_COMMAND 2 { ok := ok }) = true ∧
    (let s := ({ toSys := sets (base .config) [] } : State); let acc := byFw; s.accepts acc Key.Pwr.COMMAND 1 {}) = true ∧
    (let s := ({ toSys := sets (base .service) [] } : State); let acc := byFw; s.accepts acc Key.Pwr.COMMAND 2 {}) = true ∧
    (let s := ({ toSys := sets (base .armed) [] } : State); let acc := byFw; let v : Nat := 1; s.accepts acc Key.Pad.RELEASE v {} && decide (v < 2 ^ 32)) = true ∧
    (let s := ({ toSys := sets (base .config) [] } : State); let acc := byFw; let v : Nat := 15; s.accepts acc Key.Pll.PLL_ENABLE v {} && decide (v < 2 ^ 32)) = true ∧
    (let s := ({ toSys := sets (base .armed) [] } : State); let acc := byFw; let v : Nat := 1; s.accepts acc Key.FLog.POP v {} && decide (v < 256)) = true ∧
    (let s := ({ toSys := sets (base .armed) [] } : State); let acc := byFw; s.accepts acc Key.Smp.COMMAND 1 {}) = true := by decide +kernel

theorem witness_FusePowerAndLogCommandsAct_b :
    (let s := ({ toSys := sets (base .service) [] } : State); let acc := byFw; s.accepts acc Key.Smp.COMMAND 2 {}) = true ∧
    (let s := ({ toSys := sets (base .armed) [] } : State); let acc := byFw; let index : Bool := true; let v : Nat := 0; s.accepts acc (if index then Key.SmpSel.INDEX else Key.SmpSel.AREA) v {} && decide (Sys.fits (if index then Key.SmpSel.INDEX else Key.SmpSel.AREA) v = true)) = true := by decide +kernel


/-! ### INSTALL of a live update: a nozzle map of 16,448 bytes with its CRC -/

/-- The row of COMMAND of a live update. -/
def updRow : Dict.Row := { sub := 9, ty := .enum8, acc := .wo, st := 14, ok := [(1, 5)] }

/-- CONFIG, with a nozzle map of head 31 announced at the start of DRAM. -/
def updBase : Sys := sets (base .config) [(updKey 47 1, 0x10000000), (updKey 47 2, 16448)]

/-- The same, with the map's CRC behind it: the map itself is all zero. -/
def updState : Sys := updBase.setBytes (0x10000000 + 16388) (le 4 (crc32 (updBase.bytes 0x10000000 16388)))


theorem byte_setBytes (s : Sys) (l : List Nat) (a b : Nat) : (s.setBytes a l).byte b = if a ≤ b ∧ b < a + l.length then BitVec.ofNat 8 (l.getD (b - a) 0) else s.byte b := by
  induction l generalizing s a with
  | nil => rw [if_neg (by simp)]; rfl
  | cons x t ih =>
    rw [setBytes, ih]
    have hb : (s.setByte a (BitVec.ofNat 8 x)).byte b = if b = a then BitVec.ofNat 8 x else s.byte b := by
      unfold byte setByte; exact Kv.get_put ..
    rw [hb]
    by_cases h : b = a
    · subst h; rw [if_neg (by omega), if_pos rfl, if_pos (by simp)]; simp
    · rw [if_neg h]
      by_cases h2 : a + 1 ≤ b ∧ b < a + 1 + t.length
      · rw [if_pos h2, if_pos (by simp; omega)]
        obtain ⟨m, hm⟩ : ∃ m, b - a = m + 1 := ⟨b - a - 1, by omega⟩
        have hm' : b - (a + 1) = m := by omega
        rw [hm, hm', List.getD_cons_succ]
      · rw [if_neg h2, if_neg (by simp; omega)]

theorem bytes_congr (s t : Sys) (n a : Nat) (h : ∀ b, a ≤ b → b < a + n → t.byte b = s.byte b) : t.bytes a n = s.bytes a n := by
  induction n generalizing a with
  | zero => rfl
  | succ n ih =>
    rw [bytes, bytes, h a (Nat.le_refl _) (by omega), ih (a + 1) (fun b h1 h2 => h b (by omega) (by omega))]

theorem le_length (n v : Nat) : (le n v).length = n := by
  induction n generalizing v with
  | zero => rfl
  | succ n ih => simp [le, ih]

theorem bytes_setBytes (s : Sys) (a : Nat) (l : List Nat) (h : ∀ x ∈ l, x < 256) : (s.setBytes a l).bytes a l.length = l := by
  have key : ∀ (l' : List Nat) (j : Nat), (∀ i, i < l'.length → l.getD (j + i) 0 = l'.getD i 0) → j + l'.length ≤ l.length → (∀ x ∈ l', x < 256) →
      (s.setBytes a l).bytes (a + j) l'.length = l' := by
    intro l'
    induction l' with
    | nil => intros; rfl
    | cons x t ih =>
      intro j h1 h2 h3
      simp only [List.length_cons] at h2 ⊢
      rw [bytes, byte_setBytes, if_pos (by omega), Nat.add_assoc, ih (j + 1) (fun i hi => by
        have := h1 (i + 1) (by simpa using hi); rw [List.getD_cons_succ] at this; rw [← this]; congr 1; omega) (by omega) (fun y hy => h3 y (List.mem_cons_of_mem _ hy))]
      have h0 := h1 0 (by simp)
      simp only [Nat.add_zero, List.getD_cons_zero] at h0
      have hx := h3 x (by simp)
      have e : a + j - a = j := by omega
      rw [e, h0, BitVec.toNat_ofNat, Nat.mod_eq_of_lt (by omega)]
  exact key l 0 (fun i _ => by rw [Nat.zero_add]) (by omega) h

theorem le_lt (n v : Nat) : ∀ x ∈ le n v, x < 256 := by
  induction n generalizing v with
  | zero => intro x h; simp [le] at h
  | succ n ih => intro x h; simp only [le, List.mem_cons] at h; rcases h with h | h
                 · omega
                 · exact ih _ _ h

theorem unle_le (n v : Nat) : unle (le n v) = v % 256 ^ n := by
  induction n generalizing v with
  | zero => simp [le, unle, Nat.mod_one]
  | succ n ih => rw [le, unle, ih, Nat.pow_succ, Nat.mod_mod, Nat.mul_comm (256 ^ n) 256, Nat.mod_mul]

theorem crc32_lt (l : List Nat) : crc32 l < 2 ^ 32 := by
  have bit : ∀ c, c < 2 ^ 32 → crc32Bit c < 2 ^ 32 := by
    intro c h; unfold crc32Bit
    split
    · exact Nat.xor_lt_two_pow (by omega) (by decide)
    · omega
  have it : ∀ n c, c < 2 ^ 32 → iter crc32Bit n c < 2 ^ 32 := by
    intro n
    induction n with
    | zero => intro c h; exact h
    | succ n ih => intro c h; exact ih _ (bit _ h)
  have f : ∀ (l : List Nat) c, c < 2 ^ 32 → l.foldl (fun c b => iter crc32Bit 8 (c.xor (b % 256))) c < 2 ^ 32 := by
    intro l
    induction l with
    | nil => intro c h; exact h
    | cons x t ih => intro c h; exact ih _ (it 8 _ (Nat.xor_lt_two_pow h (by omega)))
  exact Nat.xor_lt_two_pow (f l _ (by decide)) (by decide)

theorem upd_crc : updState.tableCrcOk 47 0x10000000 = true := by
  have hc : tableCovered 47 = 16388 := rfl
  have hb : updState.bytes 0x10000000 16388 = updBase.bytes 0x10000000 16388 :=
    bytes_congr _ _ _ _ (fun b h1 h2 => by unfold updState; rw [byte_setBytes, if_neg (by rw [le_length]; omega)])
  unfold tableCrcOk
  rw [hc, hb, decide_eq_true_eq]
  have h4 : updState.bytes (0x10000000 + 16388) 4 = le 4 (crc32 (updBase.bytes 0x10000000 16388)) := by
    have := bytes_setBytes updBase (0x10000000 + 16388) (le 4 (crc32 (updBase.bytes 0x10000000 16388))) (le_lt _ _)
    rw [le_length] at this
    exact this
  unfold ld
  rw [h4, unle_le]
  exact Nat.mod_eq_of_lt (crc32_lt _)

theorem upd_stray : updState.strayIn 31 0x10000000 = none := by
  unfold strayIn
  rw [List.find?_eq_none]
  intro n hn
  have hn' : n < 4096 := List.mem_range.mp hn
  have hz : ∀ b, 0x10000000 ≤ b → b < 0x10000000 + 16388 → updState.byte b = 0 := by
    intro b h1 h2
    unfold updState
    rw [byte_setBytes, if_neg (by omega)]
    show memDefault 0 0 0 b = 0
    unfold memDefault
    rw [if_pos (by omega), if_pos rfl]
  have h0 : updState.ld (0x10000000 + 4 * n) 4 = 0 := by
    unfold ld
    simp only [bytes, hz _ (by omega : 0x10000000 ≤ 0x10000000 + 4 * n) (by omega), hz _ (by omega : 0x10000000 ≤ 0x10000000 + 4 * n + 1) (by omega),
      hz _ (by omega : 0x10000000 ≤ 0x10000000 + 4 * n + 1 + 1) (by omega), hz _ (by omega : 0x10000000 ≤ 0x10000000 + 4 * n + 1 + 1 + 1) (by omega)]
    rfl
  rw [h0]
  simp [strayEntry]

def withMem (s : Sys) (m : List Host.Cell) : Sys := { s with mem := m }

theorem setBytes_withMem (l : List Nat) (s : Sys) (a : Nat) : ∃ m, s.setBytes a l = withMem s m := by
  induction l generalizing s a with
  | nil => exact ⟨s.mem, rfl⟩
  | cons x t ih =>
    obtain ⟨m, h⟩ := ih (s.setByte a (BitVec.ofNat 8 x)) (a + 1)
    exact ⟨m, h⟩

theorem upd_mem : ∃ m, updState = withMem updBase m := setBytes_withMem _ _ _

theorem withMem_rd (s : Sys) (m : List Host.Cell) (k : Nat) : (withMem s m).rd k = s.rd k := rfl

theorem upd_abort : updState.updCmdAbort 47 5 true = 0 := by
  have h1 := upd_crc
  have h2 := upd_stray
  obtain ⟨m, e⟩ := upd_mem
  rw [e] at h1 h2 ⊢
  have k1 : updBase.rd (updKey 47 1) = 0x10000000 := by decide +kernel
  have k2 : updBase.rd (updKey 47 2) = 16448 := by decide +kernel
  have k4 : updBase.rd (updKey 47 0x0A) = 0 := by decide +kernel
  have k5 : (withMem updBase m).dev = .config := (by decide +kernel : updBase.dev = .config)
  simp only [updCmdAbort, updRuns, withMem_rd, k1, k2, k4, k5, h1]
  simp [tableLen, h2]

theorem upd_grant : (updState.grant 0x42 false 0x10000000 16448).2 = true := by
  obtain ⟨m, e⟩ := upd_mem
  rw [e]
  exact (by decide +kernel : (updBase.grant 0x42 false 0x10000000 16448).2 = true)


theorem upd_check : (updState.updCmdCheck 47 5 true).2 = 0 := by
  have h := upd_abort
  have g := upd_grant
  have k1 : updState.rd (updKey 47 1) = 0x10000000 := by
    obtain ⟨m, e⟩ := upd_mem
    rw [e, withMem_rd]; decide +kernel
  generalize updState = u at h g k1 ⊢
  unfold updCmdCheck readOk
  rw [h, k1]
  by_cases c : u.rd (updKey 47 2) = tableLen 47
  · rw [(by decide : tableLen 47 = 16448)] at c ⊢; simp [g, c]
  · simp [c]


theorem updRow_is : entryRow (keyIdx (updKey 47 9)) (keySub (updKey 47 9)) = some updRow := by decide +kernel

theorem accepts_of {s : Sys} {acc : Access} {k v : Nat} {ext : Ext} {r : Dict.Row} {w : Word} (hr : entryRow (keyIdx k) (keySub k) = some r)
    (hw : (s.clocked k).wordOf (writeReq acc k v) r = some w) (hn : (s.needed acc k r w ext).2 = 0)
    (h : (s.engineFree && (decide (s.frontCode (writeReq acc k v) (some r) = 0) && s.domainOn (domainOf (keyIdx k)) && s.reached (domainOf (keyIdx k)) &&
      r.st.testBit (devCode s.dev) && (s.clocked k).rangeOk ((s.clocked k).clsOf acc.who) k r w.toNat (intOf r w) && !(s.clocked k).storeBusy k r && acc.parity &&
      (!r.kept || (acc.copyA && !((s.clocked k).pair ((s.clocked k).storePair k)).building)) && decide (r.ty ≠ .domain))) = true) : s.accepts acc k v ext = true := by
  simp only [Bool.and_eq_true] at h
  obtain ⟨h0, ⟨⟨⟨⟨⟨⟨⟨⟨h1, h2⟩, h3⟩, h4⟩, h5⟩, h6⟩, h7⟩, h8⟩, h9⟩⟩ := h
  unfold accepts
  have e : entryRow (writeReq acc k v).idx (writeReq acc k v).sub = some r := hr
  rw [Bool.and_eq_true]
  refine ⟨h0, ?_⟩
  simp only [e, hw, h1, h2, h3, h4, h5, h6, h7, h8, h9, hn]
  rfl

/-- The engine accepts INSTALL of that map: the witness of the clause for INSTALL. -/
theorem witness_StitchAndUpdateCommandsAct_install : updState.accepts byFw (updKey 47 9) 5 { ok := true } = true := by
  have h := upd_check
  have hw : (updState.clocked (updKey 47 9)).wordOf (writeReq byFw (updKey 47 9) 5) updRow = some 5 := by
    obtain ⟨m, e⟩ := upd_mem
    rw [e]
    exact (by decide +kernel : (updBase.clocked (updKey 47 9)).wordOf (writeReq byFw (updKey 47 9) 5) updRow = some 5)
  refine accepts_of updRow_is hw ?_ ?_
  · unfold needed
    rw [need_mapUpdate (m := 31) (hk := by decide) (hm := by decide)]
    have hc : updState.clocked (updKey 47 9) = updState := by
      unfold clocked ungate; exact if_pos (by decide)
    rw [hc, (by decide : (5 : Word).toNat = 5)]
    generalize updState = u at h ⊢
    exact h
  · obtain ⟨m, e⟩ := upd_mem
    rw [e]
    exact (by decide +kernel : (updBase.engineFree && (decide (updBase.frontCode (writeReq byFw (updKey 47 9) 5) (some updRow) = 0) && updBase.domainOn (domainOf (keyIdx (updKey 47 9))) && updBase.reached (domainOf (keyIdx (updKey 47 9))) &&
      updRow.st.testBit (devCode updBase.dev) && (updBase.clocked (updKey 47 9)).rangeOk ((updBase.clocked (updKey 47 9)).clsOf byFw.who) (updKey 47 9) updRow (5 : Word).toNat (intOf updRow 5) && !(updBase.clocked (updKey 47 9)).storeBusy (updKey 47 9) updRow && byFw.parity &&
      (!updRow.kept || (byFw.copyA && !((updBase.clocked (updKey 47 9)).pair ((updBase.clocked (updKey 47 9)).storePair (updKey 47 9))).building)) && decide (updRow.ty ≠ .domain))) = true)


/-! ### Witnesses of the events -/

theorem witness_FramesAreProcessed_a :
    (let s := ({ toSys := sets (base .armed) [(Key.Port.STATE 1, 3)] } : State); let p : Fin 2 := 1; let f : Frame := (frame 0xFF 1 [1, 0, 0, 0]); decide (s.powered = true) && decide (s.intact p f = true) && decide (Sys.isEnum f 1 = true) && decide (s.forMe f = true ∨ f.dest = 0xFF) && decide (s.enumOpen p = true)) = true ∧
    (let s := ({ toSys := sets (base .armed) [(Key.Port.STATE 1, 3)] } : State); let p : Fin 2 := 1; let f : Frame := (frame 0xFF 1 [2, 0, 0, 0]); decide (s.powered = true) && decide (s.intact p f = true) && decide (Sys.isEnum f 2 = true) && decide (s.forMe f = true ∨ f.dest = 0xFF) && decide (s.enumOpen p = true)) = true ∧
    (let s := ({ toSys := sets (base .armed) [(Key.Port.STATE 1, 3)] } : State); let p : Fin 2 := 1; let f : Frame := (frame 0xFF 1 [3, 0, 0, 0]); decide (s.powered = true) && decide (s.intact p f = true) && decide (Sys.isEnum f 3 = true) && decide (s.forMe f = true ∨ f.dest = 0xFF) && decide (s.enumOpen p = true)) = true ∧
    (let s := ({ toSys := sets (base .armed) [(Key.Port.STATE 1, 3)] } : State); let p : Fin 2 := 1; let f : Frame := (frame 0xFF 1 [4, 0, 0, 0]); decide (s.powered = true) && decide (s.intact p f = true) && decide (Sys.isEnum f 4 = true) && decide (s.forMe f = true ∨ f.dest = 0xFF) && decide (s.enumOpen p = true)) = true ∧
    (let s := ({ toSys := sets (base .config) [(Key.Port.STATE 1, 3)] } : State); let p : Fin 2 := 1; let f : Frame := (frame 1 1 [5, 0, 0, 0]); decide (s.powered = true) && decide (s.intact p f = true) && decide (Sys.isEnum f 5 = true) && decide (s.forMe f = true) && decide (s.enumOpen p = true)) = true ∧
    (let s := ({ toSys := sets (base .armed) [(Key.Port.STATE 1, 3)] } : State); let p : Fin 2 := 1; let f : Frame := (frame 1 4 [0, 0, 0, 0, 0, 0, 0, 0]); decide (s.powered = true) && decide (s.intact p f = true) && decide (f.typ = 4) && decide (s.forMe f = true)) = true ∧
    (let s := ({ toSys := sets (base .armed) [(Key.Port.STATE 1, 3)] } : State); let p : Fin 2 := 1; let f : Frame := (frame 0xFF 9 [0, 0, 0, 0]); decide (s.powered = true) && decide (s.intact p f = true) && decide (f.typ = 9) && decide (s.forMe f = true ∨ f.dest = 0xFF)) = true ∧
    (let s := ({ toSys := sets (base .armed) [(Key.Port.STATE 1, 3)] } : State); let p : Fin 2 := 1; let f : Frame := (frame 0xFF 6 []); decide (s.powered = true) && decide (s.intact p f = true) && decide (f.typ = 6) && decide (s.forMe f = true ∨ f.dest = 0xFF)) = true := by decide +kernel

theorem witness_FramesAreProcessed_b :
    (let s := ({ toSys := sets (base .armed) [(Key.Port.STATE 1, 3)] } : State); let p : Fin 2 := 1; let f : Frame := (frame 1 7 []); decide (s.powered = true) && decide (s.intact p f = true) && decide (f.typ = 7) && decide (s.forMe f = true)) = true ∧
    (let s := ({ toSys := sets (base .armed) [(Key.Port.STATE 1, 3)] } : State); let p : Fin 2 := 1; let f : Frame := (frame 1 8 []); decide (s.powered = true) && decide (s.intact p f = true) && decide (f.typ = 8) && decide (s.forMe f = true)) = true ∧
    (let s := ({ toSys := sets (base .armed) [(Key.Port.STATE 1, 3)] } : State); let p : Fin 2 := 1; let f : Frame := (frame 1 11 []); decide (s.powered = true) && decide (s.intact p f = true) && decide (f.typ = 0x0B) && decide (s.forMe f = true)) = true ∧
    (let s := ({ toSys := sets (base .armed) [(Key.Port.STATE 1, 3)] } : State); let p : Fin 2 := 1; let f : Frame := (frame 1 2 []); decide (s.powered = true) && decide (s.intact p f = true) && decide (f.typ = 2) && decide (s.forMe f = true)) = true ∧
    (let s := ({ toSys := sets (base .armed) [(Key.Port.STATE 1, 3)] } : State); let p : Fin 2 := 1; let f : Frame := (frame 0xFF 3 []); decide (s.powered = true) && decide (s.intact p f = true) && decide (s.forMe f = true ∨ f.dest = 0xFF)) = true ∧
    (let s := ({ toSys := sets (base .armed) [(Key.Port.STATE 1, 3)] } : State); let p : Fin 2 := 1; let f : Frame := (frame 0xFA 3 []); decide (s.powered = true) && decide (s.intact p f = true) && decide (s.forMe f = false) && decide (f.dest ≠ 0xFF)) = true := by decide +kernel

theorem witness_PortEventsAct :
    (let s := ({ toSys := sets (base .armed) [(Key.Port.STATE 1, 3)] } : State); let p : Fin 2 := 1; let k : Fin 3 := 2; let cells : Nat := 1; decide (s.powered = true) && decide (s.portUp p = true)) = true ∧
    (let s := (({ toSys := sets (base .armed) [(Key.Port.STATE 1, 3)] } : State).on (fun u => u.modPort 1 (fun r => { r with freed := r.freed.set 2 1 }))); let p : Fin 2 := 1; let k : Fin 3 := 2; decide (s.powered = true) && decide (s.portUp p = true) && decide (0 < (s.port p).freed.get k)) = true ∧
    (let s := ({ toSys := sets (base .armed) [(Key.Port.STATE 1, 3)] } : State); let p : Fin 2 := 1; let addr : Nat := 7; let st : Nat := 3; let gateway : Bool := true; decide (s.powered = true) && decide (s.portUp p = true) && decide (¬(st = 4 ∧ (s.port p).nbState ≠ 4 ∧ s.rdB (Key.Port.ALARM_ON_LOSS p) = true))) = true ∧
    (let s := ({ toSys := sets (base .armed) [(Key.Port.STATE 1, 3)] } : State); let p : Fin 2 := 1; decide (s.powered = true) && decide (s.portUp p = true ∨ (s.port p).trained = true)) = true ∧
    (let s := ({ toSys := sets (base .armed) [(Key.Port.STATE 1, 3)] } : State); let p : Fin 2 := 1; decide (s.powered = true) && decide (s.portUp p = true) && decide ((s.port p).heardAt + 40000 ≤ s.clk)) = true ∧
    (let s := (({ toSys := sets (base .armed) [] } : State).on (fun u => u.modEndpoint 7 (fun e => { e with periodRuns := true }))); let n : Fin 8 := 7; decide (s.powered = true) && decide ((s.endpoint n).periodRuns = true) && decide ((s.endpoint n).creditAt + 1000 * s.rd (Key.Ep.CREDIT_PERIOD n) ≤ s.clk)) = true ∧
    (let s := (({ toSys := sets (base .armed) [] } : State).on (fun u => { u with chain := { u.chain with svcq := [{ req := { op := 0, idx := 0x8000, sub := 0, tag := 1, data := [] }, at_ := 0 }] } })); let tag : Nat := 1; let r : SvcReq := { req := { op := 0, idx := 0x8000, sub := 0, tag := 1, data := [] }, at_ := 0 }; decide (s.powered = true) && decide (s.chain.svcq.find? (fun r => decide (r.req.tag = tag)) = some r) && decide (r.at_ + 1000 * s.rd Key.Fws.SERVICE_TIMEOUT ≤ s.clk)) = true := by decide +kernel

theorem witness_DeviceAndNetworkEventsAct_a :
    (let s := (({ toSys := sets (base .ready) [] } : State).on (fun u => { u with pendState := some .config })); decide (s.powered = true) && decide (s.pendState = some .config) && decide (s.dev = .ready) && decide (s.allRest = true)) = true ∧
    (let s := (({ toSys := sets (base .ready) [] } : State).on (fun u => { u with eng := { u.eng with warmPending := true } })); decide (s.powered = true) && decide (s.eng.warmPending = true)) = true ∧
    (let s := (({ toSys := sets (base .armed) [] } : State).on (fun u => { u with pw := { u.pw with state := .off } })); decide (s.pw.state = .off)) = true ∧
    (let s := ({ toSys := sets (base .armed) [] } : State); decide (¬(s.pw.state = .off ∧ s.pw.pmic ≠ 15))) = true ∧
    (let s := ({ toSys := sets (base .start) [(Key.Restore.RESTORE_STATUS, 0)] } : State); let us : Nat := 1000; let bad : Nat := 0; decide (s.powered = true) && decide (s.dev = .start) && decide (s.rd Key.Restore.RESTORE_STATUS = 0) && decide (s.pw.state = .run)) = true ∧
    (let s := ({ toSys := sets (base .armed) [] } : State); decide (s.powered = true) && decide (s.pads.lsafe = true)) = true ∧
    (let s := (({ toSys := sets (base .armed) [] } : State).on (fun u => { u with pads := { u.pads with lsafe := false } })); decide (s.powered = true) && decide (s.pads.lsafe = false)) = true ∧
    (let s := (({ toSys := sets (base .config) [] } : State).on (fun u => { u with eng := { u.eng with command := some 3 } })); let bad : Nat := 1; decide (s.powered = true) && decide (s.eng.command = some 3)) = true := by decide +kernel

theorem witness_DeviceAndNetworkEventsAct_b :
    (let s := (({ toSys := sets (base .config) [] } : State).on (fun u => u.markCopy 15 true)); let pair : Fin 16 := 15; decide (s.powered = true) && decide ((s.pair pair).building = true)) = true ∧
    (let s := ({ toSys := sets (base .start) [], otp := [(2, 0x400)] } : State); let boot : Fin 4 := 1; let flash : List (List Nat) := []; decide (¬(s.pw.state = .off ∧ s.pw.pmic ≠ 15)) && decide (((Sys.otpByte s.otpWord 9).testBit 2 && !(Sys.otpByte s.otpWord 9).testBit 3) = true)) = true ∧
    (let s := (({ toSys := sets (base .start) [] } : State).on (fun u => { u with pw := { u.pw with state := .reset } })); let boot : Fin 4 := 1; let flash : List (List Nat) := []; decide (¬(s.pw.state = .off ∧ s.pw.pmic ≠ 15)) && decide (((Sys.otpByte s.otpWord 9).testBit 2 && !(Sys.otpByte s.otpWord 9).testBit 3) = false)) = true ∧
    (let s := (({ toSys := sets (base .start) [] } : State).on (fun u => { u with chain := { u.chain with boot := { u.chain.boot with asked := some 0 } } })); let t : Nat := 0; decide (s.powered = true) && decide (s.chain.boot.asked = some t) && decide (t + 10000000 ≤ s.clk)) = true ∧
    (let s := (({ toSys := sets (base .start) [] } : State).on (fun u => { u with chain := { u.chain with boot := { active := true, pause := some 0 } } })); let t : Nat := 0; decide (s.powered = true) && decide (s.chain.boot.pause = some t) && decide (t + 1000000000 ≤ s.clk)) = true ∧
    (let s := ({ toSys := sets (base .armed) [(Key.Gw.ENABLE, 1), (Key.Gw.MAC, 1)] } : State); let m : Fin 2 := 1; let d : List Nat := []; decide (s.powered = true) && decide (s.gatewayOn m = true)) = true ∧
    (let s := ({ toSys := sets (base .armed) [(Key.Gw.ENABLE, 1), (Key.Gw.MAC, 1), (Key.Mac.LINK 1, 3), (Key.Gw.LOCAL_IP, 0)] } : State); let m : Fin 2 := 1; let d : List Nat := (List.replicate 12 0 ++ [0x08, 0x06, 0, 1, 8, 0, 6, 4, 0, 1] ++ List.replicate 16 0 ++ [0, 0, 0, 0]); decide (s.powered = true) && decide (s.gatewayOn m = true) && decide (beAt d 12 2 = 0x0806) && decide (beAt d 14 2 = 1) && decide (beAt d 16 2 = 0x0800) && decide (u8At d 18 = 6) && decide (u8At d 19 = 4) && decide (beAt d 20 2 = 1) && decide (beAt d 38 4 = s.rd Key.Gw.LOCAL_IP) && decide (s.rd (Key.Mac.LINK m) = 3)) = true ∧
    (let s := ({ toSys := sets (base .armed) [(Key.Mac.ENABLE 1, 1), (Key.Mac.LINK 1, 3)] } : State); let m : Fin 2 := 1; let d : List Nat := (List.replicate 60 255); let fcsOk : Bool := true; let fec : Nat := 0; decide (s.powered = true) && decide ((s.macIn m d fcsOk fec).2 = true) && decide ((s.macIn m d fcsOk fec).1.gatewayOn m = false)) = true := by decide +kernel

theorem witness_DeviceAndNetworkEventsAct_c :
    (let s := ({ toSys := sets (base .armed) [(Key.Mac.ENABLE 1, 1), (Key.Mac.LINK 1, 3), (Key.MacRing.TX_LEN 1, 65536), (Key.MacRing.TX_TAIL 1, 1)] } : State); let m : Fin 2 := 1; let ok : Bool := true; decide (s.powered = true) && decide (s.rdB (Key.Mac.ENABLE m) = true) && decide (s.rd (Key.Mac.LINK m) = 3) && decide ((s.mac m).gw = []) && decide (s.ringWaits m = true)) = true ∧
    (let s := (({ toSys := sets (base .armed) [(Key.Mac.ENABLE 1, 1), (Key.Mac.LINK 1, 3), (Key.MacRing.TX_LEN 1, 65536), (Key.MacRing.TX_TAIL 1, 1)] } : State).on (fun u => u.modMac 1 (fun q => { q with gw := [[5]], passed := 3 }))); let m : Fin 2 := 1; let ok : Bool := true; let d : List Nat := [5]; let rest : List (List Nat) := []; decide (s.powered = true) && decide (s.rdB (Key.Mac.ENABLE m) = true) && decide (s.rd (Key.Mac.LINK m) = 3) && decide ((s.mac m).gw = d :: rest) && decide (s.ringWaits m = false ∨ (s.mac m).passed < 4)) = true ∧
    (let s := ({ toSys := sets (base .armed) [(Key.Mac.ENABLE 1, 1), (Key.Mac.LINK 1, 3)] } : State); let m : Fin 2 := 1; let st : Fin 4 := 1; let hiBer : Bool := true; let fecBad : Nat := 1; decide (s.powered = true) && decide (s.rdB (Key.Mac.ENABLE m) = true) && decide (st.val < 2 ∨ s.rd (Key.Lane.STAGE (s.rd (Key.Mac.LANE m))) = 4)) = true := by decide +kernel

theorem witness_ScanEventsAct_a :
    (let s := ({ toSys := sets (base .armed) [(Key.Ep.ENABLE 7, 1), (Key.Ep.CONSUMER 7, 1), (Key.Ep.CONSUMER_INDEX 7, 15), (Key.Ch.STATE 15, 1), (Key.EpSt.NEXT_OFFSET 7, 8256)] } : State); let c : Fin 16 := 15; let ok : Bool := true; let n : Nat := 7; decide (s.powered = true) && decide (s.runs (Sys.chDomain c) = true) && decide (s.consumersRun = true) && decide (s.feeder 1 c = some n) && decide (s.chState c ≠ 0) && decide (s.chState c ≠ 5) && decide ((s.ch c).fetchEnd = false) && decide (8256 ≤ (s.rd (Key.EpSt.NEXT_OFFSET n) + 2 ^ 32 - (s.ch c).fetch) % 2 ^ 32) && decide ((s.rd (Key.EpSt.NEXT_OFFSET n) + 2 ^ 32 - (s.ch c).fetch) % 2 ^ 32 < 2 ^ 31) && decide (s.rdB (Key.Queue.RESYNC c) = false)) = true ∧
    (let s := (({ toSys := sets (base .armed) [(Key.Ch.STATE 15, 1), (Key.Queue.QUEUE_ADDR 15, 0x10000000)] } : State).on (fun u => { u.modCh 15 (fun q => { q with blocks := [{ place := 0, seq := 1, layer := 0, count := 1, endAfter := false }] }) with mem := [(0x10000040, 6)] })); let c : Fin 16 := 15; let d : Desc := { op := 6, seq := 1, last := true }; decide (s.powered = true) && decide (s.runs (Sys.chDomain c) = true) && decide (s.chState c ≠ 0) && decide (s.chState c < 4) && decide ((s.ch c).halt = none) && decide ((s.ch c).look.length < 16) && decide (s.nextDesc c = some d) && decide (d.op ≠ 256) && decide (d.op ≠ 10) && decide (d.op ≠ 512) && decide (s.descBad c (s.lims c) (s.lookTail c (s.lims c)).1 d = false) && decide (s.descInside c (s.lims c) (s.lookTail c (s.lims c)).1 (s.lookTail c (s.lims c)).2 d = true)) = true ∧
    (let s := (({ toSys := sets (base .armed) [(Key.Ch.STATE 15, 1), (Key.Queue.QUEUE_ADDR 15, 0x10000000), (Key.Area.X_MIN 15, 1)] } : State).on (fun u => { u.modCh 15 (fun q => { q with blocks := [{ place := 0, seq := 1, layer := 0, count := 1, endAfter := false }] }) with mem := [(0x10000040, 1)] })); let c : Fin 16 := 15; let d : Desc := (s.nextDesc 15).getD { op := 0 }; decide (s.powered = true) && decide (s.runs (Sys.chDomain c) = true) && decide (s.chState c ≠ 0) && decide (s.chState c < 4) && decide ((s.ch c).halt = none) && decide ((s.ch c).look.length < 16) && decide (s.nextDesc c = some d) && decide (d.op ≠ 256) && decide (d.op ≠ 10) && decide (d.op ≠ 512) && decide (d.op ≠ 9) && decide (s.descBad c (s.lims c) (s.lookTail c (s.lims c)).1 d = false) && decide (s.descInside c (s.lims c) (s.lookTail c (s.lims c)).1 (s.lookTail c (s.lims c)).2 d = false)) = true ∧
    (let s := (({ toSys := sets (base .armed) [(Key.Ch.STATE 15, 1), (Key.Queue.QUEUE_ADDR 15, 0x10000000)] } : State).on (fun u => { u.modCh 15 (fun q => { q with blocks := [{ place := 0, seq := 1, layer := 0, count := 1, endAfter := false }] }) with mem := [(0x10000040, 14)] })); let c : Fin 16 := 15; let d : Desc := (s.nextDesc 15).getD { op := 0 }; decide (s.powered = true) && decide (s.runs (Sys.chDomain c) = true) && decide (s.chState c ≠ 0) && decide (s.chState c < 4) && decide ((s.ch c).halt = none) && decide ((s.ch c).look.length < 16) && decide (s.nextDesc c = some d) && decide (d.op ≠ 256) && decide (d.op ≠ 10) && decide (d.op ≠ 512) && decide (s.descBad c (s.lims c) (s.lookTail c (s.lims c)).1 d = true)) = true ∧
    (let s := (({ toSys := sets (base .armed) [(Key.Ch.STATE 15, 1), (Key.Queue.QUEUE_ADDR 15, 0x10000000), (Key.Ch.MODE 15, 1)] } : State).on (fun u => { u.modCh 15 (fun q => { q with blocks := [{ place := 0, seq := 1, layer := 0, count := 1, endAfter := false }] }) with mem := [(0x10000040, 0)] })); let c : Fin 16 := 15; let d : Desc := (s.nextDesc 15).getD { op := 0 }; decide (s.powered = true) && decide (s.runs (Sys.chDomain c) = true) && decide (s.chState c ≠ 0) && decide (s.chState c < 4) && decide ((s.ch c).halt = none) && decide ((s.ch c).look.length < 16) && decide (s.nextDesc c = some d) && decide (d.op = 512)) = true ∧
    (let s := (({ toSys := sets (base .armed) [(Key.Ch.STATE 15, 1), (Key.Queue.QUEUE_ADDR 15, 0x10000000)] } : State).on (fun u => u.modCh 15 (fun q => { q with link := some { addr := 0, next := 1, count := 1, layer := 0, seq := 0, dx := 0, dy := 0, last := false } }))); let c : Fin 16 := 15; let d : Desc := (s.nextDesc 15).getD { op := 0 }; decide (s.powered = true) && decide (s.runs (Sys.chDomain c) = true) && decide (s.chState c ≠ 0) && decide (s.chState c < 4) && decide ((s.ch c).halt = none) && decide ((s.ch c).look.length < 16) && decide (s.nextDesc c = some d) && decide (d.op = 256)) = true ∧
    (let s := (({ toSys := sets (base .armed) [(Key.Ch.STATE 15, 1), (Key.Queue.QUEUE_ADDR 15, 0x10000000)] } : State).on (fun u => { u.modCh 15 (fun q => { q with blocks := [{ place := 0, seq := 1, layer := 0, count := 1, endAfter := false }] }) with mem := [(0x10000040, 10), (0x10000047, 16)] })); let c : Fin 16 := 15; let d : Desc := (s.nextDesc 15).getD { op := 0 }; let ok : Bool := true; decide (s.powered = true) && decide (s.runs (Sys.chDomain c) = true) && decide (s.chState c ≠ 0) && decide (s.chState c < 4) && decide ((s.ch c).halt = none) && decide ((s.ch c).look.length < 16) && decide (s.nextDesc c = some d) && decide (d.op = 10) && decide (s.descBad c (s.lims c) (s.lookTail c (s.lims c)).1 d = false)) = true ∧
    (let s := (({ toSys := sets (base .armed) [(Key.Ch.STATE 15, 1), (Key.Queue.QUEUE_ADDR 15, 0x10000000)] } : State).on (fun u => { u.modCh 15 (fun q => { q with blocks := [{ place := 0, seq := 1, layer := 0, count := 1, endAfter := false }] }) with mem := [(0x10000040, 6)] })); let c : Fin 16 := 15; let d : Desc := (s.nextDesc 15).getD { op := 0 }; decide (s.powered = true) && decide (s.runs (Sys.chDomain c) = true) && decide (s.chState c ≠ 0) && decide (s.chState c < 4) && decide ((s.ch c).halt = none) && decide ((s.ch c).look.length < 16) && decide (s.nextDesc c = some d) && decide (d.op ≠ 10)) = true := by decide +kernel

theorem witness_ScanEventsAct_b :
    (let s := ({ toSys := sets (base .armed) [(Key.Ch.STATE 15, 2), (Key.Ch.TRIGGER 15, 0), (Key.Trig.LAST_TIME 0, 100)] } : State); let c : Fin 16 := 15; let ok : Bool := true; decide (s.powered = true) && decide (s.runs (Sys.chDomain c) = true) && decide (s.chState c ≠ 0) && decide ((s.ch c).sampled < s.rd (Key.Trig.LAST_TIME (s.rd (Key.Ch.TRIGGER c))))) = true ∧
    (let s := (({ toSys := sets (base .armed) [(Key.Ch.STATE 15, 2)] } : State).on (fun u => u.modCh 15 (fun q => { q with cur := some { op := 6, a := 5 } }))); let c : Fin 16 := 15; let d : Desc := { op := 6, a := 5 }; decide (s.powered = true) && decide (s.runs (Sys.chDomain c) = true) && decide ((s.ch c).cur = some d) && decide (d.op = 6) && decide (s.chState c = 2) && decide (d.a + 2 ^ 32 * d.b ≤ s.now)) = true ∧
    (let s := (({ toSys := sets (base .armed) [(Key.Ch.STATE 15, 2)] } : State).on (fun u => u.modCh 15 (fun q => { q with cur := some { op := 7, a := 5 }, waitSince := some 0 }))); let c : Fin 16 := 15; let d : Desc := { op := 7, a := 5 }; let t : Nat := 0; decide (s.powered = true) && decide (s.runs (Sys.chDomain c) = true) && decide ((s.ch c).cur = some d) && decide ((s.ch c).waitSince = some t) && decide (d.op = 7) && decide (s.chState c = 2) && decide (d.a ≠ 0) && decide (t + d.a * 1000 ≤ s.now) && decide (s.rd (Key.Cap.COUNT (d.param % 32)) = (s.ch c).waitCount)) = true ∧
    (let s := (({ toSys := sets (base .armed) [(Key.Mod.READY_TIMEOUT 15, 1)] } : State).on (fun u => u.modCh 15 (fun q => { q with enabledAt := some 0 }))); let c : Fin 16 := 15; let t : Nat := 0; decide (s.powered = true) && decide ((s.ch c).enabledAt = some t) && decide (s.rd (Key.Mod.READY_TIMEOUT c) ≠ 0) && decide (t + s.rd (Key.Mod.READY_TIMEOUT c) * 1000000 ≤ s.clk) && decide (s.stsReady c = false)) = true ∧
    (let s := ({ toSys := sets (base .armed) [] } : State); let c : Fin 16 := 15; let level : Bool := true; decide (s.domainOn 11 = true)) = true ∧
    (let s := ({ toSys := sets (base .start) [(Key.Dom.ENABLE, 0xF7FF)] } : State); let c : Fin 16 := 15; let level : Bool := true; decide (s.domainOn 11 = false)) = true ∧
    (let s := ({ toSys := sets (base .armed) [(Key.Ch.MODE 15, 1), (Key.Ch.STATE 15, 2)] } : State); let c : Fin 16 := 15; decide (s.powered = true) && decide (s.runs (Sys.chDomain c) = true) && decide (s.rd (Key.Ch.MODE c) = 1) && decide (s.chState c = 2) && decide ((s.ch c).rasWait + s.rd (Key.Raster.SOS_TIMEOUT c) ≤ s.clk)) = true ∧
    (let s := (({ toSys := sets (base .armed) [(Key.Ch.STATE 15, 2)] } : State).on (fun u => u.modCh 15 (fun q => { q with look := [{ op := 1, a := 5 }] }))); let c : Fin 16 := 15; let d : Desc := { op := 1, a := 5 }; let rest : List Desc := []; decide (s.powered = true) && decide (s.runs (Sys.chDomain c) = true) && decide (s.chState c = 2) && decide ((s.ch c).cur = none) && decide ((s.ch c).look = d :: rest) && decide (d.op = 1) && decide ((s.ch c).pause = false) && decide ((s.ch c).fresh = false) && decide ((s.ch c).starved = false)) = true := by decide +kernel

theorem witness_ScanEventsAct_c :
    (let s := (({ toSys := sets (base .armed) [(Key.Ch.STATE 15, 2)] } : State).on (fun u => u.modCh 15 (fun q => { q with look := [{ op := 2, a := 5 }] }))); let c : Fin 16 := 15; let d : Desc := { op := 2, a := 5 }; let rest : List Desc := []; decide (s.powered = true) && decide (s.runs (Sys.chDomain c) = true) && decide (s.chState c = 2) && decide ((s.ch c).cur = none) && decide ((s.ch c).look = d :: rest) && decide (d.op = 2) && decide ((s.ch c).pause = false) && decide ((s.ch c).fresh = false) && decide ((s.ch c).starved = false)) = true ∧
    (let s := (({ toSys := sets (base .armed) [(Key.Ch.STATE 15, 2)] } : State).on (fun u => u.modCh 15 (fun q => { q with look := [{ op := 3, a := 5 }] }))); let c : Fin 16 := 15; let d : Desc := { op := 3, a := 5 }; let rest : List Desc := []; decide (s.powered = true) && decide (s.runs (Sys.chDomain c) = true) && decide (s.chState c = 2) && decide ((s.ch c).cur = none) && decide ((s.ch c).look = d :: rest) && decide (d.op = 3) && decide ((s.ch c).pause = false) && decide ((s.ch c).fresh = false) && decide ((s.ch c).starved = false)) = true ∧
    (let s := (({ toSys := sets (base .armed) [(Key.Ch.STATE 15, 2)] } : State).on (fun u => u.modCh 15 (fun q => { q with look := [{ op := 4, a := 5 }] }))); let c : Fin 16 := 15; let d : Desc := { op := 4, a := 5 }; let rest : List Desc := []; decide (s.powered = true) && decide (s.runs (Sys.chDomain c) = true) && decide (s.chState c = 2) && decide ((s.ch c).cur = none) && decide ((s.ch c).look = d :: rest) && decide (d.op = 4) && decide ((s.ch c).pause = false) && decide ((s.ch c).fresh = false) && decide ((s.ch c).starved = false)) = true ∧
    (let s := (({ toSys := sets (base .armed) [(Key.Ch.STATE 15, 2)] } : State).on (fun u => u.modCh 15 (fun q => { q with look := [{ op := 5, a := 5 }] }))); let c : Fin 16 := 15; let d : Desc := { op := 5, a := 5 }; let rest : List Desc := []; decide (s.powered = true) && decide (s.runs (Sys.chDomain c) = true) && decide (s.chState c = 2) && decide ((s.ch c).cur = none) && decide ((s.ch c).look = d :: rest) && decide (d.op = 5) && decide ((s.ch c).pause = false) && decide ((s.ch c).fresh = false) && decide ((s.ch c).starved = false)) = true ∧
    (let s := (({ toSys := sets (base .armed) [(Key.Ch.STATE 15, 2)] } : State).on (fun u => u.modCh 15 (fun q => { q with look := [{ op := 6, a := 5 }] }))); let c : Fin 16 := 15; let d : Desc := { op := 6, a := 5 }; let rest : List Desc := []; decide (s.powered = true) && decide (s.runs (Sys.chDomain c) = true) && decide (s.chState c = 2) && decide ((s.ch c).cur = none) && decide ((s.ch c).look = d :: rest) && decide (d.op = 6) && decide ((s.ch c).pause = false) && decide ((s.ch c).fresh = false) && decide ((s.ch c).starved = false)) = true ∧
    (let s := (({ toSys := sets (base .armed) [(Key.Ch.STATE 15, 2)] } : State).on (fun u => u.modCh 15 (fun q => { q with look := [{ op := 7, a := 5 }] }))); let c : Fin 16 := 15; let d : Desc := { op := 7, a := 5 }; let rest : List Desc := []; decide (s.powered = true) && decide (s.runs (Sys.chDomain c) = true) && decide (s.chState c = 2) && decide ((s.ch c).cur = none) && decide ((s.ch c).look = d :: rest) && decide (d.op = 7) && decide ((s.ch c).pause = false) && decide ((s.ch c).fresh = false) && decide ((s.ch c).starved = false)) = true ∧
    (let s := (({ toSys := sets (base .armed) [(Key.Ch.STATE 15, 2)] } : State).on (fun u => u.modCh 15 (fun q => { q with look := [{ op := 8, a := 5 }] }))); let c : Fin 16 := 15; let d : Desc := { op := 8, a := 5 }; let rest : List Desc := []; decide (s.powered = true) && decide (s.runs (Sys.chDomain c) = true) && decide (s.chState c = 2) && decide ((s.ch c).cur = none) && decide ((s.ch c).look = d :: rest) && decide (d.op = 8) && decide ((s.ch c).pause = false) && decide ((s.ch c).fresh = false) && decide ((s.ch c).starved = false)) = true ∧
    (let s := (({ toSys := sets (base .armed) [(Key.Ch.STATE 15, 2)] } : State).on (fun u => u.modCh 15 (fun q => { q with look := [{ op := 9, a := 5 }] }))); let c : Fin 16 := 15; let d : Desc := { op := 9, a := 5 }; let rest : List Desc := []; decide (s.powered = true) && decide (s.runs (Sys.chDomain c) = true) && decide (s.chState c = 2) && decide ((s.ch c).cur = none) && decide ((s.ch c).look = d :: rest) && decide (d.op = 9) && decide ((s.ch c).pause = false) && decide ((s.ch c).fresh = false) && decide ((s.ch c).starved = false)) = true := by decide +kernel

theorem witness_ScanEventsAct_d :
    (let s := (({ toSys := sets (base .armed) [(Key.Ch.STATE 15, 2)] } : State).on (fun u => u.modCh 15 (fun q => { q with look := [{ op := 10, a := 5 }] }))); let c : Fin 16 := 15; let d : Desc := { op := 10, a := 5 }; let rest : List Desc := []; decide (s.powered = true) && decide (s.runs (Sys.chDomain c) = true) && decide (s.chState c = 2) && decide ((s.ch c).cur = none) && decide ((s.ch c).look = d :: rest) && decide (d.op = 10) && decide ((s.ch c).pause = false) && decide ((s.ch c).fresh = false) && decide ((s.ch c).starved = false)) = true ∧
    (let s := (({ toSys := sets (base .armed) [(Key.Ch.STATE 15, 2)] } : State).on (fun u => u.modCh 15 (fun q => { q with look := [{ op := 15, a := 5 }] }))); let c : Fin 16 := 15; let d : Desc := { op := 15, a := 5 }; let rest : List Desc := []; decide (s.powered = true) && decide (s.runs (Sys.chDomain c) = true) && decide (s.chState c = 2) && decide ((s.ch c).cur = none) && decide ((s.ch c).look = d :: rest) && decide (d.op = 15) && decide ((s.ch c).pause = false) && decide ((s.ch c).fresh = false) && decide ((s.ch c).starved = false)) = true := by decide +kernel

theorem witness_LoopStitchUpdateEventsAct_a :
    (let s := (({ toSys := sets (base .ready) [] } : State).on (fun u => u.modSlot 63 (fun q => { q with due := [{ at_ := 0, count := 0 }] }))); let n : Fin 64 := 63; let code : Int := 1; let ok : Bool := true; let wait : Nat := 1; let stateOk : Bool := true; let readOk : Bool := true; decide (s.powered = true) && decide (s.runs (Sys.slotDomain n) = true) && decide ((s.slot n).due ≠ [])) = true ∧
    (let s := ({ toSys := sets (base .armed) [] } : State); let n : Fin 64 := 63; let broken : Bool := true; decide (s.powered = true)) = true ∧
    (let s := (({ toSys := sets (base .fault) [(Key.Slot.STATE 63, 1)] } : State).on (fun u => u.modSlot 63 (fun q => { q with leaving := true }))); let n : Fin 64 := 63; decide (s.powered = true) && decide (s.runs (Sys.slotDomain n) = true) && decide ((s.slot n).leaving = true) && decide ((s.slot n).leaveAt ≤ s.clk) && decide (s.slotState n = 1 ∨ s.slotState n = 2)) = true ∧
    (let s := ({ toSys := sets (base .armed) [] } : State); let c : Fin 16 := 15; let a : List Nat := []; let b : List Nat := []; let ok : Bool := true; let readOk : Bool := true; decide (s.powered = true) && decide (s.runs 11 = true)) = true ∧
    (let s := ({ toSys := sets (base .armed) [] } : State); let c : Fin 16 := 15; let a : Bool := true; let b : Bool := false; decide (s.powered = true) && decide (a ≠ b)) = true ∧
    (let s := ({ toSys := sets (base .armed) [] } : State); decide (s.powered = true)) = true ∧
    (let s := (({ toSys := sets (base .armed) [] } : State).on (fun u => { u with stitch := { u.stitch with collects := [{ at_ := 0, code := 1, channels := [15], heads := [] }] } })); let k : Collect := { at_ := 0, code := 1, channels := [15], heads := [] }; let rest : List Collect := []; decide (s.powered = true) && decide (s.stitch.collects = k :: rest) && decide (k.at_ + 1000 ≤ s.now) && decide (k.heads = []) && decide (k.channels ≠ [])) = true ∧
    (let s := (({ toSys := sets (base .armed) [] } : State).on (fun u => { u with stitch := { u.stitch with collects := [{ at_ := 0, code := 1, channels := [], heads := [31] }] } })); let k : Collect := { at_ := 0, code := 1, channels := [], heads := [31] }; let rest : List Collect := []; decide (s.powered = true) && decide (s.stitch.collects = k :: rest) && decide (k.at_ + 1000 ≤ s.now) && decide (k.channels = []) && decide (k.heads ≠ [])) = true := by decide +kernel

theorem witness_LoopStitchUpdateEventsAct_b :
    (let s := ({ toSys := sets (base .armed) [] } : State); decide (s.powered = true)) = true ∧
    (let s := ({ toSys := sets (base .ready) [(Sys.updKey 47 0x0A, 1)] } : State); let m : Fin 48 := 47; let ok : Bool := true; decide (s.powered = true) && decide (s.rd (Sys.updKey m 0x0A) = 1)) = true ∧
    (let s := ({ toSys := sets (base .ready) [(Sys.updKey 47 0x0A, 2)] } : State); let m : Fin 48 := 47; let ok : Bool := true; let verified : Bool := true; let off : Nat := 1; decide (s.powered = true) && decide (s.rd (Sys.updKey m 0x0A) = 2)) = true ∧
    (let s := ({ toSys := sets (base .ready) [(Sys.updKey 47 0x0A, 3)] } : State); let m : Fin 48 := 47; decide (s.powered = true) && decide (s.rd (Sys.updKey m 0x0A) = 3) && decide (s.rd (Sys.updKey m 0x0E) + s.rd (Sys.updKey m 6) * 1000 ≤ s.now)) = true ∧
    (let s := (({ toSys := sets (base .ready) [] } : State).on (fun u => { u with cal := { u.cal with copies := [47] } })); let m : Nat := 47; let rest : List Nat := []; let staging : Fin 3 := 2; let slot : Fin 3 := 2; decide (s.powered = true) && decide (s.cal.copies = m :: rest)) = true ∧
    (let s := (({ toSys := sets (base .ready) [] } : State).on (fun u => { u with cal := { u.cal with copies := [47] } })); let m : Nat := 47; let rest : List Nat := []; let slot : Fin 3 := 2; decide (s.powered = true) && decide (s.cal.copies = m :: rest)) = true ∧
    (let s := (({ toSys := sets (base .ready) [] } : State).on (fun u => { u with cal := { u.cal with copies := [47] } })); let m : Nat := 47; let rest : List Nat := []; let staging : Fin 3 := 1; decide (s.powered = true) && decide (s.cal.copies = m :: rest) && decide (staging.val < 2)) = true ∧
    (let s := (({ toSys := sets (base .ready) [] } : State).on (fun u => { u with cal := { u.cal with copies := [47] } })); let m : Nat := 47; let rest : List Nat := []; let staging : Fin 3 := 1; let slot : Fin 3 := 1; decide (s.powered = true) && decide (s.cal.copies = m :: rest) && decide (staging.val < 2) && decide (slot.val < 2)) = true := by decide +kernel

theorem witness_LoopStitchUpdateEventsAct_c :
    (let s := ({ toSys := sets (base .armed) [(Key.Ep.ENABLE 7, 1), (Key.Ep.CONSUMER 7, 3)] } : State); let ok : Bool := true; decide (s.powered = true) && decide (((List.range 8).find? (fun n => s.rdB (Key.Ep.ENABLE n) && decide (s.rd (Key.Ep.CONSUMER n) = 3))).isSome = true)) = true := by decide +kernel

theorem witness_PrintEventsAct_a :
    (let s := (({ toSys := sets (base .armed) [(Key.Ep.ENABLE 7, 1), (Key.Ep.CONSUMER 7, 2), (Key.Ep.CONSUMER_INDEX 7, 3), (Key.Grp.STATE 3, 2), (Key.EpSt.NEXT_OFFSET 7, 64), (Key.Grp.RESYNC 3, 0), (Key.Ep.RING_ADDR 7, 0x10000000), (Key.Ep.RING_LEN 7, 65536)] } : State).on (fun u => ({ u with mem := [(0x10000002, 1)] } : Sys).modEndpoint 7 (fun e => { e with wpos := 64 }))); let g : Fin 4 := 3; let n : Nat := 7; decide (s.powered = true) && decide (s.runs 12 = true) && decide (s.feeder 2 g = some n) && decide (s.swathReady g n = true)) = true ∧
    (let s := ({ toSys := sets (base .armed) [(Key.Ep.ENABLE 7, 1), (Key.Ep.CONSUMER 7, 2), (Key.Ep.CONSUMER_INDEX 7, 3), (Key.Grp.STATE 3, 2), (Key.EpSt.NEXT_OFFSET 7, 64)] } : State); let g : Fin 4 := 3; let ok : Bool := true; let n : Nat := 7; decide (s.powered = true) && decide (s.runs 12 = true) && decide (s.feeder 2 g = some n) && decide (s.grpState g ≠ 0) && decide (s.grpState g ≠ 6) && decide ((s.group g).fetchEnd = false) && decide (64 ≤ s.sliceBytes n g) && decide (s.sliceBytes n g < 2 ^ 31)) = true ∧
    (let s := (({ toSys := sets (base .armed) [(Key.Head.ENABLE 31, 1), (Key.Head.GROUP 31, 3), (Key.Grp.STATE 3, 3), (Key.Head.LINK 31, 7), (Key.Link.STATE 7, 3), (Key.Link.DEPTH 7, 1)] } : State).on (fun u => u.modGroup 3 (fun q => { q with slices := [{ col := 0, cols := 1, heads := 1, rowbase := 0, at_ := 0, size := 0, lastOne := true }] }))); let h : Fin 32 := 31; let ok : Bool := true; let sl : Slice := { col := 0, cols := 1, heads := 1, rowbase := 0, at_ := 0, size := 0, lastOne := true }; decide (s.powered = true) && decide (s.runs 12 = true) && decide (s.rdB (Key.Head.ENABLE h) = true) && decide (s.grpState (s.rd (Key.Head.GROUP h)) = 3) && decide ((s.group (s.rd (Key.Head.GROUP h))).suppress = none) && decide (s.linkUp (s.rd (Key.Head.LINK h)) = true) && decide ((s.head h).evs.length < s.rd (Key.Link.DEPTH (s.rd (Key.Head.LINK h)))) && decide (s.sliceOf (s.rd (Key.Head.GROUP h)) (s.head h).next = some sl)) = true ∧
    (let s := ({ toSys := sets (base .armed) [] } : State); let l : Fin 8 := 7; let body : List Nat := []; decide (s.powered = true) && decide (s.runs 12 = true)) = true ∧
    (let s := (({ toSys := sets (base .armed) [(Key.Head.LINK 31, 7)] } : State).on (fun u => u.modHead 31 (fun q => { q with evs := [{ col := 0, sentAt := 0, tries := 15 }] }))); let h : Fin 32 := 31; let e : Ev := { col := 0, sentAt := 0, tries := 15 }; decide (s.powered = true) && decide (s.runs 12 = true) && decide ((s.head h).evs.find? (fun e => !e.acked && !e.dead && decide (e.sentAt + s.rd (Key.Link.ACK_TIMEOUT (s.rd (Key.Head.LINK h))) ≤ s.clk)) = some e) && decide (s.rd (Key.Link.RETRIES (s.rd (Key.Head.LINK h))) ≤ e.tries)) = true ∧
    (let s := ({ toSys := sets (base .armed) [] } : State); let e : Fin 6 := 5; let a : Bool := true; let b : Bool := false; decide (s.powered = true) && decide (¬(a = (s.enc e).a ∧ b = (s.enc e).b)) && decide (s.runs 12 = true)) = true ∧
    (let s := ({ toSys := sets (base .armed) [] } : State); let e : Fin 6 := 5; decide (s.powered = true)) = true ∧
    (let s := ({ toSys := sets (base .armed) [] } : State); let e : Fin 6 := 5; decide (s.powered = true) && decide (s.runs 12 = true)) = true := by decide +kernel

theorem witness_PrintEventsAct_b :
    (let s := ({ toSys := sets (base .armed) [] } : State); let e : Fin 6 := 5; let leg : Fin 3 := 2; let broken : Bool := true; decide (s.powered = true) && decide (s.runs 12 = true)) = true ∧
    (let s := ({ toSys := sets (base .ready) [(Key.Dom.ENABLE, 0xEFFF)] } : State); let x : Fin 8 := 7; let rising : Bool := true; decide (s.powered = true) && decide (s.mtuRuns = false)) = true ∧
    (let s := ({ toSys := sets (base .ready) [] } : State); let x : Fin 8 := 7; let rising : Bool := true; decide (s.powered = true) && decide (s.mtuRuns = true)) = true ∧
    (let s := (({ toSys := sets (base .armed) [(Key.Grp.FIRE_MASK 3, 0x8000), (Key.Grp.STATE 3, 3)] } : State).on (fun u => { u with pen := { u.pen with fires := u.pen.fires.setIfInBounds 15 { due := some 0 } } })); let f : Fin 16 := 15; let g : Nat := 3; let t : Nat := 0; decide (s.powered = true) && decide (s.runs 12 = true) && decide (s.fireGroup f = some g) && decide ((s.fire f).due = some t) && decide (t ≤ s.now * 1000) && decide (s.colExists g (s.fire f).k = true)) = true ∧
    (let s := (({ toSys := sets (base .armed) [(Key.Grp.STATE 3, 3)] } : State).on (fun u => u.modGroup 3 (fun q => { q with complete := true }))); let g : Fin 4 := 3; decide (s.powered = true) && decide (s.runs 12 = true) && decide (s.grpState g = 3) && decide (s.swathDone g = true)) = true ∧
    (let s := (({ toSys := sets (base .armed) [(Key.Grp.STATE 3, 4)] } : State).on (fun u => u.modGroup 3 (fun q => { q with settleAt := some 0 }))); let g : Fin 4 := 3; let t : Nat := 0; decide (s.powered = true) && decide (s.runs 12 = true) && decide ((s.group g).settleAt = some t) && decide (s.grpState g = 4) && decide (t + s.rd (Key.GrpMask.FEED_SETTLE g) * 1000 ≤ s.clk)) = true := by decide +kernel

theorem witness_HeadLinkEventsAct_a :
    (let s := ({ toSys := sets (base .armed) [(Key.Link.STATE 7, 3)] } : State); let l : Fin 8 := 7; let body : List Nat := []; decide (s.powered = true) && decide (s.runs 12 = true) && decide (s.linkUp l = true)) = true ∧
    (let s := ({ toSys := sets (base .armed) [(Key.Link.STATE 7, 3)] } : State); let l : Fin 8 := 7; let body : List Nat := []; decide (s.powered = true) && decide (s.runs 12 = true) && decide (s.linkUp l = true)) = true ∧
    (let s := ({ toSys := sets (base .armed) [(Key.Link.STATE 7, 3)] } : State); let l : Fin 8 := 7; let body : List Nat := []; decide (s.powered = true) && decide (s.runs 12 = true) && decide (s.linkUp l = true)) = true ∧
    (let s := ({ toSys := sets (base .armed) [(Key.Link.STATE 7, 3)] } : State); let l : Fin 8 := 7; let body : List Nat := []; decide (s.powered = true) && decide (s.runs 12 = true) && decide (s.linkUp l = true)) = true ∧
    (let s := ({ toSys := sets (base .armed) [(Key.Link.STATE 7, 3)] } : State); let l : Fin 8 := 7; let depth : Nat := 1; let ports : Nat := 1; decide (s.powered = true) && decide (s.runs 12 = true) && decide (3 ≤ s.rd (Key.Link.STATE l))) = true ∧
    (let s := (({ toSys := sets (base .armed) [(Key.Link.STATE 7, 2)] } : State).on (fun u => u.modLink 7 (fun q => { q with trained := true }))); let l : Fin 8 := 7; let depth : Nat := 1; let ports : Nat := 1; decide (s.powered = true) && decide (s.runs 12 = true) && decide (s.rd (Key.Link.STATE l) = 2) && decide ((s.hlink l).trained = true)) = true ∧
    (let s := ({ toSys := sets (base .armed) [(Key.Link.STATE 7, 3)] } : State); let l : Fin 8 := 7; decide (s.powered = true) && decide (s.runs 12 = true) && decide (s.linkUp l = true) && decide ((s.hlink l).heardAt + 40000 ≤ s.clk)) = true ∧
    (let s := ({ toSys := sets (base .armed) [(Key.Link.STATE 7, 3)] } : State); let l : Fin 8 := 7; decide (s.powered = true) && decide (s.runs 12 = true) && decide (s.linkUp l = true ∨ (s.hlink l).trained = true)) = true := by decide +kernel

theorem witness_HeadLinkEventsAct_b :
    (let s := ({ toSys := sets (base .armed) [(Key.Link.STATE 7, 3)] } : State); let l : Fin 8 := 7; let kind : Fin 4 := 3; decide (s.powered = true) && decide (s.runs 12 = true) && decide (s.linkUp l = true)) = true ∧
    (let s := (({ toSys := sets (base .config) [] } : State).on (fun u => u.modLink 7 (fun q => { q with ctrlAt := some 0 }))); let l : Fin 8 := 7; let t : Nat := 0; decide (s.powered = true) && decide (s.runs 12 = true) && decide ((s.hlink l).ctrlAt = some t) && decide (t + 10000000 ≤ s.clk)) = true ∧
    (let s := ({ toSys := sets (base .armed) [(Key.HeadTemp.TEMP_SRC 31, 0)] } : State); let h : Fin 32 := 31; let code : Fin 4096 := 4095; decide (s.powered = true) && decide (s.runs 12 = true) && decide (s.rd (Key.HeadTemp.TEMP_SRC h) ≠ 0xFF)) = true ∧
    (let s := ({ toSys := sets (base .armed) [(Key.HeadTemp.TEMP_SRC 31, 0xFF)] } : State); let h : Fin 32 := 31; let code : Fin 4096 := 4095; decide (s.powered = true) && decide (s.runs 12 = true) && decide (s.rd (Key.HeadTemp.TEMP_SRC h) = 0xFF)) = true ∧
    (let s := ({ toSys := sets (base .armed) [] } : State); let n : Fin 12 := 11; let level : Bool := true; decide (s.powered = true)) = true ∧
    (let s := (({ toSys := sets (base .start) [] } : State).on (fun u => { u with pw := { u.pw with state := .off } })); let n : Fin 12 := 11; let level : Bool := true; decide (s.powered = false)) = true := by decide +kernel

theorem witness_AxisEventsAct :
    (let s := ({ toSys := sets (base .ready) [(Key.Trig.EDGES 0, 1), (Key.Axis.TRIGGER 7, 0)] } : State); let a : Fin 8 := 7; let ok : Bool := true; decide (s.powered = true) && decide (s.rd (Key.Trig.EDGES (s.rd (Key.Axis.TRIGGER a))) ≠ (s.axis a).seen) && decide (s.runs 13 = true)) = true ∧
    (let s := ({ toSys := sets (base .ready) [] } : State); let a : Fin 8 := 7; let codes : List Nat := []; decide (s.powered = true) && decide (s.runs 13 = true) && decide ((s.busCodes (s.rd (Key.AxPwm.BUS a)) codes).axState a = 0)) = true ∧
    (let s := ({ toSys := sets (base .ready) [(Key.Axis.STATE 7, 1)] } : State); let a : Fin 8 := 7; let codes : List Nat := []; decide (s.powered = true) && decide (s.runs 13 = true) && decide ((s.busCodes (s.rd (Key.AxPwm.BUS a)) codes).axState a ≠ 0)) = true ∧
    (let s := (({ toSys := sets (base .ready) [(Key.Axis.STATE 7, 2), (Key.AxMove.INPOS_TIMEOUT 7, 1)] } : State).on (fun u => u.modAxis 7 (fun x => { x with landedAt := some 0 }))); let a : Fin 8 := 7; let t : Nat := 0; decide (s.powered = true) && decide (s.runs 13 = true) && decide ((s.axis a).landedAt = some t) && decide (s.axState a = 2) && decide (s.rd (Key.AxMove.INPOS_TIMEOUT a) ≠ 0) && decide (t + s.rd (Key.AxMove.INPOS_TIMEOUT a) * 1000000 ≤ s.clk)) = true ∧
    (let s := ({ toSys := sets (base .ready) [(Key.Axis.DRIVE 7, 0), (Key.AxPwm.HOLD_DELAY 7, 0)] } : State); let a : Fin 8 := 7; decide (s.powered = true) && decide (s.runs 13 = true) && decide (s.rd (Key.Axis.DRIVE a) = 0) && decide ((s.axis a).visV = 0) && decide ((s.axis a).restAt + s.rd (Key.AxPwm.HOLD_DELAY a) * 1000000 ≤ s.clk)) = true ∧
    (let s := ({ toSys := sets (base .ready) [(Key.Bus.VBUS_MIN 1, 1000), (Key.Bus.VBUS_MAX 1, 2000)] } : State); let b : Fin 2 := 1; let codes : List Nat := (List.replicate 8 0); decide (s.powered = true) && decide (s.runs 13 = true) && decide ((s.busCodes b codes).rd (Key.Bus.VBUS b) < (s.busCodes b codes).rd (Key.Bus.VBUS_MIN b))) = true ∧
    (let s := ({ toSys := sets (base .ready) [(Key.Bus.VBUS_MIN 1, 0), (Key.Bus.VBUS_MAX 1, 0)] } : State); let b : Fin 2 := 1; let codes : List Nat := (List.replicate 8 4095); decide (s.powered = true) && decide (s.runs 13 = true) && decide ((s.busCodes b codes).rd (Key.Bus.VBUS_MIN b) ≤ (s.busCodes b codes).rd (Key.Bus.VBUS b)) && decide ((s.busCodes b codes).rd (Key.Bus.VBUS_MAX b) < (s.busCodes b codes).rd (Key.Bus.VBUS b))) = true ∧
    (let s := ({ toSys := sets (base .armed) [] } : State); let b : Fin 2 := 1; let codes : List Nat := []; decide (s.powered = true) && decide (s.runs 13 = true)) = true := by decide +kernel

theorem witness_CameraEventsAct_a :
    (let s := ({ toSys := sets (base .armed) [(Key.Csi.ENABLE 1, 1)] } : State); let p : Fin 2 := 1; let vc : Fin 16 := 15; let num : Fin 65536 := 65535; let ecc : Bool := true; decide (s.powered = true) && decide (s.csiOn p = true)) = true ∧
    (let s := ({ toSys := sets (base .armed) [(Key.Csi.ENABLE 1, 1)] } : State); let p : Fin 2 := 1; let vc : Fin 16 := 15; let dt : Fin 64 := 63; let d : List Nat := []; let crcOk : Bool := true; let ecc : Bool := true; decide (s.powered = true) && decide (s.csiOn p = true)) = true ∧
    (let s := ({ toSys := sets (base .armed) [(Key.Csi.ENABLE 1, 1)] } : State); let p : Fin 2 := 1; let vc : Fin 16 := 15; let ecc : Bool := true; decide (s.powered = true) && decide (s.csiOn p = true)) = true ∧
    (let s := ({ toSys := sets (base .armed) [(Key.Csi.ENABLE 1, 1)] } : State); let p : Fin 2 := 1; let vc : Fin 16 := 15; let dt : Fin 64 := 63; let ecc : Fin 3 := 2; let crcOk : Bool := true; decide (s.powered = true) && decide (s.csiOn p = true)) = true ∧
    (let s := ({ toSys := sets (base .armed) [(Key.Csi.ENABLE 1, 1)] } : State); let p : Fin 2 := 1; let vc : Fin 16 := 15; let dt : Fin 64 := 63; let ecc : Fin 3 := 2; let crcOk : Bool := true; decide (s.powered = true) && decide (s.csiOn p = true)) = true ∧
    (let s := (({ toSys := sets (base .armed) [(Key.Ctx.FRAME_TIMEOUT 15, 1)] } : State).on (fun u => let c : CamCtx := { frames := [{ seq := 0, number := 0, capture := 0, openAt := 0 }] }; { u with cam := { u.cam with ctxs := u.cam.ctxs.setIfInBounds 15 c } })); let k : Fin 16 := 15; let f : CamFrame := { seq := 0, number := 0, capture := 0, openAt := 0 }; decide (s.powered = true) && decide (s.openFrame k = some f) && decide (s.rd (Key.Ctx.FRAME_TIMEOUT k) ≠ 0) && decide (f.openAt + 1000 * s.rd (Key.Ctx.FRAME_TIMEOUT k) ≤ s.clk)) = true ∧
    (let s := (({ toSys := sets (base .armed) [] } : State).on (fun u => let c : CamCtx := { fifo := [(0, [1])] }; { u with cam := { u.cam with ctxs := u.cam.ctxs.setIfInBounds 15 c } })); let ok : Bool := true; let k : Nat := 15; decide (s.powered = true) && decide (s.cam.busyUntil ≤ s.clk) && decide (s.runs 14 = true) && decide (s.grantTo = some k) && decide ((s.ctx k).fifo ≠ [])) = true ∧
    (let s := (({ toSys := sets (base .armed) [] } : State).on (fun u => let c : CamCtx := { frames := [{ seq := 0, number := 0, capture := 0, openAt := 0, closed := true }] }; { u with cam := { u.cam with ctxs := u.cam.ctxs.setIfInBounds 15 c } })); let k : Fin 16 := 15; let f : CamFrame := { seq := 0, number := 0, capture := 0, openAt := 0, closed := true }; let rest : List CamFrame := []; decide (s.powered = true) && decide ((s.ctx k).frames = f :: rest) && decide (f.closed = true) && decide ((s.ctx k).fifo.any (fun e => decide (e.1 = f.seq)) = false)) = true := by decide +kernel

theorem witness_CameraEventsAct_b :
    (let s := ({ toSys := sets (base .armed) [(Key.Csi.ENABLE 1, 1)] } : State); let p : Fin 2 := 1; decide (s.powered = true) && decide (s.rdB (Key.Csi.ENABLE p) = true) && decide (s.runs 14 = true)) = true ∧
    (let s := ({ toSys := sets (base .armed) [(Key.Csi.ENABLE 1, 1)] } : State); let p : Fin 2 := 1; let enter : Bool := true; decide (s.powered = true) && decide (s.rdB (Key.Csi.ENABLE p) = true) && decide (s.runs 14 = true)) = true := by decide +kernel

theorem witness_LaneAndTimeEventsAct_a :
    (let s := ({ toSys := sets (base .armed) [(Key.Lane.STAGE 15, 1), (Key.Mac.ENABLE 1, 1), (Key.Mac.LANE 1, 15)] } : State); let l : Fin 16 := 15; decide (s.powered = true) && decide (s.laneRefresh.rd (Key.Lane.STAGE l) = 1)) = true ∧
    (let s := (({ toSys := sets (base .armed) [(Key.Lane.STAGE 15, 2), (Key.Port.LANE_FIRST 1, 15), (Key.Port.LANE_COUNT 1, 1)] } : State).on (fun u => u.modPort 1 (fun r => { r with rate := 2 }))); let l : Fin 16 := 15; let marks : List Nat := [7, 37, 47]; decide (s.powered = true) && decide (s.rd (Key.Lane.STAGE l) = 2) && decide (s.lockFound l marks = true)) = true ∧
    (let s := ({ toSys := sets (base .armed) [(Key.Lane.STAGE 15, 2)] } : State); let l : Fin 16 := 15; decide (s.powered = true) && decide (s.rd (Key.Lane.STAGE l) = 2) && decide ((s.laneUser l).1 ≠ 2) && decide ((s.lane l).since + 20000000 ≤ s.clk)) = true ∧
    (let s := ({ toSys := sets (base .armed) [(Key.Lane.STAGE 15, 3)] } : State); let l : Fin 16 := 15; let d1 : Nat := 0; let d2 : Nat := 0; let d3 : Nat := 0; let skewOk : Bool := true; decide (s.powered = true) && decide (s.rd (Key.Lane.STAGE l) = 3) && decide (s.capGood l d1 d2 = false)) = true ∧
    (let s := ({ toSys := sets (base .armed) [(Key.Lane.STAGE 15, 3), (Key.Port.LANE_FIRST 1, 15), (Key.Port.LANE_COUNT 1, 1)] } : State); let l : Fin 16 := 15; let d1 : Nat := 0x11; let d2 : Nat := 0; let d3 : Nat := 1; let skewOk : Bool := true; decide (s.powered = true) && decide (s.rd (Key.Lane.STAGE l) = 3) && decide (s.capGood l d1 d2 = true)) = true ∧
    (let s := ({ toSys := sets (base .armed) [(Key.Lane.STAGE 15, 3)] } : State); let l : Fin 16 := 15; decide (s.powered = true) && decide (s.rd (Key.Lane.STAGE l) = 3) && decide ((s.lane l).since + 4000000 ≤ s.clk)) = true ∧
    (let s := ({ toSys := sets (base .armed) [(Key.Lane.STAGE 15, 3)] } : State); let l : Fin 16 := 15; let errs : List Nat := [0, 1, 2, 15]; decide (s.powered = true) && decide (s.rd (Key.Lane.STAGE l) = 3) && decide (s.lockGone l errs = true)) = true ∧
    (let s := ({ toSys := sets (base .armed) [(Key.Lane.STAGE 15, 4)] } : State); let l : Fin 16 := 15; let errs : List Nat := [0, 1, 2, 16]; let cut : Option Frame := none; decide (s.powered = true) && decide (s.rd (Key.Lane.STAGE l) = 4) && decide (s.lockGone l errs = false)) = true := by decide +kernel

theorem witness_LaneAndTimeEventsAct_b :
    (let s := (({ toSys := sets (base .armed) [(Key.Lane.STAGE 15, 4), (Key.Port.LANE_FIRST 1, 15), (Key.Port.LANE_COUNT 1, 1), (Key.Port.ENABLE 1, 1)] } : State).on (fun u => u.modPort 1 (fun r => { r with rate := 2 }))); let l : Fin 16 := 15; let errs : List Nat := [0, 1, 2, 15]; let f : Frame := (frame 1 4 [0, 1]); let p : Fin 2 := 1; decide (s.powered = true) && decide (s.rd (Key.Lane.STAGE l) = 4) && decide (s.lockGone l errs = true) && decide (s.laneUser l = (1, p.val))) = true ∧
    (let s := (({ toSys := sets (base .armed) [] } : State).on (fun u => u.modPort 1 (fun r => { r with firstAt := some 0 }))); let p : Fin 2 := 1; let t : Nat := 0; decide (s.powered = true) && decide ((s.port p).firstAt = some t) && decide (t + 4000000 ≤ s.clk) && decide ((s.port p).trained = false)) = true ∧
    (let s := ({ toSys := sets (base .armed) [] } : State); let g : Fin 4 := 3; let fam : Fin 4 := 3; decide (s.powered = true)) = true ∧
    (let s := ({ toSys := sets (base .service) [(Key.Lane.STAGE 15, 5), (Key.LaneTest.PATTERN 15, 4)] } : State); let l : Fin 16 := 15; let bits : List Bool := ((List.range 80).map (fun i => decide (i % 16 < 8))); decide (s.powered = true) && decide (s.rd (Key.Lane.STAGE l) = 5) && decide (s.rdB (Key.LaneTest.TEST_LOCK l) = false) && decide (s.testLocks l bits = true)) = true ∧
    (let s := ({ toSys := sets (base .service) [(Key.Lane.STAGE 15, 5), (Key.LaneTest.TEST_LOCK 15, 1)] } : State); let l : Fin 16 := 15; let errs : List Nat := ((List.range 32).map (fun i => 2 * i)); decide (s.powered = true) && decide (s.rd (Key.Lane.STAGE l) = 5) && decide (s.rdB (Key.LaneTest.TEST_LOCK l) = true) && decide (s.rd (Key.LaneTest.LOOPBACK l) ≠ 1) && decide (crowded 32 64 errs = true)) = true ∧
    (let s := ({ toSys := sets (base .service) [(Key.Lane.STAGE 15, 5), (Key.LaneTest.TEST_LOCK 15, 1)] } : State); let l : Fin 16 := 15; let errs : List Nat := [3]; decide (s.powered = true) && decide (s.rd (Key.Lane.STAGE l) = 5) && decide (s.rdB (Key.LaneTest.TEST_LOCK l) = true) && decide (s.rd (Key.LaneTest.LOOPBACK l) ≠ 1) && decide (crowded 32 64 errs = false)) = true ∧
    (let s := ({ toSys := sets (base .armed) [] } : State); decide (s.powered = true) && decide (s.rd Key.Inc.ADJ_TICKS = 0)) = true ∧
    (let s := ({ toSys := sets (base .armed) [] } : State); let pin : Fin 32 := 31; let rising : Bool := true; decide (s.powered = true) && decide (s.runs 6 = true)) = true := by decide +kernel

theorem witness_LaneAndTimeEventsAct_c :
    (let s := ({ toSys := sets (base .armed) [(Key.Port.STATE 1, 3), (Key.Port.NEIGHBOUR 1, 2)] } : State); let p : Fin 2 := 1; decide (s.powered = true) && decide (s.portUp p = true) && decide (s.runs 6 = true) && decide (s.rd (Key.Port.NEIGHBOUR p) ≠ 0) && decide (s.address ≠ 0)) = true ∧
    (let s := (({ toSys := sets (base .armed) [] } : State).on (fun u => u.modPort 1 (fun r => { r with asked := some (0, -5) }))); let p : Fin 2 := 1; let q : Nat := 0; let t : Int := -5; decide (s.powered = true) && decide ((s.port p).asked = some (q, t)) && decide ((s.port p).askedAt + 10000 ≤ s.clk)) = true ∧
    (let s := ({ toSys := sets (base .armed) [(Key.Sync.SYNC_MASTER, 1)] } : State); decide (s.powered = true) && decide (s.rdB Key.Sync.SYNC_MASTER = true) && decide (s.timeRuns = true)) = true ∧
    (let s := ({ toSys := sets (base .armed) [(Key.Trig.MODE 31, 2), (Key.Trig.FLAGS 31, 1), (Key.Trig.AT 31, 5)] } : State); let n : Fin 32 := 31; let t : Nat := 5; decide (s.powered = true) && decide (s.runs 6 = true) && decide (s.edgeInstant n = some t)) = true := by decide +kernel

theorem witness_DramAndDmaEventsAct_a :
    (let s := ({ toSys := sets (base .armed) [(Key.DmcSt.STATE, 2)] } : State); let master : Fin 256 := 0x43; let write : Bool := true; let addr : Nat := 0x1000000000; let len : Nat := 1; let data : List Nat := [1]; decide (s.powered = true) && decide (Sys.dramBase ≤ fullAddr addr) && decide (0 < len) && decide ((s.busCheck master false write (fullAddr addr) (min len (64 - fullAddr addr % 64))).2 = true) && decide (((s.busCheck master false write (fullAddr addr) (min len (64 - fullAddr addr % 64))).1.dch ((s.busCheck master false write (fullAddr addr) (min len (64 - fullAddr addr % 64))).1.dramPlace (fullAddr addr)).ch).queue.length < 64)) = true ∧
    (let s := (({ toSys := sets (base .armed) [(Key.DmcSt.STATE, 2)] } : State).on (fun u => { u with dram := { u.dram with chans := u.dram.chans.setIfInBounds 1 { queue := [{ write := false, addr := 0x1000000000, len := 1, master := 0x43, at_ := 0 }] } } })); let ch : Fin 2 := 1; let ok : Bool := true; decide (s.powered = true) && decide (s.dramServes = true) && decide ((s.dch ch).queue ≠ [])) = true ∧
    (let s := (({ toSys := sets (base .armed) [(Key.DmcSt.STATE, 2)] } : State).on (fun u => { u with dram := { u.dram with chans := u.dram.chans.setIfInBounds 1 { flight := [{ write := false, addr := 0x1000000000, len := 1, master := 0x43, at_ := 0 }] } } })); let ch : Fin 2 := 1; let bad : Nat := 0; let r : DramReq := { write := false, addr := 0x1000000000, len := 1, master := 0x43, at_ := 0 }; let rest : List DramReq := []; decide (s.powered = true) && decide ((s.dch ch).flight = r :: rest) && decide (r.void = false) && decide (Sys.lanesOf (Sys.maskAddrs (r.addr / 64 * 64) 64 bad ++ s.badStored (r.addr / 64 * 64) 64) = 0) && decide (r.write = false)) = true ∧
    (let s := (({ toSys := sets (base .armed) [(Key.DmcSt.STATE, 2)] } : State).on (fun u => { u with dram := { u.dram with chans := u.dram.chans.setIfInBounds 1 { flight := [{ write := true, addr := 0x1000000000, len := 1, master := 0x43, at_ := 0 }] } } })); let ch : Fin 2 := 1; let bad : Nat := 0; let r : DramReq := { write := true, addr := 0x1000000000, len := 1, master := 0x43, at_ := 0 }; let rest : List DramReq := []; decide (s.powered = true) && decide ((s.dch ch).flight = r :: rest) && decide (r.void = false) && decide (Sys.lanesOf (Sys.maskAddrs (r.addr / 64 * 64) 64 bad ++ s.badStored (r.addr / 64 * 64) 64) = 0) && decide (r.write = true) && decide (r.len < 64)) = true ∧
    (let s := (({ toSys := sets (base .armed) [(Key.DmcSt.STATE, 2)] } : State).on (fun u => { u with dram := { u.dram with chans := u.dram.chans.setIfInBounds 1 { flight := [{ write := false, addr := 0x1000000000, len := 1, master := 0x43, at_ := 0 }] } } })); let ch : Fin 2 := 1; let bad : Nat := 1; let r : DramReq := { write := false, addr := 0x1000000000, len := 1, master := 0x43, at_ := 0 }; let rest : List DramReq := []; decide (s.powered = true) && decide ((s.dch ch).flight = r :: rest) && decide (r.void = false) && decide (Sys.lanesOf (Sys.maskAddrs (r.addr / 64 * 64) 64 bad ++ s.badStored (r.addr / 64 * 64) 64) ≠ 0)) = true ∧
    (let s := (({ toSys := sets (base .armed) [(Key.DmcSt.STATE, 3)] } : State).on (fun u => { u with dram := { u.dram with chans := u.dram.chans.setIfInBounds 1 { flight := [{ write := false, addr := 0x1000000000, len := 1, master := 0x43, at_ := 0, void := true }] } } })); let ch : Fin 2 := 1; let bad : Nat := 1; let r : DramReq := { write := false, addr := 0x1000000000, len := 1, master := 0x43, at_ := 0, void := true }; let rest : List DramReq := []; decide (s.powered = true) && decide ((s.dch ch).flight = r :: rest) && decide (r.void = true)) = true ∧
    (let s := ({ toSys := sets (base .armed) [] } : State); let ch : Fin 2 := 1; let low : Bool := true; decide (s.powered = true)) = true ∧
    (let s := ({ toSys := sets (base .armed) [(Key.DmcSt.STATE, 2)] } : State); decide (s.powered = true) && decide (s.rd Key.DmcSt.STATE ≠ 0) && decide (s.rd Key.DmcSt.STATE ≠ 4) && decide (s.runs 1 = true)) = true := by decide +kernel

theorem witness_DramAndDmaEventsAct_b :
    (let s := ({ toSys := sets (base .armed) [(Key.DmcSt.STATE, 2)] } : State); let hot : Bool := true; decide (s.powered = true) && decide (s.rd Key.DmcSt.STATE ≠ 0) && decide (s.rd Key.DmcSt.STATE ≠ 4) && decide (s.runs 1 = true)) = true ∧
    (let s := ({ toSys := sets (base .armed) [(Key.DmcSt.STATE, 2)] } : State); let counts : List Nat := []; decide (s.powered = true) && decide (s.rd Key.DmcSt.STATE = 2) && decide (s.runs 1 = true)) = true ∧
    (let s := (({ toSys := sets (base .service) [(Key.DmcSt.STATE, 2)] } : State).on (fun u => { u with dram := { u.dram with ppr := some (true, 7) } })); let hard : Bool := true; let word : Nat := 7; let verified : Bool := true; decide (s.powered = true) && decide (s.dram.ppr = some (hard, word))) = true ∧
    (let s := (({ toSys := sets (base .service) [(Key.DmcSt.STATE, 2)] } : State).on (fun u => { u with dram := { u.dram with ppr := some (true, 7) } })); let hard : Bool := true; let word : Nat := 7; let verified : Bool := true; decide (s.powered = true) && decide (s.dram.ppr = some (hard, word))) = true ∧
    (let s := ({ toSys := sets (base .start) [(Key.TPat.PAT_BUSY, 1)] } : State); let bits : Nat := 1; let errs : Nat := 1; decide (s.powered = true) && decide (s.rdB Key.TPat.PAT_BUSY = true)) = true ∧
    (let s := (({ toSys := sets (base .armed) [] } : State).on (fun u => u.modDma 31 (fun c => { c with edge := some true }))); let d : Fin 32 := 31; let armed : Bool := true; decide (s.powered = true) && decide ((s.dmaCh d).edge = some armed)) = true ∧
    (let s := ({ toSys := sets (base .armed) [(Key.Dma.STATE 31, 1), (Key.DmaSh.ARM 31, 1)] } : State); let d : Fin 32 := 31; decide (s.powered = true) && decide ((s.handOver d).dmaState d = 1 ∨ (s.handOver d).dmaState d = 2) && decide ((s.handOver d).rdB (Key.DmaSh.ARM d) = true) && decide ((s.handOver d).dmaReads d = none) && decide ((s.handOver d).dmaHeld d = false) && decide (((s.handOver d).dmaCh d).jobs.any (fun j => j.stop) = false)) = true ∧
    (let s := ({ toSys := sets (base .armed) [(Key.Dma.MODE 31, 1), (Key.Dma.STATE 31, 1), (Key.DmaRing.RING_LEN 31, 128), (Key.DmaRing.HEAD 31, 64)] } : State); let d : Fin 32 := 31; let ok : Bool := true; decide (s.powered = true) && decide (s.rd (Key.Dma.MODE d) = 1) && decide (s.dmaState d ≠ 0) && decide (s.dmaState d ≠ 4) && decide (s.rdB (Key.DmaSh.ARM d) = false) && decide (s.rd (Key.DmaRing.RING_LEN d) ≠ 0) && decide ((s.dmaCh d).jobs = []) && decide (s.rd (Key.DmaRing.HEAD d) % s.rd (Key.DmaRing.RING_LEN d) ≠ s.rd (Key.DmaRing.TAIL d))) = true := by decide +kernel

theorem witness_DramAndDmaEventsAct_c :
    (let s := (({ toSys := sets (base .armed) [] } : State).on (fun u => u.modDma 31 (fun c => { c with jobs := [{}] }))); let d : Fin 32 := 31; let j : DmaJob := {}; let rest : List DmaJob := []; decide (s.powered = true) && decide ((s.dmaCh d).jobs = j :: rest) && decide (j.rest = 0) && decide (j.out = [])) = true ∧
    (let s := (({ toSys := sets (base .armed) [] } : State).on (fun u => { u.modDma 31 (fun c => { c with unfenced := true }) with gath := { u.gath with captured := true } })); let d : Fin 32 := 31; let addr : Nat := 1; decide (s.powered = true) && decide ((s.dmaCh d).unfenced = true) && decide (s.gath.captured = true)) = true ∧
    (let s := (({ toSys := sets (base .armed) [] } : State).on (fun u => u.modDma 31 (fun c => { c with unfenced := true }))); let d : Fin 32 := 31; let addr : Nat := 1; decide (s.powered = true) && decide ((s.dmaCh d).unfenced = true) && decide (s.gath.captured = false)) = true ∧
    (let s := ({ toSys := sets (base .armed) [] } : State); let bad : Nat := 1; decide (s.powered = true)) = true := by decide +kernel

theorem witness_CoreEventsAct_a :
    (let s := ({ toSys := sets (base .armed) [] } : State); let m : Fin 256 := 0x43; let machine : Bool := true; let use : BusUse := .load; let size : Nat := 4; let addr : Nat := 0x10000000; let v : Nat := 0; let reqOk : Bool := true; let bad : Nat := 1; decide (s.powered = true) && decide (4 < m.val ∨ s.hartIssues m use size addr = true) && decide (s.mustHold (.access m machine use size addr v reqOk bad) = false)) = true ∧
    (let s := (({ toSys := sets (base .armed) [] } : State).on (fun u => u.modCore (fun c => { c with held := [.access 0x43 true .load 4 0x10000000 0 true 0] }))); let m : Fin 256 := 0x43; let machine : Bool := true; let use : BusUse := .store; let size : Nat := 4; let addr : Nat := 0x10000000; let v : Nat := 0; let reqOk : Bool := true; let bad : Nat := 1; decide (s.powered = true) && decide (4 < m.val ∨ s.hartIssues m use size addr = true) && decide (s.mustHold (.access m machine use size addr v reqOk bad) = true)) = true ∧
    (let s := ({ toSys := sets (base .armed) [] } : State); let hart : Fin 5 := 4; let machine : Bool := true; let v : Nat := 15; decide (s.powered = true) && decide (fromSv hart machine = true)) = true ∧
    (let s := ({ toSys := sets (base .armed) [] } : State); let hart : Fin 5 := 4; let machine : Bool := true; let h : Fin 4 := 3; let off : Fin 256 := 0; let v : Nat := 1; decide (s.powered = true) && decide (fromSv hart machine = true) && decide (off.val = 0)) = true ∧
    (let s := ({ toSys := sets (base .armed) [] } : State); let hart : Fin 5 := 4; let machine : Bool := true; let h : Fin 4 := 3; let off : Fin 256 := 8; let v : Nat := 1; decide (s.powered = true) && decide (fromSv hart machine = true) && decide (off.val = 8)) = true ∧
    (let s := ({ toSys := sets (base .armed) [] } : State); let hart : Fin 5 := 4; let machine : Bool := true; let h : Fin 4 := 3; let off : Fin 256 := 0xF8; let v : Nat := 1; decide (s.powered = true) && decide (fromSv hart machine = true) && decide (0x80 ≤ off.val) && decide (off.val % 8 = 0)) = true ∧
    (let s := (({ toSys := sets (base .armed) [] } : State).on (fun u => u.modCore (fun c => { c with apRun := 15 }))); let h : Fin 4 := 3; let addr : Nat := 1; decide (s.powered = true) && decide (s.hartOut h = true) && decide (s.mustHold (.clean h addr) = false)) = true ∧
    (let s := (({ toSys := sets (base .armed) [] } : State).on (fun u => u.modCore (fun c => { c with apRun := 15, held := [.access 4 true .load 4 0x10000000 0 true 0] }))); let h : Fin 4 := 3; let addr : Nat := 1; decide (s.powered = true) && decide (s.hartOut h = true) && decide (s.mustHold (.clean h addr) = true)) = true := by decide +kernel

theorem witness_CoreEventsAct_b :
    (let s := (({ toSys := sets (base .armed) [] } : State).on (fun u => u.modCore (fun c => { c with apRun := 15 }))); let h : Fin 4 := 3; let addr : Nat := 1; decide (s.powered = true) && decide (s.hartOut h = true) && decide (s.mustHold (.flush h addr) = false)) = true ∧
    (let s := (({ toSys := sets (base .armed) [] } : State).on (fun u => u.modCore (fun c => { c with apRun := 15, held := [.access 4 true .load 4 0x10000000 0 true 0] }))); let h : Fin 4 := 3; let addr : Nat := 1; decide (s.powered = true) && decide (s.hartOut h = true) && decide (s.mustHold (.flush h addr) = true)) = true ∧
    (let s := (({ toSys := sets (base .armed) [] } : State).on (fun u => u.modCore (fun c => { c with apRun := 15, menvCbie := [1, 1, 1, 1] }))); let h : Fin 4 := 3; let mode : Fin 4 := 1; let addr : Nat := 1; decide (s.powered = true) && decide (s.hartOut h = true) && decide (s.mustHold (.inval h mode addr) = false) && decide (s.cbie h mode = 1)) = true ∧
    (let s := (({ toSys := sets (base .armed) [] } : State).on (fun u => u.modCore (fun c => { c with apRun := 15 }))); let h : Fin 4 := 3; let mode : Fin 4 := 3; let addr : Nat := 1; decide (s.powered = true) && decide (s.hartOut h = true) && decide (s.mustHold (.inval h mode addr) = false) && decide (s.cbie h mode ≠ 0) && decide (s.cbie h mode ≠ 1)) = true ∧
    (let s := (({ toSys := sets (base .armed) [] } : State).on (fun u => u.modCore (fun c => { c with apRun := 15, held := [.access 4 true .load 4 0x10000000 0 true 0] }))); let h : Fin 4 := 3; let mode : Fin 4 := 3; let addr : Nat := 1; decide (s.powered = true) && decide (s.hartOut h = true) && decide (s.mustHold (.inval h mode addr) = true)) = true ∧
    (let s := (({ toSys := sets (base .armed) [] } : State).on (fun u => u.modCore (fun c => { c with apRun := 15 }))); let h : Fin 5 := 4; decide (s.powered = true) && decide (s.hartOut h = true) && decide (s.mustHold (.fenceWO h) = false)) = true ∧
    (let s := (({ toSys := sets (base .armed) [] } : State).on (fun u => u.modCore (fun c => { c with apRun := 15, held := [.access 0 true .load 4 0x10000000 0 true 0] }))); let h : Fin 5 := 4; decide (s.powered = true) && decide (s.hartOut h = true) && decide (s.mustHold (.fenceWO h) = true)) = true ∧
    (let s := (({ toSys := sets (base .armed) [] } : State).on (fun u => u.modCore (fun c => { c with apRun := 15 }))); let h : Fin 4 := 3; decide (s.powered = true) && decide (s.hartOut h = true) && decide (s.mustHold (.fenceIR h) = false)) = true := by decide +kernel

theorem witness_CoreEventsAct_c :
    (let s := (({ toSys := sets (base .armed) [] } : State).on (fun u => u.modCore (fun c => { c with apRun := 15, held := [.access 4 true .load 4 0x10000000 0 true 0] }))); let h : Fin 4 := 3; decide (s.powered = true) && decide (s.hartOut h = true) && decide (s.mustHold (.fenceIR h) = true)) = true ∧
    (let s := (({ toSys := sets (base .armed) [] } : State).on (fun u => u.modCore (fun c => { c with apRun := 15 }))); let h : Fin 5 := 4; decide (s.powered = true) && decide (s.hartOut h = true) && decide (s.mustHold (.fenceI h) = false)) = true ∧
    (let s := (({ toSys := sets (base .armed) [] } : State).on (fun u => u.modCore (fun c => { c with apRun := 15, held := [.access 0 true .load 4 0x10000000 0 true 0] }))); let h : Fin 5 := 4; decide (s.powered = true) && decide (s.hartOut h = true) && decide (s.mustHold (.fenceI h) = true)) = true ∧
    (let s := (({ toSys := sets (base .armed) [] } : State).on (fun u => { u with plic := { u.plic with pending := [127], enables := [(35, 2 ^ 31)], priorities := [(127, 1)] } })); let ctx : Fin 9 := 8; decide (s.powered = true) && decide (s.plicBest ctx ≠ 0)) = true ∧
    (let s := ({ toSys := sets (base .armed) [] } : State); let ctx : Fin 9 := 8; let src : Fin 128 := 127; decide (s.powered = true)) = true ∧
    (let s := (({ toSys := sets (base .armed) [] } : State).on (fun u => u.modCore (fun c => { c with check := some 1 }))); let slot : Nat := 1; decide (s.powered = true) && decide (s.core.check = some slot)) = true ∧
    (let s := (({ toSys := sets (base .armed) [] } : State).on (fun u => u.modCore (fun c => { c with mram := some 3 }))); let cmd : Nat := 3; let fail : Option Nat := none; decide (s.powered = true) && decide (s.core.mram = some cmd)) = true ∧
    (let s := ({ toSys := sets (base .armed) [] } : State); let write : Bool := true; let addr : Fin 128 := 127; let data : Nat := 1; decide (s.powered = true)) = true := by decide +kernel

theorem witness_CoreEventsAct_d :
    (let s := ({ toSys := sets (base .armed) [] } : State); let rising : Bool := true; let tms : Bool := true; let tdi : Bool := true; let pins : List Bool := []; decide (s.pw.state ≠ .off) && decide (s.pw.state ≠ .hold) && decide (s.pw.state ≠ .holdEntry)) = true ∧
    (let s := ({ toSys := sets (base .armed) [] } : State); let rising : Bool := true; let tms : Bool := true; let tdi : Bool := true; let pins : List Bool := []; decide (s.pw.state ≠ .off) && decide (s.pw.state ≠ .hold) && decide (s.pw.state ≠ .holdEntry)) = true := by decide +kernel

theorem witness_PowerAndFaultEventsAct_a :
    (let s := (({ toSys := sets (base .armed) [] } : State).on (fun u => { u with pw := { u.pw with waking := 2 ^ 14 } })); let d : Fin 15 := 14; decide (s.powered = true) && decide (s.pw.waking.testBit d = true) && decide (s.pw.state = .run)) = true ∧
    (let s := (({ toSys := sets (base .armed) [(Key.Wake.ENABLE, 0x10)] } : State).on (fun u => { u with pw := { u.pw with state := .nap, timerDone := true } })); let pins : Fin 16 := 0; let bad : Nat := 1; decide ((s.wakePins pins).waking ≠ 0) && decide ((s.wakePins pins).pw.state = .nap)) = true ∧
    (let s := (({ toSys := sets (base .armed) [(Key.Wake.ENABLE, 0x10)] } : State).on (fun u => { u with pw := { u.pw with state := .hold, timerDone := true } })); let pins : Fin 16 := 0; let bad : Nat := 1; decide ((s.wakePins pins).waking ≠ 0) && decide ((s.wakePins pins).pw.state ≠ .nap)) = true ∧
    (let s := ({ toSys := sets (base .config) [] } : State); let n : Fin 4 := 3; decide (s.powered = true) && decide (s.dev ≠ .start) && decide (s.rdBit Key.Pll.PLL_ENABLE n = true)) = true ∧
    (let s := ({ toSys := sets (base .start) [(Key.Restore.RESTORE_STATUS, 0)] } : State); decide (s.powered = true) && decide (s.dev = .start) && decide (s.pw.state = .run)) = true ∧
    (let s := (({ toSys := sets (base .config) [] } : State).on (fun u => u.modCore (fun c => { c with trialAt := some 0, trialMs := 0 }))); decide (s.powered = true) && decide (s.trialOver = true)) = true ∧
    (let s := (({ toSys := sets (base .config) [] } : State).on (fun u => { u with pw := { u.pw with napPending := true } })); decide (s.powered = true) && decide (s.pw.napPending = true) && decide (s.pw.state = .run)) = true ∧
    (let s := (({ toSys := sets (base .config) [] } : State).on (fun u => ({ u with pw := { u.pw with napPending := true } } : Sys).modCore (fun c => { c with mtime := 250000 }))); decide (s.powered = true) && decide (s.pw.napPending = true) && decide (s.pw.napAt + 250000 ≤ s.core.mtime)) = true := by decide +kernel

theorem witness_PowerAndFaultEventsAct_b :
    (let s := (({ toSys := sets (base .config) [] } : State).on (fun u => { u with pw := { u.pw with holdPending := true } })); decide (s.powered = true) && decide (s.pw.holdPending = true) && decide (s.pw.state = .run)) = true ∧
    (let s := (({ toSys := sets (base .config) [(Key.Wake.ENABLE, 0x10)] } : State).on (fun u => { u with pw := { u.pw with state := .nap } })); decide (s.pw.state = .nap ∨ s.pw.state = .hold) && decide (s.rdBit Key.Wake.ENABLE 4 = true)) = true ∧
    (let s := ({ toSys := sets (base .config) [] } : State); let d : Fin 15 := 14; decide (s.powered = true) && decide (s.domainOn d = true) && decide (s.domainRests d = true)) = true ∧
    (let s := ({ toSys := sets (base .config) [] } : State); let acc : Access := byFw; let v : Nat := 0x7FFF; decide (v < 2 ^ 32) && decide (s.accepts acc Key.Dom.ENABLE v {} = true)) = true ∧
    (let s := ({ toSys := sets (base .config) [] } : State); let acc : Access := byFw; let v : Nat := 63; decide (v < 2 ^ 32) && decide (s.accepts acc Key.Pll.SOURCE v {} = true)) = true ∧
    (let s := ({ toSys := sets (base .armed) [] } : State); let code : Fin 128 := 0x6F; let kind : Fin 14 := 13; let inst : Nat := 1; let t : Nat := 1; decide (s.powered = true) && decide (Sys.assignedCode code = true)) = true ∧
    (let s := (({ toSys := sets (base .armed) [] } : State).on (fun u => { u with gath := { u.gath with merges := [{ code := 0x6F, since := 0, merged := some 5 }] } })); let code : Fin 128 := 0x6F; let m : Merge := { code := 0x6F, since := 0, merged := some 5 }; let t : Nat := 5; decide (s.powered = true) && decide (s.gath.merges.find? (fun m => decide (m.code = code.val ∧ m.since + 1000000 ≤ s.clk)) = some m) && decide (m.merged = some t)) = true ∧
    (let s := (({ toSys := sets (base .armed) [] } : State).on (fun u => { u with gath := { u.gath with merges := [{ code := 0x6F, since := 0 }] } })); let code : Fin 128 := 0x6F; let m : Merge := { code := 0x6F, since := 0 }; decide (s.powered = true) && decide (s.gath.merges.find? (fun m => decide (m.code = code.val ∧ m.since + 1000000 ≤ s.clk)) = some m) && decide (m.merged = none)) = true := by decide +kernel

theorem witness_PowerAndFaultEventsAct_c :
    (let s := ({ toSys := sets (base .armed) [] } : State); let out : Fin 48 := 47; let level : Bool := true; let missed : Bool := true; decide (s.powered = true)) = true ∧
    (let s := ({ toSys := sets (base .armed) [] } : State); let t : Int := 1700; decide (s.powered = true) && decide (s.dieLimit < t) && decide (s.pw.hot = false)) = true ∧
    (let s := (({ toSys := sets (base .armed) [] } : State).on (fun u => { u with pw := { u.pw with hot := true } })); let t : Int := 0; decide (s.powered = true) && decide (t < s.dieLimit - 80) && decide (s.pw.hot = true)) = true ∧
    (let s := ({ toSys := sets (base .armed) [] } : State); let lin : List (Int × Int × Int) := []; decide (s.powered = true)) = true ∧
    (let s := ({ toSys := sets (base .armed) [] } : State); let a : Bool := true; let b : Bool := true; decide (s.powered = true) && decide (s.pw.state = .run)) = true ∧
    (let s := (({ toSys := sets (base .service) [] } : State).on (fun u => u.modSmp (fun q => { q with clearing := true }))); decide (s.powered = true) && decide (s.smp.clearing = true)) = true := by decide +kernel

theorem witness_AccessesAct_a :
    (let s := ({ toSys := sets (base .config) [] } : State); let acc : Access := byHost; let idx : Fin 65536 := 0x210; let sub : Fin 256 := 7; let v : Nat := 1; decide (s.accepts acc (idx * 256 + sub) v {} = true)) = true ∧
    (let s := ({ toSys := sets (base .armed) [] } : State); let m : Master := (.ap 3); let machine : Bool := true; let idx : Fin 65536 := 0x111; let sub : Fin 256 := 0; decide (s.reads { acc := { who := .window m machine }, write := false, idx := idx, sub := sub, size := 4 } = true)) = true ∧
    (let s := ({ toSys := sets (base .armed) [] } : State); let who : Req := (.window .sv true); let master : Bool := true; decide (s.reads (Sys.readReq who (if master then Key.Gath.ERR_MASTER else Key.Gath.ERR_ADDR)) = true)) = true ∧
    (let s := ({ toSys := sets (base .config) [] } : State); let acc : Access := byFw; let m : Master := .sv; let machine : Bool := true; let idx : Fin 65536 := 0xE2F; let sub : Fin 256 := 4; let word : Nat := 1; let r : Dict.Row := (entryRow idx sub).getD { sub := 0, ty := .u8, acc := .ro, st := 0 }; decide (acc.who = .window m machine) && decide (entryRow idx sub = some r) && decide (tySize r.ty = 8) && decide (s.passes { acc := acc, write := true, idx := idx, sub := sub, size := 4, val := word % 2 ^ 32, high := false } r = true)) = true ∧
    (let s := (({ toSys := sets (base .config) [] } : State).on (fun u => u.stageLow .sv (0xE2F * 256 + 4) 5)); let acc : Access := byFw; let m : Master := .sv; let machine : Bool := true; let idx : Fin 65536 := 0xE2F; let sub : Fin 256 := 4; let word : Nat := 1; let r : Dict.Row := (entryRow idx sub).getD { sub := 0, ty := .u8, acc := .ro, st := 0 }; let low : Nat := 5; decide (acc.who = .window m machine) && decide (entryRow idx sub = some r) && decide (tySize r.ty = 8) && decide (s.stagedLow m (idx * 256 + sub) = some low) && decide (s.accepts acc (idx * 256 + sub) (word % 2 ^ 32 * 2 ^ 32 + low % 2 ^ 32) {} = true)) = true ∧
    (let s := ({ toSys := sets (base .config) [] } : State); let acc : Access := byFw; let m : Master := .sv; let machine : Bool := true; let idx : Fin 65536 := 0x210; let sub : Fin 256 := 7; let word : Nat := 1; let r : Dict.Row := (entryRow idx sub).getD { sub := 0, ty := .u8, acc := .ro, st := 0 }; decide (acc.who = .window m machine) && decide (entryRow idx sub = some r) && decide (tySize r.ty ≠ 8) && decide (s.accepts acc (idx * 256 + sub) word {} = true)) = true ∧
    (let s := ({ toSys := sets (base .config) [] } : State); let acc : Access := byFw; let m : Master := .sv; let machine : Bool := true; let idx : Fin 65536 := 0x210; let sub : Fin 256 := 7; let word : Nat := 0; let r : Dict.Row := (entryRow idx sub).getD { sub := 0, ty := .u8, acc := .ro, st := 0 }; decide (acc.who = .window m machine) && decide (entryRow idx sub = some r) && decide (tySize r.ty ≠ 8) && decide (word % 2 ^ 32 = 0) && decide (s.passes { acc := acc, write := true, idx := idx, sub := sub, size := 4, val := word % 2 ^ 32, high := true } r = true)) = true ∧
    (let s := ({ toSys := sets (base .config) [] } : State); let acc : Access := byFw; let idx : Fin 65536 := 0xD11; let sub : Fin 256 := 5; let v : Nat := 0x10000000; decide (s.acceptsAddress acc (idx * 256 + sub) v = true)) = true := by decide +kernel

theorem witness_AccessesAct_b :
    (let s := ({ toSys := sets (base .config) [(0xD11 * 256 + 5, 0x10000000)] } : State); let acc : Access := byFw; let idx : Fin 65536 := 0xD11; let sub : Fin 256 := 6; let v : Nat := 65536; decide ((entryRow idx sub).any (fun r => r.dom.isSome) = true) && decide (s.accepts acc (idx * 256 + sub) v {} = true)) = true := by decide +kernel


/-! ### Witnesses of the other statements -/

/-- Every command answers a next state, which the premises of the frames ask for. -/
theorem next_of (i : Instr) (s : State) : ∃ t, exec i s = .next t := by
  obtain ⟨t, h, _⟩ := exec_answers i s
  exact ⟨t, h⟩

theorem witness_IdleTickAddsTheIncrement :
    ({ Sys.reset with pw := { Sys.reset.pw with state := .off } } : Sys).powered = false ∧
    ((base .armed).powered && (base .armed).domainOn 6 && (base .armed).timeRuns && (base .armed).tb.step.isNone && (base .armed).core.held.isEmpty) = true ∧
    Sys.reset.timeRuns = false ∧ ({ Sys.reset with pw := { Sys.reset.pw with state := .off } } : Sys).domainOn 6 = false := by decide +kernel

theorem step_empty (s : State) (h : s.pending = []) (hp : s.powered = true) : ∃ t, step s = .next t := by
  obtain ⟨t, e, _⟩ := Answers.onOd (fun otp s => s.idleTick otp) s
  refine ⟨t, ?_⟩
  unfold step
  rw [h]
  exact (if_pos hp).trans e

theorem witness_BurntFusesStayBurnt : ∃ t, Kv.wf (fun _ => (0 : Word)) State.reset.otp = true ∧ step State.reset = .next t := by
  obtain ⟨t, h⟩ := step_empty State.reset (by decide) (by decide)
  exact ⟨t, by decide, h⟩

theorem witness_UnpoweredBlockIgnores : ({ toSys := { Sys.reset with pw := { Sys.reset.pw with state := .off } } } : State).powered = false := by decide +kernel

theorem witness_HostWritesNoRights :
    ([0x300, 0x3FF].all (fun x => let q : WaitReq := { acc := byHost, write := true, idx := x, sub := 1, size := 4, val := 1 }
      decide (q.acc.who = .chain 1) && q.write && decide (0x300 ≤ q.idx) && decide (q.idx < 0x400))) = true := by decide +kernel

/-- Sources 52 and 61 pend and are enabled for context 8 at priority 1, and source 50 is claimed. -/
def plicState : Sys :=
  let s := base .armed
  { s with plic := { pending := [61, 52], claimed := [(50, 8)], enables := [(33, 2 ^ 32 - 1)], priorities := [(52, 1), (61, 1)] } }

theorem witness_ClaimGivesHighestPriority :
    plicState.plicBest 8 = 52 ∧ (61 ∈ plicState.plic.pending ∧ plicState.plicEnabled 8 61 = true ∧ plicState.plicPriority 61 = plicState.plicPriority (plicState.plicBest 8) ∧
      plicState.plicPriority 0 < plicState.plicPriority 61) ∧ 50 ∈ plicState.plic.claimed.map (fun c => c.1) ∧
    (7 ∉ plicState.plic.pending ∧ 7 ∉ plicState.plic.claimed.map (fun c => c.1)) := by decide +kernel

theorem witness_EmissionNeedsArmedAndLsafe :
    ((base .ready).pads.lpEn < 2 ^ 16 ∧ (base .ready).pads.lpMod < 2 ^ 16 ∧ (base .ready).dev ≠ .armed) ∧
    (∃ t, (inState .armed []).accepts byFw Key.DevCmd.DEVICE_COMMAND 4 {} = true ∧ (inState .armed []).dev = .armed ∧
      exec (.disarm byFw) (inState .armed []) = .next t) ∧
    ∃ t, (inState .armed []).powered = true ∧ (inState .armed []).pads.lsafe = true ∧ exec .lsafeFall (inState .armed []) = .next t := by
  refine ⟨by decide +kernel, ?_, ?_⟩
  · obtain ⟨t, h⟩ := next_of (.disarm byFw) (inState .armed [])
    exact ⟨t, by decide +kernel, by decide +kernel, h⟩
  · obtain ⟨t, h⟩ := next_of .lsafeFall (inState .armed [])
    exact ⟨t, by decide +kernel, by decide +kernel, h⟩

/-- Encoder 1 has seen an edge of A 10 ns ago. -/
def encState : State := (inState .armed []).on (fun s => s.modEnc 1 (fun q => { q with a := true, edgeAt := some (s.clk - 10), edgeA := true }))

theorem witness_EncoderEdgeCountsOne :
    encState.powered = true ∧ encState.runs 12 = true ∧ (∀ m : Fin 4, encState.rd (Key.Mtu.ENCODER m) ≠ (1 : Fin 6)) ∧
    (decide (true ≠ (encState.enc 1).a) != decide (true ≠ (encState.enc 1).b)) = true ∧
    (encState.enc 1).edgeAt = some (encState.clk - 10) ∧ ¬ (encState.clk < encState.clk - 10 + 10) := by decide +kernel

theorem witness_AssignTakesTheAddress :
    let s := inState .config [(Key.Port.STATE 1, 3), (Key.Pos.POSITION, 7)]
    let f := frame 0xFF 1 [3, 0, 7, 0, 0xFA]
    s.powered = true ∧ s.intact 1 f = true ∧ Sys.isEnum f 3 = true ∧ f.dest = 0xFF ∧ s.enumOpen 1 = true ∧ 5 ≤ f.payload.length ∧ s.rd Key.Pos.POSITION ≠ 0 ∧
      u16At f.payload 2 = s.rd Key.Pos.POSITION := by decide +kernel

theorem witness_CaptureKeepsSixteenStamps : (inState .fault []).accepts byFw (Key.Cap.POP 31) 1 {} = true := by decide +kernel

theorem witness_FirmwareRangeHasNoWindow :
    let s := inState .armed []
    byFw.who = .window .sv true ∧ 0x8000 ≤ (0x8000 : Fin 65536).val ∧ (0xEFFF : Fin 65536).val < 0xF000 ∧ s.powered = true ∧ s.eng.warmPending = false ∧
      s.engineStops = false ∧ s.eng.waits = [] := by decide +kernel

/-- A whole write of a value by the firmware, as the engine sees it. -/
def wr (k v : Nat) : WaitReq := Sys.writeReq byFw k v

/-- A request for entry `k` passes the checks that come before its own. -/
def passesFront (s : Sys) (q : WaitReq) : Bool :=
  (entryRow q.idx q.sub).any (fun r => decide (s.frontCode q (some r) = 0) && s.domainOn (domainOf q.idx) && s.reached (domainOf q.idx))

theorem witness_StateMaskRefuses :
    (let s := base .armed
     let q := wr Key.Fws.SERVICE_TIMEOUT 5
     (entryRow q.idx q.sub).any (fun r => decide (r.acc ≠ .ro) && q.write && passesFront s q && decide ((s.ungate (domainOf q.idx)).formOf q r.ty = .word 5) &&
       decide (codeOrder 0x0803 ≤ codeOrder ((s.ungate (domainOf q.idx)).need (s.clsOf q.acc.who) (q.idx * 256 + q.sub) (maskWord r 5).toNat
         (if tySigned r.ty then (maskWord r 5).toInt else (maskWord r 5).toNat) {}).2) && !r.st.testBit (devCode s.dev))) = true := by decide +kernel

theorem witness_StateMaskRefuses_power :
    (let s := base .armed
     let q := wr Key.Pwr.COMMAND 1
     (entryRow q.idx q.sub).any (fun r => passesFront s q && decide ((s.ungate (domainOf q.idx)).formOf q r.ty = .word 1) &&
       decide (((s.ungate (domainOf q.idx)).need (s.clsOf q.acc.who) (q.idx * 256 + q.sub) (maskWord r 1).toNat (maskWord r 1).toNat {}).2 = 0x0803) &&
       !r.st.testBit (devCode s.dev))) = true := by decide +kernel

theorem witness_AccessClassRefuses :
    (let s := base .armed
     let q (k : Nat) (w : Bool) : WaitReq := { acc := byFw, write := w, idx := keyIdx k, sub := keySub k, size := 4 }
     let right (k : Nat) (w : Bool) (a : Dict.Acc) : Bool := (entryRow (keyIdx k) (keySub k)).any (fun r => !s.leaving && decide (¬(s.dev = .start)) &&
       decide (keyIdx k < 0x8000) && Dict.indexExists (keyIdx k) && (s.entryRights (keyIdx k) r).testBit (clsBit (s.clsOf byFw.who) + b2n w) && decide (r.acc = a))
     right Key.DevCmd.DEVICE_COMMAND false .wo && right (Key.Port.FRAMES_RX 0) true .ro && passesFront s (q (Key.Port.ENABLE 0) false) && byFw.parity) = true := by decide +kernel

theorem witness_DramFaultsFreeze :
    ([0x58, 0x5B].all (fun code => let s := base .config
      let q := wr (Key.React.REACTION code) 1
      decide (q.idx = 0x510) && decide (q.sub = code) && q.write && passesFront s q && s.domainOn 15 && s.reached 15 &&
        (entryRow q.idx q.sub).any (fun r => decide (s.formOf q r.ty = .word 1) && decide ((maskWord r 1).toNat % 8 ≠ 4) && r.st.testBit (devCode s.dev)) &&
        (inState .config []).accepts byFw (Key.React.REACTION code) (4 + 8 * b2n true) {} && (inState .config []).accepts byFw (Key.React.REACTION code) (4 + 8 * b2n false) {})) = true := by
  decide +kernel

theorem witness_FreezeFaultEntersFault :
    let s := inState .armed []
    s.powered = true ∧ Sys.assignedCode (0x5B : Fin 128) = true ∧ s.reaction (0x5B : Fin 128) = 4 ∧ s.dev ≠ .start ∧ s.dev ≠ .fault ∧ s.pads.lpEn < 2 ^ 16 ∧
      s.pads.lpMod < 2 ^ 16 := by decide +kernel

theorem witness_ProgramSetsFuseBits : (inState .service [(Key.Otp.OTP_ADDR, 255), (Key.Otp.OTP_DATA, 2 ^ 31)]).accepts byFw Key.Otp.OTP_COMMAND 2 { ok := true } = true := by
  decide +kernel

theorem witness_FabricStoreWritesItsBytes :
    let s := inState .armed []
    s.powered = true ∧ regionOf (fullAddr 0x10000000) = 2 ∧ s.busCheck (0x44 : Fin 256) true true 0x10000000 8 = (s.toSys, true) ∧
      s.mustHold (.access (0x44 : Fin 256) true .store 8 0x10000000 5 true 0) = false ∧ regionOf (fullAddr 0x1000000000) = 7 ∧
      (let d := inState .armed [(Key.DmcSt.STATE, 2)]
       d.busCheck (0x44 : Fin 256) true true 0x1000000000 8 = (d.toSys, true) ∧ d.mustHold (.access (0x44 : Fin 256) true .store 8 0x1000000000 5 true 0) = false) := by decide +kernel

theorem witness_ReadOnlyMemoryIgnoresStores :
    let s := inState .armed []
    s.powered = true ∧ regionOf (fullAddr 0) = 1 ∧ regionOf (fullAddr 0x20000000) = 3 ∧ s.firstDenied (0x44 : Fin 256) true true (fullAddr 0) 8 = none ∧
      s.firstDenied (0x44 : Fin 256) true true (fullAddr 0x20000000) 8 = none ∧ s.reaction 0x6A ≤ 2 ∧ s.gath.captured = false ∧
      s.mustHold (.access (0x44 : Fin 256) true .store 8 0x20000000 5 true 0) = false := by decide +kernel

theorem witness_LowWordReadTakesSnapshot :
    ((entryRow (keyIdx Key.Sync.SYNC_INTERVAL) (keySub Key.Sync.SYNC_INTERVAL)).isSome = true ∧
      (inState .armed []).reads { acc := { who := .window .sv true }, write := false, idx := keyIdx Key.Sync.SYNC_INTERVAL, sub := keySub Key.Sync.SYNC_INTERVAL, size := 4 } = true) ∧
    let lo : WaitReq := { acc := byFw, write := false, idx := 0xE01, sub := 1, size := 4 }
    let hi : WaitReq := { lo with high := true }
    lo.size = 4 ∧ lo.high = false ∧ hi.size = 4 ∧ hi.high = true ∧ hi.idx * 256 + hi.sub = lo.idx * 256 + lo.sub := by decide +kernel

/-- A write of `v` to `k` that the engine accepts in device state `d`, with a value of the type of `k`. -/
def plain (d : DevState) (k v : Nat) : Bool := (inState d []).accepts byFw k v {} && Sys.fits k v && byFw.copyB

theorem witness_PlainEntriesHoldWhatIsWritten :
    (plain .config Key.Fws.SERVICE_TIMEOUT 100000 && plain .config Key.Alias.ALIAS 1 && plain .config (Key.Ep.CREDIT_PERIOD 7) 100 &&
      plain .config (Key.Mark.MARK_SPEED_MAX 15) 1000 && plain .config (Key.SlotOut.T_COAST 63) 1000 && plain .ready (Key.Zone.JOIN_TIME 15 7) (2 ^ 63) &&
      plain .config Key.Take.TAKEOVER_LEAD 100000 && plain .config (Key.Upd.STEPS 15) 100) = true ∧
    (plain .ready (Key.Pat.PAT_RUN 3) 1 && plain .config (Key.Enc.FILTER 5) 1 && plain .config (Key.GrpCfg.MIN_PERIOD 3) 20000 && plain .config (Key.AxMove.VMAX 7) 1000 &&
      plain .config (Key.Ctx.FRAME_TIMEOUT 15) 1000 && plain .config Key.Sync.SYNC_INTERVAL 1000000 && plain .config (Key.Cap.FILTER 31) 1 && plain .config Key.Smp.INTERVAL 10) = true := by
  decide +kernel

theorem witness_RegisterCommandFrames_a :
    ((inState .armed []).accepts byFw (Sys.selectKey .fm) (2 ^ 32 - 1) {} &&
      (inState .armed [(zwState 191, 3), (zwJoin 191, 200000000000)]).accepts byFw (Sys.zwCommand 191) 1 {} &&
      (inState .armed [(zwState 191, 6)]).accepts byFw (Sys.zwCommand 191) 2 {} &&
      (inState .ready []).accepts byFw (Key.Pat.PAT_COMMAND 3) 2 {} &&
      (inState .start []).accepts byFw (Key.Enc.COMMAND 5) 2 {} &&
      (inState .ready []).accepts byFw (Key.Axis.COMMAND 7) 1 {} &&
      (inState .config []).accepts byFw (Key.Axis.COMMAND 7) 2 {} &&
      (inState .ready [(Key.Axis.STATE 7, 2)]).accepts byFw (Key.Axis.COMMAND 7) 3 {} &&
      (inState .ready [(Key.Axis.STATE 7, 2)]).accepts byFw (Key.Axis.COMMAND 7) 4 {} &&
      (inState .armed [(Key.Axis.STATE 7, 3)]).accepts byFw (Key.Axis.COMMAND 7) 6 {} &&
      (inState .config []).accepts byFw (Key.Axis.COMMAND 7) 7 {}) = true := by decide +kernel

theorem witness_RegisterCommandFrames_b :
    ((inState .config []).accepts byFw (Key.Axis.COMMAND 7) 8 {} &&
      (inState .config []).accepts byFw (Key.Axis.COMMAND 7) 9 {} &&
      (inState .config []).accepts byFw (Key.Axis.COMMAND 7) 10 {} &&
      (inState .config [(Key.MacRing.TX_LEN 1, 65536)]).accepts byFw (Key.MacRing.TX_TAIL 1) (1) {} &&
      (inState .config []).accepts byFw (if true then Key.Inc.ADJ_INCREMENT else Key.Inc.INCREMENT) (17179869184) {} &&
      (inState .armed []).accepts byFw Key.Inc.ADJ_TICKS (2 ^ 32 - 1) {} &&
      (inState .armed [(Key.Trig.MODE 31, 3)]).accepts byFw (Key.Trig.COMMAND 31) 1 {} &&
      (inState .armed []).accepts byFw (Key.Trig.COMMAND 31) 2 {} &&
      (inState .service [(Key.DmcSt.STATE, 2)]).accepts byFw Key.Ppr.PPR_COMMAND 1 {} &&
      (inState .service [(Key.DmcSt.STATE, 2)]).accepts byFw Key.Ppr.PPR_COMMAND 2 {} &&
      (inState .armed []).accepts byFw (Key.Dma.COMMAND 31) 3 {}) = true := by decide +kernel

theorem witness_RegisterCommandFrames_next : ∀ (s : State), ∀ i ∈ ([.describeSelect byFw (.fm) (2 ^ 32 - 1), .join byFw (191), .cancelJoin byFw (191), .patClear byFw (3), .encoderZero byFw (5), .axisEnable byFw (7), .axisDisable byFw (7), .moveAbs byFw (7), .moveRel byFw (7), .switchTable byFw (7), .axisStop byFw (7), .quickStop byFw (7), .axisReset byFw (7), .setPosition byFw (7), .txTailWrite byFw (1) (1), .incrementWrite byFw (true) (17179869184), .adjTicksWrite byFw (2 ^ 32 - 1), .pulse byFw (31), .cancel byFw (31), .pprSoft byFw, .pprHard byFw, .dmaClear byFw (31)] : List Instr), ∃ t, exec i s = .next t :=
  fun s i _ => next_of i s

theorem witness_BlockEventFrames : ∀ i ∈ ([.mr4Poll true, .plicClaim 8, .plicComplete 8 127, .fenceIR 3, .domainIdle 14, .vaonRise, .wakeTimer, .heartbeatSend 1,
    .creditReturnTimer 1 2] : List Instr), ∃ t, exec i (inState .armed []) = .next t := fun i _ => next_of i _

theorem witness_DeviceCommandMatrix :
    (devMatrix .fault 6 = none ∧ devMatrix .fault 4 = some false ∧ (base .fault).pendState = none) ∧
    ((base .ready).dev = .ready ∧ (sets (base .ready) [(Key.Restore.ACK_REQUIRED, 1)]).rdB Key.Restore.ACK_REQUIRED = true) ∧
    ((base .armed).dev = .armed ∧ (base .fault).dev = .fault ∧ (base .config).dev ≠ .start ∧ (base .ready).pads.lsafe = true) := by decide +kernel

theorem witness_DeviceCommandMatrix_noFeed (a : Nat) : ((base .config).axis a).feedOf = none := by
  have h : (base .config).axes = Sys.reset.axes := rfl
  unfold Sys.axis
  rw [h]
  have e : Sys.reset.axes = Vector.replicate 8 {} := rfl
  rw [e]
  unfold Vector.getD
  rw [Array.getD_eq_getD_getElem?]
  by_cases ha : a < 8
  · simp [ha]
  · simp [ha]

/-- Requests of the chain wait for a clock that does not run, as many as the queue takes. -/
def fullState : State := { toSys := { base .armed with eng := { (base .armed).eng with waits := List.replicate 64 { acc := byHost, write := true, idx := 0xE04, sub := 3, size := 4 } } } }

theorem witness_FullChainQueueAnswersBusy :
    byHost.who = .chain 1 ∧ fullState.powered = true ∧ fullState.leaving = false ∧ ¬(fullState.dev = .start ∧ fullState.rd Key.Restore.RESTORE_STATUS = 0) ∧
      fullState.engineStops = false ∧ fullState.eng.waits ≠ [] ∧ 64 ≤ fullState.chainWaits := by decide +kernel

theorem witness_BadHeaderIsDiscarded :
    let s := inState .armed [(Key.Port.STATE 1, 3)]
    let f := { frame 1 2 [] with hcrc := (frame 1 2 []).hcrc + 1 }
    s.powered = true ∧ s.portUp 1 = true ∧ f.hcrc ≠ hcrcOf f ∧ f.cls < 3 ∧ f.len ≤ 2048 := by decide +kernel

theorem witness_FailedStoreCopyRefuses :
    (let acc : Access := { byFw with copyA := false }
     (entryRow (keyIdx Key.Sync.SYNC_INTERVAL) (keySub Key.Sync.SYNC_INTERVAL)).any (fun r => r.kept) &&
       (base .config).accepts { acc with copyA := true } Key.Sync.SYNC_INTERVAL 1000000 {} && !acc.copyA) = true := by decide +kernel


end Sys2Proof.Tests
end

section
/-! PROOFS. What a store of a device master leaves (R6, R15, R17): the bytes of its value in memory and nothing else, whether it goes to the shared
SRAM, into the L2, or by way of the queues of the DRAM controller. -/

namespace Sys2Proof.Machine

open Sys2Proof

/-! ### Little-endian bytes and bursts -/

theorem length_le (n v : Nat) : (le n v).length = n := by
  induction n generalizing v with
  | zero => rfl
  | succ n ih => simp [le, ih]

/-- Byte `i` of a value (R6). -/
theorem getD_le (n v i : Nat) (h : i < n) : (le n v).getD i 0 = v / 256 ^ i % 256 := by
  induction n generalizing v i with
  | zero => omega
  | succ n ih =>
    cases i with
    | zero => simp [le]
    | succ i => rw [le, List.getD_cons_succ, ih _ _ (by omega), Nat.div_div_eq_div_mul, Nat.pow_succ, Nat.mul_comm]

/-- The bytes of a list placed at `a` that lie below `b + 64` are those below `b` and then those of the burst from `b` on. -/
theorem take_burst (data : List Nat) (a b : Nat) (h : b ≤ a + data.length) (h' : a < b + 64) :
    data.take (b + 64 - a) = data.take (b - a) ++ (data.drop (max a b - a)).take (min (a + data.length) (b + 64) - max a b) := by
  rw [show max a b - a = b - a by omega, ← List.take_add, List.take_eq_take_iff]
  omega

namespace Sys

theorem rdW_setBytes (s : Sys) (a : Nat) (data : List Nat) (k : Nat) : (s.setBytes a data).rdW k = s.rdW k := by
  obtain ⟨m, h⟩ := setBytes_eq s a data
  rw [h]
  rfl

/-- What holds at the start and is kept by each step of a loop over the numbers below `n` holds at its end. -/
theorem each_range_induction {P : Nat → Sys → Prop} {f : Sys → Nat → Sys} {n : Nat} {s : Sys} (h0 : P 0 s)
    (hs : ∀ k t, k < n → P k t → P (k + 1) (f t k)) : P n (s.each (List.range n) f) := by
  induction n with
  | zero => exact h0
  | succ n ih =>
    rw [each, List.range_succ, List.foldl_append]
    exact hs n _ (by omega) (ih (fun k t hk => hs k t (by omega)))

end Sys

/-! ### What a store leaves -/

/-- From `s` to `t` the bytes from address `a` up have become `data`; every other byte, and every entry but those in `ks`, is as it was. -/
structure Stored (ks : List Nat) (s t : Sys) (a : Nat) (data : List Nat) : Prop where
  inside : ∀ i, i < data.length → t.byte (a + i) = BitVec.ofNat 8 (data.getD i 0)
  outside : ∀ x, x < a ∨ a + data.length ≤ x → t.byte x = s.byte x
  entries : ∀ k, k ∉ ks → t.rdW k = s.rdW k

theorem Stored.nil (ks : List Nat) (s : Sys) (a : Nat) : Stored ks s s a [] :=
  ⟨fun _ h => absurd h (Nat.not_lt_zero _), fun _ _ => rfl, fun _ _ => rfl⟩

theorem Stored.setBytes (ks : List Nat) (s : Sys) (a : Nat) (data : List Nat) : Stored ks s (s.setBytes a data) a data :=
  ⟨Sys.byte_setBytes_in s a data, Sys.byte_setBytes_out s a data, fun k _ => Sys.rdW_setBytes s a data k⟩

/-- Two stores, one behind the other, are one store. -/
theorem Stored.append {ks : List Nat} {s t u : Sys} {a : Nat} {l l' : List Nat} (h : Stored ks s t a l) (h' : Stored ks t u (a + l.length) l') :
    Stored ks s u a (l ++ l') where
  inside i hi := by
    rw [List.length_append] at hi
    by_cases hl : i < l.length
    · rw [h'.outside _ (by omega), h.inside i hl, List.getD_eq_getElem?_getD, List.getD_eq_getElem?_getD, List.getElem?_append_left hl]
    · rw [List.getD_eq_getElem?_getD, List.getElem?_append_right (by omega), ← List.getD_eq_getElem?_getD, ← h'.inside (i - l.length) (by omega)]
      congr 1
      omega
  outside x hx := by
    rw [List.length_append] at hx
    rw [h'.outside x (by omega), h.outside x (by omega)]
  entries k hk := (h'.entries k hk).trans (h.entries k hk)

/-- A store after a change that keeps memory and every entry but those in `ks` is a store from before that change. -/
theorem Stored.after {ks : List Nat} {s t u : Sys} {a : Nat} {data : List Nat} (hb : ∀ x, t.byte x = s.byte x)
    (he : ∀ k, k ∉ ks → t.rdW k = s.rdW k) (h : Stored ks t u a data) : Stored ks s u a data :=
  ⟨h.inside, fun x hx => (h.outside x hx).trans (hb x), fun k hk => (h.entries k hk).trans (he k hk)⟩

/-- The parity of the stored bytes is no byte of memory. -/
theorem Stored.setBad {ks : List Nat} {s t : Sys} {a : Nat} {data : List Nat} (x n : Nat) (l : List Nat) (h : Stored ks s t a data) :
    Stored ks s (t.setBad x n l) a data :=
  ⟨h.inside, h.outside, h.entries⟩

namespace Sys

@[simp] theorem byte_modDch (s : Sys) (c : Nat) (f : DramChan → DramChan) (x : Nat) : (s.modDch c f).byte x = s.byte x := rfl
@[simp] theorem rdW_modDch (s : Sys) (c : Nat) (f : DramChan → DramChan) (k : Nat) : (s.modDch c f).rdW k = s.rdW k := rfl

/-- Counting in an entry changes no byte, and of the entries that one. -/
theorem when_inc_keeps (s : Sys) (b : Bool) (j : Nat) : (∀ x, (s.when b (fun u => u.inc j)).byte x = s.byte x) ∧
    ∀ k, k ∉ [j] → (s.when b (fun u => u.inc j)).rdW k = s.rdW k := by
  cases b
  · exact ⟨fun _ => rfl, fun _ _ => rfl⟩
  · exact ⟨fun _ => rfl, fun k hk => (rdW_wrW s j k _).trans (if_neg (List.ne_of_not_mem_cons hk))⟩

theorem when_breakSv_keeps (s : Sys) (b : Bool) (a n : Nat) : (∀ x, (s.when b (fun u => u.breakSv a n)).byte x = s.byte x) ∧
    ∀ k, (s.when b (fun u => u.breakSv a n)).rdW k = s.rdW k := by
  cases b <;> exact ⟨fun _ => rfl, fun _ => rfl⟩

/-- A write that enters a queue of the DRAM controller (R384, R385): its bytes are visible, and its bank may count one more request in order. -/
theorem dramEnter_stored (s : Sys) (m a n : Nat) (data : List Nat) (bad : Nat) :
    Stored [Key.DmcCnt.IN_ORDER] s (s.dramEnter m true a n data bad) a (data.take n) := by
  unfold dramEnter
  dsimp only
  rw [if_pos rfl]
  refine Stored.setBad _ _ _ (Stored.after (fun x => ?_) (fun k hk => ?_) (Stored.setBytes _ _ a (data.take n)))
  · rw [byte_modDch, (when_inc_keeps s _ _).1]
  · rw [rdW_modDch, (when_inc_keeps s _ _).2 k hk]

/-- The first `n` bursts of a write of `data` from `a` up have left their bytes. -/
def BurstsStored (s : Sys) (a : Nat) (data : List Nat) (n : Nat) (t : Sys) : Prop :=
  Stored [Key.DmcCnt.IN_ORDER] s t a (data.take (a / 64 * 64 + 64 * n - a))

theorem BurstsStored.all {s t : Sys} {a : Nat} {data : List Nat} (h : BurstsStored s a data ((a % 64 + data.length + 63) / 64) t) :
    Stored [Key.DmcCnt.IN_ORDER] s t a data := by
  rwa [BurstsStored, List.take_of_length_le (by omega)] at h

theorem BurstsStored.none (s : Sys) (a : Nat) (data : List Nat) : BurstsStored s a data 0 s := by
  rw [BurstsStored, show a / 64 * 64 + 64 * 0 - a = 0 by omega]
  exact Stored.nil _ s a

/-- One burst more: it begins where those before it end. -/
theorem BurstsStored.next {s t u : Sys} {a : Nat} {data : List Nat} {n : Nat} (hn : n < (a % 64 + data.length + 63) / 64) (h : BurstsStored s a data n t)
    (hu : Stored [Key.DmcCnt.IN_ORDER] t u (max a (a / 64 * 64 + 64 * n)) ((data.drop (max a (a / 64 * 64 + 64 * n) - a)).take
      (min (a + data.length) (a / 64 * 64 + 64 * n + 64) - max a (a / 64 * 64 + 64 * n)))) : BurstsStored s a data (n + 1) u := by
  rw [BurstsStored, show a / 64 * 64 + 64 * (n + 1) - a = a / 64 * 64 + 64 * n + 64 - a by omega, take_burst data a _ (by omega) (by omega)]
  refine Stored.append h ?_
  rwa [List.length_take, show a + min (a / 64 * 64 + 64 * n - a) data.length = max a (a / 64 * 64 + 64 * n) by omega]

/-- A write to the DRAM leaves its bytes burst by burst (R383, R405). -/
theorem dramPost_stored (s : Sys) (m a : Nat) (data : List Nat) (bad : Nat) : Stored [Key.DmcCnt.IN_ORDER] s (s.dramPost m a data bad) a data :=
  BurstsStored.all (each_range_induction (P := BurstsStored s a data) (BurstsStored.none s a data)
    (fun _ t hn h => h.next hn (dramEnter_stored t m _ _ _ _)))

/-- A master's write to memory, to the shared SRAM, into the L2 or to the DRAM (R17, R426): below the DRAM no entry changes. -/
theorem busStore_stored (s : Sys) (m a : Nat) (data : List Nat) (bad : Nat) :
    Stored (if dramBase ≤ a then [Key.DmcCnt.IN_ORDER] else []) s (s.busStore m a data bad) a data := by
  unfold busStore
  dsimp only
  refine Stored.after (when_breakSv_keeps s (decide (m ≠ 0)) a data.length).1
    (fun k _ => (when_breakSv_keeps s (decide (m ≠ 0)) a data.length).2 k) ?_
  split
  · split
    · exact dramPost_stored _ m a data bad
    · exact Stored.setBytes _ _ a data
  · next below =>
    rw [if_neg (fun h => below h.1)]
    exact Stored.setBytes _ _ a data

/-! ### The command -/

/-- A store with good parity of a master that is no hart, to the shared SRAM or the DRAM, that the fabric lets pass (R15, R447). -/
theorem fabricAccess_store (s : Sys) (otp : Nat → Nat) (m : Nat) (machine : Bool) (size addr v bad : Nat) (hm : 4 < m)
    (hr : regionOf (fullAddr addr) = 2 ∨ regionOf (fullAddr addr) = 7) (hc : s.busCheck m machine true addr size = (s, true)) :
    s.fabricAccess otp m machine .store size addr v true bad = s.busStore m (fullAddr addr) (le size v) bad := by
  have hart : ¬ m ≤ 4 := by omega
  have ap : isAp m = false := decide_eq_false (by omega)
  have coreLocal : regionOf (fullAddr addr) ≠ 5 := by omega
  have window : regionOf (fullAddr addr) ≠ 6 := by omega
  have write : s.busWrite m machine addr (le size v) true bad = (s.busStore m (fullAddr addr) (le size v) bad, true) := by
    simp [busWrite, length_le, hc, ap, coreLocal, hart]
  simp [fabricAccess, atomicUse, hart, window, write]

end Sys

/-- An access of a master that is no hart, and that nothing holds back, is carried out. -/
theorem exec_fabricAccess_device (s : State) (m : Fin 256) (machine : Bool) (use : BusUse) (size addr v : Nat) (reqOk : Bool) (bad : Nat)
    (hp : s.powered = true) (hm : 4 < m.val) (hh : s.mustHold (.access m machine use size addr v reqOk bad) = false) :
    exec (.fabricAccess m machine use size addr v reqOk bad) s =
      .next (burnt s (s.toSys.fabricAccess s.otpWord m machine use size addr v reqOk bad)) := by
  have hart : ¬ (m.val ≤ 4 ∧ (!s.hartIssues m use size addr) = true) := by omega
  have := onOd_on (fun otp s => if m.val ≤ 4 ∧ !s.hartIssues m use size addr then s else s.issue otp (.access m machine use size addr v reqOk bad)) s hp
  simp only [if_neg hart, Sys.issue, hh] at this
  exact this

theorem burnt_byte (s : State) (t : Sys) (a : Nat) : (burnt s t).byte a = t.byte a := by
  unfold burnt
  split <;> rfl

theorem burnt_rdW (s : State) (t : Sys) (k : Nat) : (burnt s t).rdW k = t.rdW k := by
  unfold burnt
  split <;> rfl

theorem burnt_dev (s : State) (t : Sys) : (burnt s t).dev = t.dev := by
  unfold burnt
  split <;> rfl

/-- Settles O50: the store is one `busStore`, which leaves the bytes of the value burst by burst, or at once in the SRAM and the L2. -/
theorem fabricStoreWritesItsBytes : Obligations.FabricStoreWritesItsBytes := by
  unfold Obligations.FabricStoreWritesItsBytes
  intro s m machine size addr v bad hp hm hr hc hh
  obtain ⟨inside, outside, entries⟩ := s.toSys.busStore_stored m (Sys.fullAddr addr) (le size v) bad
  rw [length_le] at inside outside
  refine ⟨_, exec_fabricAccess_device s m machine .store size addr v true bad hp hm hh, ?_⟩
  rw [s.toSys.fabricAccess_store s.otpWord m machine size addr v bad hm hr hc]
  refine ⟨fun i hi => ?_, fun x hx => ?_, fun k hk => ?_, ?_⟩
  · rw [burnt_byte, inside i hi, getD_le _ _ _ hi]
    exact BitVec.eq_of_toNat_eq (by simp)
  · rw [burnt_byte, outside x hx]
  · rw [burnt_rdW, entries k]
    rcases hk with hk | hk
    · simp [Nat.not_le.mpr hk]
    · split <;> simp [hk]
  · rw [burnt_dev, (Sys.busStore_calm _ _ _ _ _).dev]

end Sys2Proof.Machine
end

section
/-! PROOFS. What the events of the DRAM controller (R383 to R396) and of the DMA engine (R408 to R416) do under the conditions in which they act. -/

namespace Sys2Proof.Machine

open Sys2Proof

namespace Sys

/-! ### The DRAM controller -/

theorem dramServed_read (s : Sys) (r : DramReq) (hw : r.write = false) : s.dramServed r = (s.inc64 Key.DmcCnt.READS).emit (.data r.master r.val) := by
  simp [dramServed, hw]

/-- A write of less than a burst is a read, a change and a write (R383). -/
theorem dramServed_short (s : Sys) (r : DramReq) (hw : r.write = true) (hl : r.len < 64) :
    s.dramServed r = ((s.inc64 Key.DmcCnt.READS).inc Key.DmcCnt.RMW).inc64 Key.DmcCnt.WRITES := by
  simp [dramServed, hw, hl]

/-- The lanes of the burst of request `r` that fail their parity: those of `bad`, and those stored so (R380, R388). -/
def badLanes (s : Sys) (r : DramReq) (bad : Nat) : Nat := lanesOf (maskAddrs (r.addr / 64 * 64) 64 bad ++ s.badStored (r.addr / 64 * 64) 64)

section ReadData

variable {s : Sys} {c : Nat} {r : DramReq} {rest : List DramReq} (hf : (s.dch c).flight = r :: rest) (bad : Nat)
include hf

/-- The data of a request that a freeze has answered before go to nobody (R389). -/
theorem dramReadData_void (hv : r.void = true) :
    s.dramReadData c bad = (s.modDch c (fun d => { d with flight := d.flight.drop 1 })).when (decide (s.badLanes r bad ≠ 0)) (fun u => u.inc Key.DmcErr.FURTHER) := by
  simp only [dramReadData, hf, if_pos hv]
  rfl

/-- Data that fail their parity freeze the controller (R388). -/
theorem dramReadData_bad (hv : r.void = false) (hb : s.badLanes r bad ≠ 0) :
    s.dramReadData c bad = (s.freezeAt 0x58 (if r.write then 2 else 1) r (s.badLanes r bad) (if r.write then 2 else 0)).modDch c
      (fun d => { d with flight := d.flight.drop 1 }) := by
  unfold badLanes at hb ⊢
  simp only [dramReadData, hf, hv, if_pos hb]
  rfl

/-- Good data serve their request; the refresh that waited for the last write in flight is issued (R383, R386). -/
theorem dramReadData_good (hv : r.void = false) (hb : s.badLanes r bad = 0) :
    s.dramReadData c bad = (let v := (s.modDch c (fun d => { d with flight := rest })).dramServed r
      if rest.all (fun x => !x.write) then v.refreshOwed c else v) := by
  unfold badLanes at hb
  simp [dramReadData, hf, hv, hb]

end ReadData

theorem mr4_on (s : Sys) (hot : Bool) (h0 : s.rd Key.DmcSt.STATE ≠ 0) (h4 : s.rd Key.DmcSt.STATE ≠ 4) (hr : s.runs 1 = true) :
    s.mr4 hot = s.wr Key.DmcRef.TREFI (if hot then 1950 else 3900) := by
  simp [mr4, h0, h4, hr]

theorem oscRun_on (s : Sys) (counts : List Nat) (h : s.rd Key.DmcSt.STATE = 2) (hr : s.runs 1 = true) :
    s.oscRun counts = (counts.zip (List.range counts.length)).foldl (fun u (x : Nat × Nat) =>
      if x.2 / 10 < u.rd Key.Dmc.CHANNELS ∧ x.2 % 10 / 5 < u.rd Key.Dmc.RANKS then u.oscLane x.2 x.1 else u) s := by
  simp [oscRun, h, hr]

/-- A repair that finds no resource ends with result 1 (R394). -/
theorem pprEnd_noResource (s : Sys) (verified : Bool) {p : Bool × Nat} (h : s.dram.ppr = some p) :
    s.pprEnd false verified = ({ s with dram := { s.dram with ppr := none } } : Sys).wr Key.Ppr.PPR_RESULT 1 := by
  simp [pprEnd, h]

/-! ### The DMA engine -/

/-- An armed shadow is taken by a channel with nothing to read, no stop and no held record (R409). -/
theorem shadowTake_takes (s : Sys) (d : Nat) (hs : (s.handOver d).dmaState d = 1 ∨ (s.handOver d).dmaState d = 2)
    (ha : (s.handOver d).rdB (Key.DmaSh.ARM d) = true) (hr : (s.handOver d).dmaReads d = none) (hh : (s.handOver d).dmaHeld d = false)
    (hj : ((s.handOver d).dmaCh d).jobs.any (fun j => j.stop) = false) : s.shadowTake d = (s.handOver d).takeShadow d true := by
  unfold shadowTake
  exact if_pos ⟨hs, ha, by rw [hr]; rfl, by rw [hh]; rfl, by rw [hj]; rfl⟩

/-- A transfer with nothing left to read or write completes (R414). -/
theorem transferComplete_ended (s : Sys) (d : Nat) {j : DmaJob} {rest : List DmaJob} (h : (s.dmaCh d).jobs = j :: rest) (hr : j.rest = 0)
    (ho : j.out = []) : s.transferComplete d = (s.handOver d).completeHead d := by
  simp [transferComplete, h, hr, ho]

theorem captureAt_held (s : Sys) (addr master : Nat) (h : s.gath.captured = true) : s.captureAt addr master = s := if_pos h

theorem captureAt_free (s : Sys) (addr master : Nat) (h : s.gath.captured = false) :
    s.captureAt addr master = { ((s.wr Key.Gath.ERR_ADDR addr).wr Key.Gath.ERR_MASTER master) with
      gath := { s.gath with captured := true, addrRead := false, masterRead := false } } := by
  simp [captureAt, h]

/-- A write error after an unfenced completion sets its flag, is captured where no capture is held, and is a fault (R416). -/
theorem lateError_unfenced (s : Sys) (d addr : Nat) (h : (s.dmaCh d).unfenced = true) :
    s.lateError d addr = ((s.wrBit (Key.Dma.FLAGS d) 2 true).captureAt addr (0x10 + d)).faultNow 0x63 8 d := if_pos h

theorem lateError_held (s : Sys) (d addr : Nat) (h : (s.dmaCh d).unfenced = true) (hc : s.gath.captured = true) :
    s.lateError d addr = (s.wrBit (Key.Dma.FLAGS d) 2 true).faultNow 0x63 8 d := by
  rw [lateError_unfenced s d addr h, captureAt_held (s.wrBit (Key.Dma.FLAGS d) 2 true) _ _ hc]

theorem lateError_first (s : Sys) (d addr : Nat) (h : (s.dmaCh d).unfenced = true) (hc : s.gath.captured = false) :
    s.lateError d addr = (let v := s.wrBit (Key.Dma.FLAGS d) 2 true
      ({ ((v.wr Key.Gath.ERR_ADDR addr).wr Key.Gath.ERR_MASTER (0x10 + d)) with
          gath := { v.gath with captured := true, addrRead := false, masterRead := false } } : Sys).faultNow 0x63 8 d) := by
  rw [lateError_unfenced s d addr h, captureAt_free (s.wrBit (Key.Dma.FLAGS d) 2 true) _ _ hc]

end Sys

/-! ### The commands -/

/-- A command on the powered block whose effect is `g` on this state. -/
theorem onSys_next {f g : Sys → Sys} {s : State} (hp : s.powered = true) (h : f s.toSys = g s.toSys) : onSys f s = .next (s.on g) := by
  rw [onSys_on f s hp, h]
  rfl

/-- Settles O25, clause by clause: each command is the effect of its event on the powered block. -/
theorem dramAndDmaEventsAct : Obligations.DramAndDmaEventsAct := by
  unfold Obligations.DramAndDmaEventsAct
  refine ⟨?dramRequest, ?dramIssue, ?readData, ?shortWriteData, ?badData, ?voidData, ?dramAlert, ?refreshInterval, ?mr4Poll, ?oscRun,
    ?pprNoResource, ?pprResource, ?patComplete, ?handOver, ?shadowTake, ?descriptorFetch, ?transferComplete, ?lateErrorHeld, ?lateErrorFirst, ?dmaBurst⟩
  case dramRequest => exact fun _ m w a n data hp _ _ _ _ => onSys_next (f := fun u => u.dramRequest m w a n data) hp rfl
  case dramIssue => exact fun _ ch ok hp _ _ => onSys_next (f := fun u => u.dramIssue ch ok) hp rfl
  case readData =>
    intro s ch bad r rest hp hf hv hb hw
    refine onSys_next (f := fun u => u.dramReadData ch bad) hp ((Sys.dramReadData_good hf bad hv hb).trans ?_)
    simp only [Sys.dramServed_read _ r hw]
  case shortWriteData =>
    intro s ch bad r rest hp hf hv hb hw hl
    refine onSys_next (f := fun u => u.dramReadData ch bad) hp ((Sys.dramReadData_good hf bad hv hb).trans ?_)
    simp only [Sys.dramServed_short _ r hw hl]
  case badData => exact fun _ ch bad _ _ hp hf hv hb => onSys_next (f := fun u => u.dramReadData ch bad) hp (Sys.dramReadData_bad hf bad hv hb)
  case voidData => exact fun _ ch bad _ _ hp hf hv => onSys_next (f := fun u => u.dramReadData ch bad) hp (Sys.dramReadData_void hf bad hv)
  case dramAlert => exact fun _ ch low hp => onSys_next (f := fun u => u.dramAlert ch low) hp rfl
  case refreshInterval => exact fun _ hp _ _ _ => onSys_next (f := fun u => u.refreshDue) hp rfl
  case mr4Poll => exact fun s hot hp h0 h4 hr => onSys_next (f := fun u => u.mr4 hot) hp (s.toSys.mr4_on hot h0 h4 hr)
  case oscRun => exact fun s counts hp h hr => onSys_next (f := fun u => u.oscRun counts) hp (s.toSys.oscRun_on counts h hr)
  case pprNoResource =>
    exact fun s _ _ verified hp h => onSys_next (f := fun u => u.pprEnd false verified) hp (s.toSys.pprEnd_noResource verified h)
  case pprResource => exact fun _ _ _ verified hp _ => onSys_next (f := fun u => u.pprEnd true verified) hp rfl
  case patComplete => exact fun _ bits errs hp _ => onSys_next (f := fun u => u.patternEnd bits errs) hp rfl
  case handOver => exact fun _ d _ hp _ => onSys_next (f := fun u => u.handOver d) hp rfl
  case shadowTake =>
    exact fun s d hp hs ha hr hh hj => onSys_next (f := fun u => u.shadowTake d) hp (s.toSys.shadowTake_takes d hs ha hr hh hj)
  case descriptorFetch => exact fun _ d ok hp _ _ _ _ _ _ _ => onSys_next (f := fun u => u.descriptorFetch d ok) hp rfl
  case transferComplete =>
    exact fun s d _ _ hp h hr ho => onSys_next (f := fun u => u.transferComplete d) hp (s.toSys.transferComplete_ended d h hr ho)
  case lateErrorHeld => exact fun s d addr hp hu hc => onSys_next (f := fun u => u.lateError d addr) hp (s.toSys.lateError_held d addr hu hc)
  case lateErrorFirst => exact fun s d addr hp hu hc => onSys_next (f := fun u => u.lateError d addr) hp (s.toSys.lateError_first d addr hu hc)
  case dmaBurst =>
    exact fun s bad hp => onOd_on (fun otp u =>
      let v := u.dmaBurst (Sys.dmaAccess otp) bad
      if decide (u.eng.waits.length < v.eng.waits.length) || [0, 1].any (fun c => decide (max 64 (u.dch c).queue.length < (v.dch c).queue.length)) then u
      else v) s hp

end Sys2Proof.Machine
end

section
/-! PROOFS. What the events of the part as a whole, of the retained store, of the boot, of the gateway and of the MACs do under the conditions in which
they act (R23, R58, R62, R98 to R101, R350 to R353, R434, R442, R458, R459, R551). -/

namespace Sys2Proof.Machine

open Sys2Proof

namespace Sys

/-! ### The device state, resets and the store -/

/-- GO_CONFIG completes when every slot and axis rests (R58). -/
theorem goConfigDone_rest {s : Sys} (hpend : s.pendState = some .config) (hd : s.dev = .ready) (hr : s.allRest = true) :
    s.goConfigDone = (let v := s.setCause 0x10 1 2 1 s.eng.pendReq
      let w := ({ v with pendState := none } : Sys).calDeviceState.enterConfig none
      w.when ((List.range 48).any (fun m => v.updRuns m) && decide (w.reaction 0x29 = 4)) (fun u => u.enterFault 0x29 u.now)) :=
  if_pos ⟨hpend, hd, hr⟩

theorem inReset_on {s : Sys} (h : ¬(s.pw.state = .off ∧ s.pw.pmic ≠ 15)) :
    s.inReset = ({ s.resetCold with pw := { s.resetCold.pw with state := .reset } } : Sys).floatAnalog := if_neg h

theorem lsafeLow_high {s : Sys} (h : s.pads.lsafe = true) :
    s.lsafeLow = (let v := ({ s with pads := { s.pads with lsafe := false } } : Sys).refresh.capturePin 0x40 false
      (if v.dev = .armed then (v.setCause 0x21 0 3 2 0).disarmed else v).faultNow 0x6F 0 0) :=
  if_neg (by rw [h]; decide)

theorem lsafeHigh_low {s : Sys} (h : s.pads.lsafe = false) :
    s.lsafeHigh = ((({ s with pads := { s.pads with lsafe := true } } : Sys).clearActive 0x6F 0 0).refresh).capturePin 0x40 true :=
  if_neg (by rw [h]; decide)

/-- VERIFY marks the banks that fail, and ends without an error of its own (R551). -/
theorem storeDone_verify {s : Sys} (bad : Nat) (h : s.eng.command = some 3) :
    s.storeDone bad = ((({ s.wr Key.Store.STORE_PROGRESS 100 with eng := { s.eng with command := none } } : Sys).each
      ((List.range 32).filter (fun b => bad.testBit b)) (fun u b => u.markCopy (b / 2) (decide (b % 2 = 1)))).wr Key.Store.STORE_RESULT 0).raise 63 := by
  simp [storeDone, h]

/-! ### The boot sources -/

/-- A BOOT_REQ that has waited 10 ms is repeated, up to 8 attempts; then the ROM pauses (R101). -/
theorem bootTimeout_due {s : Sys} {t : Nat} (h : s.chain.boot.asked = some t) (ht : t + 10000000 ≤ s.clk) :
    s.bootTimeout = (if s.chain.boot.attempt < 7 then
        ({ s with chain := { s.chain with boot := { s.chain.boot with asked := none, attempt := s.chain.boot.attempt + 1 } } } : Sys).bootAsk
      else { s with chain := { s.chain with boot := { active := true, pause := some s.clk } } }) := by
  simp [bootTimeout, h, ht]

theorem bootRestart_due {s : Sys} {t : Nat} (otp : Nat → Nat) (h : s.chain.boot.pause = some t) (ht : t + 1000000000 ≤ s.clk) :
    s.bootRestart otp = ({ s with chain := { s.chain with boot := {} } } : Sys).bootList otp := by
  simp [bootRestart, h, ht]

/-! ### The gateway and the MACs -/

/-- An ARP request for LOCAL_IP is answered while the gateway's link is up (R99). -/
theorem arpIn_request {s : Sys} {m : Nat} {d : List Nat} (hg : s.gatewayOn m = true)
    (hr : beAt d 12 2 = 0x0806 ∧ beAt d 14 2 = 1 ∧ beAt d 16 2 = 0x0800 ∧ u8At d 18 = 6 ∧ u8At d 19 = 4 ∧ beAt d 20 2 = 1 ∧
      beAt d 38 4 = s.rd Key.Gw.LOCAL_IP) (hl : s.rd (Key.Mac.LINK m) = 3) :
    s.arpIn m d = s.modMac m (fun q => { q with gw := q.gw ++ [((d.drop 22).take 6) ++ be 6 (s.rd Key.Gw.LOCAL_MAC) ++ [0x08, 0x06] ++ be 2 1 ++
      be 2 0x0800 ++ [6, 4] ++ be 2 2 ++ be 6 (s.rd Key.Gw.LOCAL_MAC) ++ be 4 (s.rd Key.Gw.LOCAL_IP) ++ ((d.drop 22).take 6) ++ (d.drop 28).take 4] }) := by
  obtain ⟨hgw, hmac⟩ := Bool.and_eq_true_iff.mp hg
  exact (if_pos (Bool.and_eq_true_iff.mpr ⟨hgw, decide_eq_true ⟨of_decide_eq_true hmac, hr⟩⟩)).trans (if_pos hl)

/-- A frame that the MAC takes goes to its receive ring where the gateway does not use the MAC (R351, R352). -/
theorem macReceive_ring {s : Sys} (otp : Nat → Nat) {m : Nat} {d : List Nat} {fcsOk : Bool} {fec : Nat} (hin : (s.macIn m d fcsOk fec).2 = true)
    (hg : (s.macIn m d fcsOk fec).1.gatewayOn m = false) : s.macReceive otp m d fcsOk fec = (s.macIn m d fcsOk fec).1.macToRing m d := by
  simp [macReceive, hin, hg]

section MacOut

variable {s : Sys} {m : Nat} (hen : s.rdB (Key.Mac.ENABLE m) = true) (hl : s.rd (Key.Mac.LINK m) = 3) (ok : Bool)
include hen hl

/-- Without a datagram the transmit ring has the wire (R352, R353). -/
theorem macOut_ring (hq : (s.mac m).gw = []) : s.macOut m ok = s.ringOut m ok := by
  simp [macOut, hen, hl, hq]

/-- A datagram goes before the ring, but for every fifth frame while the ring waits (R353). -/
theorem macOut_datagram {d : List Nat} {rest : List (List Nat)} (hq : (s.mac m).gw = d :: rest) (hw : s.ringWaits m = false ∨ (s.mac m).passed < 4) :
    s.macOut m ok = ((s.modMac m (fun q => { q with gw := rest, passed := if s.ringWaits m then q.passed + 1 else 0 })).inc64
      (Key.MacCnt.TX_FRAMES m)).emit (.eth m (d ++ List.replicate (60 - d.length) 0) (!ok)) := by
  have turn : ¬(s.ringWaits m = true ∧ 4 ≤ (s.mac m).passed) := by
    rintro ⟨hr, hp⟩
    rcases hw with hw | hw
    · simp [hw] at hr
    · omega
  simp [macOut, hen, hl, hq, if_neg turn]

end MacOut

/-- A link changes where the MAC is enabled, to a state above NO_LOCK only with its lane UP (R350). -/
theorem ethLink_on {s : Sys} {m st : Nat} (hiBer : Bool) (fecBad : Nat) (hen : s.rdB (Key.Mac.ENABLE m) = true)
    (hst : st < 2 ∨ s.rd (Key.Lane.STAGE (s.rd (Key.Mac.LANE m))) = 4) :
    s.ethLink m st hiBer fecBad = (let v := ((((s.when hiBer (fun u => u.inc (Key.MacCnt.HI_BER_EVENTS m))).when (s.rdB (Key.Mac.RS_FEC m))
        (fun u => u.add (Key.MacCnt.FEC_UNCORRECTED m) 32 fecBad)).wr (Key.Mac.LINK m) st).when (decide (st = 1 ∨ st = 2))
        (fun u => u.emit (.ethFault m (decide (st = 1))))).when (decide (st ≠ 3)) (fun u => u.dropDatagrams m)
      if s.rd (Key.Mac.LINK m) = 3 ∧ st ≠ 3 then v.faultNow 0x56 7 (s.rd (Key.Mac.LANE m))
      else if st = 3 then v.clearActive 0x56 7 (s.rd (Key.Mac.LANE m)) else v) := by
  have acts : ¬((!s.rdB (Key.Mac.ENABLE m)) = true ∨ 2 ≤ st ∧ s.rd (Key.Lane.STAGE (s.rd (Key.Mac.LANE m))) ≠ 4) := by
    rw [hen]
    rintro (h | ⟨h2, h4⟩)
    · exact absurd h (by decide)
    · rcases hst with hst | hst
      · omega
      · exact h4 hst
  unfold ethLink
  dsimp only
  rw [if_neg acts]

end Sys

/-! ### The commands -/

/-- A command on the part as a whole whose effect is `g` on this state. -/
theorem onUnit_next {f g : Sys → Sys} {s : State} (h : f s.toSys = g s.toSys) : onUnit f s = .next (s.on g) := by
  rw [onUnit_eq f s, h]
  rfl

/-- A command on the powered block that may burn a fuse, and whose effect is `g` on this state. -/
theorem onOd_next {f : (Nat → Nat) → Sys → Sys} {g : Sys → Sys} {s : State} (hp : s.powered = true) (h : f s.otpWord s.toSys = g s.toSys) :
    onOd f s = .next (burnt s (g s.toSys)) := by
  rw [onOd_on f s hp, h]

/-- Release of reset in a part that is in RMA and not yet wiped sets RMA_WIPED (R442). -/
theorem execColdStart_wipe {s : State} (boot : Fin 4) (flash : List (List Nat)) (hpw : ¬(s.pw.state = .off ∧ s.pw.pmic ≠ 15))
    (hw : ((Sys.otpByte s.otpWord 9).testBit 2 && !(Sys.otpByte s.otpWord 9).testBit 3) = true) :
    execColdStart boot flash s = .next { s with
      toSys := s.toSys.coldStart s.otpWord boot flash, otp := Kv.put (fun _ => (0 : Word)) 2 (BitVec.ofNat 64 (programmed (s.otpWord 2) 2048)) s.otp } := by
  unfold execColdStart
  dsimp only
  rw [if_neg hpw, if_pos hw]

theorem execColdStart_keep {s : State} (boot : Fin 4) (flash : List (List Nat)) (hpw : ¬(s.pw.state = .off ∧ s.pw.pmic ≠ 15))
    (hw : ((Sys.otpByte s.otpWord 9).testBit 2 && !(Sys.otpByte s.otpWord 9).testBit 3) = false) :
    execColdStart boot flash s = .next { s with toSys := s.toSys.coldStart s.otpWord boot flash } := by
  unfold execColdStart
  dsimp only
  rw [if_neg hpw, if_neg (by rw [hw]; decide)]

/-- Settles O17, clause by clause: each command is the effect of its event, on the part as a whole or on the powered block. -/
theorem deviceAndNetworkEventsAct : Obligations.DeviceAndNetworkEventsAct := by
  unfold Obligations.DeviceAndNetworkEventsAct
  refine ⟨?goConfigComplete, ?warmResetActs, ?vaonRise, ?vaonLoss, ?resetAssert, ?restored, ?lsafeFall, ?lsafeRise, ?storeVerified, ?storeRebuild,
    ?bootReqTimeout, ?bootRestart, ?gatewayDatagram, ?arpRequest, ?macFrameReceive, ?macFrameSentRing, ?macFrameSentDatagram, ?ethLink,
    ?coldStartWipe, ?coldStartKeep⟩
  case goConfigComplete => exact fun s hp hpend hd hr => onSys_next (f := fun u => u.goConfigDone) hp (Sys.goConfigDone_rest hpend hd hr)
  case warmResetActs =>
    exact fun s hp hw => onSys_next (f := fun u => if u.eng.warmPending then u.warmReset s.otpWord else u) hp (if_pos hw)
  case vaonRise => exact fun s hoff => onUnit_next (f := fun u => u.vaonRisen) (if_pos hoff)
  case vaonLoss => exact fun s => onUnit_next (f := fun u => u.vaonLost) rfl
  case resetAssert => exact fun s hpw => onUnit_next (f := fun u => u.inReset) (Sys.inReset_on hpw)
  case restored => exact fun s us bad hp _ _ _ => onSys_next (f := fun u => u.restored us bad) hp rfl
  case lsafeFall =>
    exact fun s hp hl => onUnit_next (f := fun u => if u.powered then u.lsafeLow else { u with pads := { u.pads with lsafe := false } })
      ((if_pos hp).trans (Sys.lsafeLow_high hl))
  case lsafeRise =>
    exact fun s hp hl => onUnit_next (f := fun u => if u.powered then u.lsafeHigh else { u with pads := { u.pads with lsafe := true } })
      ((if_pos hp).trans (Sys.lsafeHigh_low hl))
  case storeVerified => exact fun s bad hp h => onSys_next (f := fun u => u.storeDone bad) hp (Sys.storeDone_verify bad h)
  case storeRebuild =>
    exact fun s pair hp hb => onOd_next (f := fun otp u => (u.rebuildDone pair).replay otp) (g := fun u => (u.pairGood pair).replay s.otpWord) hp
      (congrArg (fun u => Sys.replay u s.otpWord) (if_pos hb))
  case bootReqTimeout => exact fun s t hp h ht => onSys_next (f := fun u => u.bootTimeout) hp (Sys.bootTimeout_due h ht)
  case bootRestart => exact fun s t hp h ht => onSys_next (f := fun u => u.bootRestart s.otpWord) hp (Sys.bootRestart_due _ h ht)
  case gatewayDatagram =>
    exact fun s m d hp hg => onOd_next (f := fun otp u => if u.gatewayOn m then (u.gatewayIn otp m d).1 else u)
      (g := fun u => (u.gatewayIn s.otpWord m d).1) hp (if_pos hg)
  case arpRequest =>
    exact fun s m d hp hg h1 h2 h3 h4 h5 h6 h7 hl => onSys_next (f := fun u => u.arpIn m d) hp (Sys.arpIn_request hg ⟨h1, h2, h3, h4, h5, h6, h7⟩ hl)
  case macFrameReceive =>
    exact fun s m d fcsOk fec hp hin hg => onOd_next (f := fun otp u => u.macReceive otp m d fcsOk fec)
      (g := fun u => (u.macIn m d fcsOk fec).1.macToRing m d) hp (Sys.macReceive_ring _ hin hg)
  case macFrameSentRing =>
    exact fun s m ok hp hen hl hq _ => onSys_next (f := fun u => u.macOut m ok) hp (Sys.macOut_ring hen hl ok hq)
  case macFrameSentDatagram =>
    exact fun s m ok d rest hp hen hl hq hw => onSys_next (f := fun u => u.macOut m ok) hp (Sys.macOut_datagram hen hl ok hq hw)
  case ethLink =>
    exact fun s m st hiBer fecBad hp hen hst => onSys_next (f := fun u => u.ethLink m st hiBer fecBad) hp (Sys.ethLink_on hiBer fecBad hen hst)
  case coldStartWipe => exact fun s boot flash hpw hw => execColdStart_wipe boot flash hpw hw
  case coldStartKeep => exact fun s boot flash hpw hw => execColdStart_keep boot flash hpw hw

end Sys2Proof.Machine
end

section
/-! PROOFS. What the events of the harts do under the conditions in which they act: their accesses, AP control, caches and fences, the PLIC, image checks,
MRAM commands and the debug port (R15, R423 to R447). -/

namespace Sys2Proof.Machine

open Sys2Proof

namespace Sys

/-! ### Operations that a master may hold back -/

/-- What a master holds back joins the operations that it holds already (R383, R427, R428). -/
theorem issue_held {s : Sys} {op : HeldOp} (otp : Nat → Nat) (h : s.mustHold op = true) :
    s.issue otp op = s.modCore (fun c => { c with held := c.held ++ [op] }) := if_pos h

theorem issue_performed {s : Sys} {op : HeldOp} (otp : Nat → Nat) (h : s.mustHold op = false) : s.issue otp op = s.perform otp op :=
  if_neg (by rw [h]; decide)

/-- CBO.INVAL that CBIE makes a flush (R428). -/
theorem cboInval_flush {s : Sys} {h mode : Nat} (addr : Nat) (hc : s.cbie h mode = 1) : s.cboInval h mode addr = s.cboFlush h addr := by
  unfold cboInval
  simp only [hc]

theorem cboInval_drop {s : Sys} {h mode : Nat} (addr : Nat) (h0 : s.cbie h mode ≠ 0) (h1 : s.cbie h mode ≠ 1) :
    s.cboInval h mode addr = (s.drainStores h).dropLine (fullAddr addr) := by
  unfold cboInval
  dsimp only
  split
  next hc => exact absurd hc h0
  next hc => exact absurd hc h1
  next => rfl

/-! ### AP control, the PLIC and the debug port -/

/-- The supervisor writes a remote PMP register (R445): 0 and 1 are the configurations, the rest the addresses. -/
theorem remotePmp_cfg0 (s : Sys) {hart : Nat} {machine : Bool} (h v : Nat) (hsv : fromSv hart machine = true) :
    s.remotePmp hart machine h 0 v = s.setPmp h 0 v := by
  simp [remotePmp, hsv]

theorem remotePmp_cfg1 (s : Sys) {hart : Nat} {machine : Bool} (h v : Nat) (hsv : fromSv hart machine = true) :
    s.remotePmp hart machine h 8 v = s.setPmp h 1 v := by
  simp [remotePmp, hsv]

theorem remotePmp_addr (s : Sys) {hart : Nat} {machine : Bool} (h v : Nat) {off : Nat} (hsv : fromSv hart machine = true) (hlo : 0x80 ≤ off)
    (hhi : off < 0x100) (h8 : off % 8 = 0) : s.remotePmp hart machine h off v = s.setPmp h (2 + (off - 0x80) / 8) v := by
  unfold remotePmp
  dsimp only
  rw [if_neg (by omega), if_neg (by omega), if_pos ⟨hlo, hhi, h8⟩, hsv]

theorem plicClaim_best {s : Sys} {ctx : Nat} (h : s.plicBest ctx ≠ 0) :
    s.plicClaim ctx = ({ s with plic := { s.plic with
      pending := s.plic.pending.erase (s.plicBest ctx), claimed := s.plic.claimed ++ [(s.plicBest ctx, ctx)] } }, s.plicBest ctx) := by
  simp [plicClaim, h]

section Tck

variable {s : Sys} (hoff : s.pw.state ≠ .off) (hhold : s.pw.state ≠ .hold) (hentry : s.pw.state ≠ .holdEntry)
  (otp : Nat → Nat) (rising tms tdi : Bool) (pins : List Bool)
include hoff hhold hentry

/-- An edge of TCK with TRST_N high (R443). -/
theorem tckEdge_run : s.tckEdge otp true rising tms tdi pins = if rising then s.tckRise tms tdi pins else s.tckFall otp := by
  simp [tckEdge, hoff, hhold, hentry]

/-- TRST_N low takes the TAP to Test-Logic-Reset (R443). -/
theorem tckEdge_trst : s.tckEdge otp false rising tms tdi pins = s.modTap (fun t => { t with state := 15, ir := 1 }) := by
  simp [tckEdge, hoff, hhold, hentry]

end Tck

end Sys

/-! ### The commands -/

section Issue

variable {s : State} (hp : s.powered = true) {m : Fin 256} {machine : Bool} {use : BusUse} {size addr v : Nat} {reqOk : Bool} {bad : Nat}
  (hm : 4 < m.val ∨ s.hartIssues m use size addr = true)
include hp hm

/-- A master that may make an access issues it (R15, R422). -/
theorem exec_fabricAccess_issue : exec (.fabricAccess m machine use size addr v reqOk bad) s =
    .next (burnt s (s.toSys.issue s.otpWord (.access m machine use size addr v reqOk bad))) := by
  refine onOd_next (f := fun otp u => if m.val ≤ 4 ∧ !u.hartIssues m use size addr then u else u.issue otp (.access m machine use size addr v reqOk bad))
    (g := fun u => u.issue s.otpWord (.access m machine use size addr v reqOk bad)) hp (if_neg ?_)
  rintro ⟨hart, hn⟩
  rcases hm with hm | hm
  · omega
  · simp [hm] at hn

end Issue

section HartOp

variable {s : State} (hp : s.powered = true) {h : Nat} (ho : s.hartOut h = true) {op : HeldOp}
include hp ho

/-- A hart that is out of reset carries out what it need not hold back (R423, R428). -/
theorem hartOp_performed (hh : s.mustHold op = false) :
    onOd (fun otp u => if u.hartOut h then u.issue otp op else u) s = .next (burnt s (s.toSys.perform s.otpWord op)) :=
  onOd_next (g := fun u => u.perform s.otpWord op) hp ((if_pos ho).trans (Sys.issue_performed _ hh))

theorem hartOp_held (hh : s.mustHold op = true) :
    onOd (fun otp u => if u.hartOut h then u.issue otp op else u) s =
      .next (burnt s (s.toSys.modCore (fun c => { c with held := c.held ++ [op] }))) :=
  onOd_next (g := fun u => u.modCore (fun c => { c with held := c.held ++ [op] })) hp ((if_pos ho).trans (Sys.issue_held _ hh))

end HartOp

/-- Settles O26, clause by clause: an operation that a master may hold back is carried out or held, and each other command is the effect of its event. -/
theorem coreEventsAct : Obligations.CoreEventsAct := by
  unfold Obligations.CoreEventsAct
  refine ⟨?access, ?accessHeld, ?apRun, ?pmpCfg0, ?pmpCfg1, ?pmpAddr, ?clean, ?cleanHeld, ?flush, ?flushHeld, ?invalFlush, ?invalDrop, ?invalHeld,
    ?fenceWO, ?fenceWOHeld, ?fenceIR, ?fenceIRHeld, ?fenceI, ?fenceIHeld, ?plicClaim, ?plicComplete, ?imageCheck, ?mramCommand, ?debugModule,
    ?tckEdge, ?trst⟩
  case access =>
    intro s m machine use size addr v reqOk bad hp hm hh
    rw [exec_fabricAccess_issue hp hm, Sys.issue_performed _ hh]
    rfl
  case accessHeld =>
    intro s m machine use size addr v reqOk bad hp hm hh
    rw [exec_fabricAccess_issue hp hm, Sys.issue_held _ hh]
  case apRun => exact fun s hart machine v hp hsv => onSys_next (f := fun u => u.apRunWrite hart machine v) hp (if_pos hsv)
  case pmpCfg0 =>
    intro s hart machine h off v hp hsv hoff
    exact onSys_next (f := fun u => u.remotePmp hart machine h off v) hp (hoff ▸ s.toSys.remotePmp_cfg0 h v hsv)
  case pmpCfg1 =>
    intro s hart machine h off v hp hsv hoff
    exact onSys_next (f := fun u => u.remotePmp hart machine h off v) hp (hoff ▸ s.toSys.remotePmp_cfg1 h v hsv)
  case pmpAddr =>
    exact fun s hart machine h off v hp hsv hlo h8 => onSys_next (f := fun u => u.remotePmp hart machine h off v) hp
      (s.toSys.remotePmp_addr h v hsv hlo off.isLt h8)
  case clean => exact fun s h addr hp ho hh => hartOp_performed hp ho (op := .clean h addr) hh
  case cleanHeld => exact fun s h addr hp ho hh => hartOp_held hp ho (op := .clean h addr) hh
  case flush => exact fun s h addr hp ho hh => hartOp_performed hp ho (op := .flush h addr) hh
  case flushHeld => exact fun s h addr hp ho hh => hartOp_held hp ho (op := .flush h addr) hh
  case invalFlush =>
    intro s h mode addr hp ho hh hc
    exact (hartOp_performed hp ho (op := .inval h mode addr) hh).trans (congrArg (fun u => Host.Outcome.next (burnt s u)) (Sys.cboInval_flush addr hc))
  case invalDrop =>
    intro s h mode addr hp ho hh h0 h1
    exact (hartOp_performed hp ho (op := .inval h mode addr) hh).trans (congrArg (fun u => Host.Outcome.next (burnt s u)) (Sys.cboInval_drop addr h0 h1))
  case invalHeld => exact fun s h mode addr hp ho hh => hartOp_held hp ho (op := .inval h mode addr) hh
  case fenceWO => exact fun s h hp ho hh => hartOp_performed hp ho (op := .fenceWO h) hh
  case fenceWOHeld => exact fun s h hp ho hh => hartOp_held hp ho (op := .fenceWO h) hh
  case fenceIR => exact fun s h hp ho hh => hartOp_performed hp ho (op := .fenceIR h) hh
  case fenceIRHeld => exact fun s h hp ho hh => hartOp_held hp ho (op := .fenceIR h) hh
  case fenceI => exact fun s h hp ho hh => hartOp_performed hp ho (op := .fenceI h) hh
  case fenceIHeld => exact fun s h hp ho hh => hartOp_held hp ho (op := .fenceI h) hh
  case plicClaim =>
    exact fun s ctx hp hb => onSys_next
      (f := fun u => (u.plicClaim ctx).1.emit (.data (Sys.hartMaster (Sys.ctxHart ctx)) (u.plicClaim ctx).2)) hp
      (by simp only [Sys.plicClaim_best (s := s.toSys) hb])
  case plicComplete => exact fun s ctx src hp => onSys_next (f := fun u => u.plicComplete ctx src) hp rfl
  case imageCheck => exact fun s _ hp _ => onSys_next (f := fun u => u.imageDone s.otpWord) hp rfl
  case mramCommand => exact fun s _ fail hp _ => onSys_next (f := fun u => u.mramDone fail) hp rfl
  case debugModule =>
    exact fun s write addr data hp => onSys_next (f := fun u =>
      (u.dmiAccess s.otpWord write addr data).emit (.data 0x46 (u.dmiAccess s.otpWord write addr data).core.tap.dmiData)) hp rfl
  case tckEdge =>
    exact fun s rising tms tdi pins hoff hhold hentry => onUnit_next (f := fun u => u.tckEdge s.otpWord true rising tms tdi pins)
      (Sys.tckEdge_run hoff hhold hentry _ rising tms tdi pins)
  case trst =>
    exact fun s rising tms tdi pins hoff hhold hentry => onUnit_next (f := fun u => u.tckEdge s.otpWord false rising tms tdi pins)
      (Sys.tckEdge_trst hoff hhold hentry _ rising tms tdi pins)

end Sys2Proof.Machine
end

section
/-! PROOFS. What makes the emission outputs inactive (R23, R56, R58): the judging of the gates outside ARMED or with LSAFE_N low, DISARM, the fall of
LSAFE_N, and the entry into FAULT that the fault of that fall may bring. -/

namespace Sys2Proof.Machine

open Sys2Proof

/-! ### One bit of a pad word -/

/-- A bit is put between the bits below it and those above. -/
theorem putBit_eq (v i : Nat) (b : Bool) : putBit v i b = 2 ^ i * (2 * (v / 2 ^ (i + 1)) + b2n b) + v % 2 ^ i := by
  have hv : v = 2 ^ i * (v / 2 ^ i) + v % 2 ^ i := (Nat.div_add_mod v (2 ^ i)).symm
  have hb : b2n (v.testBit i) = v / 2 ^ i % 2 := by
    rw [← Nat.toNat_testBit]
    cases v.testBit i <;> rfl
  have hq : v / 2 ^ i = 2 * (v / 2 ^ (i + 1)) + b2n (v.testBit i) := by
    rw [hb, Nat.pow_succ, ← Nat.div_div_eq_div_mul]
    omega
  rw [hq, Nat.mul_add] at hv
  rw [Nat.mul_add]
  unfold putBit
  cases ht : v.testBit i <;> cases b <;> simp only [ht, b2n, Bool.false_eq_true, if_false, if_true] at hv ⊢ <;> omega

theorem testBit_putBit (v i j : Nat) (b : Bool) : (putBit v i b).testBit j = if j = i then b else v.testBit j := by
  rw [putBit_eq, Nat.testBit_two_pow_mul_add _ (Nat.mod_lt _ (Nat.two_pow_pos i))]
  rcases Nat.lt_trichotomy j i with h | rfl | h
  · rw [if_pos h, if_neg (by omega), Nat.testBit_mod_two_pow, decide_eq_true h, Bool.true_and]
  · rw [if_neg (by omega), if_pos rfl, Nat.sub_self]
    cases b <;> simp [b2n]
  · obtain ⟨k, rfl⟩ : ∃ k, j = i + 1 + k := ⟨j - (i + 1), by omega⟩
    rw [if_neg (by omega), if_neg (by omega), show i + 1 + k - i = k + 1 by omega, Nat.testBit_succ,
      show (2 * (v / 2 ^ (i + 1)) + b2n b) / 2 = v / 2 ^ (i + 1) by cases b <;> simp [b2n]; omega, Nat.testBit_div_two_pow]
    congr 1
    omega

namespace Sys

/-! ### Judging the gates -/

/-- The words of LP_EN and LP_MOD have a bit for each of the 16 channels. -/
def padsFit (s : Sys) : Prop := s.pads.lpEn < 2 ^ 16 ∧ s.pads.lpMod < 2 ^ 16

theorem padsFit_of_dark {s : Sys} (h : s.dark = true) : s.padsFit := by
  obtain ⟨hen, hmod, -⟩ := of_decide_eq_true h
  exact ⟨by omega, by omega⟩

/-- Where nothing may be emitted and the gates below channel `n` have been judged, their bits of both words are low; so are those of no channel. -/
structure GatesShut (n : Nat) (s : Sys) : Prop where
  shut : s.mayEmit = false
  lpEn : ∀ i, i < n ∨ 16 ≤ i → s.pads.lpEn.testBit i = false
  lpMod : ∀ i, i < n ∨ 16 ≤ i → s.pads.lpMod.testBit i = false

theorem GatesShut.start {s : Sys} (hp : s.padsFit) (h : s.mayEmit = false) : GatesShut 0 s where
  shut := h
  lpEn i hi := Nat.testBit_lt_two_pow (Nat.lt_of_lt_of_le hp.1 (Nat.pow_le_pow_right (by omega) (by omega)))
  lpMod i hi := Nat.testBit_lt_two_pow (Nat.lt_of_lt_of_le hp.2 (Nat.pow_le_pow_right (by omega) (by omega)))

theorem GatesShut.all {s : Sys} (h : GatesShut 16 s) : s.pads.lpEn = 0 ∧ s.pads.lpMod = 0 :=
  ⟨Nat.eq_of_testBit_eq fun i => (h.lpEn i (by omega)).trans (Nat.zero_testBit i).symm,
    Nat.eq_of_testBit_eq fun i => (h.lpMod i (by omega)).trans (Nat.zero_testBit i).symm⟩

/-- Judging a gate leaves the device state and LSAFE_N as they are. -/
theorem refreshGate_keeps (s : Sys) (c : Nat) : (s.refreshGate c).dev = s.dev ∧ (s.refreshGate c).pads.lsafe = s.pads.lsafe := by
  obtain ⟨t, en, lit, ht, -, hr⟩ := s.refreshGate_eq c
  exact ⟨hr.dev.trans ht.dev, by rw [hr.pads, modPads_pads, ht.pads]⟩

theorem GatesShut.refreshGate {s : Sys} {n : Nat} (h : GatesShut n s) : GatesShut (n + 1) (s.refreshGate n) := by
  obtain ⟨hdev, hls⟩ := s.refreshGate_keeps n
  obtain ⟨t, en, lit, ht, hlow, hr⟩ := s.refreshGate_eq n
  obtain ⟨rfl, rfl⟩ := hlow h.shut
  have hpads : (s.refreshGate n).pads = { s.pads with lpEn := putBit s.pads.lpEn n false, lpMod := putBit s.pads.lpMod n false } := by
    rw [hr.pads, modPads_pads, ht.pads]
  refine ⟨by rw [mayEmit, hdev, hls]; exact h.shut, fun i hi => ?_, fun i hi => ?_⟩
  all_goals
    rw [hpads, testBit_putBit]
    split
    · rfl
  · exact h.lpEn i (by omega)
  · exact h.lpMod i (by omega)

theorem each_refreshGate_dev (s : Sys) (l : List Nat) : (s.each l Sys.refreshGate).dev = s.dev := by
  induction l generalizing s with
  | nil => rfl
  | cons c l ih => exact (ih (s.refreshGate c)).trans (s.refreshGate_keeps c).1

theorem refreshIlk_keeps (s : Sys) : s.refreshIlk.dev = s.dev ∧ s.refreshIlk.mayEmit = s.mayEmit ∧ s.refreshIlk.pads.lpEn = s.pads.lpEn ∧
    s.refreshIlk.pads.lpMod = s.pads.lpMod := by
  unfold refreshIlk
  split <;> exact ⟨rfl, rfl, rfl, rfl⟩

/-- Judging every gate leaves the device state as it is. -/
theorem refresh_dev (s : Sys) : s.refresh.dev = s.dev := by
  have h : (((s.each (List.range 16) Sys.refreshGate).refreshIlk).floatAnalog).dev = s.dev :=
    (refreshIlk_keeps _).1.trans (each_refreshGate_dev s _)
  unfold refresh
  dsimp only
  split <;> exact h

/-- Outside ARMED, or with LSAFE_N low, judging the gates makes every emission output inactive (R23, R56). -/
theorem refresh_dark {s : Sys} (hp : s.padsFit) (h : s.mayEmit = false) : s.refresh.dark = true := by
  have shut : GatesShut 16 (s.each (List.range 16) Sys.refreshGate) :=
    each_range_induction (P := GatesShut) (.start hp h) (fun _ _ _ ht => ht.refreshGate)
  obtain ⟨-, hemit, hen, hmod⟩ := refreshIlk_keeps (s.each (List.range 16) Sys.refreshGate)
  unfold refresh
  dsimp only
  rw [if_neg (by show ¬ (refreshIlk _).mayEmit = true; rw [hemit, shut.shut]; decide)]
  exact decide_eq_true ⟨hen.trans shut.all.1, hmod.trans shut.all.2, rfl⟩

theorem mayEmit_of_dev {s : Sys} (h : s.dev ≠ .armed) : s.mayEmit = false := by simp [mayEmit, h]

theorem padsFit_of_calm {s t : Sys} (h : Calm s t) (hp : s.padsFit) : t.padsFit := by
  rw [padsFit, h.pads]
  exact hp

theorem padsFit_setCause {s : Sys} (hp : s.padsFit) (cause detail from_ to_ requester : Nat) : (s.setCause cause detail from_ to_ requester).padsFit := hp

/-! ### Leaving ARMED -/

/-- What stops the channels and groups on the way out of ARMED leaves every emission output inactive and the device READY (R56, R58). -/
theorem disarmed_dark {s : Sys} (hp : s.padsFit) : s.disarmed.dark = true ∧ s.disarmed.dev = .ready := by
  have h : Calm s ((s.each (List.range 16) (fun s c => s.safeStop c 16)).each (List.range 4) (fun s g => s.grpStop g 7)) :=
    (Calm.each _ _ (fun s c => safeStop_calm s c 16) s).trans (Calm.each _ _ (fun s g => grpStop_calm s g 7) _)
  unfold disarmed
  dsimp only
  generalize (s.each _ _).each _ _ = t at h ⊢
  have hfit := padsFit_of_calm h hp
  exact ⟨refresh_dark (s := t.setDev .ready) hfit (mayEmit_of_dev (s := t.setDev .ready) DevState.noConfusion), refresh_dev _⟩

/-! ### Entering FAULT -/

theorem laneStage_calm (s : Sys) (l stage : Nat) : Calm s (s.laneStage l stage) := by
  have hs : Calm s (s.wr (Key.Lane.STAGE l) stage) := Calm.wr _ _ _ (calmKeys_above (by show _ ≤ (0xC00 + 8 * l) * 256 + 4; omega))
  have hu : ∀ t : Sys, ∀ b, Calm t (t.wrB (Key.Lane.IN_USE l) b) := fun t b =>
    Calm.wr _ _ _ (calmKeys_above (by show _ ≤ (0xC00 + 8 * l) * 256 + 6; omega))
  exact (hs.trans (hu _ _)).trans ⟨rfl, rfl, rfl, fun _ _ => rfl⟩

theorem testOver_calm (s : Sys) (l : Nat) : Calm s (s.testOver l) := by
  have hb : Calm s (s.wr (Key.LaneTest.BITS l) (s.bitsSince l)) := Calm.wr _ _ _ (calmKeys_above (by show _ ≤ (0xC03 + 8 * l) * 256 + _; omega))
  have hl : ∀ t : Sys, Calm t (t.wrB (Key.LaneTest.TEST_LOCK l) false) := fun t =>
    Calm.wr _ _ _ (calmKeys_above (by show _ ≤ (0xC03 + 8 * l) * 256 + _; omega))
  exact (hb.trans (laneStage_calm _ l 0)).trans (hl _)

theorem setByte_calm (s : Sys) (a : Nat) (b : Byte) : Calm s (s.setByte a b) := ⟨rfl, rfl, rfl, fun _ _ => rfl⟩

theorem loseBytes_calm (s : Sys) (a n : Nat) : Calm s (s.loseBytes a n) := by
  unfold loseBytes
  exact Calm.each _ _ (fun s i => setByte_calm s _ _) s

theorem useFree_calm (s : Sys) : Calm s s.useFree := ⟨rfl, rfl, rfl, fun _ _ => rfl⟩

theorem loseRow_calm (s : Sys) (w : Nat) : Calm s (s.loseRow w) := by
  unfold loseRow
  exact (Calm.each _ _ (fun s b => loseBytes_calm s _ _) s).trans (useFree_calm _)

theorem pprCancel_calm (s : Sys) : Calm s s.pprCancel := by
  unfold pprCancel
  split
  · have h : Calm s { s with dram := { s.dram with ppr := none } } := ⟨rfl, rfl, rfl, fun _ _ => rfl⟩
    exact (h.trans (loseRow_calm _ _)).trans (Calm.wr _ _ _ (by decide))
  · exact Calm.refl s

theorem cancelService_calm (s : Sys) : Calm s s.cancelService := by
  have hsmp : Calm s { s with smp := { s.smp with clearing := false } } := ⟨rfl, rfl, rfl, fun _ _ => rfl⟩
  have hppr := hsmp.trans (pprCancel_calm _)
  unfold cancelService
  dsimp only
  generalize pprCancel _ = t at hppr ⊢
  have hcmd : Calm (t.wr Key.Store.STORE_RESULT 0x0805) { t.wr Key.Store.STORE_RESULT 0x0805 with eng := { t.eng with command := none } } :=
    ⟨rfl, rfl, rfl, fun _ _ => rfl⟩
  exact Calm.ite (hppr.trans (((Calm.wr t _ _ (by decide)).trans hcmd).trans (raise_calm _ 63))) hppr

/-- The effects of entering FAULT, up to the judging of the gates, are calm. -/
theorem faultEffects_eq (s : Sys) (code : Nat) : ∃ t, Calm s t ∧ s.faultEffects code = t.refresh := by
  refine ⟨_, ?_, rfl⟩
  refine Calm.trans ?_ (Calm.each _ _ testOver_calm _)
  refine Calm.trans ?_ (calDeviceState_calm _)
  refine Calm.trans ?_ (collect_calm _ _ _ _)
  refine Calm.trans ?_ (Calm.each _ _ (fun s a => Calm.when _ _ (axCause_calm s a _ _)) _)
  refine Calm.trans ?_ (Calm.each _ _ slotLeave_calm _)
  exact (Calm.each _ _ chFault_calm s).trans (Calm.each _ _ (fun s g => grpStop_calm s g 8) _)

/-- Entering FAULT makes every emission output inactive (R56, R59). -/
theorem faultEffects_dark {s : Sys} (hp : s.padsFit) (hd : s.dev = .fault) (code : Nat) :
    (s.faultEffects code).dark = true ∧ (s.faultEffects code).dev = .fault := by
  obtain ⟨t, ht, he⟩ := s.faultEffects_eq code
  have hdt : t.dev = .fault := ht.dev.trans hd
  rw [he]
  exact ⟨refresh_dark (padsFit_of_calm ht hp) (mayEmit_of_dev (by rw [hdt]; decide)), (refresh_dev t).trans hdt⟩

/-- A freeze fault leaves the outputs of a unit that is dark and out of ARMED so: in START and FAULT it changes none, else the unit enters FAULT. -/
theorem enterFault_dark {s : Sys} (h : s.dark = true) (hd : s.dev ≠ .armed) (code t : Nat) :
    (s.enterFault code t).dark = true ∧ (s.enterFault code t).dev ≠ .armed := by
  unfold enterFault
  split
  · exact ⟨h, hd⟩
  · exact ⟨h, hd⟩
  · dsimp only
    refine (faultEffects_dark ?_ ?_ code).imp_right (fun e => by rw [e]; decide)
    · have hfit := padsFit_of_calm (Calm.when (decide (s.dev = .service)) _ (cancelService_calm s)) (padsFit_of_dark h)
      exact padsFit_of_calm (captureSource_calm _ _ _) hfit
    · exact (captureSource_calm _ _ _).dev

theorem fault_dark {s : Sys} (h : s.dark = true) (hd : s.dev ≠ .armed) (code kind inst t : Nat) :
    (s.fault code kind inst t).dark = true ∧ (s.fault code kind inst t).dev ≠ .armed := by
  have hc := occur_calm s code kind inst t
  have h' : (s.occur code kind inst t).dark = true := by rw [dark, hc.pads]; exact h
  have hd' : (s.occur code kind inst t).dev ≠ .armed := by rw [hc.dev]; exact hd
  unfold fault
  dsimp only
  split
  · exact enterFault_dark h' hd' code t
  · exact ⟨h', hd'⟩

/-! ### The fall of LSAFE_N -/

/-- The fall of LSAFE_N leaves every output inactive and the device out of ARMED, whatever its fault does then (R23, R58, R496). -/
theorem lsafeLow_dark {s : Sys} (hp : s.padsFit) (hl : s.pads.lsafe = true) : s.lsafeLow.dark = true ∧ s.lsafeLow.dev ≠ .armed := by
  unfold lsafeLow
  rw [if_neg (by rw [hl]; decide)]
  dsimp only
  have hcalm := capturePin_calm ({ s with pads := { s.pads with lsafe := false } } : Sys).refresh 0x40 false
  generalize ({ s with pads := { s.pads with lsafe := false } } : Sys).refresh.capturePin 0x40 false = v at hcalm ⊢
  have hv : v.dark = true := by
    rw [dark, hcalm.pads]
    exact refresh_dark (s := { s with pads := { s.pads with lsafe := false } }) hp (Bool.and_false _)
  split
  next harmed =>
    obtain ⟨hdark, hready⟩ := disarmed_dark (padsFit_setCause (padsFit_of_dark hv) 0x21 0 3 2 0)
    exact fault_dark hdark (by rw [hready]; decide) _ _ _ _
  next hnot => exact fault_dark hv hnot _ _ _ _

/-! ### Answers -/

theorem calm_of_answered {s t : Sys} (h : Answered s t) : Calm s t := by
  refine ⟨by rw [h.rest], by rw [h.rest], by rw [h.rest], fun k hk => h.entries k ?_⟩
  simp only [calmKeys, List.mem_cons, List.not_mem_nil, or_false] at hk
  rcases hk with rfl | rfl | rfl | rfl | rfl | rfl <;> decide

theorem emit_calm (s : Sys) (o : Out) : Calm s (s.emit o) := ⟨rfl, rfl, rfl, fun _ _ => rfl⟩

/-- The last of what a window refusal sends: a read is answered with zero data (R53). -/
theorem emit_unless_calm (s : Sys) (b : Bool) (o : Out) : Calm s (if b then s else s.emit o) := Calm.ite (Calm.refl s) (emit_calm s o)

/-- A window refusal but for a denied right is recorded and answered, and is no fault (R53). -/
theorem refuseWindow_calm (s : Sys) (m : Master) (q : WaitReq) (code : Nat) (hc : code ≠ 0x0807) : Calm s (s.refuseWindow m q code) := by
  have hk : ∀ i < 6, 0x11301 + i ∉ calmKeys := by decide
  unfold refuseWindow
  simp only [decide_eq_false hc]
  refine Calm.trans ?_ (emit_unless_calm _ _ _)
  cases m with
  | sv => exact ((Calm.wr s Key.WinAbort.ABORT_SV _ (hk 0 (by omega))).trans (emit_calm _ _)).trans (emit_calm _ _)
  | ap h =>
    have := h.isLt
    have hkey : Key.WinAbort.ABORT_AP h = 0x11301 + (1 + h) := by
      show 0x113 * 256 + (0x02 + h.val) = _
      omega
    have hap : Key.WinAbort.ABORT_AP h ∉ calmKeys := hkey ▸ hk (1 + h) (by omega)
    exact ((Calm.wr s _ _ hap).trans (emit_calm _ _)).trans (emit_calm _ _)
  | dma c => exact (Calm.wr s Key.WinAbort.ABORT_DMA _ (hk 5 (by omega))).trans (emit_calm _ _)

theorem dropSnap_calm (s : Sys) (m : Master) : Calm s (s.dropSnap m) := ⟨rfl, rfl, rfl, fun _ _ => rfl⟩

theorem respond_done_calm (s : Sys) (q : WaitReq) (code : Nat) (hc : code ≠ 0x0807) : Calm s (s.respond q (.done code)) := by
  unfold respond
  cases q.acc.who with
  | chain tag => exact calm_of_answered (answer_answered ..)
  | window m machine => exact (dropSnap_calm s m).trans (Calm.ite (Calm.refl _) (refuseWindow_calm _ m q code hc))

theorem foldl_calm {α : Type} (l : List α) (f : Sys → α → Sys) (h : ∀ s x, Calm s (f s x)) (s : Sys) : Calm s (l.foldl f s) := by
  induction l generalizing s with
  | nil => exact Calm.refl s
  | cons x l ih => exact (h s x).trans (ih (f s x))

theorem flushRequests_calm (s : Sys) : Calm s s.flushRequests := by
  have h : Calm s { s with eng := { s.eng with waits := [] }, chain := { s.chain with svcq := [] } } := ⟨rfl, rfl, rfl, fun _ _ => rfl⟩
  unfold flushRequests
  dsimp only
  exact (h.trans (foldl_calm s.eng.waits _ (fun s q => respond_done_calm s q 0x0805 (by decide)) _)).trans
    (foldl_calm s.chain.svcq _ (fun s r => calm_of_answered (answer_answered ..)) _)

/-- The answer to an accepted write is calm. -/
theorem answered_calm (t : Sys) (acc : Access) (k v : Nat) : Calm t (t.answered acc k v) := by
  have h := respond_done_calm t (writeReq acc k v) 0 (by decide)
  unfold answered
  exact Calm.ite (h.trans (flushRequests_calm _)) h

end Sys

theorem burnt_pads (s : State) (t : Sys) : (burnt s t).pads = t.pads := by
  unfold burnt
  split <;> rfl

/-! ### The commands -/

theorem clocked_pads (s : Sys) (k : Nat) : (s.clocked k).pads = s.pads := by
  unfold Sys.clocked Sys.ungate
  split <;> rfl

/-- An accepted DISARM in ARMED answers with READY and its cause (R57, R58). -/
theorem exec_disarm_armed (s : State) (acc : Access) (ha : s.accepts acc Key.DevCmd.DEVICE_COMMAND 4 {} = true) (hd : s.dev = .armed) :
    exec (.disarm acc) s = .next (s.answers acc Key.DevCmd.DEVICE_COMMAND 4
      (fun u => (u.setCause 0x10 4 (Sys.devCode u.dev) 2 (clsCode (u.clsOf acc.who))).disarmed)) := by
  refine onWrite_row s acc Key.DevCmd.DEVICE_COMMAND 4 {} .wo false 1 0 _ ha (by decide +kernel) (by decide) (by decide) (fun _ => ?_)
  have hneed : (s.toSys.need0 acc Key.DevCmd.DEVICE_COMMAND (Sys.masked 0 4) {}).1 = s.toSys.clocked Key.DevCmd.DEVICE_COMMAND := by
    simp [Sys.need0, Sys.need, Sys.devAbort, hd, Sys.devMatrix, Sys.masked]
  rw [hneed]
  dsimp only
  rw [Sys.act_system _ _ _ _ 0x110 0 _ _ _ rfl (by decide) (by decide), Sys.powerResult_other _ _ _ (by decide)]
  simp [Sys.actSystem, Sys.devAct, hd, Sys.devMatrix, Sys.masked, Sys.when]

/-- Settles O38: each of the three ends in a judging of the gates where nothing may be emitted, and what follows is calm or enters FAULT. -/
theorem emissionNeedsArmedAndLsafe : Obligations.EmissionNeedsArmedAndLsafe := by
  unfold Obligations.EmissionNeedsArmedAndLsafe
  refine ⟨fun s hen hmod h => ?_, fun s t acc hen hmod ha hd he => ?_, fun s t hen hmod hp hl he => ?_⟩
  · refine Sys.refresh_dark ⟨hen, hmod⟩ ?_
    rcases h with h | h
    · exact Sys.mayEmit_of_dev h
    · simp [Sys.mayEmit, h]
  · rw [exec_disarm_armed s acc ha hd] at he
    cases he
    have hfit : (s.toSys.clocked Key.DevCmd.DEVICE_COMMAND).padsFit := by rw [Sys.padsFit, clocked_pads]; exact ⟨hen, hmod⟩
    obtain ⟨hdark, hready⟩ := Sys.disarmed_dark (Sys.padsFit_setCause hfit 0x10 4 (Sys.devCode (s.toSys.clocked Key.DevCmd.DEVICE_COMMAND).dev) 2
      (clsCode ((s.toSys.clocked Key.DevCmd.DEVICE_COMMAND).clsOf acc.who)))
    have hc := fun u => Sys.answered_calm u acc Key.DevCmd.DEVICE_COMMAND 4
    refine ⟨?_, ?_⟩
    · rw [Sys.dark, State.answers, burnt_pads, (hc _).pads]
      exact hdark
    · rw [State.answers, burnt_dev, (hc _).dev]
      exact hready
  · have hx : exec .lsafeFall s = .next (s.on fun u => u.lsafeLow) :=
      onUnit_next (f := fun u => if u.powered then u.lsafeLow else { u with pads := { u.pads with lsafe := false } }) (if_pos hp)
    rw [hx] at he
    cases he
    exact Sys.lsafeLow_dark ⟨hen, hmod⟩ hl

end Sys2Proof.Machine
end

section
/-! PROOFS. What a store to memory that no store may change leaves (R15, R16): nothing but the bus error, its capture, and the record of its fault. -/

namespace Sys2Proof.Machine

open Sys2Proof

/-! ### Recording a fault keeps memory and the error capture -/

/-- The error capture, and the reaction to a bus error (R488, R497). -/
def busErrorKeys : List Nat := [Key.Gath.ERR_ADDR, Key.Gath.ERR_MASTER, Key.React.REACTION 0x6A]

/-- Memory, the error capture and the reaction to a bus error are as they were. -/
structure KeepsCapture (s t : Sys) : Prop where
  bytes : ∀ a, t.byte a = s.byte a
  captured : t.gath.captured = s.gath.captured
  entries : ∀ k ∈ busErrorKeys, t.rdW k = s.rdW k

namespace KeepsCapture

theorem refl (s : Sys) : KeepsCapture s s := ⟨fun _ => rfl, rfl, fun _ _ => rfl⟩

theorem trans {s t u : Sys} (a : KeepsCapture s t) (b : KeepsCapture t u) : KeepsCapture s u :=
  ⟨fun x => (b.bytes x).trans (a.bytes x), b.captured.trans a.captured, fun k hk => (b.entries k hk).trans (a.entries k hk)⟩

theorem wr (s : Sys) (k v : Nat) (h : k ∉ busErrorKeys) : KeepsCapture s (s.wr k v) :=
  ⟨fun _ => rfl, rfl, fun k' hk' => (Sys.rdW_wrW s k k' _).trans (if_neg fun e : k' = k => h (e ▸ hk'))⟩

theorem inc (s : Sys) (k : Nat) (h : k ∉ busErrorKeys) : KeepsCapture s (s.inc k) := wr s k _ h

theorem ite {s a b : Sys} {p : Prop} [Decidable p] (ha : KeepsCapture s a) (hb : KeepsCapture s b) : KeepsCapture s (if p then a else b) := by
  split <;> assumption

theorem when {s : Sys} (b : Bool) (f : Sys → Sys) (h : b = true → KeepsCapture s (f s)) : KeepsCapture s (s.when b f) := by
  cases b
  · exact refl s
  · exact h rfl

theorem each (l : List Nat) (f : Sys → Nat → Sys) (h : ∀ s n, KeepsCapture s (f s n)) (s : Sys) : KeepsCapture s (s.each l f) := by
  induction l generalizing s with
  | nil => exact refl s
  | cons n t ih => exact (h s n).trans (ih (f s n))

theorem of_send {s t : Sys} (h : SendOnly s t) : KeepsCapture s t := by
  refine ⟨fun a => by rw [h.rest]; rfl, by rw [h.rest], fun k hk => h.entries k ?_⟩
  simp only [busErrorKeys, List.mem_cons, List.not_mem_nil, or_false] at hk
  rcases hk with rfl | rfl | rfl <;> decide

/-- The reaction to a bus error is as it was. -/
theorem reaction {s t : Sys} (h : KeepsCapture s t) : t.reaction 0x6A = s.reaction 0x6A := by
  simp only [Sys.reaction, Sys.rd, h.entries (Key.React.REACTION 0x6A) (by decide)]

end KeepsCapture

/-- An entry above REACTION is neither of the capture nor that of the reaction. -/
theorem busErrorKeys_above {k : Nat} (h : 0x51100 ≤ k) : k ∉ busErrorKeys := by
  simp only [busErrorKeys, Key.Gath.ERR_ADDR, Key.Gath.ERR_MASTER, Key.React.REACTION, List.mem_cons, List.not_mem_nil, or_false]
  omega

namespace Sys

theorem raise_keepsCapture (s : Sys) (n : Nat) : KeepsCapture s (s.raise n) := by
  unfold raise
  exact .ite (.refl s) ⟨fun _ => rfl, rfl, fun _ _ => rfl⟩

theorem captureStamp_keepsCapture (s : Sys) (n stamp : Nat) : KeepsCapture s (s.captureStamp n stamp) := by
  have hk : ∀ b, (0xE40 + n) * 256 + b ∉ busErrorKeys := fun b => busErrorKeys_above (by omega)
  have htime : KeepsCapture s ((s.wr (Key.Cap.LAST_TIME n) stamp).inc (Key.Cap.COUNT n)) := (KeepsCapture.wr s _ _ (hk 4)).trans (.inc _ _ (hk 5))
  unfold captureStamp
  dsimp only
  refine KeepsCapture.trans ?_ (raise_keepsCapture _ _)
  exact htime.trans (.ite ⟨fun _ => rfl, rfl, fun _ _ => rfl⟩ (.inc _ _ (hk 9)))

theorem captureSource_keepsCapture (s : Sys) (src stamp : Nat) : KeepsCapture s (s.captureSource src stamp) := by
  unfold captureSource
  exact .ite (.each _ _ (fun s n => .when _ _ fun _ => captureStamp_keepsCapture s n stamp) s) (.refl s)

theorem logFault_keepsCapture (s : Sys) (code kind inst react : Nat) (r : Bool) (t : Nat) : KeepsCapture s (s.logFault code kind inst react r t) := by
  unfold logFault
  exact .ite ⟨fun _ => rfl, rfl, fun _ _ => rfl⟩ (.ite (.inc _ _ (by decide)) ⟨fun _ => rfl, rfl, fun _ _ => rfl⟩)

theorem report_keepsCapture (s : Sys) (code t : Nat) : KeepsCapture s (s.report code t) := by
  have hsmp : ∀ t : Sys, KeepsCapture t { t with smp := { t.smp with alarms := t.smp.alarms + 1 } } := fun _ => ⟨fun _ => rfl, rfl, fun _ _ => rfl⟩
  have hms : KeepsCapture s { s with gath := { s.gath with
      merges := s.gath.merges.filter (fun m => decide (m.code ≠ code)) ++ [{ code := code, since := s.clk }] } } :=
    ⟨fun _ => rfl, rfl, fun _ _ => rfl⟩
  unfold report sendAlarm
  exact (hms.trans (hsmp _)).trans (.of_send (originate_sendOnly _ _ _ _ _ _))

theorem reportOrMerge_keepsCapture (s : Sys) (code t : Nat) : KeepsCapture s (s.reportOrMerge code t) := by
  unfold reportOrMerge
  split
  · exact report_keepsCapture s code t
  · exact .ite (report_keepsCapture s code t) ⟨fun _ => rfl, rfl, fun _ _ => rfl⟩

/-- A bus error is no takeover event (R206, R276). -/
theorem takeoverOf_busError (s : Sys) : s.takeoverOf 0x6A 0 0 = s := rfl

/-- The record of a bus error whose reaction is at most an interrupt (R487 to R493). -/
theorem occur_busError_keepsCapture (s : Sys) (t : Nat) (h : s.reaction 0x6A ≤ 2) : KeepsCapture s (s.occur 0x6A 0 0 t) := by
  unfold occur
  simp only [takeoverOf_busError]
  have hcount : KeepsCapture s ((s.inc (Key.FCount.COUNT 0x6A)).inc Key.Gath.RECORDED) := (KeepsCapture.inc _ _ (by decide)).trans (.inc _ _ (by decide))
  have hactive := hcount.trans (.when (!clearsAtOnce 0x6A && !((s.inc (Key.FCount.COUNT 0x6A)).inc Key.Gath.RECORDED).gath.active.contains (0x6A, 0, 0))
    (fun s => { s with gath := { s.gath with active := s.gath.active ++ [(0x6A, 0, 0)] } }) fun _ => ⟨fun _ => rfl, rfl, fun _ _ => rfl⟩)
  have hr := Nat.le_trans (Nat.le_of_eq hactive.reaction) h
  refine hactive.trans (.ite (.refl _) ?_)
  refine KeepsCapture.trans ?_ (.when _ _ fun _ => reportOrMerge_keepsCapture _ _ _)
  refine KeepsCapture.trans ?_ (.when _ _ fun hstop => absurd (Nat.le_trans (of_decide_eq_true hstop) hr) (by decide))
  refine KeepsCapture.trans ?_ (.when _ _ fun _ => (raise_keepsCapture _ 61).trans ⟨fun _ => rfl, rfl, fun _ _ => rfl⟩)
  refine KeepsCapture.trans ?_ (captureSource_keepsCapture _ _ _)
  exact (logFault_keepsCapture _ _ _ _ _ _ _).trans ⟨fun _ => rfl, rfl, fun _ _ => rfl⟩

/-- So is its fault, which then enters no FAULT. -/
theorem faultNow_busError_keepsCapture (s : Sys) (h : s.reaction 0x6A ≤ 2) : KeepsCapture s (s.faultNow 0x6A 0 0) := by
  have ho := s.occur_busError_keepsCapture s.now h
  unfold faultNow fault
  dsimp only
  rwa [if_neg (by have := ho.reaction; omega)]

/-! ### The capture -/

theorem captureAt_byte (s : Sys) (addr master a : Nat) : (s.captureAt addr master).byte a = s.byte a := by
  unfold captureAt
  split <;> rfl

theorem captureAt_captured (s : Sys) (addr master : Nat) : (s.captureAt addr master).gath.captured = true := by
  unfold captureAt
  split
  next h => exact h
  next => rfl

theorem captureAt_reaction (s : Sys) (addr master : Nat) : (s.captureAt addr master).reaction 0x6A = s.reaction 0x6A := by
  cases h : s.gath.captured
  · rw [captureAt_free s _ _ h]
    show ((s.wr _ _).wr _ _).reaction 0x6A = _
    simp [reaction, fixedFreeze]
  · rw [captureAt_held s _ _ h]

/-- Where no capture stood, the address and master are those of the access (R497). -/
theorem captureAt_entries (s : Sys) (addr master : Nat) (h : s.gath.captured = false) (ha : addr < 2 ^ 64) (hm : master < 2 ^ 64) :
    (s.captureAt addr master).rd Key.Gath.ERR_ADDR = addr ∧ (s.captureAt addr master).rd Key.Gath.ERR_MASTER = master := by
  rw [captureAt_free s _ _ h]
  show ((s.wr _ _).wr _ _).rd _ = _ ∧ ((s.wr _ _).wr _ _).rd _ = _
  simpa using ⟨ha, hm⟩

/-! ### The store -/

/-- No master may store to the boot ROM or to the read-mapped MRAM (R15, R16). -/
theorem refusal_readOnly (s : Sys) (m : Nat) (machine : Bool) (addr len : Nat) (hr : regionOf (fullAddr addr) = 1 ∨ regionOf (fullAddr addr) = 3)
    (hd : s.firstDenied m machine true (fullAddr addr) len = none) : s.refusal m machine true addr len = some (0x6A, fullAddr addr) := by
  unfold refusal
  simp only [hd]
  exact if_pos (by rcases hr with hr | hr <;> simp [hr])

/-- The fabric refuses such a store with a captured bus error. -/
theorem busCheck_readOnly (s : Sys) (m : Nat) (machine : Bool) (addr len : Nat) (hr : regionOf (fullAddr addr) = 1 ∨ regionOf (fullAddr addr) = 3)
    (hd : s.firstDenied m machine true (fullAddr addr) len = none) :
    s.busCheck m machine true addr len = ((s.captureAt (fullAddr addr) m).faultNow 0x6A 0 0, false) := by
  simp [busCheck, busGate, refusal_readOnly s m machine addr len hr hd, noteRefusal]

/-- A master that is no hart is answered with a bus error. -/
theorem fabricAccess_readOnly (s : Sys) (otp : Nat → Nat) (m : Nat) (machine reqOk : Bool) (size addr v bad : Nat) (hm : 4 < m)
    (hr : regionOf (fullAddr addr) = 1 ∨ regionOf (fullAddr addr) = 3) (hd : s.firstDenied m machine true (fullAddr addr) size = none) :
    s.fabricAccess otp m machine .store size addr v reqOk bad = ((s.captureAt (fullAddr addr) m).faultNow 0x6A 0 0).emit (.busError m addr) := by
  have hart : ¬ m ≤ 4 := by omega
  have ap : isAp m = false := decide_eq_false (by omega)
  have window : regionOf (fullAddr addr) ≠ 6 := by omega
  have write : s.busWrite m machine addr (le size v) reqOk bad = ((s.captureAt (fullAddr addr) m).faultNow 0x6A 0 0, false) := by
    simp [busWrite, length_le, ap, busCheck_readOnly s m machine addr size hr hd]
  simp [fabricAccess, atomicUse, hart, window, write, accessFault]

theorem fullAddr_readOnly_lt {a : Nat} (h : regionOf a = 1 ∨ regionOf a = 3) : a < 2 ^ 64 := by
  refine Nat.lt_of_not_le fun hge => ?_
  have hr : regionOf a = 0 := by
    unfold regionOf dramBase
    repeat rw [if_neg (by omega)]
  omega

end Sys

/-! ### The command -/

theorem burnt_sent (s : State) (t : Sys) : (burnt s t).sent = t.sent := by
  unfold burnt
  split <;> rfl

theorem burnt_gath (s : State) (t : Sys) : (burnt s t).gath = t.gath := by
  unfold burnt
  split <;> rfl

/-- Settles O51: the fabric refuses the store, and neither the capture of its bus error nor the record of its fault changes memory. -/
theorem readOnlyMemoryIgnoresStores : Obligations.ReadOnlyMemoryIgnoresStores := by
  unfold Obligations.ReadOnlyMemoryIgnoresStores
  intro s m machine reqOk size addr v bad hp hm hr hd hreact hh
  refine ⟨_, exec_fabricAccess_device s m machine .store size addr v reqOk bad hp hm hh, ?_⟩
  rw [s.toSys.fabricAccess_readOnly s.otpWord m machine reqOk size addr v bad hm hr hd]
  have keeps := (s.toSys.captureAt (Sys.fullAddr addr) m).faultNow_busError_keepsCapture (Nat.le_trans (Nat.le_of_eq (Sys.captureAt_reaction _ _ _)) hreact)
  generalize Sys.faultNow _ _ _ _ = u at keeps ⊢
  refine ⟨fun a => ?_, ?_, ?_, fun hfree => ?_⟩
  · rw [burnt_byte, Sys.byte_emit, keeps.bytes, Sys.captureAt_byte]
  · rw [burnt_sent]
    exact List.mem_cons_self
  · rw [burnt_gath]
    exact keeps.captured.trans (Sys.captureAt_captured _ _ _)
  · obtain ⟨haddr, hmaster⟩ := s.toSys.captureAt_entries (Sys.fullAddr addr) m hfree (Sys.fullAddr_readOnly_lt hr) (by omega)
    simp only [Sys.rd] at haddr hmaster ⊢
    rw [burnt_rdW, burnt_rdW]
    exact ⟨(congrArg _ (keeps.entries Key.Gath.ERR_ADDR (by decide))).trans haddr, (congrArg _ (keeps.entries Key.Gath.ERR_MASTER (by decide))).trans hmaster⟩

end Sys2Proof.Machine
end

section
/-! PROOFS. What the unit does with a chain frame that no case of R80 discards: it is processed by its type and the state of the unit, and leaves or
frees its cells (R68 to R70, R80, R86, R91 to R95, R101). -/

namespace Sys2Proof.Machine

open Sys2Proof

namespace Sys

/-! ### The block as the processing of a frame finds it -/

theorem ne_of_port {k : Nat} (keys : Nat → Nat) (h0 : k ≠ keys 0) (h1 : k ≠ keys 1) (p : Fin 2) : k ≠ keys p := by
  rcases p with ⟨_ | _ | n, hp⟩
  · exact h0
  · exact h1
  · omega

theorem rd_modPort (s : Sys) (p : Nat) (f : Port → Port) (k : Nat) : (s.modPort p f).rd k = s.rd k := rfl

theorem rd_arrived (s : Sys) (p : Nat) (f : Frame) {k : Nat} (hrx : k ≠ Key.Port.FRAMES_RX p) (hhost : k ≠ Key.Pos.HOST_PORT) :
    ((s.taken p f).fromHost p f).rd k = s.rd k := by
  have ht : (s.taken p f).rd k = s.rd k := (rd_inc64 s _ k).trans (if_neg hrx)
  unfold fromHost
  cases decide (f.src = 0xFE)
  · exact ht
  · exact ((rd_wr _ _ k p).trans (if_neg hhost)).trans ht

theorem address_arrived (s : Sys) (p : Fin 2) (f : Frame) : ((s.taken p f).fromHost p f).address = s.address :=
  s.rd_arrived p f (ne_of_port _ (by decide) (by decide) p) (by decide)

/-- Holding the cells of a frame leaves the time at which its port reached UP. -/
theorem upAt_modPort (s : Sys) (p : Nat) (f : Port → Port) (h : (f (s.port p)).upAt = (s.port p).upAt) : ((s.modPort p f).port p).upAt = (s.port p).upAt := by
  by_cases hp : p < 2
  · simpa [port, modPort, Vector.getD, hp] using h
  · simp [port, modPort, Vector.getD, hp]

theorem enumOpen_arrived (s : Sys) (p : Nat) (f : Frame) : ((s.taken p f).fromHost p f).enumOpen p = s.enumOpen p := by
  have ht : (s.taken p f).enumOpen p = s.enumOpen p := by
    have hup : ((s.taken p f).port p).upAt = (s.port p).upAt := (s.inc64 (Key.Port.FRAMES_RX p)).upAt_modPort p _ rfl
    unfold enumOpen
    rw [hup]
    rfl
  unfold fromHost
  cases decide (f.src = 0xFE) <;> exact ht

/-! ### What becomes of the frame -/

/-- A whole frame for another unit is only passed on (R68 to R70). -/
theorem receive_elsewhere {s : Sys} {p : Nat} {f : Frame} (proc : Sys → Nat → Frame → Sys) (hp : p < 2) (h : s.intact p f = true) (hm : s.forMe f = false)
    (hd : f.dest ≠ 0xFF) : s.receive p f proc = ((s.taken p f).fromHost p f).forward p (s.stampIn p f) ((s.taken p f).passOn p f) := by
  have ha : (s.inc64 (Key.Port.FRAMES_RX p)).address = s.address := taken_address s p f hp
  have hport : (s.inc64 (Key.Port.FRAMES_RX p)).port p = s.port p := rfl
  simp only [intact, forMe, Bool.and_eq_true, Bool.not_eq_true', decide_eq_true_eq, decide_eq_false_iff_not, ne_eq] at h hm
  obtain ⟨⟨⟨⟨⟨⟨⟨⟨⟨⟨⟨⟨hup, hhead⟩, hclass⟩, hdest⟩, hcells⟩, hown⟩, hbroken⟩, hlen⟩, hcrc⟩, hend⟩, hlooped⟩, htype⟩, hhost⟩ := h
  have own : (decide (f.src = s.address) && decide ¬s.address = 0) = false := by simpa using hown
  have host : ¬ (classOf f.typ = none ∨ (¬f.src = 0xFE ∧ hostOnly f = true)) := by simpa [htype] using hhost
  unfold receive fromHost
  simp only [ha, hport, own, hm, hup, hhead, hclass, hdest, Nat.not_lt.mpr hcells, hbroken, hlen, hcrc, hend, host, hlooped, hd, Nat.lt_irrefl, ne_eq,
    not_true_eq_false, Bool.not_true, Bool.not_false, Bool.false_eq_true, Bool.or_false, decide_false, or_false, and_false, if_false]
  rfl

/-- A frame of the kind that a command names, for the unit or for all, has the effect `g` (R69). -/
theorem receiveIf_processed {s : Sys} {p : Nat} {f : Frame} {kind : Bool} {proc : Sys → Nat → Frame → Sys} {g : Sys → Sys} (hp : p < 2)
    (h : s.intact p f = true) (hk : kind = true) (hd : s.forMe f = true ∨ f.dest = 0xFF)
    (hg : proc ((s.taken p f).fromHost p f) p f = g ((s.taken p f).fromHost p f)) : s.receiveIf p f kind proc = s.processed p f g := by
  have hd' : (s.forMe f || decide (f.dest = 0xFF)) = true := by simpa using hd
  unfold receiveIf
  rw [if_pos hk, receive_intact s p f proc hp h hd']
  exact congrArg (fun u => u.passed s p f) hg

theorem dest_of_forMe {s : Sys} {f : Frame} (h : s.forMe f = true) : f.dest = s.address := by
  simp only [forMe, Bool.and_eq_true, decide_eq_true_eq] at h
  exact h.1

end Sys

/-! ### The commands -/

section Frame

variable {s : State} {p : Fin 2} {f : Frame} {kind : Bool} {g : Sys → Sys} (hp : s.powered = true) (hi : s.intact p f = true) (hk : kind = true)
include hp hi hk

theorem onSys_receiveIf {proc : Sys → Nat → Frame → Sys} (hd : s.forMe f = true ∨ f.dest = 0xFF)
    (hg : proc ((s.taken p f).fromHost p f) p f = g ((s.taken p f).fromHost p f)) :
    onSys (fun u => u.receiveIf p f kind proc) s = .next (s.on (fun u => u.processed p f g)) :=
  onSys_next hp (Sys.receiveIf_processed p.isLt hi hk hd hg)

/-- An ENUM request, once the port has been UP for 10 us (R86). -/
theorem onSys_enum {proc : Sys → Nat → Frame → Sys} (hd : s.forMe f = true ∨ f.dest = 0xFF) (ho : s.enumOpen p = true) :
    onSys (fun u => u.receiveIf p f kind (fun v q e => if v.enumOpen q then proc v q e else v)) s =
      .next (s.on (fun u => u.processed p f (fun v => proc v p f))) :=
  onSys_receiveIf hp hi hk hd (if_pos ((s.toSys.enumOpen_arrived p f).trans ho))

/-- A frame that only the unit it names acts on. -/
theorem onSys_addressed {proc : Sys → Nat → Frame → Sys} (hm : s.forMe f = true) :
    onSys (fun u => u.receiveIf p f kind (fun v q e => if e.dest = v.address then proc v q e else v)) s =
      .next (s.on (fun u => u.processed p f (fun v => proc v p f))) :=
  onSys_receiveIf hp hi hk (.inl hm) (if_pos ((Sys.dest_of_forMe hm).trans (s.toSys.address_arrived p f).symm))

theorem onOd_receiveIf {proc : (Nat → Nat) → Sys → Nat → Frame → Sys} (hd : s.forMe f = true ∨ f.dest = 0xFF)
    (hg : proc s.otpWord ((s.taken p f).fromHost p f) p f = g ((s.taken p f).fromHost p f)) :
    onOd (fun otp u => u.receiveIf p f kind (proc otp)) s = .next (burnt s (s.toSys.processed p f g)) :=
  onOd_next (g := fun u => u.processed p f g) hp (Sys.receiveIf_processed p.isLt hi hk hd hg)

end Frame

/-- Settles O15, clause by clause: each command processes the frame of its kind, and FRAME_FORWARD every frame. -/
theorem framesAreProcessed : Obligations.FramesAreProcessed := by
  unfold Obligations.FramesAreProcessed
  refine ⟨?count, ?identify, ?assign, ?assignAlias, ?release, ?stream, ?alarm, ?sync, ?delayReq, ?delayRsp, ?bootData, ?odReq, ?forMe, ?elsewhere⟩
  case count => exact fun s p f hp hi hk hd ho => onSys_enum (proc := Sys.enumCount) hp hi hk hd ho
  case identify => exact fun s p f hp hi hk hd ho => onSys_enum (proc := Sys.enumIdentify) hp hi hk hd ho
  case assign => exact fun s p f hp hi hk hd ho => onSys_enum (proc := Sys.enumAssign) hp hi hk hd ho
  case assignAlias => exact fun s p f hp hi hk hd ho => onSys_enum (proc := Sys.enumAlias) hp hi hk hd ho
  case release => exact fun s p f hp hi hk hm ho => onSys_enum (proc := Sys.enumRelease) hp hi hk (.inl hm) ho
  case stream => exact fun s p f hp hi hk hm => onSys_addressed (proc := Sys.streamIn) hp hi (decide_eq_true hk) hm
  case alarm => exact fun s p f hp hi hk hd => onSys_receiveIf (proc := fun v _ e => v.alarmIn e) hp hi (decide_eq_true hk) hd rfl
  case sync =>
    exact fun s p f hp hi hk hd =>
      onSys_receiveIf (proc := fun v q e => v.syncTake q e.src (v.stampIn q e) e.corr e.payload) hp hi (decide_eq_true hk) hd rfl
  case delayReq =>
    exact fun s p f hp hi hk hm =>
      onSys_addressed (proc := fun v q e => v.delayAnswer q e.src (v.stampIn q e) e.payload) hp hi (decide_eq_true hk) hm
  case delayRsp =>
    exact fun s p f hp hi hk hm => onSys_addressed (proc := fun v q e => v.delayTake q (v.stampIn q e) e.corr e.payload) hp hi (decide_eq_true hk) hm
  case bootData =>
    exact fun s p f hp hi hk hm =>
      onOd_receiveIf (proc := fun otp v _ e => if e.dest = v.address then v.bootTake otp e.payload else v) (g := fun v => v.bootTake s.otpWord f.payload)
        hp hi (decide_eq_true hk) (.inl hm) (if_pos ((Sys.dest_of_forMe hm).trans (s.toSys.address_arrived p f).symm))
  case odReq =>
    exact fun s p f hp hi hk hm =>
      onOd_receiveIf (proc := fun otp v q e => v.odReqIn otp q e) (g := fun v => v.odReqIn s.otpWord p f) hp hi (decide_eq_true hk) (.inl hm) rfl
  case forMe =>
    exact fun s p f hp hi hd => onOd_receiveIf (kind := true) (proc := Sys.frameIn) (g := fun v => Sys.frameIn s.otpWord v p f) hp hi rfl hd rfl
  case elsewhere =>
    exact fun s p f hp hi hm hd => onOd_next (f := fun otp u => u.receive p f (Sys.frameIn otp))
      (g := fun u => ((u.taken p f).fromHost p f).forward p (u.stampIn p f) ((u.taken p f).passOn p f)) hp
      (Sys.receive_elsewhere (Sys.frameIn s.otpWord) p.isLt hi hm hd)

end Sys2Proof.Machine
end

section
/-! PROOFS. What the chain controller leaves unchanged (R80, R85, R86, R92, R93): a bad header that it discards, a request that it answers for a full
queue, and an ASSIGN that it carries out move the chain, the record of what was sent, and the entries named. -/

namespace Sys2Proof.Machine

open Sys2Proof

/-! ### Changes of the chain and of named entries -/

/-- `t` is `s` but for the entries in `ks` and what sending changes. -/
structure ChainOnly (ks : List Nat) (s t : Sys) : Prop where
  rest : t = { s with chain := t.chain, sent := t.sent, od := t.od }
  entries : ∀ k, k ∉ ks → k ∉ sendKeys → t.rdW k = s.rdW k

namespace ChainOnly

variable {ks : List Nat} {s t u : Sys}

theorem of_send (h : SendOnly s t) : ChainOnly ks s t := ⟨h.rest, fun k _ hk => h.entries k hk⟩

theorem refl (s : Sys) : ChainOnly ks s s := of_send (.refl s)

theorem trans (a : ChainOnly ks s t) (b : ChainOnly ks t u) : ChainOnly ks s u :=
  ⟨by rw [b.rest, a.rest], fun k hk hn => (b.entries k hk hn).trans (a.entries k hk hn)⟩

theorem mono {js : List Nat} (h : ChainOnly ks s t) (hs : ks ⊆ js) : ChainOnly js s t := ⟨h.rest, fun k hk => h.entries k (fun m => hk (hs m))⟩

theorem wr (s : Sys) {k : Nat} (v : Nat) (hk : k ∈ ks) : ChainOnly ks s (s.wr k v) := by
  refine ⟨rfl, fun j hj _ => ?_⟩
  have hne : j ≠ k := fun e => hj (e ▸ hk)
  simp [Sys.wr, hne]

theorem ite {c : Prop} [Decidable c] (a : ChainOnly ks s t) (b : ChainOnly ks s u) : ChainOnly ks s (if c then t else u) := by
  split
  · exact a
  · exact b

theorem rd (h : ChainOnly ks s t) {k : Nat} (hk : k ∉ ks) (hn : k ∉ sendKeys) : t.rd k = s.rd k := by
  simp only [Sys.rd, h.entries k hk hn]

theorem byte (h : ChainOnly ks s t) (a : Nat) : t.byte a = s.byte a := by rw [h.rest]; rfl

theorem dev (h : ChainOnly ks s t) : t.dev = s.dev := by rw [h.rest]

theorem eng (h : ChainOnly ks s t) : t.eng = s.eng := by rw [h.rest]

/-- Such a change keeps what a frame condition of a command asks for, with a fuse burnt or not. -/
theorem keepsBut_burnt {s : State} (h : ChainOnly ks s.toSys t) : s.keepsBut (burnt s t) ks := by
  refine ⟨fun a => ?_, ?_, burnt_pending s t, fun k hk hn _ => ?_⟩
  · rw [burnt_byte, h.byte]
  · rw [burnt_dev, h.dev]
  · rw [burnt_rdW, h.entries k hk hn]

end ChainOnly

/-! ### A request that finds the queue full -/

namespace Sys

theorem respond_chain_done (s : Sys) {q : WaitReq} {tag : Nat} (code : Nat) (h : q.acc.who = .chain tag) :
    s.respond q (.done code) = s.answer (b2n q.write) q.idx q.sub tag code [] := by
  unfold respond
  rw [h]

/-- A chain request behind 64 others is refused (R93). -/
theorem request_queueFull {s : Sys} (otp : Nat → Nat) {q : WaitReq} (ext : Ext) (hq : isChain q.acc.who = true) (hl : s.leaving = false)
    (hd : ¬(s.dev = .start ∧ s.rd Key.Restore.RESTORE_STATUS = 0)) (he : s.engineStops = false) (hw : s.eng.waits ≠ []) (hn : 64 ≤ s.chainWaits) :
    s.request otp q ext = s.queueFull q := by
  simp [request, hq, hl, hd, he, hw, hn]

theorem queueFull_sendOnly (s : Sys) {q : WaitReq} {tag : Nat} (h : q.acc.who = .chain tag) : SendOnly (s.inc Key.Credits.BUSY_ANSWERS) (s.queueFull q) := by
  unfold queueFull
  rw [respond_chain_done _ _ h]
  exact originate_sendOnly _ _ _ _ _ _

theorem queueFull_chainOnly (s : Sys) {q : WaitReq} {tag : Nat} (h : q.acc.who = .chain tag) : ChainOnly [Key.Credits.BUSY_ANSWERS] s (s.queueFull q) :=
  (ChainOnly.wr s _ List.mem_cons_self).trans (.of_send (s.queueFull_sendOnly h))

end Sys

theorem burnt_rd (s : State) (t : Sys) (k : Nat) : (burnt s t).rd k = t.rd k := congrArg _ (burnt_rdW s t k)

theorem burnt_waits (s : State) (t : Sys) : (burnt s t).eng.waits = t.eng.waits := by
  unfold burnt
  split <;> rfl

/-- Settles O57: the request is refused for the full queue, and its answer changes only what sending does. -/
theorem fullChainQueueAnswersBusy : Obligations.FullChainQueueAnswersBusy := by
  unfold Obligations.FullChainQueueAnswersBusy
  intro s acc tag idx sub size v hacc hp hl hd he hw hn
  let q : WaitReq := { acc := acc, write := true, idx := idx, sub := sub, size := size, val := v }
  have hq : Sys.isChain q.acc.who = true := congrArg Sys.isChain hacc
  have keeps := s.toSys.queueFull_chainOnly (q := q) hacc
  refine ⟨burnt s (s.toSys.queueFull q), onOd_next (f := fun otp u => u.request otp q {}) (g := fun u => u.queueFull q) hp
    (Sys.request_queueFull s.otpWord {} hq hl hd he hw hn), ?_, ?_, keeps.keepsBut_burnt⟩
  · rw [burnt_rd, (s.toSys.queueFull_sendOnly (q := q) hacc).rd _ (by decide), Sys.rd_inc, if_pos rfl]
  · rw [burnt_waits, keeps.eng]

/-! ### A header that fails its check -/

namespace Sys

/-- The port counts the frame, discards it, and gives its cells back (R80 case 1). -/
theorem receive_badHeader {s : Sys} {p : Nat} {f : Frame} (proc : Sys → Nat → Frame → Sys) (hup : s.portUp p = true) (hh : f.hcrc ≠ hcrcOf f)
    (hc : f.cls < 3) (hl : f.len ≤ 2048) : ∃ hold : Port → Port, s.receive p f proc =
      (((s.inc64 (Key.Port.FRAMES_RX p)).inc (Key.Port.HEADER_DISCARDS p)).modPort p hold).freeCells p f.cls (cellsOf f.len) := by
  have fits : ¬(3 ≤ f.cls ∨ 2048 < f.len) := by omega
  unfold receive
  simp only [hup, hh, fits, ne_eq, not_false_eq_true, true_or, Bool.not_true, Bool.false_eq_true, if_true, if_false]
  exact ⟨_, rfl⟩

end Sys

theorem headerKeys (p : Fin 2) : Key.Port.HEADER_DISCARDS p ∉ sendKeys ∧ Key.Port.FRAMES_RX p ∉ sendKeys ∧
    Key.Port.HEADER_DISCARDS p ≠ Key.Port.FRAMES_RX p := by
  revert p
  decide

/-- Settles O58: but for its two counters the port only moves cells. -/
theorem badHeaderIsDiscarded : Obligations.BadHeaderIsDiscarded := by
  unfold Obligations.BadHeaderIsDiscarded
  intro s p f hp hup hh hc hl
  obtain ⟨hold, hr⟩ := Sys.receive_badHeader (Sys.frameIn s.otpWord) hup hh hc hl
  obtain ⟨hdiscards, hrx, hne⟩ := headerKeys p
  let u := (s.toSys.inc64 (Key.Port.FRAMES_RX p)).inc (Key.Port.HEADER_DISCARDS p)
  have counts : ChainOnly [Key.Port.HEADER_DISCARDS p, Key.Port.FRAMES_RX p] s.toSys u := (ChainOnly.wr _ _ (by simp)).trans (.wr _ _ (by simp))
  have cells : SendOnly u ((u.modPort p hold).freeCells p f.cls (cellsOf f.len)) := (SendOnly.modPort u p hold).trans (freeCells_sendOnly _ _ _ _)
  refine ⟨burnt s ((u.modPort p hold).freeCells p f.cls (cellsOf f.len)), ?_, ?_, ?_, (counts.trans (.of_send cells)).keepsBut_burnt⟩
  · exact onOd_next (f := fun otp v => v.receive p f (Sys.frameIn otp)) (g := fun _ => (u.modPort p hold).freeCells p f.cls (cellsOf f.len)) hp hr
  · rw [burnt_rd, cells.rd _ hdiscards, Sys.rd_inc, if_pos rfl, Sys.rd_inc64, if_neg hne]
  · rw [burnt_rd, cells.rd _ hrx, Sys.rd_inc, if_neg hne.symm, Sys.rd_inc64, if_pos rfl]

/-! ### ASSIGN -/

theorem originateAt_sendOnly (s : Sys) (p dest typ : Nat) (ts : Bool) (corr : Int) (payload : List Nat) :
    SendOnly s (s.originateAt p dest typ ts corr payload) := by
  unfold Sys.originateAt
  split
  · exact originate_sendOnly _ _ _ _ _ _
  · next hp =>
    exact (SendOnly.of_chain s { s.chain with seq := (s.chain.seq + 1) % 65536 }).trans (sendPorts_sendOnly _ _ _ (by simpa using hp))

theorem bootAsk_sendOnly (s : Sys) : SendOnly s s.bootAsk := by
  unfold Sys.bootAsk
  exact .ite (.refl s) ((originate_sendOnly _ _ _ _ _ _).trans (.of_chain _ _))

/-- What passing a frame on may count beside what it sends. -/
def passKeys : List Nat := [Key.Port.OTHER_DISCARDS 0, Key.Port.OTHER_DISCARDS 1]

namespace Sys

theorem otherDiscard_chainOnly (s : Sys) (p : Nat) : ChainOnly passKeys s (s.otherDiscard p) := by
  unfold otherDiscard
  split
  · next hp =>
    refine .wr s _ ?_
    rcases (by omega : p = 0 ∨ p = 1) with rfl | rfl <;> simp [passKeys]
  · exact .refl s

/-- A frame that leaves is sent, waits, or is counted as lost (R68). -/
theorem leave_chainOnly (s : Sys) {q : Nat} (hq : q < 2) (i : TxItem) : ChainOnly passKeys s (s.leave q i) := by
  have lost : ∀ p, ChainOnly passKeys s (i.held.elim (s.otherDiscard p) (fun h => (s.otherDiscard p).freeCells h i.f.cls (cellsOf i.f.len))) := by
    intro p
    cases i.held with
    | none => exact s.otherDiscard_chainOnly p
    | some h => exact (s.otherDiscard_chainOnly p).trans (.of_send (freeCells_sendOnly _ _ _ _))
  unfold leave
  exact .ite (.of_send (enqueue_sendOnly s q i hq)) (.ite (lost q) (.ite (lost (1 - q))
    (.of_send ((SendOnly.modPort s q _).trans (pump_sendOnly _ _ (by omega))))))

theorem passed_chainOnly (u s : Sys) (p : Nat) (f : Frame) : ChainOnly passKeys u (u.passed s p f) := by
  unfold passed forward
  refine .ite (.of_send (freeCells_sendOnly _ _ _ _)) (.ite (.of_send ?_) (u.leave_chainOnly (by omega) _))
  exact (SendOnly.when _ _ _ (sendDatagram_sendOnly _ _)).trans (freeCells_sendOnly _ _ _ _)

theorem arrived_chainOnly (s : Sys) (p : Nat) (f : Frame) : ChainOnly [Key.Port.FRAMES_RX p, Key.Pos.HOST_PORT] s ((s.taken p f).fromHost p f) := by
  have held : ChainOnly [Key.Port.FRAMES_RX p, Key.Pos.HOST_PORT] s (s.taken p f) := (ChainOnly.wr s _ (by simp)).trans (.of_send (.modPort _ p _))
  unfold fromHost
  cases decide (f.src = 0xFE)
  · exact held
  · exact held.trans (.wr _ _ (by simp))

/-- The unit may take address `a`: it has none, or is in START, CONFIG or SERVICE, and `a` is an address of a unit (R85, R86). -/
abbrev mayTake (s : Sys) (a : Nat) : Prop := (s.address = 0 ∨ s.dev = .start ∨ s.dev = .config ∨ s.dev = .service) ∧ 1 ≤ a ∧ a ≤ 0xFA

/-- The unit takes the address that ASSIGN carries where it may, and answers (R86). -/
theorem enumTake_assign (s : Sys) (p a : Nat) : SendOnly (if s.mayTake a then s.wr Key.Chain.CHAIN_ADDRESS a else s) (s.enumTake p 3 a) := by
  have answers : ∃ status, (status = 0 ↔ s.mayTake a) ∧ SendOnly (if status = 0 then s.wr Key.Chain.CHAIN_ADDRESS a else s) (s.enumTake p 3 a) := by
    refine ⟨_, ?_, (originateAt_sendOnly _ _ _ _ _ _ _).trans (bootAsk_sendOnly _)⟩
    by_cases state : s.address = 0 ∨ s.dev = .start ∨ s.dev = .config ∨ s.dev = .service
    · rw [if_neg (fun closed => closed.2 (state.resolve_left closed.1)), mayTake, and_iff_right state]
      split <;> omega
    · rw [if_pos ⟨fun none => state (.inl none), fun may => state (.inr may)⟩]
      exact ⟨fun two => absurd two (by decide), fun may => absurd may.1 state⟩
  obtain ⟨status, hs, h⟩ := answers
  rwa [ite_congr (propext hs) (fun _ => rfl) (fun _ => rfl)] at h

/-- The entries that a whole ASSIGN from port `p` may change. -/
def assignKeys (p : Nat) : List Nat := Key.Chain.CHAIN_ADDRESS :: Key.Port.FRAMES_RX p :: Key.Pos.HOST_PORT :: passKeys

section Assign

variable {s : Sys} (p : Fin 2) {f : Frame} (hlen : 5 ≤ f.payload.length) (hpos : u16At f.payload 2 = s.rd Key.Pos.POSITION)
include hlen hpos

/-- The unit that the frame names acts on it. -/
theorem processed_assign : s.processed p f (fun v => v.enumAssign p f) =
    (((s.taken p f).fromHost p f).enumTake p 3 (u8At f.payload 4)).passed s p f :=
  congrArg (fun u : Sys => u.passed s p f)
    (if_pos ⟨hlen, hpos.trans (s.rd_arrived p f (ne_of_port _ (by decide) (by decide) p) (by decide)).symm⟩)

theorem processed_assign_chainOnly : ChainOnly (assignKeys p) s (s.processed p f (fun v => v.enumAssign p f)) := by
  rw [processed_assign p hlen hpos]
  have takes : ChainOnly (assignKeys p) ((s.taken p f).fromHost p f) (((s.taken p f).fromHost p f).enumTake p 3 (u8At f.payload 4)) :=
    (ChainOnly.ite (.wr _ _ (by simp [assignKeys])) (.refl _)).trans (.of_send (enumTake_assign _ p _))
  exact ((s.arrived_chainOnly p f).mono (by simp [assignKeys])).trans (takes.trans ((passed_chainOnly _ s p f).mono (fun k hk => by simp [assignKeys, hk])))

/-- Neither the answer nor the frame that goes on changes the address that the unit has taken. -/
theorem processed_assign_address : (s.processed p f (fun v => v.enumAssign p f)).address =
    if s.mayTake (u8At f.payload 4) then u8At f.payload 4 else s.address := by
  have haddr : ((s.taken p f).fromHost p f).address = s.address := s.address_arrived p f
  have hmay : ((s.taken p f).fromHost p f).mayTake (u8At f.payload 4) ↔ s.mayTake (u8At f.payload 4) := by
    simp only [mayTake, haddr, (s.arrived_chainOnly p f).dev]
  rw [processed_assign p hlen hpos, address, (passed_chainOnly _ s p f).rd (by decide) (by decide), (enumTake_assign _ p _).rd _ (by decide),
    ite_congr (propext hmay) (fun _ => rfl) (fun _ => rfl)]
  split
  · next may => exact (rd_wr _ _ _ _).trans ((if_pos rfl).trans (Nat.mod_eq_of_lt (by omega)))
  · exact haddr

end Assign

end Sys

/-- Settles O40: the unit that the frame names takes the address where it may, and passes the frame on. -/
theorem assignTakesTheAddress : Obligations.AssignTakesTheAddress := by
  unfold Obligations.AssignTakesTheAddress
  intro s p f hp hi hk hd ho hlen _ hpos
  have keeps := Sys.processed_assign_chainOnly p hlen hpos
  exact ⟨_, onSys_enum (proc := Sys.enumAssign) hp hi hk hd ho, Sys.processed_assign_address p hlen hpos, keeps.byte, keeps.dev, rfl⟩

end Sys2Proof.Machine
end

section
/-! PROOFS. A fence of reads that burns a fuse (R428, R441): the wake event carries out a PROGRAM that waited in NAP and leaves its bits to the next
command that may burn one, which a fence of a hart is. -/

namespace Sys2Proof.Machine

open Sys2Proof

/-- In SERVICE and NAP: hart 0 has written PROGRAM of bits 0 and 2 of fuse word 200, and the write waits in the engine for the end of NAP. -/
def programWaitsInNap : State :=
  { toSys := ({ Sys.reset with
      dev := .service
      pw := { Sys.reset.pw with state := .nap }
      core := { Sys.reset.core with apRun := 1 }
      eng := { Sys.reset.eng with waits := [Sys.writeReq { who := .window (.ap 0) true } Key.Otp.OTP_COMMAND 2] } } : Sys)
    |>.wr Key.Restore.RESTORE_STATUS 1 |>.wr Key.Pll.SOURCE 63 |>.wr Key.Wake.ENABLE 1 |>.wr Key.Otp.OTP_ADDR 200 |>.wr Key.Otp.OTP_DATA 5 }

/-- WAKE_EVENT carries the write out but burns nothing: that is left to the next command that may burn a fuse. -/
theorem wakeEvent_leaves_program : ∃ t, exec (.wakeEvent 0 0) programWaitsInNap = .next t ∧
    t.powered = true ∧ t.hartOut 0 = true ∧ t.eng.burn = some (200, 5) ∧ t.otp = [] :=
  ⟨_, rfl, by decide +kernel⟩

theorem issue_fenceIR_burn (s : Sys) (otp : Nat → Nat) (h : Nat) : (s.issue otp (.fenceIR h)).eng.burn = s.eng.burn := by
  unfold Sys.issue
  split <;> rfl

/-- The fence burns what PROGRAM has left. -/
theorem fenceIR_burns {s : State} {h : Fin 4} {w bits : Nat} (hp : s.powered = true) (ho : s.hartOut h = true) (hb : s.eng.burn = some (w, bits)) :
    ∃ t, exec (.fenceIR h) s = .next t ∧
      t.otp = Kv.put (fun _ => (0 : Word)) w (BitVec.ofNat 64 (programmed (s.otpWord w) bits)) s.otp := by
  refine ⟨_, onOd_next (f := fun otp u => if u.hartOut h then u.issue otp (.fenceIR h) else u) (g := fun u => u.issue s.otpWord (.fenceIR h)) hp
    (if_pos ho), ?_⟩
  have hb' := (issue_fenceIR_burn s.toSys s.otpWord h).trans hb
  unfold burnt
  rw [hb']

/-- Refutes O55: the fence of reads of a hart need not leave the fuses as they are, since the wake event before it may have left it a word to burn. -/
theorem not_blockEventFrames : ¬ Obligations.BlockEventFrames := by
  unfold Obligations.BlockEventFrames
  rintro ⟨-, -, -, fenceIR, -⟩
  obtain ⟨s, -, hp, ho, hb, hotp⟩ := wakeEvent_leaves_program
  obtain ⟨t, ht, hburnt⟩ := fenceIR_burns (h := 0) hp ho hb
  have kept : t.otp = s.otp := (fenceIR s t 0 ht).2
  rw [hburnt, State.otpWord, hotp] at kept
  exact absurd kept (by decide)

end Sys2Proof.Machine
end

section
/-! PROOFS. What the events of a scan channel do under the conditions in which they act: the fetch of a block (R110), the look-ahead (R114, R122, R132),
samples (R103), the start of each descriptor (R116 to R124, R130, R226), and the ends of waits and time limits (R121, R131, R135). -/

namespace Sys2Proof.Machine

open Sys2Proof

namespace Sys

/-! ### Fetch and look-ahead -/

/-- Without a pending RESYNC the block that lies whole in the ring is taken (R110, R112). -/
theorem fetchBlock_takes {s : Sys} {c n : Nat} (ok : Bool) (hrun : s.consumersRun = true) (hn : s.feeder 1 c = some n) (h0 : s.chState c ≠ 0)
    (h5 : s.chState c ≠ 5) (hend : (s.ch c).fetchEnd = false) (hwhole : 8256 ≤ (s.rd (Key.EpSt.NEXT_OFFSET n) + 2 ^ 32 - (s.ch c).fetch) % 2 ^ 32)
    (hpast : (s.rd (Key.EpSt.NEXT_OFFSET n) + 2 ^ 32 - (s.ch c).fetch) % 2 ^ 32 < 2 ^ 31) (hsync : s.rdB (Key.Queue.RESYNC c) = false) :
    s.fetchBlock c ok = s.takeBlock c n ok := by
  have hgo : ¬(s.consumersRun = false ∨ s.chState c = 0 ∨ s.chState c = 5 ∨ (s.ch c).fetchEnd = true ∨
      (s.rd (Key.EpSt.NEXT_OFFSET n) + 2 ^ 32 - (s.ch c).fetch) % 2 ^ 32 < 8256 ∨
      2 ^ 31 ≤ (s.rd (Key.EpSt.NEXT_OFFSET n) + 2 ^ 32 - (s.ch c).fetch) % 2 ^ 32) := by
    simp only [hrun, h0, h5, hend, Nat.not_lt.mpr hwhole, Nat.not_le.mpr hpast, Bool.true_eq_false, Bool.false_eq_true, or_self, not_false_eq_true]
  unfold fetchBlock
  simp only [hn, if_neg hgo, hsync, Bool.false_eq_true, if_false]

/-- What becomes of the descriptor `d` that the look-ahead reads (R114). -/
def judgeAhead (s : Sys) (c : Nat) (ok : Bool) (d : Desc) : Sys :=
  let p := s.lookTail c (s.lims c)
  let bad := s.descBad c (s.lims c) p.1 d
  if d.op = 10 ∧ bad = false then s.linkAhead c ok d
  else if !ok then s.bobbinParity c
  else if d.op = 512 then s.recordAhead c d
  else if d.op = 256 then (s.modCh c (fun q => { q with link := none })).pushDesc c d
  else if bad then (s.haltAt c 7).faultNow 0x03 1 c
  else if !s.descInside c (s.lims c) p.1 p.2 d then
    if d.op = 9 then (s.haltAt c 7).faultNow 0x03 1 c else (s.haltAt c 8).faultNow 0x04 1 c
  else
    let v := s.insertMarks c d
    if 16 ≤ (v.ch c).look.length then v else ((v.readOn c).modCh c (fun q => { q with inserted := 0 })).pushDesc c d

/-- A channel that is not OFF, stopping or HALTED, with a place in its look-ahead and no halt pending, judges its next descriptor (R114). -/
theorem lookAhead_judges {s : Sys} {c : Nat} {d : Desc} (h0 : s.chState c ≠ 0) (h4 : s.chState c < 4) (hh : (s.ch c).halt = none)
    (hl : (s.ch c).look.length < 16) (hd : s.nextDesc c = some d) (ok : Bool) : s.lookAhead c ok = s.judgeAhead c ok d := by
  have hgo : ¬(s.chState c = 0 ∨ 4 ≤ s.chState c ∨ (s.ch c).halt.isSome = true ∨ 16 ≤ (s.ch c).look.length) := by
    simp only [h0, hh, Nat.not_le.mpr h4, Nat.not_le.mpr hl, Option.isSome_none, Bool.false_eq_true, or_self, not_false_eq_true]
  unfold lookAhead judgeAhead
  simp only [if_neg hgo, hd]

section Judged

variable {s : Sys} {c : Nat} {d : Desc}

/-- The block that a LINK names is read and checked (R122). -/
theorem judgeAhead_link (ok : Bool) (hop : d.op = 10) (hb : s.descBad c (s.lims c) (s.lookTail c (s.lims c)).1 d = false) :
    s.judgeAhead c ok d = s.linkAhead c ok d := if_pos ⟨hop, hb⟩

theorem judgeAhead_parity (hop : d.op ≠ 10) : s.judgeAhead c false d = s.bobbinParity c := by
  simp [judgeAhead, hop]

theorem judgeAhead_record (hop : d.op = 512) : s.judgeAhead c true d = s.recordAhead c d := by
  simp [judgeAhead, hop]

/-- The end of a linked block returns to the Bobbin (R122). -/
theorem judgeAhead_return (hop : d.op = 256) : s.judgeAhead c true d = (s.modCh c (fun q => { q with link := none })).pushDesc c d := by
  simp [judgeAhead, hop]

variable (h256 : d.op ≠ 256) (h10 : d.op ≠ 10) (h512 : d.op ≠ 512)
include h256 h10 h512

theorem judgeAhead_bad (hb : s.descBad c (s.lims c) (s.lookTail c (s.lims c)).1 d = true) :
    s.judgeAhead c true d = (s.haltAt c 7).faultNow 0x03 1 c := by
  simp [judgeAhead, h256, h10, h512, hb]

/-- A path that leaves the work area halts the channel before its descriptor (R106). -/
theorem judgeAhead_outside (h9 : d.op ≠ 9) (hb : s.descBad c (s.lims c) (s.lookTail c (s.lims c)).1 d = false)
    (hi : s.descInside c (s.lims c) (s.lookTail c (s.lims c)).1 (s.lookTail c (s.lims c)).2 d = false) :
    s.judgeAhead c true d = (s.haltAt c 8).faultNow 0x04 1 c := by
  simp [judgeAhead, h256, h10, h512, h9, hb, hi]

/-- A good descriptor follows the marks that CAL inserts before it, where they leave it a place (R114, R228). -/
theorem judgeAhead_good (hb : s.descBad c (s.lims c) (s.lookTail c (s.lims c)).1 d = false)
    (hi : s.descInside c (s.lims c) (s.lookTail c (s.lims c)).1 (s.lookTail c (s.lims c)).2 d = true) :
    s.judgeAhead c true d = (let v := s.insertMarks c d
      if 16 ≤ (v.ch c).look.length then v else ((v.readOn c).modCh c (fun q => { q with inserted := 0 })).pushDesc c d) := by
  simp [judgeAhead, h256, h10, h512, hb, hi]

end Judged

/-! ### The start of a descriptor -/

/-- The next descriptor starts where the path of the one before it ended; one that takes no time is finished at once (R115, R123, R130). -/
theorem runHead_starts {s : Sys} {c : Nat} {d : Desc} {rest : List Desc} (h2 : s.chState c = 2) (hc : (s.ch c).cur = none)
    (hl : (s.ch c).look = d :: rest) (hp : (s.ch c).pause = false) (hf : (s.ch c).fresh = false) (hs : (s.ch c).starved = false) :
    s.runHead c d.op = (let v := s.startDesc c (s.ch c).plan.fin.t d rest
      if isStill d.op then v.finishDesc c (v.ch c).plan.fin.t d else v) := by
  have hgo : pausesAt (s.ch c) d = false := by simp [pausesAt, hp]
  unfold runHead
  simp [h2, hc, hl, hgo, hs, hf]

/-! ### Waits and time limits -/

/-- A WAIT_TIME ends at its TIME (R121). -/
theorem waitReached_ends {s : Sys} {c : Nat} {d : Desc} (hc : (s.ch c).cur = some d) (hop : d.op = 6) (h2 : s.chState c = 2)
    (ht : d.a + 2 ^ 32 * d.b ≤ s.now) : s.waitReached c = (s.endWait c (d.a + 2 ^ 32 * d.b)).finishDesc c (d.a + 2 ^ 32 * d.b) d := by
  simp only [waitReached, hc]
  exact if_pos ⟨hop, h2, ht⟩

/-- A WAIT_EVENT ends where its TIMEOUT passes without a capture, and halts the channel where its FLAGS say so (R121). -/
theorem waitExpired_ends {s : Sys} {c : Nat} {d : Desc} {t : Nat} (hc : (s.ch c).cur = some d) (hw : (s.ch c).waitSince = some t) (hop : d.op = 7)
    (h2 : s.chState c = 2) (ha : d.a ≠ 0) (ht : t + d.a * 1000 ≤ s.now) (hn : s.rd (Key.Cap.COUNT (d.param % 32)) = (s.ch c).waitCount) :
    s.waitExpired c = (let v := (s.endWait c s.now).finishDesc c s.now d
      if d.flags.testBit 0 then (((v.haltNow c 11).deferUpdate c).faultNow 0x07 1 c).refreshGate c else v) := by
  simp only [waitExpired, hc, hw]
  exact if_pos ⟨hop, h2, ha, ht, hn⟩

/-- A laser that is not ready READY_TIMEOUT after its enable is a fault (R131). -/
theorem readyExpired_late {s : Sys} {c t : Nat} (he : (s.ch c).enabledAt = some t) (h0 : s.rd (Key.Mod.READY_TIMEOUT c) ≠ 0)
    (ht : t + s.rd (Key.Mod.READY_TIMEOUT c) * 1000000 ≤ s.clk) (hr : s.stsReady c = false) :
    s.readyExpired c = (s.modCh c (fun q => { q with enabledAt := none })).faultNow 0x08 1 c := by
  simp only [readyExpired, he]
  exact if_pos ⟨h0, ht, by rw [hr]; rfl⟩

end Sys

/-! ### The commands -/

/-- A command on the blocks of a domain that works, whose effect is `g` on this state. -/
theorem onBlock_next {dom : Nat} {f g : Sys → Sys} {s : State} (hp : s.powered = true) (hr : s.runs dom = true) (h : f s.toSys = g s.toSys) :
    onBlock dom f s = .next (s.on g) := onSys_next hp ((if_pos hr).trans h)

/-- DESCRIPTOR_LOOKAHEAD is the judgement of the descriptor that is read next (R114). -/
theorem exec_descriptorLookahead {s : State} {c : Fin 16} {d : Desc} {ok : Bool} {g : Sys → Sys} (hp : s.powered = true)
    (hr : s.runs (Sys.chDomain c) = true) (h0 : s.chState c ≠ 0) (h4 : s.chState c < 4) (hh : (s.ch c).halt = none)
    (hl : (s.ch c).look.length < 16) (hd : s.nextDesc c = some d) (h : s.judgeAhead c ok d = g s.toSys) :
    exec (.descriptorLookahead c ok) s = .next (s.on g) :=
  onBlock_next (f := fun u => u.lookAhead c ok) hp hr ((Sys.lookAhead_judges h0 h4 hh hl hd ok).trans h)

section Head

variable {s : State} {c : Fin 16} {d : Desc} {rest : List Desc} (hp : s.powered = true) (hr : s.runs (Sys.chDomain c) = true)
  (h2 : s.chState c = 2) (hc : (s.ch c).cur = none) (hl : (s.ch c).look = d :: rest) {op : Nat} (hop : d.op = op) (hpause : (s.ch c).pause = false)
  (hf : (s.ch c).fresh = false) (hs : (s.ch c).starved = false)
include hp hr h2 hc hl hop hpause hf hs

/-- A descriptor that takes its time starts and stays. -/
theorem onBlock_runHead_starts (hstill : isStill op = false) :
    onBlock (Sys.chDomain c) (fun u => u.runHead c op) s = .next (s.on (fun u => u.startDesc c (u.ch c).plan.fin.t d rest)) := by
  subst hop
  refine onBlock_next hp hr ((Sys.runHead_starts h2 hc hl hpause hf hs).trans ?_)
  rw [hstill]
  rfl

/-- A descriptor that takes no time starts and is finished. -/
theorem onBlock_runHead_finishes (hstill : isStill op = true) :
    onBlock (Sys.chDomain c) (fun u => u.runHead c op) s = .next (s.on (fun u =>
      let v := u.startDesc c (u.ch c).plan.fin.t d rest
      v.finishDesc c (v.ch c).plan.fin.t d)) := by
  subst hop
  refine onBlock_next hp hr ((Sys.runHead_starts h2 hc hl hpause hf hs).trans ?_)
  rw [hstill]
  rfl

end Head

/-- Settles O18, clause by clause: the look-ahead judges its next descriptor, the head of the look-ahead starts, and each other event has its effect. -/
theorem scanEventsAct : Obligations.ScanEventsAct := by
  unfold Obligations.ScanEventsAct
  refine ⟨?blockFetch, ?good, ?outside, ?bad, ?record, ?linkReturn, ?link, ?parity, ?sample, ?jump, ?mark, ?arc, ?dwell, ?power, ?waitTime, ?waitEvent,
    ?seamPoint, ?calMark, ?linkBlock, ?endDescr, ?waitTimeReached, ?waitEventTimeout, ?readyTimeout, ?lpStsOn, ?lpStsOff, ?sosTimeout⟩
  case blockFetch =>
    exact fun s c ok n hp hr hrun hn h0 h5 hend hwhole hpast hsync => onBlock_next (f := fun u => u.fetchBlock c ok) hp hr
      (Sys.fetchBlock_takes ok hrun hn h0 h5 hend hwhole hpast hsync)
  case good =>
    exact fun s c d hp hr h0 h4 hh hl hd h256 h10 h512 hb hi => exec_descriptorLookahead hp hr h0 h4 hh hl hd
      (Sys.judgeAhead_good h256 h10 h512 hb hi)
  case outside =>
    exact fun s c d hp hr h0 h4 hh hl hd h256 h10 h512 h9 hb hi => exec_descriptorLookahead hp hr h0 h4 hh hl hd
      (Sys.judgeAhead_outside h256 h10 h512 h9 hb hi)
  case bad =>
    exact fun s c d hp hr h0 h4 hh hl hd h256 h10 h512 hb => exec_descriptorLookahead hp hr h0 h4 hh hl hd (Sys.judgeAhead_bad h256 h10 h512 hb)
  case record => exact fun s c d hp hr h0 h4 hh hl hd hop => exec_descriptorLookahead hp hr h0 h4 hh hl hd (Sys.judgeAhead_record hop)
  case linkReturn => exact fun s c d hp hr h0 h4 hh hl hd hop => exec_descriptorLookahead hp hr h0 h4 hh hl hd (Sys.judgeAhead_return hop)
  case link => exact fun s c d ok hp hr h0 h4 hh hl hd hop hb => exec_descriptorLookahead hp hr h0 h4 hh hl hd (Sys.judgeAhead_link ok hop hb)
  case parity => exact fun s c d hp hr h0 h4 hh hl hd hop => exec_descriptorLookahead hp hr h0 h4 hh hl hd (Sys.judgeAhead_parity hop)
  case sample =>
    exact fun s c ok hp hr _ ht => onBlock_next (f := fun u =>
      let t := u.rd (Key.Trig.LAST_TIME (u.rd (Key.Ch.TRIGGER c)))
      if (u.ch c).sampled < t then u.scuSample c t ok else u) hp hr (if_pos ht)
  case jump | mark | arc | dwell | waitTime | waitEvent | calMark | endDescr =>
    exact fun s c d rest hp hr h2 hc hl hop hpause hf hs => onBlock_runHead_starts hp hr h2 hc hl hop hpause hf hs rfl
  case power | seamPoint | linkBlock =>
    exact fun s c d rest hp hr h2 hc hl hop hpause hf hs => onBlock_runHead_finishes hp hr h2 hc hl hop hpause hf hs rfl
  case waitTimeReached =>
    exact fun s c d hp hr hc hop h2 ht => onBlock_next (f := fun u => u.waitReached c) hp hr (Sys.waitReached_ends hc hop h2 ht)
  case waitEventTimeout =>
    exact fun s c d t hp hr hc hw hop h2 ha ht hn => onBlock_next (f := fun u => u.waitExpired c) hp hr (Sys.waitExpired_ends hc hw hop h2 ha ht hn)
  case readyTimeout =>
    exact fun s c t hp he h0 ht hr => onSys_next (f := fun u => u.readyExpired c) hp (Sys.readyExpired_late he h0 ht hr)
  case lpStsOn =>
    exact fun s c level h => onUnit_next (f := fun u => if u.domainOn 11 then u.stsChange c level
      else { u with pads := { u.pads with lpSts := putBit u.pads.lpSts c level } }) (if_pos h)
  case lpStsOff =>
    exact fun s c level h => onUnit_next (f := fun u => if u.domainOn 11 then u.stsChange c level
      else { u with pads := { u.pads with lpSts := putBit u.pads.lpSts c level } }) (if_neg (by rw [h]; decide))
  case sosTimeout =>
    exact fun s c hp hr hm h2 ht => onBlock_next (f := fun u => u.sosExpired c) hp hr (if_pos ⟨hm, h2, ht⟩)

end Sys2Proof.Machine
end

section
/-! PROOFS. What the events of the loop slots (R155, R158, R170), of the melt-pool updates and gates (R186, R193), of the zones (R206, R210, R211) and
of the live calibration (R222, R224, R236, R239, R240) do under the conditions in which they act. -/

namespace Sys2Proof.Machine

open Sys2Proof

namespace Sys

/-- A condition that a proposition decides. -/
theorem when_decide (s : Sys) (p : Prop) [Decidable p] (f : Sys → Sys) : s.when (decide p) f = if p then f s else s := by
  simp only [when, decide_eq_true_eq]

/-! ### Loop slots and gates -/

/-- A slot that was in BLEND keeps the law that was active (the model's choice, log entry 50); its ramp begins and its axis ramps down (R166, R170,
R304). -/
theorem rampDown_eq (s : Sys) (n cause : Nat) : s.rampDown n cause =
    (let v := ((if s.slotState n = 2 then s.wr (Key.Slot.MODE n) (s.rd (Key.Slot.ACTIVE_MODE n)) else s).setSlotState n 4 cause).startRamp n false;
      (v.slotAxis n).elim v (fun a => v.axRampDown a)) := by
  rw [rampDown, when_decide]

/-- A disagreement of the gate paths is latched, counted, made a fault and judged (R193). -/
theorem gatePaths_differ (s : Sys) (c : Nat) {a b : Bool} (h : a ≠ b) : s.gatePaths c a b =
    (((((s.modLoop c (fun q => { q with pathA := a, pathB := b })).modLoop c (fun q => { q with mismatch := true })).inc
      (Key.MplCnt.GATE_MISMATCHES c)).faultNow 0x20 1 c).refreshGate c).refreshIlk := if_neg h

/-! ### The close of a collection of takeovers -/

/-- The ALARM that a collection of code `code`, begun at `t`, sends for its `items` of one kind and applies to the unit's own zones; none for no items
(R206, R207, R276). -/
def alarmFor (s : Sys) (code t instant kind : Nat) (items : List Nat) : Sys :=
  if items = [] then s else ((s.sendAlarm kind code t instant items).inc Key.Take.ALARMS_SENT).applyAlarm kind none instant items

theorem alarmFor_nil (s : Sys) (code t instant kind : Nat) : s.alarmFor code t instant kind [] = s := if_pos rfl

theorem alarmFor_cons {items : List Nat} (s : Sys) (code t instant kind : Nat) (h : items ≠ []) : s.alarmFor code t instant kind items =
    ((s.sendAlarm kind code t instant items).inc Key.Take.ALARMS_SENT).applyAlarm kind none instant items := if_neg h

section Collection

variable {s : Sys} {k : Collect} {rest : List Collect} (hk : s.stitch.collects = k :: rest) (ht : k.at_ + 1000 ≤ s.now)
include hk ht

/-- A collection that is 1 us old leaves the queue, its channels' ALARM goes before its heads', and the gaps of its channels are reported (R206). -/
theorem collectionClose_due : s.collectionClose =
    (let instant := k.at_ + s.rd Key.Take.TAKEOVER_LEAD;
      (((({ s with stitch := { s.stitch with collects := rest } } : Sys).alarmFor k.code k.at_ instant 1 k.channels).alarmFor
        k.code k.at_ instant 2 k.heads).each k.channels (fun v c => v.gapReports c instant))) := by
  simp only [collectionClose, hk, if_neg (Nat.not_lt.mpr ht)]
  rfl

theorem collectionClose_channels (hh : k.heads = []) (hc : k.channels ≠ []) : s.collectionClose =
    (let instant := k.at_ + s.rd Key.Take.TAKEOVER_LEAD;
      (((({ s with stitch := { s.stitch with collects := rest } } : Sys).sendAlarm 1 k.code k.at_ instant k.channels).inc
        Key.Take.ALARMS_SENT).applyAlarm 1 none instant k.channels).each k.channels (fun v c => v.gapReports c instant)) := by
  simp only [collectionClose_due hk ht, hh, alarmFor_nil, alarmFor_cons _ _ _ _ _ hc]

theorem collectionClose_heads (hc : k.channels = []) (hh : k.heads ≠ []) : s.collectionClose =
    (let instant := k.at_ + s.rd Key.Take.TAKEOVER_LEAD;
      ((({ s with stitch := { s.stitch with collects := rest } } : Sys).sendAlarm 2 k.code k.at_ instant k.heads).inc
        Key.Take.ALARMS_SENT).applyAlarm 2 none instant k.heads) := by
  simp only [collectionClose_due hk ht, hc, alarmFor_nil, alarmFor_cons _ _ _ _ _ hh]
  rfl

end Collection

/-! ### Live updates and retained copies -/

/-- A SCHEDULED step whose instant and WINDOW have passed without a swap halts its update (R240). -/
theorem updExpire_scheduled {s : Sys} {u : Nat} (h3 : s.rd (updKey u 0x0A) = 3) (ht : s.rd (updKey u 0x0E) + s.rd (updKey u 6) * 1000 ≤ s.now) :
    s.updExpire u = s.haltUpdate u 3 4 := by
  simp only [updExpire, if_pos h3]
  exact if_pos ⟨.inr h3, ht⟩

section Copy

variable {s : Sys} {u : Nat} {rest : List Nat} (hc : s.cal.copies = u :: rest)
include hc

/-- A table that cannot be read is not copied (R222, R243; the model's choice, log entry 50). -/
theorem copyWrite_unread (staging slot : Nat) :
    s.copyWrite false staging slot = (s.faultNow 0x2A (tableInst u) (tableIndex u)).copyFailed u rest := by
  simp [copyWrite, hc]

/-- A staging slot whose verification fails twice keeps open bytes, and the table's own slot is not reached (R222; log entries 21 and 50). -/
theorem copyWrite_stagingFails {staging : Nat} (hs : 2 ≤ staging) (slot : Nat) :
    s.copyWrite true staging slot = (s.slotSpoilt stagingAddr (tableLen u)).copyFailed u rest := by
  simp [copyWrite, hc, hs]

/-- An own slot whose verification fails twice keeps open bytes, while the staging slot stays valid (R222; log entries 21 and 50). -/
theorem copyWrite_slotFails {staging slot : Nat} (hs : staging < 2) (hn : 2 ≤ slot) :
    s.copyWrite true staging slot = ((s.slotWrite u stagingAddr).slotSpoilt (slotAddr u) (tableLen u)).copyFailed u rest := by
  simp [copyWrite, hc, Nat.not_le.mpr hs, hn]

/-- A copy whose two steps verify is the valid image of its table, and the staging slot is free again (R222). -/
theorem copyWrite_verified {staging slot : Nat} (hs : staging < 2) (hn : slot < 2) :
    s.copyWrite true staging slot = (let v := ((s.slotWrite u stagingAddr).slotWrite u (slotAddr u)).setBytes (stagingAddr + 4) [0];
      (((v.wrB (updKey u 0x11) true).wr (updKey u 0x12) (v.ld (slotAddr u + 64 + tableGenAt u) 4)).inc Key.Cal.COPY_WRITES).copyPop rest) := by
  simp [copyWrite, hc, Nat.not_le.mpr hs, Nat.not_le.mpr hn]

end Copy

end Sys

/-! ### The commands -/

/-- Settles O19, clause by clause: each command is the effect of its event on the powered block. -/
theorem loopStitchUpdateEventsAct : Obligations.LoopStitchUpdateEventsAct := by
  unfold Obligations.LoopStitchUpdateEventsAct
  refine ⟨?slotEvaluation, ?lineBreak, ?faultHoldExpiry, ?mplUpdate, ?gateMismatch, ?joinTimeReached, ?closeChannels, ?closeHeads, ?takeoverInstant,
    ?checksComplete, ?stepBuilt, ?swapWindowExpiry, ?copyUnread, ?copyStagingFails, ?copySlotFails, ?copyVerified, ?loadRecord⟩
  case slotEvaluation =>
    exact fun _ n code ok wait stateOk readOk hp hr _ => onBlock_next (f := fun u => u.evalSlot n code ok wait stateOk readOk) hp hr rfl
  case lineBreak =>
    exact fun _ n broken hp => onSys_next
      (f := fun u => u.modSlot n (fun q => { q with lineBreak := broken && u.rdB (Key.SlotFb.LINE_BREAK_EN n) })) hp rfl
  case faultHoldExpiry =>
    intro s n hp hr hl ht hst
    refine onSys_next (f := fun u => if u.runs (Sys.slotDomain n) && (u.slot n).leaving && decide ((u.slot n).leaveAt ≤ u.clk) &&
      decide (u.slotState n = 1 ∨ u.slotState n = 2) then u.rampDown n 3 else u) hp ((if_pos ?_).trans (s.toSys.rampDown_eq n 3))
    simp only [hr, hl, ht, hst, decide_true, Bool.and_self]
  case mplUpdate =>
    exact fun _ c a b ok readOk hp hr => onBlock_next (f := fun u => u.mplUpdate c (a.take 8) (b.take 8) ok readOk) hp hr rfl
  case gateMismatch => exact fun s c a b hp h => onSys_next (f := fun u => u.gatePaths c a b) hp (s.toSys.gatePaths_differ c h)
  case joinTimeReached => exact fun _ hp => onSys_next (f := Sys.joinDue) hp rfl
  case closeChannels =>
    exact fun _ _ _ hp hk ht hh hc => onSys_next (f := Sys.collectionClose) hp (Sys.collectionClose_channels hk ht hh hc)
  case closeHeads => exact fun _ _ _ hp hk ht hc hh => onSys_next (f := Sys.collectionClose) hp (Sys.collectionClose_heads hk ht hc hh)
  case takeoverInstant => exact fun _ hp => onSys_next (f := Sys.takeoverDue) hp rfl
  case checksComplete => exact fun _ m ok hp _ => onSys_next (f := fun u => u.updChecks m ok) hp rfl
  case stepBuilt => exact fun _ m ok verified off hp _ => onSys_next (f := fun u => u.updBuild m ok verified off) hp rfl
  case swapWindowExpiry => exact fun _ m hp h3 ht => onSys_next (f := fun u => u.updExpire m) hp (Sys.updExpire_scheduled h3 ht)
  case copyUnread =>
    exact fun _ _ _ staging slot hp hc => onSys_next (f := fun u => u.copyWrite false staging slot) hp (Sys.copyWrite_unread hc staging slot)
  case copyStagingFails =>
    exact fun _ _ _ slot hp hc => onSys_next (f := fun u => u.copyWrite true 2 slot) hp (Sys.copyWrite_stagingFails hc (Nat.le_refl 2) slot)
  case copySlotFails =>
    exact fun _ _ _ staging hp hc hs => onSys_next (f := fun u => u.copyWrite true staging 2) hp (Sys.copyWrite_slotFails hc hs (Nat.le_refl 2))
  case copyVerified =>
    exact fun _ _ _ staging slot hp hc hs hn => onSys_next (f := fun u => u.copyWrite true staging slot) hp (Sys.copyWrite_verified hc hs hn)
  case loadRecord => exact fun _ ok hp _ => onSys_next (f := fun u => u.loadRecord ok) hp rfl

end Sys2Proof.Machine
end

section
/-! PROOFS. What the fix instant of a swath (R220), the encoders and start-of-scan inputs (R249, R250, R254, R258), the FIRE outputs (R255), the slices
and columns of a swath (R261, R262, R270) and its end (R264) do under the conditions in which they act. -/

namespace Sys2Proof.Machine

open Sys2Proof

namespace Sys

/-! ### An edge at a pin keeps the clocks of the mark timing units -/

/-- What each step of a loop keeps, the loop keeps. -/
theorem each_keeps {α : Type} {π : Sys → α} {f : Sys → Nat → Sys} (h : ∀ s n, π (f s n) = π s) (l : List Nat) (s : Sys) : π (s.each l f) = π s := by
  induction l generalizing s with
  | nil => rfl
  | cons n t ih => exact (ih (f s n)).trans (h s n)

theorem when_keeps {α : Type} {π : Sys → α} {f : Sys → Sys} {s : Sys} (b : Bool) (h : π (f s) = π s) : π (s.when b f) = π s := by
  cases b
  · rfl
  · exact h

/-- The entries that say which domains and which mark timing units work (R11, R14, R56). -/
def runsKeys : List Nat := [Key.Dom.ENABLE, Key.Pll.SOURCE, Key.Restore.RESTORE_STATUS]

theorem mtuRuns_wr (s : Sys) (k v : Nat) (h : k ∉ runsKeys) : (s.wr k v).mtuRuns = s.mtuRuns := by
  have hrd : ∀ j ∈ runsKeys, (s.wr k v).rd j = s.rd j := fun j hj => (s.rd_wr k j v).trans (if_neg fun e : j = k => h (e ▸ hj))
  have hen := hrd Key.Dom.ENABLE (by decide)
  have hsrc := hrd Key.Pll.SOURCE (by decide)
  have hres := hrd Key.Restore.RESTORE_STATUS (by decide)
  have hpw : (s.wr k v).pw = s.pw := rfl
  simp only [mtuRuns, runs, domainOn, clockRuns, rdBit, hen, hsrc, hres, hpw]

theorem mtuRuns_inc (s : Sys) (k : Nat) (h : k ∉ runsKeys) : (s.inc k).mtuRuns = s.mtuRuns := mtuRuns_wr s k _ h

/-- The entries of a capture unit are none of them. -/
theorem capKey_notRuns (n b : Nat) : (0xE40 + n) * 256 + b ∉ runsKeys := by
  simp only [runsKeys, Key.Dom.ENABLE, Key.Pll.SOURCE, Key.Restore.RESTORE_STATUS, List.mem_cons, List.not_mem_nil, or_false]
  omega

theorem mtuRuns_raise (s : Sys) (n : Nat) : (s.raise n).mtuRuns = s.mtuRuns := by
  unfold raise
  split <;> rfl

theorem mtuRuns_captureStamp (s : Sys) (n stamp : Nat) : (s.captureStamp n stamp).mtuRuns = s.mtuRuns := by
  have htime : ((s.wr (Key.Cap.LAST_TIME n) stamp).inc (Key.Cap.COUNT n)).mtuRuns = s.mtuRuns :=
    (mtuRuns_inc _ _ (capKey_notRuns n 5)).trans (mtuRuns_wr s _ _ (capKey_notRuns n 4))
  refine (mtuRuns_raise _ 52).trans (Eq.trans ?_ htime)
  split
  · rfl
  · exact mtuRuns_inc _ _ (capKey_notRuns n 9)

theorem mtuRuns_captureEdge (s : Sys) (n : Nat) (rising : Bool) : (s.captureEdge n rising).mtuRuns = s.mtuRuns := by
  unfold captureEdge
  split
  · exact when_keeps (π := mtuRuns) (s := s.setEdge n none) _ (mtuRuns_captureStamp _ n _)
  · split <;> rfl

theorem mtuRuns_capturePin (s : Sys) (src : Nat) (rising : Bool) : (s.capturePin src rising).mtuRuns = s.mtuRuns := by
  unfold capturePin
  split
  · exact each_keeps (fun u n => when_keeps _ (mtuRuns_captureEdge u n rising)) _ s
  · rfl

/-! ### Encoders and start-of-scan -/

/-- A falling edge of Z is an event of the capture units alone (R250, R367). -/
theorem encZ_falling (s : Sys) (e : Nat) : s.encZ e false = s.capturePin (0x48 + e) false := rfl

/-- A rising edge of Z latches the count and its time; with Z_RESET the count is 0 from it on (R163, R250). -/
theorem encZ_rising {s : Sys} (e : Nat) (hr : s.runs 12 = true) : s.encZ e true =
    (let w := ((s.wrI (Key.Enc.Z_COUNT e) (s.rdI (Key.Enc.COUNT e))).wr (Key.Enc.Z_TIME e) s.now).capturePin (0x48 + e) true
      let v := (w.slotZ e (s.rdI (Key.Enc.COUNT e))).when (w.rdB (Key.Enc.Z_RESET e)) (fun u => u.encSet e 0)
      v.modEnc e (fun q => { q with z := some (v.rdI (Key.Enc.COUNT e)) })) := by
  have h : ¬((!true) = true ∨ (!s.runs 12) = true) := by simp [hr]
  exact if_neg h

theorem sosEdge_still {s : Sys} (i : Nat) (rising : Bool) (h : s.mtuRuns = false) : s.sosEdge i rising = s.capturePin i rising := by
  refine if_pos ?_
  rw [mtuRuns_capturePin, h]
  rfl

/-- With the mark timing units running, those that have selected this edge take it (R254, R258). -/
theorem sosEdge_runs {s : Sys} (i : Nat) (rising : Bool) (h : s.mtuRuns = true) : s.sosEdge i rising =
    (s.capturePin i rising).each (List.range 4) (fun u m =>
      u.when (decide (u.rd (Key.Mtu.SOS m) = i ∧ u.rdB (Key.Mtu.SOS_EDGE m) = !rising)) (fun u => u.mtuSos m)) := by
  refine if_neg ?_
  rw [mtuRuns_capturePin, h]
  decide

/-! ### Columns and the feed -/

/-- The next column of a head goes out as DATA where its link, its DEPTH and the line buffer allow it; a parity error of the line buffer suppresses the
column and is a fault (R270, R283). -/
theorem dataSend_sends {s : Sys} {h : Nat} (ok : Bool) {sl : Slice} (hen : s.rdB (Key.Head.ENABLE h) = true)
    (hst : s.grpState (s.rd (Key.Head.GROUP h)) = 3) (hsup : (s.group (s.rd (Key.Head.GROUP h))).suppress = none)
    (hup : s.linkUp (s.rd (Key.Head.LINK h)) = true) (hdep : (s.head h).evs.length < s.rd (Key.Link.DEPTH (s.rd (Key.Head.LINK h))))
    (hsl : s.sliceOf (s.rd (Key.Head.GROUP h)) (s.head h).next = some sl) : s.dataSend h ok =
    (let k := (s.head h).next
      let body := s.dataPayload (s.rd (Key.Head.GROUP h)) sl h k
      if ok then (s.sendLink (s.rd (Key.Head.LINK h)) 1 (s.rd (Key.Head.PORT h)) (k % 65536) body).modHead h
        (fun q => { q with next := k + 1, evs := q.evs ++ [{ col := k, sentAt := s.clk, body := body }] })
      else (s.modHead h (fun q => { q with next := k + 1, evs := q.evs ++ [{ col := k, sentAt := s.clk, dead := true, kind := 8 }] })).faultNow 0x32 4 h) := by
  simp [dataSend, hen, hst, hsup, hup, Nat.not_le.mpr hdep, hsl]

/-- An event whose RETRIES are spent is given up (R270). -/
theorem ackExpired_spent {s : Sys} {h : Nat} {e : Ev}
    (he : (s.head h).evs.find? (fun e => !e.acked && !e.dead && decide (e.sentAt + s.rd (Key.Link.ACK_TIMEOUT (s.rd (Key.Head.LINK h))) ≤ s.clk)) = some e)
    (ht : s.rd (Key.Link.RETRIES (s.rd (Key.Head.LINK h))) ≤ e.tries) :
    s.ackExpired h = s.modHead h (fun q => { q with evs := q.evs.map (fun x => if x.col = e.col then { x with dead := true } else x) }) := by
  simp only [ackExpired, he]
  exact if_pos (.inl ht)

/-- FEED_SETTLE after its feed the group waits for its next swath, or is IDLE where a PAUSE waits (R264). -/
theorem feedSettled_due {s : Sys} {g t : Nat} (ha : (s.group g).settleAt = some t) (h4 : s.grpState g = 4)
    (ht : t + s.rd (Key.GrpMask.FEED_SETTLE g) * 1000 ≤ s.clk) :
    s.feedSettled g = (s.setGrpState g (if (s.group g).pause then 1 else 2)).modGroup g (fun q => { q with settleAt := none, pause := false }) := by
  simp only [feedSettled, ha]
  exact if_pos ⟨h4, ht⟩

end Sys

/-! ### The commands -/

/-- Settles O20, clause by clause: each command is the effect of its event on the powered block. -/
theorem printEventsAct : Obligations.PrintEventsAct := by
  unfold Obligations.PrintEventsAct
  refine ⟨?fixInstant, ?sliceFetch, ?dataSend, ?ack, ?ackTimeout, ?encoderEdge, ?zFalls, ?zRises, ?encoderLoss, ?sosStill, ?sosRuns, ?fireStrobe,
    ?swathEnd, ?feedSettle⟩
  case fixInstant => exact fun _ g _ hp hr _ _ => onBlock_next (f := fun u => u.fixInstant g) hp hr rfl
  case sliceFetch => exact fun _ g ok _ hp hr _ _ _ _ _ _ => onBlock_next (f := fun u => u.sliceFetch g ok) hp hr rfl
  case dataSend =>
    exact fun _ h ok _ hp hr hen hst hsup hup hdep hsl => onBlock_next (f := fun u => u.dataSend h ok) hp hr
      (Sys.dataSend_sends ok hen hst hsup hup hdep hsl)
  case ack => exact fun _ l body hp hr => onBlock_next (f := fun u => u.acked l body) hp hr rfl
  case ackTimeout => exact fun _ h _ hp hr he ht => onBlock_next (f := fun u => u.ackExpired h) hp hr (Sys.ackExpired_spent he ht)
  case encoderEdge => exact fun _ e a b hp _ _ => onSys_next (f := fun u => u.encEdge e a b) hp rfl
  case zFalls => exact fun s e hp => onSys_next (f := fun u => u.encZ e false) hp (s.toSys.encZ_falling e)
  case zRises => exact fun _ e hp hr => onSys_next (f := fun u => u.encZ e true) hp (Sys.encZ_rising e hr)
  case encoderLoss => exact fun _ e leg broken hp hr => onBlock_next (f := fun u => u.encLeg e leg broken) hp hr rfl
  case sosStill => exact fun _ x rising hp h => onSys_next (f := fun u => u.sosEdge x rising) hp (Sys.sosEdge_still x rising h)
  case sosRuns => exact fun _ x rising hp h => onSys_next (f := fun u => u.sosEdge x rising) hp (Sys.sosEdge_runs x rising h)
  case fireStrobe => exact fun _ f _ _ hp hr _ _ _ _ => onBlock_next (f := fun u => u.fireStrobe f) hp hr rfl
  case swathEnd => exact fun _ g hp hr _ _ => onBlock_next (f := fun u => u.swathEnd g) hp hr rfl
  case feedSettle => exact fun _ g _ hp hr ha h4 ht => onBlock_next (f := fun u => u.feedSettled g) hp hr (Sys.feedSettled_due ha h4 ht)

end Sys2Proof.Machine
end

section
/-! PROOFS. What an edge of A or B does to the count of its encoder (R249), and what the frames and timers of the head links (R268, R269, R273), the
head temperatures (R277) and the gate inputs (R278) do under the conditions in which they act. -/

namespace Sys2Proof.Machine

open Sys2Proof

namespace Sys

/-! ### Encoders -/

/-- An edge of exactly one input is no edge of both at once. -/
theorem decide_and_of_bne {p q : Prop} [Decidable p] [Decidable q] (h : (decide p != decide q) = true) : decide (p ∧ q) = false := by
  refine decide_eq_false fun ⟨hp, hq⟩ => ?_
  simp [hp, hq] at h

/-- An edge of the same input as the last, or 10 ns or more after it, is not near to it (R249). -/
theorem edge_notNear {last : Option Nat} {clk : Nat} {x y : Bool} (h : ∀ t, last = some t → clk < t + 10 → y = x) :
    (last.any (fun t => decide (clk < t + 10)) && decide (x ≠ y)) = false := by
  cases last with
  | none => rfl
  | some t =>
    by_cases ht : clk < t + 10
    · simp [h t rfl ht]
    · simp [ht]

/-- An encoder that no mark timing unit follows has no users among them (R251). -/
theorem encUsers_nil {s : Sys} {e : Nat} (h : ∀ m : Fin 4, s.rd (Key.Mtu.ENCODER m) ≠ e) :
    (List.range 4).filter (fun m => s.mtuRuns && decide (s.rd (Key.Mtu.ENCODER m) = e)) = [] := by
  refine List.filter_eq_nil_iff.mpr fun m hm => ?_
  simp [h ⟨m, List.mem_range.mp hm⟩]

/-- The encoder as an edge that counts leaves it: its levels, the time and the input of the edge, and the count before it. -/
def edgeTaken (s : Sys) (e : Nat) (a b : Bool) : Sys :=
  s.modEnc e (fun q => { q with a := a, b := b, edgeAt := some s.clk, edgeA := decide (a ≠ q.a), before := s.rdI (Key.Enc.COUNT e) })

/-- The sense of an edge (R249): a leading B counts up, and INVERT reverses it (DESIGN CHOICE, log entry 10). -/
def edgeSense (s : Sys) (e : Nat) (a b : Bool) : Int :=
  if (if a ≠ (s.enc e).a then decide (a ≠ b) else decide (a = b)) != s.rdB (Key.Enc.INVERT e) then 1 else -1

theorem edgeSense_eq (s : Sys) (e : Nat) (a b : Bool) : s.edgeSense e a b =
    if (if a ≠ (s.enc e).a then decide (a ≠ b) else decide (a = b)) = s.rdB (Key.Enc.INVERT e) then -1 else 1 := by
  unfold edgeSense
  simp only [bne_iff_ne, ne_eq, ite_not]

/-- An edge of one input, not near to one of the other, adds its sense to the count, and the mark timing units that follow the encoder see the count
(R249, R252). -/
theorem encEdge_counts {s : Sys} {e : Nat} {a b : Bool} (hr : s.runs 12 = true)
    (hone : (decide (a ≠ (s.enc e).a) != decide (b ≠ (s.enc e).b)) = true)
    (hfar : ∀ t, (s.enc e).edgeAt = some t → s.clk < t + 10 → (s.enc e).edgeA = decide (a ≠ (s.enc e).a)) :
    s.encEdge e a b = ((s.edgeTaken e a b).wrI (Key.Enc.COUNT e) (wrap32 (s.rdI (Key.Enc.COUNT e) + s.edgeSense e a b))).each
      ((List.range 4).filter (fun m => s.mtuRuns && decide (s.rd (Key.Mtu.ENCODER m) = e))) mtuEdge := by
  have hmoves : ¬((a = (s.enc e).a ∧ b = (s.enc e).b) ∨ (!s.runs 12) = true) := by
    rintro (⟨ha, hb⟩ | hstill)
    · simp [ha, hb] at hone
    · simp [hr] at hstill
  have hboth := decide_and_of_bne hone
  have hnear := edge_notNear hfar
  unfold encEdge
  simp only [if_neg hmoves, hboth, hnear, Bool.or_self, Bool.false_eq_true, if_false, decide_eq_true_eq]
  rfl

/-- With no mark timing unit that follows the encoder, nothing but the count and what is kept of the edge changes (R249). -/
theorem encEdge_counts_alone {s : Sys} {e : Nat} {a b : Bool} (hr : s.runs 12 = true) (hm : ∀ m : Fin 4, s.rd (Key.Mtu.ENCODER m) ≠ e)
    (hone : (decide (a ≠ (s.enc e).a) != decide (b ≠ (s.enc e).b)) = true)
    (hfar : ∀ t, (s.enc e).edgeAt = some t → s.clk < t + 10 → (s.enc e).edgeA = decide (a ≠ (s.enc e).a)) :
    s.encEdge e a b = (s.edgeTaken e a b).wrI (Key.Enc.COUNT e) (wrap32 (s.rdI (Key.Enc.COUNT e) + s.edgeSense e a b)) := by
  rw [encEdge_counts hr hone hfar, encUsers_nil hm]
  rfl

/-! ### Frames of a link that is UP -/

section LinkUp

variable {s : Sys} {l : Nat} (hup : s.linkUp l = true)
include hup

theorem not_linkDown : ¬(!s.linkUp l) = true := by simp [hup]

/-- A STATUS frame gives each enabled head of the link its part (R269, R272). -/
theorem linkStatus_up (body : List Nat) : s.linkStatus l body =
    ((s.inc64 (Key.LinkSt.FRAMES_RX l)).each ((s.inc64 (Key.LinkSt.FRAMES_RX l)).linkHeads l)
      (fun u h => u.headStatus h (16 * u.rd (Key.Head.PORT h)) body)).showGates := if_neg (not_linkDown hup)

/-- 40 us without a heartbeat take the link down, and its lane trains again (R268). -/
theorem linkSilent_late (ht : (s.hlink l).heardAt + 40000 ≤ s.clk) : s.linkSilent l = (s.linkFall l 1).laneStage (s.rd (Key.Link.LANE l)) 1 := by
  refine if_pos ?_
  rw [hup, decide_eq_true ht]
  rfl

end LinkUp

/-! ### Heartbeats -/

/-- What a Heartbeat of the board leaves before the link rises: its DEPTH, its ports and the time at which it came (R268). -/
def beatTaken (s : Sys) (l depth ports : Nat) : Sys :=
  ((s.wr (Key.Link.DEPTH l) depth).wr (Key.Link.PORTS l) (ports % 16)).modLink l (fun q => { q with heardAt := s.clk })

theorem rd_modLink (s : Sys) (l : Nat) (f : LinkRun8 → LinkRun8) (k : Nat) : (s.modLink l f).rd k = s.rd k := rfl

theorem state_beatTaken (s : Sys) (l depth ports : Nat) : (s.beatTaken l depth ports).rd (Key.Link.STATE l) = s.rd (Key.Link.STATE l) := by
  have hdepth : Key.Link.STATE l ≠ Key.Link.DEPTH l := Nat.ne_of_lt (Nat.add_lt_add_left (by decide) _)
  have hports : Key.Link.STATE l ≠ Key.Link.PORTS l := Nat.ne_of_lt (Nat.add_lt_add_left (by decide) _)
  rw [beatTaken, rd_modLink, rd_wr, if_neg hports, rd_wr, if_neg hdepth]

/-- Noting the time of a heartbeat leaves whether the link waits for one. -/
theorem trained_modLink (s : Sys) (l : Nat) (f : LinkRun8 → LinkRun8) (h : (f (s.hlink l)).trained = (s.hlink l).trained) :
    ((s.modLink l f).hlink l).trained = (s.hlink l).trained := by
  by_cases hl : l < 8
  · simpa [hlink, modLink, Vector.getD, hl] using h
  · simp [hlink, modLink, Vector.getD, hl]

theorem trained_beatTaken (s : Sys) (l depth ports : Nat) : ((s.beatTaken l depth ports).hlink l).trained = (s.hlink l).trained :=
  trained_modLink _ l _ rfl

/-- A link in training or UP takes a Heartbeat, and one with symbol lock that waits for its first enters UP (R268). -/
theorem linkBeat_taken {s : Sys} {l : Nat} (depth ports : Nat) (h : 2 ≤ s.rd (Key.Link.STATE l)) : s.linkBeat l depth ports =
    if s.rd (Key.Link.STATE l) = 2 ∧ (s.hlink l).trained then (s.beatTaken l depth ports).linkRise l else s.beatTaken l depth ports := by
  rw [← s.state_beatTaken l depth ports, ← s.trained_beatTaken l depth ports]
  exact if_neg (Nat.not_lt.mpr h)

theorem linkBeat_up {s : Sys} {l : Nat} (depth ports : Nat) (h : 3 ≤ s.rd (Key.Link.STATE l)) : s.linkBeat l depth ports = s.beatTaken l depth ports :=
  (linkBeat_taken depth ports (by omega)).trans (if_neg fun hw => by omega)

theorem linkBeat_first {s : Sys} {l : Nat} (depth ports : Nat) (h : s.rd (Key.Link.STATE l) = 2) (ht : (s.hlink l).trained = true) :
    s.linkBeat l depth ports = (s.beatTaken l depth ports).linkRise l := (linkBeat_taken depth ports (by omega)).trans (if_pos ⟨h, ht⟩)

/-- PEN sends its Heartbeat on a link that is UP or has symbol lock (R268). -/
theorem linkBeatSend_sends {s : Sys} {l : Nat} (h : s.linkUp l = true ∨ (s.hlink l).trained = true) :
    s.linkBeatSend l = s.emit (.link l 0x101 [1, 0, 0]) := if_pos ((Bool.or_eq_true _ _).mpr h)

/-! ### Control requests, temperatures and gate inputs -/

/-- A control request unanswered for 10 ms shows 0xFFFF (R269). -/
theorem ctrlExpired_late {s : Sys} {l t : Nat} (ha : (s.hlink l).ctrlAt = some t) (ht : t + 10000000 ≤ s.clk) :
    s.ctrlExpired l = (s.wr (Key.LinkSt.CTRL_STATUS l) 0xFFFF).modLink l (fun q => { q with ctrlAt := none }) := by
  simp only [ctrlExpired, ha]
  exact if_pos ht

theorem domainOn_of_runs {s : Sys} {d : Nat} (h : s.runs d = true) : s.domainOn d = true := ((Bool.and_eq_true _ _).mp h).1

/-- A head without a source of temperature has no temperature and no state of one (R277). -/
theorem headTemp_noSource {s : Sys} {h : Nat} (code : Nat) (hr : s.runs 12 = true) (hs : s.rd (Key.HeadTemp.TEMP_SRC h) = 0xFF) : s.headTemp h code =
    (((s.wrI (Key.HeadTemp.TEMP h) 0).wr (Key.HeadTemp.TSTATE h) 0).modHead h (fun q => { q with sensorLost := false })).showGates := by
  have hon : ¬(!s.domainOn 12) = true := by simp [domainOn_of_runs hr]
  calc s.headTemp h code = s.headTempSource h := (if_neg hon).trans (if_pos hs)
    _ = _ := if_pos hs

end Sys

/-- Settles O39: with no user the edge's whole effect is the count and the record of the edge. -/
theorem encoderEdgeCountsOne : Obligations.EncoderEdgeCountsOne := by
  unfold Obligations.EncoderEdgeCountsOne
  intro s e a b hp hr hm hone hfar
  refine onSys_next (f := fun u => u.encEdge e a b) hp ((Sys.encEdge_counts_alone hr hm hone hfar).trans ?_)
  simp only [Sys.edgeSense_eq]
  rfl

/-- A change of a gate input acts on the powered block; without power only its level is held (R278, R453). -/
theorem exec_gateInputChange (n : Fin 12) (level : Bool) (s : State) : exec (.gateInputChange n level) s =
    onUnit (fun u => if u.powered then u.gateInput n level else { u with pads := { u.pads with gate := putBit u.pads.gate n level } }) s := rfl

/-- Settles O21, clause by clause: each command is the effect of its event on the powered block. -/
theorem headLinkEventsAct : Obligations.HeadLinkEventsAct := by
  unfold Obligations.HeadLinkEventsAct
  refine ⟨?status, ?nozzle, ?wack, ?ctrlRsp, ?beatUp, ?beatFirst, ?beatTimeout, ?beatSend, ?malformed, ?ctrlTimeout, ?temp, ?tempNoSource,
    ?gatePowered, ?gateUnpowered⟩
  case status => exact fun _ l body hp hr hup => onBlock_next (f := fun u => u.linkStatus l body) hp hr (Sys.linkStatus_up hup body)
  case nozzle => exact fun _ l body hp hr _ => onBlock_next (f := fun u => u.linkNozzle l body) hp hr rfl
  case wack => exact fun _ l body hp hr _ => onBlock_next (f := fun u => u.linkWack l body) hp hr rfl
  case ctrlRsp => exact fun _ l body hp hr _ => onBlock_next (f := fun u => u.ctrlDone l body) hp hr rfl
  case beatUp =>
    exact fun _ l depth ports hp hr h => onBlock_next (f := fun u => u.linkBeat l depth ports) hp hr (Sys.linkBeat_up depth ports h)
  case beatFirst =>
    exact fun _ l depth ports hp hr h ht => onBlock_next (f := fun u => u.linkBeat l depth ports) hp hr (Sys.linkBeat_first depth ports h ht)
  case beatTimeout => exact fun _ l hp hr hup ht => onBlock_next (f := fun u => u.linkSilent l) hp hr (Sys.linkSilent_late hup ht)
  case beatSend => exact fun _ l hp hr h => onBlock_next (f := fun u => u.linkBeatSend l) hp hr (Sys.linkBeatSend_sends h)
  case malformed => exact fun _ l kind hp hr _ => onBlock_next (f := fun u => u.linkBad l kind) hp hr rfl
  case ctrlTimeout => exact fun _ l _ hp hr ha ht => onBlock_next (f := fun u => u.ctrlExpired l) hp hr (Sys.ctrlExpired_late ha ht)
  case temp => exact fun _ h code hp hr _ => onBlock_next (f := fun u => u.headTemp h code) hp hr rfl
  case tempNoSource => exact fun _ h code hp hr hs => onBlock_next (f := fun u => u.headTemp h code) hp hr (Sys.headTemp_noSource code hr hs)
  case gatePowered => exact fun s n level hp => (exec_gateInputChange n level s).trans (onUnit_next (if_pos hp))
  case gateUnpowered => exact fun s n level hp => (exec_gateInputChange n level s).trans (onUnit_next (if_neg (Bool.eq_false_iff.mp hp)))

end Sys2Proof.Machine
end

section
/-! PROOFS. What an axis does at a trigger edge that it has not seen (R286), in a PWM period (R299, R300), at the ends of INPOS_TIMEOUT (R291) and
HOLD_DELAY (R299), and where its bus voltage leaves its range (R301) or returns (R311). -/

namespace Sys2Proof.Machine

open Sys2Proof

namespace Sys

/-- An axis that is OFF has its outputs low and no clamp for the period, whatever the device state (R300). -/
theorem axPwm_off {s : Sys} {a : Nat} {codes : List Nat} (h : (s.busCodes (s.rd (Key.AxPwm.BUS a)) codes).axState a = 0) :
    s.axPwm a codes = ((s.busCodes (s.rd (Key.AxPwm.BUS a)) codes).wrBit (Key.Axis.FLAGS a) 4 false).modAxis a
      (fun x => { x with high := [0, 0, 0, 0] }) := if_pos (.inl h)

/-- A move that is not complete INPOS_TIMEOUT after it landed ends without DONE, and the fault is raised (R291). -/
theorem axInposExpired_late {s : Sys} {a t : Nat} (hl : (s.axis a).landedAt = some t) (h2 : s.axState a = 2)
    (h0 : s.rd (Key.AxMove.INPOS_TIMEOUT a) ≠ 0) (ht : t + s.rd (Key.AxMove.INPOS_TIMEOUT a) * 1000000 ≤ s.clk) :
    s.axInposExpired a = ((s.setAxCause a 8).axLanded a false).faultNow 0x43 5 a := by
  simp only [axInposExpired, hl]
  exact if_pos ⟨h2, h0, ht⟩

/-- A stepper that has stood still for HOLD_DELAY holds (R299). -/
theorem axHold_atRest {s : Sys} {a : Nat} (hd : s.rd (Key.Axis.DRIVE a) = 0) (hv : (s.axis a).visV = 0)
    (ht : (s.axis a).restAt + s.rd (Key.AxPwm.HOLD_DELAY a) * 1000000 ≤ s.clk) :
    s.axHold a = s.modAxis a (fun x => { x with holding := true }) := if_pos ⟨hd, hv, ht⟩

section Bus

variable {s : Sys} {b : Nat} {codes : List Nat}

/-- A bus below its VBUS_MIN is VBUS_LOW (R301). -/
theorem busFault_low (h : (s.busCodes b codes).rd (Key.Bus.VBUS b) < (s.busCodes b codes).rd (Key.Bus.VBUS_MIN b)) :
    s.busFault b codes = (s.busCodes b codes).faultNow 0x44 11 b := if_pos h

/-- A bus above its VBUS_MAX, and not below its VBUS_MIN, is VBUS_HIGH (R301). -/
theorem busFault_high (hmin : (s.busCodes b codes).rd (Key.Bus.VBUS_MIN b) ≤ (s.busCodes b codes).rd (Key.Bus.VBUS b))
    (hmax : (s.busCodes b codes).rd (Key.Bus.VBUS_MAX b) < (s.busCodes b codes).rd (Key.Bus.VBUS b)) :
    s.busFault b codes = (s.busCodes b codes).faultNow 0x45 11 b := (if_neg (Nat.not_lt.mpr hmin)).trans (if_pos hmax)

end Bus

end Sys

/-- Settles O22, clause by clause: each command is the effect of its event on the running block of the axes, in the case that its conditions choose. -/
theorem axisEventsAct : Obligations.AxisEventsAct := by
  unfold Obligations.AxisEventsAct
  refine ⟨?axisUpdate, ?pwmOff, ?pwmOn, ?inposTimeout, ?holdDelay, ?vbusLow, ?vbusHigh, ?vbusReturn⟩
  case axisUpdate => exact fun _ a ok hp _ hr => onBlock_next (f := fun u => u.axUpdate a ok) hp hr rfl
  case pwmOff => exact fun _ a codes hp hr h0 => onBlock_next (f := fun u => u.axPwm a codes) hp hr (Sys.axPwm_off h0)
  case pwmOn => exact fun _ a codes hp hr _ => onBlock_next (f := fun u => u.axPwm a codes) hp hr rfl
  case inposTimeout =>
    exact fun _ a _ hp hr hl h2 h0 ht => onBlock_next (f := fun u => u.axInposExpired a) hp hr (Sys.axInposExpired_late hl h2 h0 ht)
  case holdDelay => exact fun _ a hp hr hd hv ht => onBlock_next (f := fun u => u.axHold a) hp hr (Sys.axHold_atRest hd hv ht)
  case vbusLow => exact fun _ b codes hp hr h => onBlock_next (f := fun u => u.busFault b codes) hp hr (Sys.busFault_low h)
  case vbusHigh =>
    exact fun _ b codes hp hr hmin hmax => onBlock_next (f := fun u => u.busFault b codes) hp hr (Sys.busFault_high hmin hmax)
  case vbusReturn => exact fun _ b codes hp hr => onBlock_next (f := fun u => u.busReturn b codes) hp hr rfl

end Sys2Proof.Machine
end

section
/-! PROOFS. What the camera ports and contexts do under the conditions in which they act: a packet with a bad start (R316), the end of FRAME_TIMEOUT
(R318), skew calibrations and ULPS (R313), and the packets, grants and records whose whole effect is named (R318 to R322, R332). -/

namespace Sys2Proof.Machine

open Sys2Proof

namespace Sys

/-- A packet with a bad start of transmission is counted as that and nothing else of it is looked at, and it is an event of R316. -/
theorem csiPacket_badStart {s : Sys} {p : Nat} (hon : s.csiOn p = true) (vc dt ecc : Nat) (crcOk : Bool) :
    s.csiPacket p vc dt ecc false crcOk = (s.inc (Key.Csi.SOT_ERRORS p)).csiError p :=
  (if_neg (by simp [hon])).trans (if_pos rfl)

/-- A frame that is still open FRAME_TIMEOUT after it opened closes with flag 4, and its context is IDLE again (R318). -/
theorem frameTimeout_late {s : Sys} {k : Nat} {f : CamFrame} (hf : s.openFrame k = some f) (h0 : s.rd (Key.Ctx.FRAME_TIMEOUT k) ≠ 0)
    (ht : f.openAt + 1000 * s.rd (Key.Ctx.FRAME_TIMEOUT k) ≤ s.clk) :
    s.frameTimeout k = (s.closeFrame k [4]).wr (Key.CtxSt.STATE k) 1 := by
  simp only [frameTimeout, hf]
  exact if_pos ⟨h0, ht⟩

/-- An enabled port of a block that works answers what its lanes signal outside packets (R313). -/
theorem csiSignal_on {s t : Sys} {p : Nat} (hen : s.rdB (Key.Csi.ENABLE p) = true) (hr : s.runs 14 = true) :
    (if s.rdB (Key.Csi.ENABLE p) && s.runs 14 then t else s) = t := if_pos (Bool.and_eq_true_iff.mpr ⟨hen, hr⟩)

end Sys

/-- Settles O23, clause by clause: each command is the effect of its event on the powered block, in the case that its conditions choose. -/
theorem cameraEventsAct : Obligations.CameraEventsAct := by
  unfold Obligations.CameraEventsAct
  refine ⟨?frameStart, ?line, ?frameEnd, ?badStart, ?packet, ?frameTimeout, ?lineGrant, ?frameRecord, ?skew, ?ulps⟩
  case frameStart => exact fun _ p vc num ecc hp _ => onSys_next (f := fun u => u.frameStart p vc num ecc) hp rfl
  case line => exact fun _ p vc dt d crcOk ecc hp _ => onSys_next (f := fun u => u.csiLine p vc dt d crcOk ecc) hp rfl
  case frameEnd => exact fun _ p vc ecc hp _ => onSys_next (f := fun u => u.frameEnd p vc ecc) hp rfl
  case badStart =>
    exact fun _ p vc dt ecc crcOk hp hon =>
      onSys_next (f := fun u => u.csiPacket p vc dt ecc false crcOk) hp (Sys.csiPacket_badStart hon vc dt ecc crcOk)
  case packet => exact fun _ p vc dt ecc crcOk hp _ => onSys_next (f := fun u => u.csiPacket p vc dt ecc true crcOk) hp rfl
  case frameTimeout => exact fun _ k _ hp hf h0 ht => onSys_next (f := fun u => u.frameTimeout k) hp (Sys.frameTimeout_late hf h0 ht)
  case lineGrant => exact fun _ ok _ hp _ _ _ _ => onSys_next (f := fun u => u.lineGrant ok) hp rfl
  case frameRecord => exact fun _ k _ _ hp _ _ _ => onSys_next (f := fun u => u.frameRecord k) hp rfl
  case skew =>
    exact fun _ p hp hen hr => onSys_next (f := fun u => if u.rdB (Key.Csi.ENABLE p) && u.runs 14 then u.inc (Key.Csi.DESKEWS p) else u) hp
      (Sys.csiSignal_on hen hr)
  case ulps =>
    exact fun _ p enter hp hen hr => onSys_next (f := fun u =>
      if u.rdB (Key.Csi.ENABLE p) && u.runs 14 then u.wr (Key.Csi.STATE p) (if enter then 3 else 1) else u) hp (Sys.csiSignal_on hen hr)

end Sys2Proof.Machine
end

section
/-! PROOFS. What a lane does at the events of its bring-up and loss (R341, R342, R344, R354), and the timebase at the end of ADJ_TICKS (R359), an edge
at a ball (R367), a delay request (R370) and an edge of a trigger (R361). The one case with an idea is a loss of lock in ACTIVE: the code errors count
before the lane is judged, and that count bears on neither the user of the lane nor its limit. -/

namespace Sys2Proof.Machine

open Sys2Proof

namespace Sys

/-! ### Bring-up of a lane (R341, R344) -/

/-- A lane in DETECT that finds its far end terminated enters TRAIN with the taps of its rate (R340, R341). -/
theorem detectProbe_present {s : Sys} {l : Nat} (h : s.laneRefresh.rd (Key.Lane.STAGE l) = 1) :
    s.detectProbe l true = ((s.laneRefresh.laneStage l 2).eqApply l).userStage l := by
  simp only [detectProbe]
  exact if_pos ⟨h, trivial⟩

/-- A CAP that breaks the rule of R344 is counted, and the lane begins again to collect CAPs. -/
theorem capIn_mismatch {s : Sys} {l d1 d2 : Nat} (hst : s.rd (Key.Lane.STAGE l) = 3) (hg : s.capGood l d1 d2 = false) (d3 : Nat) (skewOk : Bool) :
    s.capIn l d1 d2 d3 skewOk =
      (s.inc (Key.LaneCnt.CAP_MISMATCHES l)).modLane l (fun q => { q with caps := 0, seen := false, sent := 0 }) :=
  (if_pos hst).trans (if_pos (by simp [hg]))

/-! ### The error counters of a lane, and who uses a lane

The counters `X2.xx` of the lanes are the entries whose index is 2 modulo 8 (R356). No entry that says who uses a lane, and at what rate, is one. -/

theorem codeErrors_index (l : Nat) : Key.LaneCnt.CODE_ERRORS l / 256 % 8 = 2 := by
  unfold Key.LaneCnt.CODE_ERRORS
  omega

theorem lockLosses_index (l : Nat) : Key.LaneCnt.LOCK_LOSSES l / 256 % 8 = 2 := by
  unfold Key.LaneCnt.LOCK_LOSSES
  omega

section Counted

variable {s : Sys} {c : Nat}

/-- What a counter of a lane adds shows in no entry of another index. -/
theorem rd_counted (hc : c / 256 % 8 = 2) (bits n : Nat) {x sub : Nat} (hx : x % 8 ≠ 2) (hsub : sub < 256) :
    (s.add c bits n).rd (x * 256 + sub) = s.rd (x * 256 + sub) :=
  (rd_add s c _ bits n).trans (if_neg (by omega))

theorem laneUser_counted (hc : c / 256 % 8 = 2) (bits n l : Nat) : (s.add c bits n).laneUser l = s.laneUser l := by
  have keep : ∀ {x sub}, x % 8 ≠ 2 → sub < 256 → (s.add c bits n).rd (x * 256 + sub) = s.rd (x * 256 + sub) := rd_counted hc bits n
  have lanes : ∀ p, p % 8 ≠ 2 → (s.add c bits n).portLanes p = s.portLanes p := by
    intro p hp
    have first : (s.add c bits n).rd (Key.Port.LANE_FIRST p) = s.rd (Key.Port.LANE_FIRST p) := keep (by omega) (by omega)
    have count : (s.add c bits n).rd (Key.Port.LANE_COUNT p) = s.rd (Key.Port.LANE_COUNT p) := keep (by omega) (by omega)
    rw [portLanes, portLanes, first, count]
  have chain : [0, 1].find? (fun p => decide (l ∈ (s.add c bits n).portLanes p)) = [0, 1].find? (fun p => decide (l ∈ s.portLanes p)) := by
    simp only [List.find?_cons, List.find?_nil]
    rw [lanes 0 (by decide), lanes 1 (by decide)]
  have stage : (s.add c bits n).rd (Key.Lane.STAGE l) = s.rd (Key.Lane.STAGE l) := keep (by omega) (by omega)
  have mac : ∀ m, (s.add c bits n).rd (Key.Mac.ENABLE m) = s.rd (Key.Mac.ENABLE m) ∧ (s.add c bits n).rd (Key.Mac.LANE m) = s.rd (Key.Mac.LANE m) :=
    fun m => ⟨keep (by omega) (by omega), keep (by omega) (by omega)⟩
  have head : ∀ k, (s.add c bits n).rd (Key.Link.ENABLE k) = s.rd (Key.Link.ENABLE k) ∧ (s.add c bits n).rd (Key.Link.LANE k) = s.rd (Key.Link.LANE k) :=
    fun k => ⟨keep (by omega) (by omega), keep (by omega) (by omega)⟩
  simp only [laneUser, rdB, stage, chain, mac, head]

theorem laneRate_counted (hc : c / 256 % 8 = 2) (bits n l : Nat) : (s.add c bits n).laneRate l = s.laneRate l := by
  have speed : ∀ m, (s.add c bits n).rd (Key.Mac.SPEED m) = s.rd (Key.Mac.SPEED m) := fun m => rd_counted hc bits n (by omega) (by omega)
  have rate : ∀ k, (s.add c bits n).rd (Key.Link.RATE k) = s.rd (Key.Link.RATE k) := fun k => rd_counted hc bits n (by omega) (by omega)
  have test : (s.add c bits n).rd (Key.LaneTest.TEST_RATE l) = s.rd (Key.LaneTest.TEST_RATE l) := rd_counted hc bits n (by omega) (by omega)
  simp only [laneRate, laneUser_counted hc, speed, rate, test]
  rfl

/-- A count takes nothing from the limit of errors at which a lane loses its lock. -/
theorem lockGone_counted (hc : c / 256 % 8 = 2) (bits n l : Nat) (errs : List Nat) : (s.add c bits n).lockGone l errs = s.lockGone l errs := by
  simp only [lockGone, laneUser_counted hc, laneRate_counted hc]

end Counted

/-! ### Loss of lock (R342) -/

section LockLost

variable {s : Sys} {l : Nat} {errs : List Nat}

/-- A lane in CAPABILITY has nothing under way that could be cut off, and loses its lock. -/
theorem lockLost_capability (hst : s.rd (Key.Lane.STAGE l) = 3) (hg : s.lockGone l errs = true) :
    s.lockLost l errs none = (s.inc (Key.LaneCnt.LOCK_LOSSES l)).laneLost l := by
  simp [lockLost, hst, when, hg]

/-- Errors of a lane in ACTIVE within its limit count, and nothing else comes of them. -/
theorem lockLost_kept (hst : s.rd (Key.Lane.STAGE l) = 4) (hg : s.lockGone l errs = false) (cut : Option Frame) :
    s.lockLost l errs cut = s.add (Key.LaneCnt.CODE_ERRORS l) 32 errs.length := by
  simp [lockLost, hst, when, lockGone_counted (codeErrors_index l), hg]

/-- A frame under way on a chain lane in ACTIVE that loses its lock ends badly (R80, R347). -/
theorem lockLost_cut {p : Nat} (hst : s.rd (Key.Lane.STAGE l) = 4) (hg : s.lockGone l errs = true) (hu : s.laneUser l = (1, p)) (f : Frame) :
    s.lockLost l errs (some f) = (((s.add (Key.LaneCnt.CODE_ERRORS l) 32 errs.length).inc (Key.LaneCnt.LOCK_LOSSES l)).receive p
      { f with broken := true } (fun u _ _ => u)).laneLost l := by
  have user : ((s.add (Key.LaneCnt.CODE_ERRORS l) 32 errs.length).inc (Key.LaneCnt.LOCK_LOSSES l)).laneUser l = (1, p) := by
    rw [inc, laneUser_counted (lockLosses_index l), laneUser_counted (codeErrors_index l), hu]
  simp [lockLost, hst, when, lockGone_counted (codeErrors_index l), hg, user]

end LockLost

/-! ### The checker of a lane in TEST (R354) -/

section Checker

variable {s : Sys} {l : Nat}

/-- A checker that finds its pattern locks and counts from zero. -/
theorem checkerLock_found {bits : List Bool} (hst : s.rd (Key.Lane.STAGE l) = 5) (hlock : s.rdB (Key.LaneTest.TEST_LOCK l) = false)
    (hb : s.testLocks l bits = true) : s.checkerLock l bits =
      (((s.wrB (Key.LaneTest.TEST_LOCK l) true).wr (Key.LaneTest.BITS l) 0).wr (Key.LaneTest.BIT_ERRORS l) 0).modLane l
        (fun q => { q with lockAt := s.clk }) := if_neg (by simp [hst, hlock, hb])

/-- A locked checker that sees the bits at the pins counts their errors, and those that lie too close together cost it the lock. -/
theorem checkerLoss_locked (hst : s.rd (Key.Lane.STAGE l) = 5) (hlock : s.rdB (Key.LaneTest.TEST_LOCK l) = true)
    (hloop : s.rd (Key.LaneTest.LOOPBACK l) ≠ 1) (errs : List Nat) : s.checkerLoss l errs =
      (let u := s.add (Key.LaneTest.BIT_ERRORS l) 64 errs.length
        if crowded 32 64 errs then (u.wr (Key.LaneTest.BITS l) (u.bitsSince l)).wrB (Key.LaneTest.TEST_LOCK l) false else u) :=
  if_neg (by simp [hst, hlock, hloop])

end Checker

/-! ### The timebase (R361, R367, R370) -/

/-- An edge at a ball reaches each capture unit that has selected it (R367). -/
theorem capturePin_runs {s : Sys} (hr : s.runs 6 = true) (src : Nat) (rising : Bool) : s.capturePin src rising =
    s.each (List.range 32) (fun u n => u.when (decide (u.rd (Key.Cap.SOURCE n) = src)) (fun u => u.captureEdge n rising)) := if_pos hr

/-- A unit with an address sends its neighbour on a port that is UP a request with the next number (R370). -/
theorem delaySend_sends {s : Sys} {p : Nat} (hup : s.portUp p = true) (hr : s.runs 6 = true) (hn : s.rd (Key.Port.NEIGHBOUR p) ≠ 0)
    (ha : s.address ≠ 0) : s.delaySend p = (s.modPort p (fun r => { r with reqSeq := ((s.port p).reqSeq + 1) % 65536 })).originateAt p
      (s.rd (Key.Port.NEIGHBOUR p)) 7 false 0 (le 2 (s.port p).reqSeq ++ [p, 0, 0, 0, 0, 0]) := if_neg (by simp [hup, hr, hn, ha])

/-- A request that has waited 10 us for its answer has failed (R370). -/
theorem delayExpired_late {s : Sys} {p : Nat} {a : Nat × Int} (ha : (s.port p).asked = some a) (ht : (s.port p).askedAt + 10000 ≤ s.clk) :
    s.delayExpired p = (s.modPort p (fun r => { r with asked := none })).inc Key.Delay.DELAY_FAILS := by
  simp only [delayExpired, ha]
  exact if_pos ht

/-- An edge of a trigger acts at its instant, on the DMA channels that wait for it and on the wake logic too (R361). -/
theorem edgeFalls_at {s : Sys} {n t : Nat} (hr : s.runs 6 = true) (he : s.edgeInstant n = some t) :
    s.edgeFalls n = ((s.edgeAt n t).dmaEdge n).when (decide (s.rd Key.Wake.WAKE_TRIGGER = n)) (fun u => u.wakeEdge 9) := by
  simp [edgeFalls, hr, he]

end Sys

/-- Settles O24, clause by clause: each command is the effect of its event on the powered block, in the case that its conditions choose. -/
theorem laneAndTimeEventsAct : Obligations.LaneAndTimeEventsAct := by
  unfold Obligations.LaneAndTimeEventsAct
  refine ⟨?probe, ?lock, ?trainTimeout, ?capMismatch, ?capGood, ?capTimeout, ?lossCapability, ?errorsKept, ?lossCut, ?singleLane, ?lanePll,
    ?checkerLock, ?checkerLoss, ?checkerErrors, ?adjTicks, ?capture, ?delaySend, ?delayTimeout, ?sync, ?trigger⟩
  case probe => exact fun _ l hp h => onSys_next (f := fun u => u.detectProbe l true) hp (Sys.detectProbe_present h)
  case lock =>
    exact fun _ l marks hp hst hm => onSys_next (f := fun u =>
      if u.rd (Key.Lane.STAGE l) = 2 && u.lockFound l marks then
        if (u.laneUser l).1 = 2 then u.laneStage l 4 else ((u.laneStage l 3).userStage l).sendCap l
      else u) hp (if_pos (by simp [hst, hm]))
  case trainTimeout =>
    exact fun _ l hp hst hu ht => onSys_next (f := fun u =>
      if u.rd (Key.Lane.STAGE l) = 2 ∧ (u.laneUser l).1 ≠ 2 ∧ (u.lane l).since + 20000000 ≤ u.clk then u.trainFail l else u) hp
      (if_pos ⟨hst, hu, ht⟩)
  case capMismatch =>
    exact fun _ l d1 d2 d3 skewOk hp hst hg => onSys_next (f := fun u => u.capIn l d1 d2 d3 skewOk) hp (Sys.capIn_mismatch hst hg d3 skewOk)
  case capGood => exact fun _ l d1 d2 d3 skewOk hp _ _ => onSys_next (f := fun u => u.capIn l d1 d2 d3 skewOk) hp rfl
  case capTimeout =>
    exact fun _ l hp hst ht => onSys_next (f := fun u =>
      if u.rd (Key.Lane.STAGE l) = 3 ∧ (u.lane l).since + 4000000 ≤ u.clk then u.trainFail l else u) hp (if_pos ⟨hst, ht⟩)
  case lossCapability =>
    exact fun _ l errs hp hst hg => onSys_next (f := fun u => u.lockLost l errs none) hp (Sys.lockLost_capability hst hg)
  case errorsKept =>
    exact fun _ l errs cut hp hst hg => onSys_next (f := fun u => u.lockLost l errs cut) hp (Sys.lockLost_kept hst hg cut)
  case lossCut =>
    exact fun _ l errs f _ hp hst hg hu => onSys_next (f := fun u => u.lockLost l errs (some f)) hp (Sys.lockLost_cut hst hg hu f)
  case singleLane => exact fun _ p _ hp _ _ _ => onSys_next (f := fun u => u.singleLane p) hp rfl
  case lanePll => exact fun _ g fam hp => onSys_next (f := fun u => u.pllLost g fam) hp rfl
  case checkerLock =>
    exact fun _ l bits hp hst hlock hb => onSys_next (f := fun u => u.checkerLock l bits) hp (Sys.checkerLock_found hst hlock hb)
  case checkerLoss =>
    exact fun _ l errs hp hst hlock hloop hc => onSys_next (f := fun u => u.checkerLoss l errs) hp
      ((Sys.checkerLoss_locked hst hlock hloop errs).trans (if_pos hc))
  case checkerErrors =>
    exact fun _ l errs hp hst hlock hloop hc => onSys_next (f := fun u => u.checkerLoss l errs) hp
      ((Sys.checkerLoss_locked hst hlock hloop errs).trans (if_neg (Bool.eq_false_iff.mp hc)))
  case adjTicks => exact fun _ hp h => onSys_next (f := fun u => u.adjExpired) hp (if_pos h)
  case capture =>
    exact fun _ pin rising hp hr => onSys_next (f := fun u => u.capturePin (0x20 + pin) rising) hp (Sys.capturePin_runs hr _ rising)
  case delaySend => exact fun _ p hp hup hr hn ha => onSys_next (f := fun u => u.delaySend p) hp (Sys.delaySend_sends hup hr hn ha)
  case delayTimeout => exact fun _ p _ _ hp ha ht => onSys_next (f := fun u => u.delayExpired p) hp (Sys.delayExpired_late ha ht)
  case sync => exact fun _ hp _ _ => onSys_next (f := fun u => u.syncSend) hp rfl
  case trigger => exact fun _ n _ hp hr he => onSys_next (f := fun u => u.edgeFalls n) hp (Sys.edgeFalls_at hr he)

end Sys2Proof.Machine
end

section
/-! PROOFS. What holds of every command and every step: fuse bits stay burnt (R441), a block without power ignores all but AON, the reset pins and levels
on balls (R453, R459, R465), and no word spells a command. -/

namespace Sys2Proof.Machine

open Sys2Proof

/-- An answer keeps the canonical form of the fuses and every fuse bit that is set (R441). -/
theorem Answers.keepsFuses {s t : State} (h : Answers s (.next t)) (hwf : Kv.wf (fun _ => (0 : Word)) s.otp = true) :
    Kv.wf (fun _ => (0 : Word)) t.otp = true ∧ ∀ word bit : Nat, (s.otpWord word).testBit bit = true → (t.otpWord word).testBit bit = true := by
  obtain ⟨_, ⟨⟩, -, hotp | ⟨w, bits, hotp⟩⟩ := h.next
  · simp only [State.otpWord, hotp]
    exact ⟨hwf, fun _ _ hb => hb⟩
  · simp only [State.otpWord, hotp, Kv.get_put]
    refine ⟨Kv.put_wf _ _ _ _ hwf, fun word bit hb => ?_⟩
    split
    next hw =>
      subst hw
      have h64 : bit < 64 := by
        rcases Nat.lt_or_ge bit 64 with hlt | hge
        · exact hlt
        · rw [BitVec.testBit_toNat, BitVec.getLsbD_of_ge _ _ hge] at hb
          exact Bool.noConfusion hb
      rw [BitVec.toNat_ofNat, Nat.testBit_mod_two_pow, programmed_keeps _ _ _ hb]
      simpa using h64
    next => exact hb

/-- A step answers as a command does, with the queue shorter by the command it took. -/
theorem step_answers (s : State) : Answers { s with pending := s.pending.tail } (step s) := by
  unfold step
  cases hq : s.pending with
  | nil =>
    rw [show ({ s with pending := [].tail } : State) = s by rw [List.tail_nil, ← hq]]
    dsimp only
    split
    · exact Answers.onOd _ s
    · exact Answers.onUnit _ s
  | cons i rest => exact exec_answers i { s with pending := rest }

/-- Settles O33: whatever a step carries out answers so, and an answer burns fuse bits and clears none. -/
theorem burntFusesStayBurnt : Obligations.BurntFusesStayBurnt := by
  intro s t hwf hstep
  have ha := step_answers s
  rw [hstep] at ha
  exact Answers.keepsFuses (s := { s with pending := s.pending.tail }) ha hwf

/-- A command on the blocks of a domain does nothing without power (R453, R459). -/
theorem onBlock_off (d : Nat) (f : Sys → Sys) (s : State) (h : s.powered = false) : onBlock d f s = .next s := onSys_off _ s h

/-- A write of an entry on a block without power is not taken (R453, R459). -/
theorem onWrite_off (acc : Access) (k v : Nat) (ext : Ext) (s : State) (h : s.powered = false) : onWrite acc k v ext s = .next s := onOd_off _ s h

/-- Settles O35: a command of the block or of the dictionary does nothing without power, and the others are those that the statement names. -/
theorem unpoweredBlockIgnores : Obligations.UnpoweredBlockIgnores := by
  intro i s hp
  cases i with
  | restored | serviceTimeout | goConfigComplete | warmResetActs | storeCommandComplete | count | identify | assign | assignAlias | release | stream
  | alarm | sync | delayReq | delayRsp | bootReqTimeout | bootRestart | creditSymbol | creditReturnTimer | heartbeat | heartbeatSend
  | heartbeatTimeout | creditPeriodExpiry | arpRequest | readyTimeout | triggerEdge | slotEvaluation | lineBreak | faultHoldExpiry | mplUpdate
  | gateMismatch | joinTimeReached | takeoverCollectionClose | takeoverInstant | checksComplete | stepBuilt | swapWindowExpiry | calCopyWrite
  | loadRecord | encoderEdge | encoderZ | sosEdge | frameStart | csiLine | frameEnd | csiPacket | frameTimeout | lineGrant | frameRecord
  | detectProbe | symbolLock | trainTimeout | capSet | capabilityTimeout | lossOfLock | singleLaneTimeout | lanePll | macFrameSent | ethLink
  | adjTicksExpiry | captureEvent | delayReqSend | delayRspTimeout | syncSend | dramRequest | dramIssue | dramReadData | dramAlert | refreshInterval
  | mr4Poll | oscRun | pprComplete | patComplete | handOver | shadowTake | descriptorFetch | transferComplete | lateErrorResponse | apRunWrite
  | remotePmpWrite | wfi | imageCheckComplete | trialTimeout | mramCommandComplete | debugModuleAccess | napEntryTimeout | holdEntry | domainIdle
  | faultOccurrence | reportMergeExpiry | emissionPin | dieTemp | samplerTick | workAreaWrite | samplerClearComplete | plicClaim | plicComplete
  | dieTempClear | checkerLock | checkerLockLoss | skewCalibration | ulps =>
    exact .inl (by dsimp only [exec]; exact onSys_off _ s hp)
  | odReq | odWrite | windowLowWordRead | windowSplitWrite | domainAddressWrite | domainLengthWrite | storeRebuildComplete | frameForward | bootData
  | gatewayDatagram | macFrameReceive | dmaBurst | fabricAccess | cboClean | cboFlush | cboInval | fenceWO | fenceIR | fenceI | domainEnableWrite
  | domainPowered | pllLock | clockSourceWrite | errCaptureRead =>
    exact .inl (by dsimp only [exec]; exact onOd_off _ s hp)
  | describeSelect | rspCommit | fwsDataWrite | goConfig | goReady | arm | disarm | enterService | leaveService | clearFault | warmReset
  | defaultsKeepIdentity | defaultsAll | verify | rebuild | restoreAck | portEnableWrite | endpointEnableWrite | releaseOffsetWrite | channelEnable
  | channelDisable | channelStart | channelPause | channelResume | channelStop | channelReset | hoopEnableWrite | slotClose | slotOpen | slotReset
  | rcLearn | rcFreeze | rcClear | slotModeWrite | bqEnableWrite | rcConfigWrite | zoneEnableWrite | join | cancelJoin | reportPop | updateStart
  | updateResume | updateAbort | updateRollback | updateInstall | patRequest | patClear | encoderClear | encoderZero | ctrlWrite | ctrlRead
  | picotStore | picotSend | picotCheck | groupEnable | groupDisable | groupStart | groupPause | groupResume | groupStop | groupReset | axisEnable
  | axisDisable | moveAbs | moveRel | runTable | switchTable | axisStop | quickStop | axisReset | setPosition | contextEnableWrite
  | outputEnableWrite | profEnableWrite | retrain | reloadEq | testStart | testStop | txTailWrite | incrementWrite | adjTicksWrite | timeStep
  | triggerConfigWrite | triggerArm | pulse | cancel | capturePop | captureConfigWrite | unfreeze | debugRead | pprSoft | pprHard | trainBegin
  | trainEnd | trainAbort | mrw | mrr | mpc | mrwLane | patWrite | patCompare | sample | dmaArm | dmaStop | dmaStart | dmaClear | dmaEnableWrite
  | cqTailWrite | checkA | checkB | invalidateA | invalidateB | confirm | mramWrite | mramCompare | mramZero | otpRead | otpProgram | nap | hold
  | padRelease | pllEnableWrite | faultLogPop | closeNow | clearCirculating | samplerSelect =>
    exact .inl (by dsimp only [exec]; exact onWrite_off _ _ _ _ s hp)
  | blockFetch | descriptorLookahead | scuSample | jump | mark | arc | dwell | power | waitTime | waitTimeReached | waitEvent | waitEventTimeout
  | seamPoint | calMark | linkBlock | endDescr | sosTimeout | encoderLoss | fixInstant | sliceFetch | dataSend | ackFrame | ackTimeout | fireStrobe
  | swathEnd | feedSettleExpiry | statusFrame | nozzleFrame | wackFrame | ctrlRsp | linkHeartbeat | linkHeartbeatTimeout | ctrlTimeout
  | headTempReading | axisUpdate | pwmPeriod | inposTimeout | holdDelayExpiry | vbusFault | vbusReturn | linkHeartbeatSend | malformedLinkFrame =>
    exact .inl (by dsimp only [exec]; exact onBlock_off _ _ s hp)
  | vaonRise | resetAssert | vaonLoss | lsafeFall | lsafeRise | lpStsChange | gateInputChange | wakeEvent | wakeTimer | tckEdge | coldStart => simp

/-- Settles O60: the table gives its rows no bits, so decoding answers none. -/
theorem noWordSpellsACommand : Obligations.NoWordSpellsACommand :=
  fun _ _ _ => ⟨rfl, rfl⟩

end Sys2Proof.Machine
end

section
/-! PROOFS. What a claim of the PLIC takes, and what a raise of a source does (R432). -/

namespace Sys2Proof.Machine

open Sys2Proof

namespace Sys

/-- The source that a claim would take were there only the sources below `n`. -/
def plicBestBelow (s : Sys) (ctx n : Nat) : Nat :=
  (List.range n).foldl (fun best src =>
    if src ∈ s.plic.pending ∧ s.plicEnabled ctx src ∧ s.plicPriority best < s.plicPriority src then src else best) 0

theorem plicBest_eq (s : Sys) (ctx : Nat) : s.plicBest ctx = s.plicBestBelow ctx 128 := rfl

/-- One more source is taken where it is pending and enabled and its priority is higher. -/
theorem plicBestBelow_succ (s : Sys) (ctx n : Nat) :
    s.plicBestBelow ctx (n + 1) =
      if n ∈ s.plic.pending ∧ s.plicEnabled ctx n ∧ s.plicPriority (s.plicBestBelow ctx n) < s.plicPriority n then n else s.plicBestBelow ctx n := by
  unfold plicBestBelow
  rw [List.range_succ, List.foldl_append]
  rfl

/-- The best source is 0, or below the bound, pending and enabled. -/
theorem plicBestBelow_claimable (s : Sys) (ctx n : Nat) (h : s.plicBestBelow ctx n ≠ 0) :
    s.plicBestBelow ctx n < n ∧ s.plicBestBelow ctx n ∈ s.plic.pending ∧ s.plicEnabled ctx (s.plicBestBelow ctx n) = true := by
  induction n with
  | zero => exact absurd rfl h
  | succ n ih =>
    rw [plicBestBelow_succ] at h ⊢
    split
    next hc => exact ⟨n.lt_succ_self, hc.1, hc.2.1⟩
    next hc =>
      rw [if_neg hc] at h
      obtain ⟨hlt, hpe⟩ := ih h
      exact ⟨Nat.lt_succ_of_lt hlt, hpe⟩

/-- No pending and enabled source below the bound is better. -/
theorem plicBestBelow_best (s : Sys) (ctx n : Nat) {src : Nat} (hlt : src < n) (hp : src ∈ s.plic.pending) (he : s.plicEnabled ctx src = true) :
    s.plicPriority src ≤ s.plicPriority (s.plicBestBelow ctx n) ∧
      (s.plicPriority src = s.plicPriority (s.plicBestBelow ctx n) → s.plicPriority 0 < s.plicPriority src → s.plicBestBelow ctx n ≤ src) := by
  induction n with
  | zero => omega
  | succ n ih =>
    have hbest : s.plicBestBelow ctx n ≤ n := by
      by_cases h0 : s.plicBestBelow ctx n = 0
      · omega
      · exact Nat.le_of_lt (s.plicBestBelow_claimable ctx n h0).1
    rw [plicBestBelow_succ]
    rcases Nat.lt_succ_iff_lt_or_eq.mp hlt with hlt | rfl
    · obtain ⟨hle, hfirst⟩ := ih hlt
      split
      next hc => exact ⟨Nat.le_trans hle (Nat.le_of_lt hc.2.2), fun heq => absurd (heq ▸ hc.2.2) (by omega)⟩
      next => exact ⟨hle, hfirst⟩
    · split
      next => exact ⟨Nat.le_refl _, fun _ _ => Nat.le_refl _⟩
      next hc => exact ⟨Nat.not_lt.mp (fun hgt => hc ⟨hp, he, hgt⟩), fun _ _ => hbest⟩

/-- A source that waits or is served is not raised again (R432). -/
theorem raise_merged {s : Sys} {src : Nat} (h : src ∈ s.plic.pending ∨ src ∈ s.plic.claimed.map (fun c => c.1)) : s.raise src = s := if_pos h

/-- Any other source becomes pending. -/
theorem raise_new {s : Sys} {src : Nat} (hp : src ∉ s.plic.pending) (hc : src ∉ s.plic.claimed.map (fun c => c.1)) :
    s.raise src = { s with plic := { s.plic with pending := s.plic.pending ++ [src] } } := if_neg (not_or.mpr ⟨hp, hc⟩)

/-- A source that has been raised is pending or claimed. -/
theorem raise_waits (s : Sys) (src : Nat) : src ∈ (s.raise src).plic.pending ∨ src ∈ (s.raise src).plic.claimed.map (fun c => c.1) := by
  unfold raise
  split
  · assumption
  · simp

end Sys

/-- Settles O37: the claim goes through the sources in rising order and takes one only where its priority is higher than the best so far. -/
theorem claimGivesHighestPriority : Obligations.ClaimGivesHighestPriority := by
  refine ⟨fun s ctx => ⟨?claimable, ?best⟩, fun s src => Sys.raise_merged, fun s src => Sys.raise_new⟩
  case claimable => exact s.plicBestBelow_claimable ctx 128
  case best => exact fun src => s.plicBestBelow_best ctx 128 src.isLt

end Sys2Proof.Machine
end

section
/-! PROOFS. What an event of a capture unit and a POP of its FIFO leave (R368), what a PROGRAM leaves of the fuses (R441, R452), and what a loss of VAON
leaves (R433, R441, R453, R459). -/

namespace Sys2Proof.Machine

open Sys2Proof

/-! ### What an accepted write with a small effect leaves unchanged -/

/-- `t` holds the memory, the device state and the entries of `s`, but for the entries in `ks`. -/
structure Holds (ks : List Nat) (s t : Sys) : Prop where
  bytes : ∀ a, t.byte a = s.byte a
  dev : t.dev = s.dev
  entries : ∀ k, k ∉ ks → t.rdW k = s.rdW k

namespace Holds

variable {ks : List Nat} {s t u : Sys}

theorem refl (s : Sys) : Holds ks s s := ⟨fun _ => rfl, rfl, fun _ _ => rfl⟩

theorem trans (a : Holds ks s t) (b : Holds ks t u) : Holds ks s u :=
  ⟨fun x => (b.bytes x).trans (a.bytes x), b.dev.trans a.dev, fun k hk => (b.entries k hk).trans (a.entries k hk)⟩

theorem wr (s : Sys) {k : Nat} (v : Nat) (hk : k ∈ ks) : Holds ks s (s.wr k v) := by
  refine ⟨fun _ => rfl, rfl, fun j hj => ?_⟩
  have hne : j ≠ k := fun e => hj (e ▸ hk)
  simp [Sys.wr, hne]

theorem inc (s : Sys) {k : Nat} (hk : k ∈ ks) : Holds ks s (s.inc k) := .wr s _ hk

end Holds

/-- The clock of the accessed block runs: CLOCKED alone may change (R33, R455). -/
theorem Sys.clocked_holds (s : Sys) (k : Nat) : Holds [Key.Dom.CLOCKED] s (s.clocked k) := by
  unfold Sys.clocked Sys.ungate
  split
  · exact .refl s
  · exact .wr s _ List.mem_cons_self

/-- The answer to a write, where neither WARM_RESET nor HOLD waits for it. -/
theorem Sys.answered_stays {t : Sys} (h : t.leaving = false) (acc : Access) (k v : Nat) : Answered t (t.answered acc k v) := by
  have ha := respond_done_answered t (writeReq acc k v)
  have hl : (t.respond (writeReq acc k v) (.done 0)).leaving = t.leaving := by rw [ha.rest]; rfl
  unfold Sys.answered
  dsimp only
  rw [hl, if_neg (by rw [h]; decide)]
  exact ha

/-- An answer leaves the bits that the fuses are to take. -/
theorem Answered.eng_burn {s t : Sys} (h : Answered s t) : t.eng.burn = s.eng.burn := by rw [h.rest]

/-- An accepted write whose effect keeps all but the entries in `ks` is answered, and the answer keeps the rest (R92). -/
theorem State.answers_keepsBut {s : State} {acc : Access} {k v : Nat} {f : Sys → Sys} {ks : List Nat}
    (hf : Holds ks (s.toSys.clocked k) (f (s.toSys.clocked k))) (hl : (f (s.toSys.clocked k)).leaving = false) :
    s.keepsBut (s.answers acc k v f) ks := by
  have ha := Sys.answered_stays hl acc k v
  have hc := s.toSys.clocked_holds k
  refine ⟨fun a => ?_, ?_, burnt_pending _ _, fun j hj hn hcl => ?_⟩
  · rw [State.answers, burnt_byte, ← hc.bytes, ← hf.bytes, ha.rest]
    rfl
  · rw [State.answers, burnt_dev, ← hc.dev, ← hf.dev, ha.rest]
  · rw [State.answers, burnt_rdW, ha.entries j hn, hf.entries j hj, hc.entries j (by simpa using hcl)]

/-- The engine takes a write only while neither WARM_RESET nor HOLD waits to act. -/
theorem Sys.accepts_stays {s : Sys} {acc : Access} {k v : Nat} {ext : Ext} (h : s.accepts acc k v ext = true) : s.leaving = false := by
  unfold Sys.accepts Sys.engineFree at h
  simp only [Bool.and_eq_true, Bool.not_eq_true'] at h
  exact h.1.1.1.1.2

theorem Sys.clocked_leaving (s : Sys) (k : Nat) : (s.clocked k).leaving = s.leaving := by
  unfold Sys.clocked Sys.ungate
  split <;> rfl

theorem Sys.clocked_tb (s : Sys) (k : Nat) : (s.clocked k).tb = s.tb := by
  unfold Sys.clocked Sys.ungate
  split <;> rfl

theorem burnt_tb (s : State) (t : Sys) : (burnt s t).tb = t.tb := by
  unfold burnt
  split <;> rfl

/-! ### Capture units -/

namespace Sys

/-- What an event leaves before the TMB source is raised: its stamp and its count, and the stamp in the FIFO or the count of lost ones. -/
def captureTaken (s : Sys) (n stamp : Nat) : Sys :=
  let u := (s.wr (Key.Cap.LAST_TIME n) stamp).inc (Key.Cap.COUNT n)
  if (s.tb.fifos.getD n []).length < 16 then { u with tb := { u.tb with fifos := u.tb.fifos.setIfInBounds n (s.tb.fifos.getD n [] ++ [stamp]) } }
  else u.inc (Key.Cap.LOST n)

theorem captureStamp_eq (s : Sys) (n stamp : Nat) : s.captureStamp n stamp = (s.captureTaken n stamp).raise 52 := rfl

/-- A raise changes the PLIC alone. -/
theorem raise_eq (s : Sys) (src : Nat) : ∃ p, s.raise src = { s with plic := p } := by
  unfold raise
  split
  · exact ⟨s.plic, rfl⟩
  · exact ⟨_, rfl⟩

theorem captureTaken_fifos (s : Sys) (n stamp : Nat) : (s.captureTaken n stamp).tb.fifos =
    if (s.tb.fifos.getD n []).length < 16 then s.tb.fifos.setIfInBounds n (s.tb.fifos.getD n [] ++ [stamp]) else s.tb.fifos := by
  unfold captureTaken
  dsimp only
  split <;> rfl

theorem captureTaken_mem (s : Sys) (n stamp : Nat) : (s.captureTaken n stamp).mem = s.mem := by
  unfold captureTaken
  dsimp only
  split <;> rfl

/-- The entries after an event: LOST counts where the FIFO was full. -/
theorem captureTaken_rd (s : Sys) (n stamp k : Nat) : (s.captureTaken n stamp).rd k =
    if (s.tb.fifos.getD n []).length < 16 then ((s.wr (Key.Cap.LAST_TIME n) stamp).inc (Key.Cap.COUNT n)).rd k
    else (((s.wr (Key.Cap.LAST_TIME n) stamp).inc (Key.Cap.COUNT n)).inc (Key.Cap.LOST n)).rd k := by
  unfold captureTaken
  dsimp only
  split <;> rfl

theorem captureTaken_holds (s : Sys) (n stamp : Nat) : Holds [Key.Cap.LAST_TIME n, Key.Cap.COUNT n, Key.Cap.LOST n] s (s.captureTaken n stamp) := by
  have hcounted : Holds [Key.Cap.LAST_TIME n, Key.Cap.COUNT n, Key.Cap.LOST n] s ((s.wr (Key.Cap.LAST_TIME n) stamp).inc (Key.Cap.COUNT n)) :=
    (Holds.wr s stamp (by simp)).trans (.inc _ (by simp))
  unfold captureTaken
  dsimp only
  split
  · exact ⟨hcounted.bytes, hcounted.dev, hcounted.entries⟩
  · exact hcounted.trans (.inc _ (by simp))

/-- A write to POP acts on the FIFO of its unit. -/
theorem actFabric_pop (t s : Sys) (otp : Nat → Nat) (cls : Cls) {n : Nat} (hn : n < 32) (v : Nat) (i : Int) (ext : Ext) :
    t.actFabric s otp cls (Key.Cap.POP n) v i ext = s.capPop n v := by
  have hidx : keyIdx (Key.Cap.POP n) = 0xE40 + n := idx_of _ 8 (by decide) rfl
  have hsub : keySub (Key.Cap.POP n) = 8 := sub_of (0xE40 + n) 8 (by decide) rfl
  unfold actFabric
  simp only [hidx, hsub, Key.Cap.POP, Key.Mram.COMMAND, Key.Image.COMMAND, Key.Otp.OTP_COMMAND, Key.Inc.ADJ_TICKS, Key.Step.TIME_STEP]
  rw [if_neg (by omega), if_neg (by omega), if_neg (by omega), if_neg (by omega), if_neg (by omega), if_neg (by omega), if_neg (by omega), if_neg (by omega),
    if_neg (by omega), if_neg (by omega), if_neg (by omega), if_pos (by omega), if_neg (by decide), if_pos trivial, Nat.add_sub_cancel_left]

theorem capPop_holds (s : Sys) (n v : Nat) : Holds [] s (s.capPop n v) := by
  unfold capPop
  split
  · exact .refl s
  · exact ⟨fun _ => rfl, rfl, fun _ _ => rfl⟩

theorem capPop_leaving (s : Sys) (n v : Nat) : (s.capPop n v).leaving = s.leaving := by
  unfold capPop
  split <;> rfl

end Sys

/-- An accepted POP takes the oldest stamp of its unit (R368). -/
theorem exec_capturePop {s : State} {acc : Access} (n : Fin 32) (h : s.accepts acc (Key.Cap.POP n) 1 {} = true) :
    exec (.capturePop acc n 1) s = .next (s.answers acc (Key.Cap.POP n) 1 (fun u => u.capPop n 1)) := by
  have hrow : ∀ n : Fin 32, Sys.rowIs (Key.Cap.POP n) .wo false 1 0 = true := by decide +kernel
  refine onWrite_row s acc (Key.Cap.POP n) 1 {} .wo false 1 0 _ h (hrow n) (by decide) (by decide) (fun _ => ?_)
  have hneed : (s.toSys.need0 acc (Key.Cap.POP n) (Sys.masked 0 1) {}).1 = s.toSys.clocked (Key.Cap.POP n) :=
    congrArg Prod.fst (Sys.need_fabric _ _ (0xE40 + n) 8 _ _ _ rfl (by decide) (by omega) (by omega) (by simp only [Key.Train.TRAIN_COMMAND]; omega))
  rw [hneed]
  dsimp only
  rw [Sys.act_fabric _ _ _ _ (0xE40 + n) 8 _ _ _ rfl (by decide) (by omega) (by omega), Sys.actFabric_pop _ _ _ _ n.isLt,
    Sys.powerResult_other _ _ _ (by simp only [Key.Cap.POP, Key.Pwr.COMMAND]; omega)]
  rfl

/-- Settles O41: an event moves its own three entries, the FIFO of its unit and then the PLIC, and POP moves the FIFO alone. -/
theorem captureKeepsSixteenStamps : Obligations.CaptureKeepsSixteenStamps := by
  unfold Obligations.CaptureKeepsSixteenStamps
  refine ⟨fun s n stamp => ?event, fun s acc n h => ?pop⟩
  case event =>
    obtain ⟨p, hp⟩ := (s.captureTaken n stamp).raise_eq 52
    have hw := (s.captureTaken n stamp).raise_waits 52
    have hrd (k : Nat) : ((s.captureTaken n stamp).raise 52).rd k = (s.captureTaken n stamp).rd k := by rw [hp]; rfl
    rw [Sys.captureStamp_eq]
    refine ⟨?last, ?count, ?fifos, ?lost, hw, ?others, ?memory⟩
    case last => simp [hrd, Sys.captureTaken_rd]
    case count => simp [hrd, Sys.captureTaken_rd]
    case fifos => rw [hp]; exact s.captureTaken_fifos n stamp
    case lost => simp [hrd, Sys.captureTaken_rd]
    case others =>
      intro k hlast hcount hlost
      rw [hp]
      exact (s.captureTaken_holds n stamp).entries k (by simp [hlast, hcount, hlost])
    case memory => rw [hp]; exact s.captureTaken_mem n stamp
  case pop =>
    have hl : ((s.toSys.clocked (Key.Cap.POP n)).capPop n 1).leaving = false :=
      (Sys.capPop_leaving _ _ _).trans ((s.toSys.clocked_leaving _).trans (Sys.accepts_stays h))
    refine ⟨_, exec_capturePop n h, ?_, State.answers_keepsBut (Sys.capPop_holds _ _ _) hl⟩
    rw [State.answers, burnt_tb, (Sys.answered_stays hl acc (Key.Cap.POP n) 1).rest]
    simp [Sys.capPop, Sys.clocked_tb]

/-! ### PROGRAM of a fuse word -/

namespace Sys

/-- What PROGRAM leaves for the fuses to take. -/
theorem otpCmd_burn (s : Sys) (otp : Nat → Nat) : (s.otpCmd otp 2 true).eng.burn = some (s.rd Key.Otp.OTP_ADDR, s.rd Key.Otp.OTP_DATA) := rfl

/-- A write to OTP_COMMAND is a command of the fuses. -/
theorem actFabric_otp (t s : Sys) (otp : Nat → Nat) (cls : Cls) (v : Nat) (i : Int) (ext : Ext) :
    t.actFabric s otp cls Key.Otp.OTP_COMMAND v i ext = s.otpCmd otp v ext.ok := by
  have hidx : keyIdx Key.Otp.OTP_COMMAND = 0xA30 := rfl
  unfold actFabric
  simp only [hidx]
  rw [if_neg (by decide), if_neg (by decide), if_neg (by decide), if_neg (by decide), if_neg (by decide), if_pos trivial]

theorem otpCmd_leaving (s : Sys) (otp : Nat → Nat) : (s.otpCmd otp 2 true).leaving = s.leaving := rfl

theorem otpCmd_result (s : Sys) (otp : Nat → Nat) : (s.otpCmd otp 2 true).rd Key.Otp.OTP_RESULT = 0 := by
  simp [otpCmd]

theorem otpCmd_holds (s : Sys) (otp : Nat → Nat) : Holds [Key.Otp.OTP_RESULT, Key.Otp.ROLLBACK_MIN, Key.Otp.KEYS] s (s.otpCmd otp 2 true) := by
  have hburn (b : Option (Nat × Nat)) : Holds [Key.Otp.OTP_RESULT, Key.Otp.ROLLBACK_MIN, Key.Otp.KEYS] s { s with eng := { s.eng with burn := b } } :=
    ⟨fun _ => rfl, rfl, fun _ _ => rfl⟩
  exact (((hburn _).trans (.wr _ _ (by simp))).trans (.wr _ _ (by simp))).trans (.wr _ _ (by simp))

end Sys

/-- The fuses after an answer that burns bits of one word (R441). -/
theorem burnt_otpWord {s : State} {t : Sys} {w bits : Nat} (h : t.eng.burn = some (w, bits)) (k : Nat) :
    (burnt s t).otpWord k = if k = w then s.otpWord k ||| bits % 2 ^ 32 else s.otpWord k := by
  have hlt : s.otpWord w ||| bits % 2 ^ 32 < 2 ^ 64 := Nat.or_lt_two_pow (BitVec.isLt _) (by omega)
  unfold burnt
  rw [h]
  simp only [State.otpWord, Kv.get_put] at hlt ⊢
  split
  next hk =>
    subst hk
    rw [BitVec.toNat_ofNat]
    exact Nat.mod_eq_of_lt hlt
  next => rfl

/-- An accepted PROGRAM whose readback agrees (R441). -/
theorem exec_otpProgram {s : State} {acc : Access} (h : s.accepts acc Key.Otp.OTP_COMMAND 2 { ok := true } = true) :
    exec (.otpProgram acc true) s = .next (s.answers acc Key.Otp.OTP_COMMAND 2 (fun u => u.otpCmd s.otpWord 2 true)) := by
  refine onWrite_row s acc Key.Otp.OTP_COMMAND 2 { ok := true } .wo false 1 0 _ h (by decide +kernel) (by decide) (by decide) (fun _ => ?_)
  have hneed : (s.toSys.need0 acc Key.Otp.OTP_COMMAND (Sys.masked 0 2) { ok := true }).1 = s.toSys.clocked Key.Otp.OTP_COMMAND :=
    congrArg Prod.fst (Sys.need_fabric _ _ 0xA30 4 _ _ _ rfl (by decide) (by decide) (by decide) (by decide))
  rw [hneed]
  dsimp only
  rw [Sys.act_fabric (k := Key.Otp.OTP_COMMAND) _ _ _ _ 0xA30 4 _ _ _ rfl (by decide) (by decide) (by decide), Sys.actFabric_otp,
    Sys.powerResult_other _ _ _ (by decide)]
  rfl

/-- Settles O49: the answer to PROGRAM burns the bits of OTP_DATA, and the command itself moves the three entries that show the fuses. -/
theorem programSetsFuseBits : Obligations.ProgramSetsFuseBits := by
  unfold Obligations.ProgramSetsFuseBits
  intro s acc h
  have hl : ((s.toSys.clocked Key.Otp.OTP_COMMAND).otpCmd s.otpWord 2 true).leaving = false :=
    (Sys.otpCmd_leaving _ _).trans ((s.toSys.clocked_leaving _).trans (Sys.accepts_stays h))
  have ha := Sys.answered_stays hl acc Key.Otp.OTP_COMMAND 2
  have hburn : (((s.toSys.clocked Key.Otp.OTP_COMMAND).otpCmd s.otpWord 2 true).answered acc Key.Otp.OTP_COMMAND 2).eng.burn =
      some (s.rd Key.Otp.OTP_ADDR, s.rd Key.Otp.OTP_DATA) := by
    rw [ha.eng_burn, Sys.otpCmd_burn, Sys.rd_clocked _ _ _ (by decide), Sys.rd_clocked _ _ _ (by decide)]
  refine ⟨_, exec_otpProgram h, fun w => ?fuses, ?result, State.answers_keepsBut (Sys.otpCmd_holds _ _) hl⟩
  case fuses => exact burnt_otpWord hburn w
  case result => rw [State.answers, burnt_rd, ha.rd _ (by decide), Sys.otpCmd_result]

end Sys2Proof.Machine
end

section
/-! PROOFS. What a loss of VAON leaves (R433, R441, R453, R459). -/

namespace Sys2Proof.Machine

open Sys2Proof

/-- A map keeps the keys that `p` takes, and every other key reads as its default. -/
theorem Kv.get_filter {α : Type} (d : Nat → α) (p : Nat → Bool) (l : List (Nat × α)) (k : Nat) :
    Kv.get d (l.filter (fun c => p c.1)) k = if p k then Kv.get d l k else d k := by
  induction l with
  | nil => simp [Kv.get]
  | cons c t ih =>
    obtain ⟨a, b⟩ := c
    by_cases ha : a = k
    · subst ha
      by_cases hp : p a = true <;> simp [hp, Kv.get, ih]
    · by_cases hp : p a = true <;> simp [hp, Kv.get, ha, ih]

namespace Sys

/-- The MRAM (R15). -/
def inMram (a : Nat) : Prop := 0x20000000 ≤ a ∧ a < 0x21000000

/-- The bytes of the MRAM read as 0 where nothing has written, whatever the other memories have lost. -/
theorem memDefault_mram {a : Nat} (h : inMram a) (se de ae : Nat) : memDefault se de ae a = 0 := by
  obtain ⟨hlo, hhi⟩ := h
  unfold memDefault dramBase
  rw [if_neg (by omega), if_neg (by omega), if_neg (by omega), if_neg (by omega)]

/-- A byte of the MRAM reads alike in maps that list it alike. -/
theorem get_mram {a : Nat} (h : inMram a) (se de ae se' de' ae' : Nat) (l : List (Nat × Byte)) :
    Kv.get (memDefault se de ae) l a = Kv.get (memDefault se' de' ae') l a := by
  induction l with
  | nil => simp only [Kv.get, memDefault_mram h]
  | cons c t ih => simp only [Kv.get, ih]

theorem rdW_resetBase (s : Sys) (keep : Nat → Bool) (k : Nat) : (s.resetBase keep).rdW k = if keep k then s.rdW k else odDefaultWord k :=
  Kv.get_filter odDefaultWord keep s.od k

theorem rdW_vaonLost (s : Sys) (k : Nat) : s.vaonLost.rdW k = if isKept k then s.rdW k else odDefaultWord k := s.rdW_resetBase isKept k

/-- The contents of the MRAM stay, since the memories lost lie elsewhere. -/
theorem byte_vaonLost {a : Nat} (h : inMram a) (s : Sys) : s.vaonLost.byte a = s.byte a := by
  obtain ⟨hlo, hhi⟩ := h
  have hmem : s.vaonLost.mem = (s.mem.filter (fun c => decide (c.1 < 0x10000000 ∨ (0x10800000 ≤ c.1 ∧ c.1 < dramBase)))).filter
    (fun c => decide (c.1 < 0x30000000 ∨ 0x30004000 ≤ c.1)) := rfl
  unfold byte
  rw [hmem, Kv.get_filter _ (fun x => decide (x < 0x30000000 ∨ 0x30004000 ≤ x)), if_pos (decide_eq_true (by omega)),
    Kv.get_filter _ (fun x => decide (x < 0x10000000 ∨ (0x10800000 ≤ x ∧ x < dramBase))), if_pos (decide_eq_true (by unfold dramBase; omega))]
  exact get_mram ⟨hlo, hhi⟩ _ _ _ _ _ _ _

end Sys

/-- Settles O48: the loss is a reset of the block that keeps the retained store, and the memories that lose their contents lie outside the MRAM. -/
theorem powerLossKeepsMram : Obligations.PowerLossKeepsMram :=
  fun s => ⟨s.on (fun u => u.vaonLost), rfl, rfl, rfl, rfl, rfl, fun _ hlo hhi => Sys.byte_vaonLost ⟨hlo, hhi⟩ s.toSys, Sys.rdW_vaonLost s.toSys⟩

end Sys2Proof.Machine
end

section
/-! PROOFS. What domains, wake, clocks, faults and the Sampler do under the conditions in which they act (R438, R455 to R472, R486 to R506): each
event of the list in the case that its conditions choose, and the two accepted writes, of the domain enables and of the clock sources, after which the
waiting requests go. -/

namespace Sys2Proof.Machine

open Sys2Proof

namespace Sys

/-! ### An accepted write of an unsigned entry (R47, R48)

The answered block of such a write as a function of the word that the entry takes. -/

section WriteOfRow

variable {s : Sys} {acc : Access} {k v n m : Nat} {ext : Ext} {a : Dict.Acc} {kept : Bool}

/-- What an accepted write requires of the block holds. -/
theorem need0_accepted (h : s.accepts acc k v ext = true) (hrow : rowIs k a kept n m = true) (hv : v < 2 ^ (8 * n)) (hm : m < 2 ^ 64) :
    (s.need0 acc k (masked m v) ext).2 = 0 := by
  obtain ⟨r, hr, -, -, hmr, -, hs, hn⟩ := rowIs_row hrow
  rw [← hn] at hv
  rw [← hmr] at hm ⊢
  rw [← maskWord_toNat r v (Nat.lt_of_lt_of_le hv (size_le r.ty)) hm, ← needed_unsigned s acc k _ ext r hs]
  exact needed_accepted s acc k v ext h r hr hs hv

/-- An accepted write of an entry that is no DOMAIN and not write-only stores its word, acts, and counts it where the entry is kept. -/
theorem request_row (otp : Nat → Nat) (h : s.accepts acc k v ext = true) (hrow : rowIs k .rw kept n m = true) (hv : v < 2 ^ (8 * n))
    (hm : m < 2 ^ 64) (hk : k ≠ Key.FwStore.FWS_DATA) (hp : k ≠ Key.Pwr.COMMAND) :
    s.request otp (writeReq acc k v) ext =
      (let u := (s.need0 acc k (masked m v) ext).1
       let w := masked m v
       ((u.act (u.wr k w) otp ((s.clocked k).clsOf acc.who) k w w ext).when kept
         (fun x => x.counted acc (pairOf (keyIdx k)) [(k, BitVec.ofNat 64 w)])).answered acc k v) := by
  obtain ⟨r, hr, ha, hkr, hmr, hd, hs, hn⟩ := rowIs_row hrow
  have hv' : v < 2 ^ (8 * tySize r.ty) := by rw [hn]; exact hv
  have hw := maskWord_toNat r v (Nat.lt_of_lt_of_le hv' (size_le r.ty)) (by rw [hmr]; exact hm)
  have hword : maskWord r (BitVec.ofNat 64 v) = BitVec.ofNat 64 (masked m v) := by rw [← hmr, ← hw]; simp
  have hneed : s.needed acc k r (maskWord r (BitVec.ofNat 64 v)) ext = s.need0 acc k (masked m v) ext := by
    rw [needed_unsigned s acc k _ ext r hs, hw, hmr]
  rw [hmr] at hw
  rw [request_accepted s otp acc k v ext h, afterWrite, written_word s otp acc k v ext r hr hs hv']
  simp only [hneed, hw, hkr, powerResult_other _ _ _ hp, storePair_other _ hk, storeValue, ha, hd, reduceCtorEq, if_false, Bool.false_eq_true]
  simp only [hword, storeCells_word _ _ _ _ r hd, wordCells_other _ _ hk]
  rfl

end WriteOfRow

/-! ### Writes of the domain enables and of the clock sources (R456, R472) -/

/-- A change of the domains that is not refused leaves the block as it is until it is carried out. -/
theorem domAbort_passes {s : Sys} {v : Nat} (h : (s.domAbort v).2 = 0) : (s.domAbort v).1 = s := by
  revert h
  unfold domAbort
  dsimp only
  split
  case isTrue => exact fun h => absurd h (Nat.succ_ne_zero 0x0802)
  case isFalse =>
    split
    case isTrue => exact fun _ => rfl
    case isFalse =>
      split
      case h_1 =>
        split
        case isTrue => exact fun _ => rfl
        case isFalse => exact fun h => absurd h (Nat.succ_ne_zero 0x0802)
      case h_2 => exact fun _ => rfl

/-- A change of the domains is judged by the domains that it switches. -/
theorem need_domains (s : Sys) (cls : Cls) (v : Nat) (x : Int) (ext : Ext) : s.need cls Key.Dom.ENABLE v x ext = s.domAbort v := by
  unfold need
  dsimp only
  rw [if_neg (by decide), if_neg (by decide), if_pos rfl]

/-- Its effect is that of the domains that it switches. -/
theorem actSystem_domains (t s : Sys) (cls : Cls) (v : Nat) : t.actSystem s cls Key.Dom.ENABLE v = t.domWrite v := rfl

theorem actSystem_sources (t s : Sys) (cls : Cls) (v : Nat) : t.actSystem s cls Key.Pll.SOURCE v = t.sourceWrite v := rfl

theorem masked_low (n v : Nat) (hn : n ≠ 0) : masked (2 ^ n - 1) v = v % 2 ^ n := by
  have : 2 ^ n - 1 ≠ 0 := by have := Nat.pow_lt_pow_right (a := 2) (by decide) (Nat.pos_of_ne_zero hn); omega
  rw [masked, if_neg this, Nat.and_two_pow_sub_one_eq_mod]

section WriteOfPower

variable {s : Sys} {acc : Access} {v : Nat} (otp : Nat → Nat)

/-- An accepted write of the domain enables switches the domains of which the enable changes, and counts. -/
theorem request_domains (hv : v < 2 ^ 32) (h : s.accepts acc Key.Dom.ENABLE v {} = true) :
    s.request otp (writeReq acc Key.Dom.ENABLE v) {} =
      ((((s.clocked Key.Dom.ENABLE).domWrite (v % 2 ^ 15)).counted acc (pairOf (keyIdx Key.Dom.ENABLE))
        [(Key.Dom.ENABLE, BitVec.ofNat 64 (v % 2 ^ 15))]).answered acc Key.Dom.ENABLE v) := by
  have hrow : rowIs Key.Dom.ENABLE .rw true 4 (2 ^ 15 - 1) = true := by decide +kernel
  have hneed := need0_accepted h hrow hv (by decide)
  rw [request_row otp h hrow hv (by decide) (by decide) (by decide)]
  rw [masked_low 15 v (by decide)] at hneed ⊢
  rw [need0, need_domains] at hneed ⊢
  dsimp only
  rw [domAbort_passes hneed, act_system _ _ _ _ 0x402 1 _ _ _ rfl (by decide) (by decide), actSystem_domains]
  rfl

/-- An accepted write of the clock sources sets them. -/
theorem request_sources (hv : v < 2 ^ 32) (h : s.accepts acc Key.Pll.SOURCE v {} = true) :
    s.request otp (writeReq acc Key.Pll.SOURCE v) {} =
      (((s.clocked Key.Pll.SOURCE).sourceWrite (v % 2 ^ 6)).answered acc Key.Pll.SOURCE v) := by
  have hrow : rowIs Key.Pll.SOURCE .rw false 4 (2 ^ 6 - 1) = true := by decide +kernel
  rw [request_row otp h hrow hv (by decide) (by decide) (by decide), masked_low 6 v (by decide), need0,
    need_system _ _ 0x410 4 _ _ _ rfl (by decide) (by decide) (by decide) (by decide) (by decide)]
  dsimp only
  rw [act_system _ _ _ _ 0x410 4 _ _ _ rfl (by decide) (by decide), actSystem_sources]
  rfl

/-- The engine accepts no write of a block without power. -/
theorem accepts_powered {k : Nat} {ext : Ext} (h : s.accepts acc k v ext = true) : s.powered = true := by
  unfold accepts engineFree at h
  simp only [Bool.and_eq_true] at h
  exact h.1.1.1.1.1

end WriteOfPower

/-! ### Wake, PLLs and merged reports (R460, R464, R472, R493) -/

section Wake

variable {s : Sys} {otp : Nat → Nat} {pins bad : Nat}

/-- In NAP a cause of waking ends the nap. -/
theorem wakeEvent_nap (hw : (s.wakePins pins).waking ≠ 0) (hn : (s.wakePins pins).pw.state = .nap) :
    s.wakeEvent otp pins bad = (s.wakePins pins).napWake (s.wakePins pins).waking bad := (if_neg hw).trans (if_pos hn)

/-- Outside NAP a cause of waking goes to the wake logic of HOLD. -/
theorem wakeEvent_hold (hw : (s.wakePins pins).waking ≠ 0) (hn : (s.wakePins pins).pw.state ≠ .nap) :
    s.wakeEvent otp pins bad = (s.wakePins pins).holdWake otp (s.wakePins pins).waking bad := (if_neg hw).trans (if_neg hn)

end Wake

/-- A PLL that its enable has on locks. -/
theorem pllLock_enabled {s : Sys} {n : Nat} (hd : s.dev ≠ .start) (he : s.rdBit Key.Pll.PLL_ENABLE n = true) :
    s.pllLock n = s.wrBit Key.Pll.PLL_LOCKED n true := (if_neg fun h => hd h.1).trans (if_pos he)

/-- PLL 0 locking in START starts the clocks that the restore needs. -/
theorem pllLock_start {s : Sys} (hd : s.dev = .start) (hr : s.pw.state = .run) :
    s.pllLock (0 : Fin 4) = (let u := (s.wrBit Key.Pll.PLL_ENABLE 0 true).wrBit Key.Pll.PLL_LOCKED 0 true
      u.sourceWrite (u.rd Key.Pll.SOURCE ||| 3)) := if_pos ⟨hd, rfl, hr⟩

section Merge

variable {s : Sys} {code : Nat} {m : Merge} (hf : s.gath.merges.find? (fun m => decide (m.code = code ∧ m.since + 1000000 ≤ s.clk)) = some m)
include hf

/-- Reports that were merged go out as one when their time has passed. -/
theorem mergeExpiry_sends {t : Nat} (hm : m.merged = some t) : s.mergeExpiry code = s.report code t := by
  obtain ⟨_, _, _⟩ := m
  cases hm
  simp only [mergeExpiry, hf]

/-- Where none was merged, the record of the last report is forgotten. -/
theorem mergeExpiry_forgets (hm : m.merged = none) :
    s.mergeExpiry code = { s with gath := { s.gath with merges := s.gath.merges.filter (fun m => decide (m.code ≠ code)) } } := by
  obtain ⟨_, _, _⟩ := m
  cases hm
  simp only [mergeExpiry, hf]

end Merge

end Sys

/-- A wake event reaches the unit with power and without, and the waiting requests go after it. -/
theorem execWakeEvent_on (pins : Fin 16) (bad : Nat) (s : State) :
    exec (.wakeEvent pins bad) s = onUnit (fun u => (u.wakeEvent s.otpWord pins bad).replay s.otpWord) s := rfl

/-- A PLL that locks lets the waiting requests go. -/
theorem execPllLock_on (n : Fin 4) (s : State) : exec (.pllLock n) s = onOd (fun otp u => (u.pllLock n).replay otp) s := rfl

/-- So does an accepted change of the domains, and one of the clock sources. -/
theorem execDomainEnableWrite_on (acc : Access) (v : Nat) (s : State) : exec (.domainEnableWrite acc v) s =
    onOd (fun otp u => (u.request otp (Sys.writeReq acc Key.Dom.ENABLE v) {}).replay otp) s := rfl

theorem execClockSourceWrite_on (acc : Access) (v : Nat) (s : State) : exec (.clockSourceWrite acc v) s =
    onOd (fun otp u => (u.request otp (Sys.writeReq acc Key.Pll.SOURCE v) {}).replay otp) s := rfl

/-- Settles O27, clause by clause: each command is the effect of its event on the block, in the case that its conditions choose. -/
theorem powerAndFaultEventsAct : Obligations.PowerAndFaultEventsAct := by
  unfold Obligations.PowerAndFaultEventsAct
  refine ⟨?powered, ?napWake, ?holdWake, ?pll, ?pllStart, ?trial, ?wfi, ?napTimeout, ?hold, ?timer, ?idle, ?fault, ?mergeSent, ?mergeForgotten,
    ?pin, ?hot, ?cool, ?tick, ?workArea, ?cleared, ?domains, ?sources⟩
  case powered =>
    exact fun s d hp _ _ => onOd_next (f := fun otp u => (u.domPowered d).replay otp) (g := fun u => (u.domPowered d).replay s.otpWord) hp rfl
  case napWake =>
    intro s pins bad hw hn
    rw [execWakeEvent_on, onUnit_eq, Sys.wakeEvent_nap hw hn]
    rfl
  case holdWake =>
    intro s pins bad hw hn
    rw [execWakeEvent_on, onUnit_eq, Sys.wakeEvent_hold hw hn]
    rfl
  case pll =>
    intro s n hp hd he
    rw [execPllLock_on, onOd_on _ s hp, Sys.pllLock_enabled hd he]
  case pllStart =>
    intro s hp hd hr
    rw [execPllLock_on, onOd_on _ s hp, Sys.pllLock_start hd hr]
  case trial =>
    exact fun s hp h => onSys_next (f := fun u => if u.trialOver then u.flushRequests.trialReset s.otpWord else u) hp (if_pos h)
  case wfi => exact fun _ hp hn hr => onSys_next (f := fun u => u.wfi) hp (if_pos ⟨hn, hr⟩)
  case napTimeout => exact fun _ hp hn ht => onSys_next (f := fun u => u.napAbandon) hp (if_pos ⟨hn, ht⟩)
  case hold => exact fun _ hp _ _ => onSys_next (f := fun u => u.holdEnter) hp rfl
  case timer => exact fun _ hs he => onUnit_next (f := fun u => u.wakeTimer) (if_pos ⟨hs, he⟩)
  case idle => exact fun _ d hp ho hr => onSys_next (f := fun u => u.domainIdle d) hp (if_pos (Bool.and_eq_true_iff.mpr ⟨ho, hr⟩))
  case fault =>
    exact fun _ code kind inst t hp ha => onSys_next (f := fun u => if Sys.assignedCode code then u.fault code kind inst t else u) hp (if_pos ha)
  case mergeSent => exact fun _ code _ _ hp hf hm => onSys_next (f := fun u => u.mergeExpiry code) hp (Sys.mergeExpiry_sends hf hm)
  case mergeForgotten => exact fun _ code _ hp hf hm => onSys_next (f := fun u => u.mergeExpiry code) hp (Sys.mergeExpiry_forgets hf hm)
  case pin => exact fun _ out level missed hp => onSys_next (f := fun u => u.emissionPin out level missed) hp rfl
  case hot => exact fun _ t hp hl hh => onSys_next (f := fun u => u.dieTemp t) hp (if_pos ⟨hl, by simp [hh]⟩)
  case cool =>
    exact fun _ t hp hl hh => onSys_next (f := fun u => u.dieTemp t) hp ((if_neg fun h => by simp [hh] at h).trans (if_pos ⟨hl, hh⟩))
  case tick => exact fun _ lin hp => onSys_next (f := fun u => u.smpTick lin) hp rfl
  case workArea => exact fun _ a b hp hr => onSys_next (f := fun u => if u.pw.state = .run then u.workWrite a b else u) hp (if_pos hr)
  case cleared => exact fun _ hp hc => onSys_next (f := fun u => u.smpCleared) hp (if_pos hc)
  case domains =>
    intro s acc v hv h
    rw [execDomainEnableWrite_on, onOd_on _ s (Sys.accepts_powered h), Sys.request_domains s.otpWord hv h]
  case sources =>
    intro s acc v hv h
    rw [execClockSourceWrite_on, onOd_on _ s (Sys.accepts_powered h), Sys.request_sources s.otpWord hv h]

end Sys2Proof.Machine
end

section
/-! PROOFS. What an idle tick does to device time (R358), and what the tick of a block without power is (R453). All the stages of an idle tick but one
keep the timebase whole; the stage that is left adds the increment in force before anything else it does, and its triggers and captures keep the
instant that it reached. -/

namespace Sys2Proof.Machine

open Sys2Proof

/-! ### Changes that keep the timebase -/

/-- The timebase and the accesses held back are as they were. -/
structure KeepsTime (s t : Sys) : Prop where
  tb : t.tb = s.tb
  held : t.core.held = s.core.held

namespace KeepsTime

variable {s t u : Sys}

theorem refl (s : Sys) : KeepsTime s s := ⟨rfl, rfl⟩

theorem trans (a : KeepsTime s t) (b : KeepsTime t u) : KeepsTime s u := ⟨b.tb.trans a.tb, b.held.trans a.held⟩

theorem of_send (h : SendOnly s t) : KeepsTime s t := by constructor <;> rw [h.rest]

theorem ite {c : Prop} [Decidable c] (a : KeepsTime s t) (b : KeepsTime s u) : KeepsTime s (if c then t else u) := by
  split
  · exact a
  · exact b

theorem when (b : Bool) {f : Sys → Sys} (h : KeepsTime s (f s)) : KeepsTime s (s.when b f) := by
  cases b
  · exact refl s
  · exact h

theorem foldl {α : Type} {f : Sys → α → Sys} (h : ∀ s x, KeepsTime s (f s x)) (l : List α) (s : Sys) : KeepsTime s (l.foldl f s) := by
  induction l generalizing s with
  | nil => exact refl s
  | cons x l ih => exact (h s x).trans (ih (f s x))

theorem each {f : Sys → Nat → Sys} (h : ∀ s n, KeepsTime s (f s n)) (l : List Nat) (s : Sys) : KeepsTime s (s.each l f) := foldl h l s

theorem iter {f : Sys → Sys} (h : ∀ s, KeepsTime s (f s)) (n : Nat) (s : Sys) : KeepsTime s (iter f n s) := by
  induction n generalizing s with
  | zero => exact refl s
  | succ n ih => exact (h s).trans (ih (f s))

end KeepsTime

namespace Sys

/-! ### Credits of the endpoints (R96) -/

theorem sendCredit_keepsTime (s : Sys) (n reason : Nat) : KeepsTime s (s.sendCredit n reason) :=
  (KeepsTime.of_send (originate_sendOnly ..)).trans ⟨rfl, rfl⟩

theorem resync_keepsTime (s : Sys) (n : Nat) : KeepsTime s (s.resync n) := by
  have sent := fun e => (s.sendCredit_keepsTime n 1).trans (u := (s.sendCredit n 1).modEndpoint n e) ⟨rfl, rfl⟩
  unfold resync
  split
  · exact .ite (sent _) ⟨rfl, rfl⟩
  · exact sent _

theorem resyncTick_keepsTime (s : Sys) : KeepsTime s s.resyncTick :=
  .each (fun s n => .when _ (s.resync_keepsTime n)) _ s

/-! ### Lanes in CAPABILITY and the ports and links above them (R344 to R347) -/

theorem capOut_keepsTime (s : Sys) (l : Nat) : KeepsTime s (s.capOut l) := ⟨rfl, rfl⟩

theorem sendCap_keepsTime (s : Sys) (l : Nat) : KeepsTime s (s.sendCap l) := by
  unfold sendCap
  split
  · exact .ite (.each capOut_keepsTime _ s) (s.capOut_keepsTime l)
  · exact s.capOut_keepsTime l

theorem modPort_keepsTime (s : Sys) (p : Nat) (f : Port → Port) : KeepsTime s (s.modPort p f) := ⟨rfl, rfl⟩

theorem freeCells_keepsTime (s : Sys) (p cls n : Nat) : KeepsTime s (s.freeCells p cls n) := .of_send (freeCells_sendOnly s p cls n)

theorem sendOne_keepsTime (s : Sys) (p : Nat) : KeepsTime s (s.sendOne p) := by
  have departed : ∀ (u : Sys) (i : TxItem) (f : Frame), KeepsTime u (((u.askedNow p i).inc64 (Key.Port.FRAMES_TX p)).emit (.frame p f)) :=
    fun u i _ => (KeepsTime.of_send (askedNow_sendOnly u p i)).trans ⟨rfl, rfl⟩
  have queued : ∀ f, KeepsTime s (s.modPort p f) := fun _ => ⟨rfl, rfl⟩
  unfold sendOne
  split
  case h_1 => exact .refl s
  case h_2 =>
    dsimp only
    split
    case h_1 => exact .refl s
    case h_2 =>
      split
      · exact ((queued _).trans (departed _ _ _)).trans (freeCells_keepsTime _ _ _ _)
      · exact (queued _).trans (departed _ _ _)

theorem pump_keepsTime (s : Sys) (p : Nat) : KeepsTime s (s.pump p) :=
  .ite (.iter (fun u => (KeepsTime.of_send (turnBack_sendOnly u _)).trans (.when _ (sendOne_keepsTime _ p))) _ s) (.refl s)

theorem useMask_keepsTime (s : Sys) (p m : Nat) : KeepsTime s (s.useMask p m) := by
  unfold useMask
  dsimp only
  refine KeepsTime.trans ?_ (pump_keepsTime _ p)
  refine KeepsTime.trans (KeepsTime.trans (.foldl ?_ _ s) (.ite (.foldl ?_ _ _) (.refl _))) (modPort_keepsTime _ _ _)
  · exact fun _ _ => ⟨rfl, rfl⟩
  · exact fun _ _ => ⟨rfl, rfl⟩

theorem emit_keepsTime (s : Sys) (o : Out) : KeepsTime s (s.emit o) := ⟨rfl, rfl⟩

theorem sendMask_keepsTime (s : Sys) (p : Nat) : KeepsTime s (s.sendMask p) := by
  unfold sendMask
  refine .each (fun u l => .iter (fun v => ?_) 4 u) _ s
  exact v.emit_keepsTime _

theorem bothUp_keepsTime (s : Sys) (p : Nat) : KeepsTime s (s.bothUp p) :=
  .ite ((s.modPort_keepsTime p _).trans (useMask_keepsTime _ p 3)) (.refl s)

theorem userStage_keepsTime (s : Sys) (l : Nat) : KeepsTime s (s.userStage l) := by
  unfold userStage
  split
  · exact .ite ⟨rfl, rfl⟩ (.refl s)
  · exact .ite ⟨rfl, rfl⟩ (.refl s)
  · exact .refl s

theorem laneActive_keepsTime (s : Sys) (l : Nat) : KeepsTime s (s.laneActive l) := by
  unfold laneActive
  dsimp only
  refine KeepsTime.trans (KeepsTime.trans (t := s.laneStage l 4) ⟨rfl, rfl⟩ (userStage_keepsTime _ l)) ?_
  generalize (s.laneStage l 4).userStage l = u
  split
  case h_1 => exact ⟨rfl, rfl⟩
  case h_2 p _ =>
    refine .ite (u.modPort_keepsTime p _) (KeepsTime.trans (t := u.wrB (Key.Lane.IN_USE l) false) ⟨rfl, rfl⟩ (.ite ?_ ?_))
    · exact ((modPort_keepsTime _ p _).trans (sendMask_keepsTime _ p)).trans (.ite (useMask_keepsTime _ p 3) (.refl _))
    · exact (modPort_keepsTime _ p _).trans (bothUp_keepsTime _ p)
  case h_3 => exact .refl _

theorem capDone_keepsTime (s : Sys) (l : Nat) : KeepsTime s (s.capDone l) :=
  .ite (.refl s) (.ite (s.laneActive_keepsTime l) (.ite (.refl s) ⟨rfl, rfl⟩))

theorem capTick_keepsTime (s : Sys) : KeepsTime s s.capTick :=
  .each (fun s l => .ite ((s.sendCap_keepsTime l).trans (capDone_keepsTime _ l)) (.refl s)) _ s

/-! ### Clocks, NAP and the store (R61, R432, R457, R464) -/

theorem inc_keepsTime (s : Sys) (k : Nat) : KeepsTime s (s.inc k) := ⟨rfl, rfl⟩

theorem modSmp_keepsTime (s : Sys) (f : Sampler → Sampler) : KeepsTime s (s.modSmp f) := ⟨rfl, rfl⟩

theorem operate_keepsTime (s : Sys) : KeepsTime s s.operate := by
  unfold operate
  exact .ite (s.modSmp_keepsTime _) ((s.modSmp_keepsTime _).trans (inc_keepsTime _ _))

theorem mtimeTick_keepsTime (s : Sys) : KeepsTime s s.mtimeTick := by
  refine ⟨rfl, ?_⟩
  unfold mtimeTick modCore
  dsimp only
  split <;> rfl

theorem napTick_keepsTime (s : Sys) : KeepsTime s s.napTick := by
  unfold napTick
  split
  · exact ⟨rfl, rfl⟩
  · exact .ite ⟨rfl, rfl⟩ ⟨rfl, rfl⟩
  · exact .refl s

theorem modPair_keepsTime (s : Sys) (p : Nat) (f : Pair → Pair) : KeepsTime s (s.modPair p f) := ⟨rfl, rfl⟩

theorem wrBit_keepsTime (s : Sys) (k i : Nat) (b : Bool) : KeepsTime s (s.wrBit k i b) := ⟨rfl, rfl⟩

theorem pairGood_keepsTime (s : Sys) (p : Nat) : KeepsTime s (s.pairGood p) := by
  unfold pairGood
  dsimp only
  refine KeepsTime.trans ?_ (KeepsTime.when _ ?_)
  · exact ((s.modPair_keepsTime p _).trans (wrBit_keepsTime _ _ _ _)).trans (wrBit_keepsTime _ _ _ _)
  · exact ⟨rfl, rfl⟩

theorem defaultPair_keepsTime (s : Sys) (p : Nat) : KeepsTime s (s.defaultPair p 0).1 := by
  have defaults : KeepsTime s (s.pairDefaults p) := ⟨rfl, rfl⟩
  have noFailure : ∀ (u : Sys) f, KeepsTime u (u.when false f) := fun u _ => .refl u
  unfold defaultPair
  rw [if_neg (by simp)]
  simp only [Nat.zero_testBit]
  exact (defaults.trans (modPair_keepsTime _ p _)).trans (noFailure _ _)

theorem storeUnit_keepsTime (s : Sys) (cmd : Nat) : KeepsTime s (s.storeUnit cmd) := by
  have counted : ∀ (u : Sys) (x : Int) (n : Nat), KeepsTime u { u.wrI Key.Store.STORE_PROGRESS x with eng := { u.eng with units := n } } :=
    fun _ _ _ => ⟨rfl, rfl⟩
  unfold storeUnit
  dsimp only
  refine KeepsTime.trans (.ite (s.defaultPair_keepsTime _) (.ite ?_ (.refl s))) (counted _ _ _)
  cases (List.range 16).find? (fun p => s.rdBit Key.StoreFail.FAILED_NOW (2 * p) || s.rdBit Key.StoreFail.FAILED_NOW (2 * p + 1)) with
  | none => exact .refl s
  | some p => exact s.pairGood_keepsTime p

theorem useFree_keepsTime (s : Sys) : KeepsTime s s.useFree := ⟨rfl, rfl⟩

theorem storeTick_keepsTime (s : Sys) : KeepsTime s s.storeTick := by
  unfold storeTick
  split
  · exact .refl s
  · exact .ite (s.useFree_keepsTime.trans (storeUnit_keepsTime _ _)) s.useFree_keepsTime

/-! ### Gates and emission outputs (R127, R148, R258) -/

theorem enableTime_keepsTime (s : Sys) (c : Nat) (en was : Bool) : KeepsTime s (s.enableTime c en was) :=
  .ite ⟨rfl, rfl⟩ (.ite ⟨rfl, rfl⟩ (.refl s))

theorem wr_keepsTime (s : Sys) (k v : Nat) : KeepsTime s (s.wr k v) := ⟨rfl, rfl⟩

theorem wrB_keepsTime (s : Sys) (k : Nat) (b : Bool) : KeepsTime s (s.wrB k b) := ⟨rfl, rfl⟩

theorem modLoop_keepsTime (s : Sys) (c : Nat) (f : Mpl → Mpl) : KeepsTime s (s.modLoop c f) := ⟨rfl, rfl⟩

theorem modPads_keepsTime (s : Sys) (f : Pads → Pads) : KeepsTime s (s.modPads f) := ⟨rfl, rfl⟩

theorem gateAt_keepsTime (s : Sys) (c t : Nat) : KeepsTime s (s.gateAt c t) := by
  unfold gateAt gateEdge
  dsimp only
  refine KeepsTime.trans ?_ (enableTime_keepsTime _ c _ _)
  refine KeepsTime.trans ?_ (modPads_keepsTime _ _)
  refine KeepsTime.trans (KeepsTime.trans ?_ (modLoop_keepsTime _ c _)) (modLoop_keepsTime _ c _)
  refine KeepsTime.trans (KeepsTime.trans ?_ (wrB_keepsTime _ _ _)) (wrB_keepsTime _ _ _)
  exact (s.wr_keepsTime _ _).trans (wrB_keepsTime _ _ _)

theorem pulseStep_keepsTime (s : Sys) (c t : Nat) : KeepsTime s (s.pulseStep c t) := by
  unfold pulseStep
  dsimp only
  refine .ite (.refl s) (.ite (s.modLoop_keepsTime c _) ?_)
  exact ((s.modLoop_keepsTime c _).trans (modLoop_keepsTime _ c _)).trans (wr_keepsTime _ _ _)

theorem gateCycle_keepsTime (s : Sys) (c t : Nat) : KeepsTime s (s.gateCycle c t) :=
  (KeepsTime.when _ (s.pulseStep_keepsTime c t)).trans (gateAt_keepsTime _ c t)

theorem mplOutput_keepsTime (s : Sys) (c : Nat) : KeepsTime s (s.mplOutput c) := by
  unfold mplOutput
  dsimp only
  exact ((s.modLoop_keepsTime c _).trans (wr_keepsTime _ _ _)).trans (wr_keepsTime _ _ _)

theorem mplTick_keepsTime (s : Sys) (c : Nat) : KeepsTime s (s.mplTick c) := by
  unfold mplTick
  dsimp only
  refine KeepsTime.trans ?_ (.when _ (mplOutput_keepsTime _ c))
  exact .ite (.refl s) (.ite ((s.gateCycle_keepsTime c _).trans (gateCycle_keepsTime _ c _)) (s.gateAt_keepsTime c _))

theorem outputTick_keepsTime (s : Sys) : KeepsTime s s.outputTick := .when _ (.each mplTick_keepsTime _ s)

theorem fireLevel_keepsTime (s : Sys) (f : Nat) : KeepsTime s (s.fireLevel f) := by
  have pulsed : ∀ (u : Sys) g, KeepsTime u (u.modFire f g) := fun _ _ => ⟨rfl, rfl⟩
  unfold fireLevel
  dsimp only
  refine .ite (.refl s) (KeepsTime.trans (.when _ ?_) (pulsed _ _))
  exact s.modPads_keepsTime _

theorem clocksTick_keepsTime (s : Sys) : KeepsTime s s.clocksTick := by
  unfold clocksTick
  refine .each (fun u d => ?_) _ s
  exact u.wrBit_keepsTime _ d true

/-! ### Stores on their way to memory (R424, R428) -/

theorem setBytes_keepsTime (s : Sys) (a : Nat) (l : List Nat) : KeepsTime s (s.setBytes a l) := by
  induction l generalizing s a with
  | nil => exact .refl s
  | cons b l ih => exact KeepsTime.trans (t := s.setByte a (BitVec.ofNat 8 b)) ⟨rfl, rfl⟩ (ih _ _)

theorem modCore_keepsTime (s : Sys) {f : CoreUnit → CoreUnit} (h : ∀ c, (f c).held = c.held) : KeepsTime s (s.modCore f) := ⟨rfl, h _⟩

theorem writeBack_keepsTime (s : Sys) (l : CacheLine) : KeepsTime s (s.writeBack l) :=
  .ite ((s.setBytes_keepsTime l.at_ l.data).trans (modCore_keepsTime _ fun _ => rfl)) (.refl s)

theorem evictLine_keepsTime (s : Sys) (h a : Nat) : KeepsTime s (s.evictLine h a) := by
  unfold evictLine
  dsimp only
  refine .ite (.refl s) ?_
  split
  · exact .refl s
  · refine (s.useFree_keepsTime.trans (writeBack_keepsTime _ _)).trans (modCore_keepsTime _ ?_)
    exact fun _ => rfl

theorem fillLine_keepsTime (s : Sys) (h a : Nat) : KeepsTime s (s.fillLine h a) := by
  unfold fillLine
  split
  · exact .refl s
  · exact (s.evictLine_keepsTime h a).trans (modCore_keepsTime _ fun _ => rfl)

theorem storeLine_keepsTime (s : Sys) (h a : Nat) (data : List Nat) : KeepsTime s (s.storeLine h a data) := by
  unfold storeLine
  exact (s.fillLine_keepsTime h a).trans (modCore_keepsTime _ fun _ => rfl)

theorem dramEnter_keepsTime (s : Sys) (m : Nat) (write : Bool) (a n : Nat) (data : List Nat) (bad : Nat) :
    KeepsTime s (s.dramEnter m write a n data bad) := by
  have queued : ∀ (u : Sys) (c : Nat) (f : DramChan → DramChan), KeepsTime u (u.modDch c f) := fun _ _ _ => ⟨rfl, rfl⟩
  unfold dramEnter
  dsimp only
  refine KeepsTime.trans (KeepsTime.trans (.when _ ⟨rfl, rfl⟩) (queued _ _ _)) (.ite ?_ (.refl _))
  exact (setBytes_keepsTime _ _ _).trans ⟨rfl, rfl⟩

theorem dramPost_keepsTime (s : Sys) (m a : Nat) (data : List Nat) (bad : Nat) : KeepsTime s (s.dramPost m a data bad) := by
  unfold dramPost
  dsimp only
  refine .each (fun u _ => ?_) _ s
  exact u.dramEnter_keepsTime ..

theorem busStore_keepsTime (s : Sys) (m a : Nat) (data : List Nat) (bad : Nat) : KeepsTime s (s.busStore m a data bad) := by
  have broken : ∀ u : Sys, KeepsTime u (u.breakSv a data.length) := fun _ => ⟨rfl, rfl⟩
  unfold busStore
  dsimp only
  exact KeepsTime.trans (.when _ (broken s)) (.ite (dramPost_keepsTime ..) (setBytes_keepsTime _ _ _))

theorem drainOne_keepsTime (s : Sys) (h : Nat) : KeepsTime s (s.drainOne h) := by
  unfold drainOne
  split
  case h_1 => exact .refl s
  case h_2 e _ =>
    dsimp only
    refine KeepsTime.trans (t := s.modCore fun c => { c with stores := c.stores.erase e }) (modCore_keepsTime _ fun _ => rfl) ?_
    exact .ite (storeLine_keepsTime _ h _ _) (.ite ⟨rfl, rfl⟩ (busStore_keepsTime ..))

theorem bufferTick_keepsTime (s : Sys) : KeepsTime s s.bufferTick := .each drainOne_keepsTime _ s

/-- With no access held back there is none to let go. -/
theorem heldTick_none {s : Sys} (h : s.core.held = []) (otp : Nat → Nat) : s.heldTick otp = s := by
  simp only [heldTick, h]
  rfl

/-! ### The tick of the timebase (R358, R361, R367) -/

/-- Device time and the accesses held back are as they were. -/
structure KeepsInstant (s t : Sys) : Prop where
  seconds : t.tb.t = s.tb.t
  fraction : t.tb.f = s.tb.f
  held : t.core.held = s.core.held

namespace KeepsInstant

variable {s t u : Sys}

theorem trans (a : KeepsInstant s t) (b : KeepsInstant t u) : KeepsInstant s u := ⟨b.seconds.trans a.seconds, b.fraction.trans a.fraction, b.held.trans a.held⟩

theorem of_time (h : KeepsTime s t) : KeepsInstant s t := ⟨by rw [h.tb], by rw [h.tb], h.held⟩

theorem refl (s : Sys) : KeepsInstant s s := of_time (.refl s)

theorem each {f : Sys → Nat → Sys} (h : ∀ s n, KeepsInstant s (f s n)) (l : List Nat) (s : Sys) : KeepsInstant s (s.each l f) := by
  induction l generalizing s with
  | nil => exact refl s
  | cons x l ih => exact (h s x).trans (ih (f s x))

end KeepsInstant

theorem modTrig_keepsInstant (s : Sys) (n : Nat) (f : Trigger → Trigger) : KeepsInstant s (s.modTrig n f) := ⟨rfl, rfl, rfl⟩

theorem trigTick_keepsInstant (s : Sys) (n : Nat) : KeepsInstant s (s.trigTick n) := s.modTrig_keepsInstant n _

theorem ballsTick_keepsInstant (s : Sys) : KeepsInstant s s.ballsTick := by
  unfold ballsTick
  refine .each (fun u n => ?_) _ s
  dsimp only
  split
  · exact ⟨rfl, rfl, rfl⟩
  · exact u.modTrig_keepsInstant n _

theorem captureStamp_keepsInstant (s : Sys) (n stamp : Nat) : KeepsInstant s (s.captureStamp n stamp) := by
  have raised : ∀ u : Sys, KeepsInstant u (u.raise 52) := fun u => .of_time (.ite (.refl u) ⟨rfl, rfl⟩)
  refine KeepsInstant.trans ?_ (raised _)
  dsimp only
  split
  · exact ⟨rfl, rfl, rfl⟩
  · exact .of_time ⟨rfl, rfl⟩

theorem captureTick_keepsInstant (s : Sys) (n : Nat) : KeepsInstant s (s.captureTick n) := by
  unfold captureTick
  split
  case h_2 => exact .refl s
  case h_1 rising t _ _ =>
    split
    case isFalse => exact .refl s
    case isTrue =>
      refine KeepsInstant.trans (t := s.setEdge n none) ⟨rfl, rfl, rfl⟩ ?_
      cases s.edgeKind n rising
      · exact .refl _
      · exact captureStamp_keepsInstant _ n t

/-- With no TIME_STEP pending there is none to apply. -/
theorem applyStep_none {s : Sys} (h : s.tb.step = none) : s.applyStep = s := by simp only [applyStep, h]

theorem adjExpired_keepsTime (s : Sys) : KeepsTime s s.adjExpired := .ite (s.wrBit_keepsTime _ _ _) (.refl s)

/-- A timebase that does not run does not tick. -/
theorem tickTime_stopped {s : Sys} (h : s.timeRuns = false) : s.tickTime = s := if_pos (by rw [h]; rfl)

/-- The block with its device time set. -/
def timeAt (s : Sys) (x increment : Nat) : Sys := { s with tb := { s.tb with t := x / 2 ^ 32, f := x % 2 ^ 32, last := increment } }

theorem timeAt_seconds (s : Sys) (x i : Nat) : (s.timeAt x i).tb.t = x / 2 ^ 32 := rfl

theorem timeAt_fraction (s : Sys) (x i : Nat) : (s.timeAt x i).tb.f = x % 2 ^ 32 := rfl

theorem timeAt_held (s : Sys) (x i : Nat) : (s.timeAt x i).core.held = s.core.held := rfl

theorem timeAt_step (s : Sys) (x i : Nat) : (s.timeAt x i).tb.step = s.tb.step := rfl

/-- What the timebase does when it has reached a tick: it counts down ADJ_TICKS, applies a TIME_STEP, and looks at triggers, balls and captures. -/
def timeReached (u : Sys) (adj : Nat) : Sys :=
  ((((u.wr Key.Inc.ADJ_TICKS (adj - 1)).when (decide (adj = 1)) adjExpired).applyStep).each (List.range 32) trigTick).ballsTick.each (List.range 32)
    captureTick

theorem tickTime_eq {s : Sys} (hr : s.timeRuns = true) :
    s.tickTime = (s.timeAt s.nextTick s.increment).timeReached (s.rd Key.Inc.ADJ_TICKS) := if_neg (by simp [hr])

theorem timeReached_keepsInstant {u : Sys} (hs : u.tb.step = none) (adj : Nat) : KeepsInstant u (u.timeReached adj) := by
  have counted := (u.wr_keepsTime Key.Inc.ADJ_TICKS (adj - 1)).trans (.when (decide (adj = 1)) (adjExpired_keepsTime _))
  have triggered := (KeepsInstant.of_time counted).trans (.each trigTick_keepsInstant (List.range 32) _)
  unfold timeReached
  rw [applyStep_none (by rw [counted.tb, hs])]
  exact (triggered.trans (ballsTick_keepsInstant _)).trans (.each captureTick_keepsInstant (List.range 32) _)

/-- A timebase that runs reaches the next tick, and what its triggers and captures do keeps that instant. -/
theorem tickTime_runs {s : Sys} (hr : s.timeRuns = true) (hs : s.tb.step = none) :
    s.tickTime.tb.t = s.nextTick / 2 ^ 32 ∧ s.tickTime.tb.f = s.nextTick % 2 ^ 32 ∧ s.tickTime.core.held = s.core.held := by
  have reached := timeReached_keepsInstant (u := s.timeAt s.nextTick s.increment) ((timeAt_step _ _ _).trans hs) (s.rd Key.Inc.ADJ_TICKS)
  rw [tickTime_eq hr]
  exact ⟨reached.seconds.trans (timeAt_seconds _ _ _), reached.fraction.trans (timeAt_fraction _ _ _), reached.held.trans (timeAt_held _ _ _)⟩

/-! ### An idle tick (R358) -/

theorem modSmp_rd (s : Sys) (f : Sampler → Sampler) (k : Nat) : (s.modSmp f).rd k = s.rd k := rfl

theorem operate_rd (s : Sys) {k : Nat} (hk : k ≠ Key.OpHours.OPERATING_HOURS) : s.operate.rd k = s.rd k := by
  unfold operate
  split
  · exact modSmp_rd _ _ _
  · rw [rd_inc, if_neg hk, modSmp_rd]

/-- What comes before the timebase in an idle tick: the clock and the hours of operation. -/
theorem clocked_operated_rd (s : Sys) {k : Nat} (hk : k ≠ Key.OpHours.OPERATING_HOURS) : s.clockTick.operate.rd k = s.rd k :=
  s.clockTick.operate_rd hk

theorem clockTick_keepsTime (s : Sys) : KeepsTime s s.clockTick := ⟨rfl, rfl⟩

theorem clocked_operated_keepsTime (s : Sys) : KeepsTime s s.clockTick.operate := s.clockTick_keepsTime.trans (operate_keepsTime _)

theorem clocked_operated_timeRuns (s : Sys) : s.clockTick.operate.timeRuns = s.timeRuns := by
  simp only [timeRuns, rdBit, s.clocked_operated_rd (k := Key.TimeSt.TIME_STATUS) (by decide)]

theorem clocked_operated_nextTick (s : Sys) : s.clockTick.operate.nextTick = s.nextTick := by
  simp only [nextTick, increment, rdB, s.clocked_operated_keepsTime.tb, s.clocked_operated_rd (k := Key.Inc.ADJ_TICKS) (by decide),
    s.clocked_operated_rd (k := Key.Inc.ADJ_INCREMENT) (by decide), s.clocked_operated_rd (k := Key.Inc.INCREMENT) (by decide)]
  rfl

/-- The stages of an idle tick after the timebase. -/
def afterTime (otp : Nat → Nat) (u : Sys) : Sys :=
  ((((u.resyncTick.capTick.mtimeTick.napTick.storeTick.outputTick).each (List.range 16) fireLevel).clocksTick).heldTick otp).bufferTick

theorem idleTick_powered {s : Sys} (hp : s.powered = true) (otp : Nat → Nat) :
    s.idleTick otp = (s.clockTick.operate.when (s.domainOn 6) tickTime).afterTime otp := if_neg (by simp [hp])

/-- With no access held back they keep the timebase. -/
theorem afterTime_tb {u : Sys} (h : u.core.held = []) (otp : Nat → Nat) : (u.afterTime otp).tb = u.tb := by
  have lanes := u.resyncTick_keepsTime.trans (capTick_keepsTime _)
  have store := (lanes.trans (mtimeTick_keepsTime _)).trans ((napTick_keepsTime _).trans (storeTick_keepsTime _))
  have outputs := store.trans ((outputTick_keepsTime _).trans (.each fireLevel_keepsTime (List.range 16) _))
  have clocks := outputs.trans (clocksTick_keepsTime _)
  unfold afterTime
  rw [heldTick_none (clocks.held.trans h)]
  exact (clocks.trans (bufferTick_keepsTime _)).tb

/-- With its block powered and running, device time gains the increment in force. -/
theorem idleTick_gains (otp : Nat → Nat) {s : Sys} (hp : s.powered = true) (hd : s.domainOn 6 = true) (hr : s.timeRuns = true)
    (hs : s.tb.step = none) (hh : s.core.held = []) :
    (s.idleTick otp).tb.t = s.nextTick / 2 ^ 32 ∧ (s.idleTick otp).tb.f = s.nextTick % 2 ^ 32 := by
  have before := s.clocked_operated_keepsTime
  obtain ⟨ht, hf, hheld⟩ := tickTime_runs (s := s.clockTick.operate) (s.clocked_operated_timeRuns.trans hr) (by rw [before.tb]; exact hs)
  rw [clocked_operated_nextTick] at ht hf
  have kept := afterTime_tb (hheld.trans (before.held.trans hh)) otp
  have ticks : s.clockTick.operate.when (s.domainOn 6) tickTime = s.clockTick.operate.tickTime := if_pos hd
  rw [idleTick_powered hp, ticks, kept]
  exact ⟨ht, hf⟩

/-- With its domain gated or the timebase stopped, device time holds. -/
theorem idleTick_holds (otp : Nat → Nat) {s : Sys} (h : s.domainOn 6 = false ∨ s.timeRuns = false) (hh : s.core.held = []) :
    (s.idleTick otp).tb = s.tb := by
  have before := s.clocked_operated_keepsTime
  cases hp : s.powered with
  | false => exact congrArg Sys.tb (if_pos (by rw [hp]; rfl))
  | true =>
    have still : s.clockTick.operate.when (s.domainOn 6) tickTime = s.clockTick.operate := by
      cases hd : s.domainOn 6 with
      | false => rfl
      | true => exact tickTime_stopped (s.clocked_operated_timeRuns.trans (h.resolve_left (by simp [hd])))
    rw [idleTick_powered hp, still, afterTime_tb (before.held.trans hh), before.tb]

end Sys

/-- Settles O30: the tick of an empty queue is that of the idle block, which without power arms the wake logic alone; every stage of it but the
timebase's own keeps device time. -/
theorem idleTickAddsTheIncrement : Obligations.IdleTickAddsTheIncrement := by
  unfold Obligations.IdleTickAddsTheIncrement
  refine ⟨fun s hp => ?_, fun s hp => ?_, fun s h => ?_, fun otp s hp hd hr hs hh => ?_, fun otp s h hh => Sys.idleTick_holds otp h hh⟩
  · exact if_pos hp
  · have unpowered : step { s with pending := [] } = onUnit Sys.aonTick { s with pending := [] } := if_neg (by simp [hp])
    rw [unpowered, onUnit_eq]
  · exact if_neg h
  · obtain ⟨ht, hf⟩ := Sys.idleTick_gains otp hp hd hr hs hh
    rw [ht, hf]
    exact ⟨Nat.div_add_mod' _ _, Nat.mod_lt _ (by decide)⟩

end Sys2Proof.Machine
end

section
/-! PROOFS. The faults of the DRAM whose reaction is fixed (R490): another reaction is refused, and a report that is set stays in the entry through all
that the accepted write brings about. That can be much: a copy that fails raises STORE_COPY, and where the reaction to it is a freeze the unit enters
FAULT; but nothing there writes the entries of reactions. -/

namespace Sys2Proof.Machine

open Sys2Proof

/-! ### Changes that keep the reactions -/

/-- The reactions and reports of the faults read as they did. -/
structure KeepsReactions (s t : Sys) : Prop where
  entries : ∀ code < 256, t.rdW (Key.React.REACTION code) = s.rdW (Key.React.REACTION code)

namespace KeepsReactions

variable {s t u : Sys}

theorem of_od (h : t.od = s.od) : KeepsReactions s t := ⟨fun _ _ => by simp only [Sys.rdW, h]⟩

theorem refl (s : Sys) : KeepsReactions s s := of_od rfl

theorem trans (a : KeepsReactions s t) (b : KeepsReactions t u) : KeepsReactions s u :=
  ⟨fun c hc => (b.entries c hc).trans (a.entries c hc)⟩

theorem wrW (s : Sys) (k : Nat) (w : Word) (h : k / 256 ≠ 0x510) : KeepsReactions s (s.wrW k w) := by
  refine ⟨fun c hc => (Sys.rdW_wrW s k _ w).trans (if_neg fun e => h ?_)⟩
  rw [← e, Key.React.REACTION]
  omega

theorem wr (s : Sys) (k v : Nat) (h : k / 256 ≠ 0x510) : KeepsReactions s (s.wr k v) := wrW s k _ h

/-- The entries of an index above 0510 are none of them. -/
theorem wrAbove (s : Sys) (i sub v : Nat) (h : 0x511 ≤ i) : KeepsReactions s (s.wr (i * 256 + sub) v) := wr s _ v (by omega)

theorem incAbove (s : Sys) (i sub : Nat) (h : 0x511 ≤ i) : KeepsReactions s (s.inc (i * 256 + sub)) := wrAbove s i sub _ h

theorem inc (s : Sys) (k : Nat) (h : k / 256 ≠ 0x510) : KeepsReactions s (s.inc k) := wrW s k _ h

theorem ite {c : Prop} [Decidable c] (a : KeepsReactions s t) (b : KeepsReactions s u) : KeepsReactions s (if c then t else u) := by
  split
  · exact a
  · exact b

theorem when (b : Bool) {f : Sys → Sys} (h : KeepsReactions s (f s)) : KeepsReactions s (s.when b f) := by
  cases b
  · exact refl s
  · exact h

theorem foldl {α : Type} {f : Sys → α → Sys} (h : ∀ s x, KeepsReactions s (f s x)) (l : List α) (s : Sys) : KeepsReactions s (l.foldl f s) := by
  induction l generalizing s with
  | nil => exact refl s
  | cons x l ih => exact (h s x).trans (ih (f s x))

theorem each {f : Sys → Nat → Sys} (h : ∀ s n, KeepsReactions s (f s n)) (l : List Nat) (s : Sys) : KeepsReactions s (s.each l f) := foldl h l s

/-- No counter of sent frames is a reaction. -/
theorem of_answered (h : Answered s t) : KeepsReactions s t := by
  have apart : ∀ k ∈ sendKeys, k / 256 ≠ 0x510 := by decide
  refine ⟨fun c hc => h.entries _ fun m => apart _ m ?_⟩
  rw [Key.React.REACTION]
  omega

theorem of_send (h : SendOnly s t) : KeepsReactions s t := of_answered (.of_send h)

end KeepsReactions

namespace Sys

/-! ### What an occurrence of a fault brings about, short of FAULT (R486 to R494) -/

theorem raise_keepsReactions (s : Sys) (n : Nat) : KeepsReactions s (s.raise n) := .ite (.refl s) (.of_od rfl)

theorem captureStamp_keepsReactions (s : Sys) (n stamp : Nat) : KeepsReactions s (s.captureStamp n stamp) := by
  have taken : KeepsReactions s (s.captureTaken n stamp) := by
    refine ⟨fun c hc => (captureTaken_holds s n stamp).entries _ ?_⟩
    simp only [Key.React.REACTION, Key.Cap.LAST_TIME, Key.Cap.COUNT, Key.Cap.LOST, List.mem_cons, List.not_mem_nil, or_false]
    omega
  exact taken.trans (raise_keepsReactions _ 52)

theorem captureSource_keepsReactions (s : Sys) (src stamp : Nat) : KeepsReactions s (s.captureSource src stamp) :=
  .ite (.each (fun u n => .when _ (u.captureStamp_keepsReactions n stamp)) _ s) (.refl s)

theorem setChState_keepsReactions (s : Sys) (c st : Nat) : KeepsReactions s (s.setChState c st) :=
  (KeepsReactions.wrAbove s (0x1000 + 0x100 * c) 2 st (by omega)).trans (.when _ (raise_keepsReactions _ _))

theorem setChCause_keepsReactions (s : Sys) (c cause : Nat) : KeepsReactions s (s.setChCause c cause) :=
  (KeepsReactions.wrAbove s (0x1000 + 0x100 * c) _ cause (by omega)).trans (.wrAbove _ (0x1000 + 0x100 * c) _ _ (by omega))

theorem safeStop_keepsReactions (s : Sys) (c cause : Nat) : KeepsReactions s (s.safeStop c cause) :=
  .ite (((s.setChState_keepsReactions c 4).trans (setChCause_keepsReactions _ c cause)).trans (.of_od rfl)) (.refl s)

theorem chFault_keepsReactions (s : Sys) (c : Nat) : KeepsReactions s (s.chFault c) :=
  .ite (s.setChCause_keepsReactions c 17) (s.safeStop_keepsReactions c 17)

theorem setGrpState_keepsReactions (s : Sys) (g st : Nat) : KeepsReactions s (s.setGrpState g st) :=
  .ite (.refl s) ((KeepsReactions.wrAbove s (0x3100 + 0x40 * g) _ st (by omega)).trans (raise_keepsReactions _ _))

theorem setGrpCause_keepsReactions (s : Sys) (g cause : Nat) : KeepsReactions s (s.setGrpCause g cause) :=
  (KeepsReactions.wrAbove s (0x3100 + 0x40 * g) _ cause (by omega)).trans (.wrAbove _ (0x3100 + 0x40 * g) _ _ (by omega))

theorem modGroup_keepsReactions (s : Sys) (g : Nat) (f : Group → Group) : KeepsReactions s (s.modGroup g f) := .of_od rfl

theorem grpStop_keepsReactions (s : Sys) (g cause : Nat) : KeepsReactions s (s.grpStop g cause) := by
  have stopped := (s.setGrpState_keepsReactions g 6).trans (setGrpCause_keepsReactions _ g cause)
  have named := s.setGrpCause_keepsReactions g cause
  unfold grpStop
  exact .ite stopped (.ite (stopped.trans (modGroup_keepsReactions _ g _)) (.ite (.ite stopped (named.trans (modGroup_keepsReactions _ g _))) (.refl s)))

theorem axCause_keepsReactions (s : Sys) (a : Nat) (emergency : Bool) (cause : Nat) : KeepsReactions s (s.axCause a emergency cause) := .of_od rfl

theorem collectOf_keepsReactions (s : Sys) (code : Nat) (b : Bool) (l : List Nat) : KeepsReactions s (s.collectOf code b l) :=
  .ite (.refl s) (.of_od rfl)

theorem collect_keepsReactions (s : Sys) (code : Nat) (channels heads : List Nat) : KeepsReactions s (s.collect code channels heads) :=
  (s.collectOf_keepsReactions code false channels).trans (collectOf_keepsReactions _ code true heads)

theorem takeoverOf_keepsReactions (s : Sys) (code kind inst : Nat) : KeepsReactions s (s.takeoverOf code kind inst) := by
  unfold takeoverOf
  refine .ite (s.collect_keepsReactions ..) (.ite ?_ ?_)
  · split
    · exact s.collect_keepsReactions ..
    · exact .refl s
  · split
    · exact s.collect_keepsReactions ..
    · exact .refl s

theorem axesStop_keepsReactions (s : Sys) (l : List Nat) (b : Sys → Nat → Bool) (cause : Nat) :
    KeepsReactions s (s.each l fun u a => u.when (b u a) fun u => u.axCause a false cause) :=
  .each (fun u a => .when _ (u.axCause_keepsReactions a false cause)) l s

theorem groupsStop_keepsReactions (s : Sys) (l : List Nat) (b : Sys → Nat → Bool) (cause : Nat) :
    KeepsReactions s (s.each l fun u g => u.when (b u g) fun u => u.grpStop g cause) :=
  .each (fun u g => .when _ (u.grpStop_keepsReactions g cause)) l s

theorem safeStopInstance_keepsReactions (s : Sys) (code kind inst : Nat) : KeepsReactions s (s.safeStopInstance code kind inst) := by
  unfold safeStopInstance
  split
  · exact s.safeStop_keepsReactions ..
  · refine .ite (s.safeStop_keepsReactions ..) ?_
    split
    · exact s.axCause_keepsReactions ..
    · exact .refl s
  · exact s.grpStop_keepsReactions ..
  · exact s.grpStop_keepsReactions ..
  · exact s.axCause_keepsReactions ..
  · exact s.groupsStop_keepsReactions _ _ _
  · exact s.axesStop_keepsReactions _ _ _
  · exact s.groupsStop_keepsReactions _ _ _
  · exact ((KeepsReactions.each (fun u c => u.safeStop_keepsReactions c 17) _ s).trans (.each (fun u g => u.grpStop_keepsReactions g 8) _ _)).trans
      (axesStop_keepsReactions _ _ _ _)

theorem report_keepsReactions (s : Sys) (code t : Nat) : KeepsReactions s (s.report code t) := by
  unfold report sendAlarm
  dsimp only
  refine KeepsReactions.trans ?_ (.of_send (originate_sendOnly ..))
  exact .of_od rfl

theorem reportOrMerge_keepsReactions (s : Sys) (code t : Nat) : KeepsReactions s (s.reportOrMerge code t) := by
  unfold reportOrMerge
  split
  · exact s.report_keepsReactions code t
  · exact .ite (s.report_keepsReactions code t) (.of_od rfl)

theorem logFault_keepsReactions (s : Sys) (code kind inst react : Nat) (r : Bool) (t : Nat) :
    KeepsReactions s (s.logFault code kind inst react r t) := by
  unfold logFault
  exact .ite (.of_od rfl) (.ite (.inc s _ (by decide)) (.of_od rfl))

/-- The counters of occurrences, 0502, lie below the reactions. -/
theorem occur_keepsReactions (s : Sys) {code : Nat} (hc : code < 256) (kind inst t : Nat) : KeepsReactions s (s.occur code kind inst t) := by
  have counted : KeepsReactions s ((s.inc (Key.FCount.COUNT code)).inc Key.Gath.RECORDED) :=
    (KeepsReactions.inc s _ (by show (0x502 * 256 + code) / 256 ≠ _; omega)).trans (.inc _ _ (by decide))
  unfold occur
  dsimp only
  refine KeepsReactions.trans (counted.trans (.when _ (.of_od rfl))) (.ite (takeoverOf_keepsReactions ..) ?_)
  refine KeepsReactions.trans ?_ (takeoverOf_keepsReactions ..)
  refine KeepsReactions.trans ?_ (.when _ (reportOrMerge_keepsReactions ..))
  refine KeepsReactions.trans ?_ (.when _ (safeStopInstance_keepsReactions ..))
  refine KeepsReactions.trans ?_ (.when _ ((raise_keepsReactions _ 61).trans (.of_od rfl)))
  refine KeepsReactions.trans ?_ (captureSource_keepsReactions ..)
  exact (logFault_keepsReactions ..).trans (.of_od rfl)

/-! ### Records of updates that a fault halts (R226, R243) -/

theorem setBytes_keepsReactions (s : Sys) (a : Nat) (l : List Nat) : KeepsReactions s (s.setBytes a l) := by
  obtain ⟨m, h⟩ := setBytes_eq s a l
  exact .of_od (by rw [h])

theorem dramEnter_keepsReactions (s : Sys) (m : Nat) (write : Bool) (a n : Nat) (data : List Nat) (bad : Nat) :
    KeepsReactions s (s.dramEnter m write a n data bad) := by
  have queued : ∀ (u : Sys) (c : Nat) (f : DramChan → DramChan), KeepsReactions u (u.modDch c f) := fun _ _ _ => .of_od rfl
  have stored : ∀ (u : Sys) (l : List Nat), KeepsReactions u (u.setBad a n l) := fun _ _ => .of_od rfl
  unfold dramEnter
  dsimp only
  refine KeepsReactions.trans (KeepsReactions.trans (.when _ (.inc s _ (by decide))) (queued _ _ _)) (.ite ?_ (.refl _))
  exact (setBytes_keepsReactions ..).trans (stored _ _)

theorem busStore_keepsReactions (s : Sys) (m a : Nat) (data : List Nat) (bad : Nat) : KeepsReactions s (s.busStore m a data bad) := by
  have broken : ∀ u : Sys, KeepsReactions u (u.breakSv a data.length) := fun _ => .of_od rfl
  unfold busStore dramPost
  dsimp only
  refine KeepsReactions.trans (.when _ (broken s)) (.ite ?_ (setBytes_keepsReactions ..))
  refine .each (fun u _ => ?_) _ _
  exact u.dramEnter_keepsReactions ..

theorem captureAt_keepsReactions (s : Sys) (addr master : Nat) : KeepsReactions s (s.captureAt addr master) := by
  have named := (KeepsReactions.wr s Key.Gath.ERR_ADDR addr (by decide)).trans (.wr _ Key.Gath.ERR_MASTER master (by decide))
  unfold captureAt
  exact .ite (.refl s) (named.trans (.of_od rfl))

theorem noteRefusal_keepsReactions (s : Sys) (m : Nat) (machine : Bool) (r : Nat × Nat) : KeepsReactions s (s.noteRefusal m machine r) := by
  have denied := ((KeepsReactions.inc s Key.Prot.FW_DENIALS (by decide)).trans (.wr _ Key.Prot.FW_LAST_ADDR r.2 (by decide))).trans
    ((KeepsReactions.wr _ Key.Prot.FW_LAST_MASTER m (by decide)).trans (.wr _ Key.Prot.FW_LAST_CLASS (2 ^ s.wallClass m machine) (by decide)))
  unfold noteRefusal
  refine .ite ?_ (s.captureAt_keepsReactions ..)
  dsimp only
  split
  · rename_i w hw
    have := wall_lt hw
    exact denied.trans (.inc _ _ (by rw [Key.Wall.DENIALS]; omega))
  · exact denied

/-- The fabric refuses as a denied access or as a bus error. -/
theorem refusal_code {s : Sys} {m : Nat} {machine write : Bool} {addr len : Nat} {r : Nat × Nat} (h : s.refusal m machine write addr len = some r) :
    r.1 < 256 := by
  unfold refusal at h
  dsimp only at h
  split at h
  · cases h
    exact (by decide : 0x69 < 256)
  · split at h
    · cases h
      exact (by decide : 0x6A < 256)
    · cases h

theorem logCheck_keepsReactions (s : Sys) (a len : Nat) : KeepsReactions s (s.logCheck a len).1 := by
  unfold logCheck
  split
  · rename_i r hr
    exact (s.noteRefusal_keepsReactions ..).trans (occur_keepsReactions _ (refusal_code hr) ..)
  · exact .refl s

theorem calLog_keepsReactions (s : Sys) (rec : List Nat) : KeepsReactions s (s.calLog rec) := by
  unfold calLog ringPut
  refine KeepsReactions.trans (.ite (.refl s) ?_) (raise_keepsReactions _ 30)
  dsimp only
  refine .ite (.inc s _ (by decide)) ((s.logCheck_keepsReactions _ _).trans (.ite ?_ (.inc _ _ (by decide))))
  exact (busStore_keepsReactions ..).trans (.wr _ _ _ (by decide))

theorem updKey_index (u sub : Nat) (hs : sub < 256) : updKey u sub / 256 ≠ 0x510 := by
  unfold updKey
  split <;> omega

theorem haltUpdateCore_keepsReactions (s : Sys) (u cause status : Nat) : KeepsReactions s (s.haltUpdateCore u cause status) := by
  have halted := (KeepsReactions.wr s _ 4 (updKey_index u 0x0A (by decide))).trans (.wr _ _ cause (updKey_index u 0x0C (by decide)))
  unfold haltUpdateCore swapRecord
  dsimp only
  exact (halted.trans (calLog_keepsReactions _ _)).trans (occur_keepsReactions _ (by decide) ..)

theorem calDeviceState_keepsReactions (s : Sys) : KeepsReactions s s.calDeviceState := by
  have halted : ∀ (u : Sys) (b : Bool) (n : Nat), KeepsReactions u (u.when b fun u => u.haltUpdateCore n 5 6) := fun u b n =>
    .when b (u.haltUpdateCore_keepsReactions n 5 6)
  unfold calDeviceState
  exact .each (fun u n => halted u _ n) _ s

/-! ### Entering FAULT (R56, R59) -/

theorem testOver_keepsReactions (s : Sys) (l : Nat) : KeepsReactions s (s.testOver l) := by
  have staged : ∀ u : Sys, KeepsReactions u (u.laneStage l 0) := fun u =>
    ((KeepsReactions.wrAbove u (0xC00 + 8 * l) _ 0 (by omega)).trans (.wrAbove _ (0xC00 + 8 * l) _ _ (by omega))).trans (.of_od rfl)
  exact ((KeepsReactions.wrAbove s (0xC03 + 8 * l) _ _ (by omega)).trans (staged _)).trans (.wrAbove _ (0xC03 + 8 * l) _ _ (by omega))

theorem loseRow_keepsReactions (s : Sys) (w : Nat) : KeepsReactions s (s.loseRow w) := by
  have byte : ∀ (u : Sys) a b, KeepsReactions u (u.setByte a b) := fun _ _ _ => .of_od rfl
  have lost : ∀ (u : Sys) (a n : Nat), KeepsReactions u (u.loseBytes a n) := fun u a n => by
    unfold loseBytes
    exact .each (fun v i => byte v _ _) _ u
  have used : ∀ u : Sys, KeepsReactions u u.useFree := fun _ => .of_od rfl
  exact (KeepsReactions.each (fun u _ => lost u _ _) _ s).trans (used _)

theorem cancelService_keepsReactions (s : Sys) : KeepsReactions s s.cancelService := by
  have cancelled : KeepsReactions s ({ s with smp := { s.smp with clearing := false } } : Sys).pprCancel := by
    unfold pprCancel
    split
    · refine KeepsReactions.trans ?_ (.wr _ _ _ (by decide))
      refine KeepsReactions.trans ?_ (loseRow_keepsReactions _ _)
      exact .of_od rfl
    · exact .of_od rfl
  have ended : ∀ u : Sys, KeepsReactions u { u.wr Key.Store.STORE_RESULT 0x0805 with eng := { u.eng with command := none } } := fun u =>
    (KeepsReactions.wr u Key.Store.STORE_RESULT 0x0805 (by decide)).trans (.of_od rfl)
  unfold cancelService
  dsimp only
  exact .ite (cancelled.trans ((ended _).trans (raise_keepsReactions _ 63))) cancelled

theorem modLoop_keepsReactions (s : Sys) (c : Nat) (f : Mpl → Mpl) : KeepsReactions s (s.modLoop c f) := .of_od rfl

theorem modPads_keepsReactions (s : Sys) (f : Pads → Pads) : KeepsReactions s (s.modPads f) := .of_od rfl

theorem refreshGate_keepsReactions (s : Sys) (c : Nat) : KeepsReactions s (s.refreshGate c) := by
  have timed : ∀ (u : Sys) en was, KeepsReactions u (u.enableTime c en was) := fun u _ _ => .ite (.of_od rfl) (.ite (.of_od rfl) (.refl u))
  unfold refreshGate gateAt gateEdge
  dsimp only
  refine KeepsReactions.trans ?_ (timed _ _ _)
  refine KeepsReactions.trans ?_ (modPads_keepsReactions _ _)
  refine KeepsReactions.trans (KeepsReactions.trans ?_ (modLoop_keepsReactions _ c _)) (modLoop_keepsReactions _ c _)
  refine KeepsReactions.trans (KeepsReactions.trans ?_ (.wrAbove _ _ _ _ ?_)) (.wrAbove _ _ _ _ ?_)
  · exact (KeepsReactions.wrAbove s _ _ _ (by omega)).trans (.wrAbove _ _ _ _ (by omega))
  · omega
  · omega

theorem refresh_keepsReactions (s : Sys) : KeepsReactions s s.refresh := by
  have interlocked : ∀ u : Sys, KeepsReactions u u.refreshIlk := fun u => .ite (.refl u) (u.modPads_keepsReactions _)
  have floated : ∀ u : Sys, KeepsReactions u u.floatAnalog := fun u => u.modPads_keepsReactions _
  have judged := ((KeepsReactions.each refreshGate_keepsReactions (List.range 16) s).trans (interlocked _)).trans (floated _)
  exact .ite judged (judged.trans (modPads_keepsReactions _ _))

theorem slotLeave_keepsReactions (s : Sys) (n : Nat) : KeepsReactions s (s.slotLeave n) := by
  have leaves : ∀ f, KeepsReactions s (s.modSlot n f) := fun _ => .of_od rfl
  exact .ite (leaves _) (.refl s)

theorem faultEffects_keepsReactions (s : Sys) (code : Nat) : KeepsReactions s (s.faultEffects code) := by
  unfold faultEffects
  dsimp only
  refine KeepsReactions.trans ?_ (refresh_keepsReactions _)
  refine KeepsReactions.trans ?_ (.each testOver_keepsReactions _ _)
  refine KeepsReactions.trans ?_ (calDeviceState_keepsReactions _)
  refine KeepsReactions.trans ?_ (collect_keepsReactions ..)
  refine KeepsReactions.trans ?_ (axesStop_keepsReactions ..)
  refine KeepsReactions.trans ?_ (.each slotLeave_keepsReactions _ _)
  exact (KeepsReactions.each chFault_keepsReactions _ s).trans (.each (fun u g => u.grpStop_keepsReactions g 8) _ _)

theorem setCause_keepsReactions (s : Sys) (cause detail from_ to_ requester : Nat) : KeepsReactions s (s.setCause cause detail from_ to_ requester) :=
  (((KeepsReactions.wr s _ _ (by decide)).trans (.wr _ _ _ (by decide))).trans ((KeepsReactions.wr _ _ _ (by decide)).trans (.wr _ _ _ (by decide)))).trans
    ((KeepsReactions.wr _ _ _ (by decide)).trans (.wr _ _ _ (by decide)))

theorem enterFault_keepsReactions (s : Sys) (code t : Nat) : KeepsReactions s (s.enterFault code t) := by
  have frozen : ∀ u : Sys, KeepsReactions u { u with dev := .fault, pendState := none, smp := { u.smp with entries := u.smp.entries + 1 } } :=
    fun _ => .of_od rfl
  unfold enterFault
  split
  · exact .of_od rfl
  · exact .refl s
  · dsimp only
    refine KeepsReactions.trans ?_ (faultEffects_keepsReactions _ code)
    refine KeepsReactions.trans ?_ (captureSource_keepsReactions ..)
    refine KeepsReactions.trans ?_ (.wr _ _ _ (by decide))
    exact (KeepsReactions.trans (.when _ s.cancelService_keepsReactions) (setCause_keepsReactions ..)).trans (frozen _)

theorem faultNow_keepsReactions (s : Sys) {code : Nat} (hc : code < 256) (kind inst : Nat) : KeepsReactions s (s.faultNow code kind inst) := by
  have recorded := s.occur_keepsReactions hc kind inst s.now
  exact .ite (recorded.trans (enterFault_keepsReactions ..)) recorded

/-! ### The store and the answer (R61, R92) -/

theorem markCopy_keepsReactions (s : Sys) (p : Nat) (b : Bool) : KeepsReactions s (s.markCopy p b) := by
  have failed := (KeepsReactions.wr s Key.StoreFail.FAILED_NOW (putBit (s.rd Key.StoreFail.FAILED_NOW) (2 * p + b2n b) true) (by decide)).trans
    (.wr _ Key.Restore.ACK_REQUIRED (b2n true) (by decide))
  unfold markCopy
  dsimp only
  refine KeepsReactions.trans ?_ (faultNow_keepsReactions _ (by decide) 0 0)
  exact failed.trans (.of_od rfl)

theorem counted_keepsReactions (s : Sys) (acc : Access) (p : Nat) (cells : List (Nat × Word)) : KeepsReactions s (s.counted acc p cells) := by
  have stored : KeepsReactions s (s.storeWrite p cells) := .of_od rfl
  exact stored.trans (.when _ (markCopy_keepsReactions _ p true))

theorem refuseWindow_keepsReactions (s : Sys) (m : Master) (q : WaitReq) {code : Nat} (hc : code ≠ 0x0807) : KeepsReactions s (s.refuseWindow m q code) := by
  have emitted : ∀ (u : Sys) o, KeepsReactions u (u.emit o) := fun _ _ => .of_od rfl
  unfold refuseWindow
  simp only [decide_eq_false hc]
  refine KeepsReactions.trans ?_ (.ite (.refl _) (emitted _ _))
  cases m with
  | sv => exact ((KeepsReactions.wr s Key.WinAbort.ABORT_SV _ (by decide)).trans (emitted _ _)).trans (emitted _ _)
  | ap h =>
    have := h.isLt
    exact ((KeepsReactions.wr s (Key.WinAbort.ABORT_AP h) _ (by rw [Key.WinAbort.ABORT_AP]; omega)).trans (emitted _ _)).trans (emitted _ _)
  | dma c => exact (KeepsReactions.wr s Key.WinAbort.ABORT_DMA _ (by decide)).trans (emitted _ _)

theorem respond_done_keepsReactions (s : Sys) (q : WaitReq) {code : Nat} (hc : code ≠ 0x0807) : KeepsReactions s (s.respond q (.done code)) := by
  have dropped : ∀ m, KeepsReactions s (s.dropSnap m) := fun _ => .of_od rfl
  unfold respond
  cases q.acc.who with
  | chain tag => exact .of_answered (answer_answered ..)
  | window m machine => exact (dropped m).trans (.ite (.refl _) (refuseWindow_keepsReactions _ m q hc))

theorem flushRequests_keepsReactions (s : Sys) : KeepsReactions s s.flushRequests := by
  unfold flushRequests
  dsimp only
  refine KeepsReactions.trans (KeepsReactions.trans ?_ (.foldl (fun u q => u.respond_done_keepsReactions q (by decide)) s.eng.waits _))
    (.foldl (fun u r => .of_answered (answer_answered ..)) s.chain.svcq _)
  exact .of_od rfl

theorem answered_keepsReactions (s : Sys) (acc : Access) (k v : Nat) : KeepsReactions s (s.answered acc k v) := by
  have responded := s.respond_done_keepsReactions (writeReq acc k v) (code := 0) (by decide)
  exact .ite (responded.trans (flushRequests_keepsReactions _)) responded

/-! ### Writes of the fixed reactions (R490) -/

/-- The four codes of the DRAM whose reaction is fixed. -/
theorem fixedFreeze_iff {code : Nat} : fixedFreeze code = true ↔ code = 0x58 ∨ code = 0x59 ∨ code = 0x5A ∨ code = 0x5B := by
  simp [fixedFreeze]

theorem reaction_apart {code k : Nat} (hc : code < 256) (hk : k / 256 ≠ 0x510) : Key.React.REACTION code ≠ k := by
  intro e
  rw [← e, Key.React.REACTION] at hk
  omega

/-- Of the tests that a write with a bad value fails, its own comes first: the later ones are the range, a command of the store and the parity. -/
theorem pickAbort_argument : ∀ range busy parity : Bool,
    pickAbort [(false, 0x0803), (true, 0x0604), (range, 0x0604), (busy, 0x0805), (parity, 0x0901)] = 0x0604 := by decide

section FixedReaction

variable {code : Nat} (hc : fixedFreeze code = true)
include hc

theorem reaction_fixed (s : Sys) : s.reaction code = 4 := if_pos hc

/-- Such a code takes no reaction but 4. -/
theorem needSystem_fixed (s : Sys) (cls : Cls) {v : Nat} (hv : v % 8 ≠ 4) : s.needSystem cls (Key.React.REACTION code) v = 0x0604 := by
  have judged : s.needSystem cls (Key.React.REACTION code) v = pickAbort [(decide (5 ≤ v % 8) || (fixedFreeze code && decide (v % 8 ≠ 4)), 0x0604)] := by
    rcases fixedFreeze_iff.mp hc with rfl | rfl | rfl | rfl <;> rfl
  rw [judged, hc, decide_eq_true hv, Bool.and_self, Bool.or_true]
  decide

/-- The engine refuses it and changes nothing. -/
theorem writeEntry_fixed (s : Sys) (otp : Nat → Nat) (acc : Access) (r : Dict.Row) (w : Word) (ext : Ext) (hv : (maskWord r w).toNat % 8 ≠ 4)
    (hst : r.st.testBit (devCode s.dev) = true) : s.writeEntry otp acc (Key.React.REACTION code) r w ext = (s, .done 0x0604) := by
  have hlt : code < 256 := by rcases fixedFreeze_iff.mp hc with rfl | rfl | rfl | rfl <;> decide
  have need : ∀ (v : Nat) (i : Int), s.need (s.clsOf acc.who) (Key.React.REACTION code) v i ext =
      (s, s.needSystem (s.clsOf acc.who) (Key.React.REACTION code) v) := fun v i =>
    need_system s _ 0x510 code v i ext rfl hlt (by decide) (reaction_apart hlt (by decide)) (reaction_apart hlt (by decide))
      (reaction_apart hlt (by decide))
  unfold writeEntry
  simp only [need, needSystem_fixed hc _ _ hv, hst, Bool.not_true, pickAbort_argument, powerResult_other _ _ _ (reaction_apart hlt (by decide : Key.Pwr.COMMAND / 256 ≠ 0x510))]
  simp

/-- Nor does it change anything in serving the request. -/
theorem serve_fixed {s : Sys} (otp : Nat → Nat) {q : WaitReq} (ext : Ext) {r : Dict.Row} {w : Word} (hidx : q.idx = 0x510) (hsub : q.sub = code)
    (hw : q.write = true) (hr : entryRow q.idx q.sub = some r) (hfront : s.frontCode q (some r) = 0) (hon : s.domainOn 15 = true)
    (hreached : s.reached 15 = true) (hform : s.formOf q r.ty = .word w) (hv : (maskWord r w).toNat % 8 ≠ 4)
    (hst : r.st.testBit (devCode s.dev) = true) : s.serve otp q ext = (s, .done 0x0604) := by
  have key : q.idx * 256 + q.sub = Key.React.REACTION code := by rw [hidx, hsub]
  have domain : domainOf q.idx = 15 := by
    rw [hidx]
    decide
  have clocked : s.ungate 15 = s := if_pos rfl
  have refused := writeEntry_fixed hc s otp q.acc r w ext hv hst
  unfold serve
  simp only [key, domain, hr, hfront, hon, hreached, clocked, hw, hform, ne_eq, not_true_eq_false, Bool.not_true, Bool.false_eq_true, if_false]
  cases hwho : q.acc.who with
  | chain tag => exact refused
  | window m machine => simp [refused]

/-- A write of reaction 4 with a report is stored as it is, whatever comes of it. -/
theorem afterWrite_report {s : Sys} (otp : Nat → Nat) {acc : Access} {report : Bool}
    (h : s.accepts acc (Key.React.REACTION code) (4 + 8 * b2n report) {} = true) :
    (s.afterWrite otp acc (Key.React.REACTION code) (4 + 8 * b2n report) {}).rd (Key.React.REACTION code) = 4 + 8 * b2n report := by
  have hlt : code < 256 := by rcases fixedFreeze_iff.mp hc with rfl | rfl | rfl | rfl <;> decide
  have hrow : rowIs (Key.React.REACTION code) .rw true 1 0xF = true := by
    rcases fixedFreeze_iff.mp hc with rfl | rfl | rfl | rfl <;> decide +kernel
  have hmask : masked 0xF (4 + 8 * b2n report) = 4 + 8 * b2n report := by cases report <;> rfl
  have act : ∀ (t u : Sys) (cls : Cls) (v : Nat), t.actSystem u cls (Key.React.REACTION code) v = u := by
    intros
    rcases fixedFreeze_iff.mp hc with rfl | rfl | rfl | rfl <;> rfl
  rw [← request_accepted s otp acc _ _ {} h,
    request_row otp h hrow (by cases report <;> decide) (by decide) (reaction_apart hlt (by decide)) (reaction_apart hlt (by decide)), hmask, need0,
    need_system _ _ 0x510 code _ _ _ rfl hlt (by decide) (reaction_apart hlt (by decide)) (reaction_apart hlt (by decide))
      (reaction_apart hlt (by decide))]
  dsimp only
  rw [act_system _ _ _ _ 0x510 code _ _ _ rfl hlt (by decide), act]
  have kept : ∀ (u : Sys) (p : Nat) (cells : List (Nat × Word)),
      KeepsReactions u ((u.counted acc p cells).answered acc (Key.React.REACTION code) (4 + 8 * b2n report)) := fun u p cells =>
    (u.counted_keepsReactions acc p cells).trans (answered_keepsReactions _ _ _ _)
  rw [when, if_pos rfl, rd, (kept _ _ _).entries code hlt, ← rd, rd_wr, if_pos rfl]
  cases report <;> rfl

end FixedReaction

/-- The write that an OD write of a reaction carries is that of its entry. -/
theorem writeReq_reaction (acc : Access) {code v : Nat} (hc : code < 256) (hv : v < 2 ^ 8) :
    ({ acc := acc, write := true, idx := 0x510, sub := code, size := (writeReq acc (Key.React.REACTION code) v).size, val := v } : WaitReq) =
      writeReq acc (Key.React.REACTION code) v := by
  have hidx : keyIdx (Key.React.REACTION code) = 0x510 := idx_of _ code hc rfl
  have hsub : keySub (Key.React.REACTION code) = code := sub_of 0x510 code hc rfl
  have fits : ∀ n, 1 ≤ n → v % 2 ^ (8 * n) = v := fun n hn => Nat.mod_eq_of_lt (Nat.lt_of_lt_of_le hv (Nat.pow_le_pow_right (by decide) (by omega)))
  have size : 1 ≤ (entryRow 0x510 code).elim 4 (fun r => tySize r.ty) := by
    cases entryRow 0x510 code with
    | none => decide
    | some r => show 1 ≤ tySize r.ty; cases r.ty <;> decide
  simp only [writeReq, hidx, hsub]
  split
  · rw [fits _ size]
  · rw [fits _ (by omega)]

end Sys

/-- Settles O46: the reaction is read from the four codes, a write of another is refused by its own test, and the entry keeps the report through the
count of the store, a failing copy of it, and the answer. -/
theorem dramFaultsFreeze : Obligations.DramFaultsFreeze := by
  unfold Obligations.DramFaultsFreeze
  intro code hlow hhigh
  have hc : fixedFreeze code = true := Sys.fixedFreeze_iff.mpr (by omega)
  refine ⟨Sys.reaction_fixed hc, ?refused, ?stored⟩
  case refused =>
    exact fun s otp q ext r w hidx hsub hw hr hfront hon hreached hform hv hst => Sys.serve_fixed hc otp ext hidx hsub hw hr hfront hon hreached hform hv hst
  case stored =>
    rintro s acc sub report rfl h
    refine ⟨s.afterWrite acc (Key.React.REACTION sub) (4 + 8 * b2n report) {}, ?_, ?_, Sys.reaction_fixed hc _⟩
    · have request := Sys.writeReq_reaction acc (v := 4 + 8 * b2n report) sub.isLt (by cases report <;> decide)
      rw [← onWrite_accepted s acc _ _ {} h, onWrite, ← request]
      rfl
    · have kept : (s.afterWrite acc (Key.React.REACTION sub) (4 + 8 * b2n report) {}).rd (Key.React.REACTION sub) = 4 + 8 * b2n report := by
        rw [State.afterWrite, Sys.rd, burnt_rdW, ← Sys.rd, Sys.afterWrite_report hc s.otpWord h]
      have other : sub.val ≠ 0x24 ∧ sub.val ≠ 0x3C := by omega
      rw [Sys.reportSet, kept, decide_eq_true other, Bool.and_true]
      cases report <;> rfl

end Sys2Proof.Machine
end

section
/-! PROOFS. What a queue of commands comes to (R47): every command answers a next state and leaves the queue alone, a step carries out the command at
the front, and a queue is served in order; and what reset leaves (R56, R59, R64). -/

namespace Sys2Proof.Machine

open Sys2Proof

/-- Settles O32: it is what every command answers, whatever it does to the block. -/
theorem commandsAnswerNext : Obligations.CommandsAnswerNext := by
  intro i s
  obtain ⟨t, hnext, hqueue, -⟩ := (exec_answers i s).next
  exact ⟨t, hnext, hqueue⟩

/-- A step takes the command at the front of the queue. -/
theorem step_cons (i : Instr) (rest : List Instr) (s : State) : step { s with pending := i :: rest } = exec i { s with pending := rest } := rfl

/-- Settles O29: what is in front of the queue is what a step takes. -/
theorem stepRunsFrontCommand : Obligations.StepRunsFrontCommand := step_cons

theorem runSteps_next {n : Nat} {s t : State} (h : step s = .next t) : runSteps (n + 1) s = runSteps n t := by simp only [runSteps, h]

theorem runInOrder_next {i : Instr} {l : List Instr} {s t : State} (h : exec i s = .next t) : runInOrder (i :: l) s = runInOrder l t := by
  simp only [runInOrder, h]

/-- Settles O34, by induction on the queue: a command reads nothing of the queue, so it answers the same with the rest of the queue as with none. -/
theorem queueIsServedInOrder : Obligations.QueueIsServedInOrder := by
  intro l
  induction l with
  | nil => exact fun s => ⟨{ s with pending := [] }, rfl, rfl, rfl⟩
  | cons i rest ih =>
    intro s
    obtain ⟨u, halone, hqueue, -⟩ := (exec_answers i { s with pending := [] }).next
    have hstep : step { s with pending := i :: rest } = .next { u with pending := rest } := by
      rw [step_cons, exec_requeue i { s with pending := [] } rest, halone]
      rfl
    have hu : { u with pending := [] } = u := congrArg (fun q => ({ u with pending := q } : State)) hqueue.symm
    obtain ⟨t, hrun, hempty, horder⟩ := ih u
    refine ⟨t, (runSteps_next hstep).trans hrun, hempty, (runInOrder_next halone).trans ?_⟩
    rw [← hu]
    exact horder

/-- Settles O31: reset is one state, and each part is read from it. -/
theorem resetLeaves : Obligations.ResetLeaves := by
  unfold Obligations.ResetLeaves
  refine ⟨rfl, rfl, rfl, rfl, rfl, rfl, ?canonical, ?restore, ?address, ?ports, ?channels, ?slots, ?groups, ?axes, ?now, ?stopped, rfl, ?dark⟩
  all_goals decide

/-- The fields of a window address (R50): what is left of it by the offset, the subindex and the index. -/
theorem windowAddr_fields (idx : Fin 65536) (sub : Fin 256) (off : Fin 8) : (windowAddr idx sub + off) / 2 ^ 11 % 2 ^ 16 = idx ∧
    (windowAddr idx sub + off) / 2 ^ 3 % 2 ^ 8 = sub ∧ (windowAddr idx sub + off) % 2 ^ 3 = off := by
  unfold windowAddr
  omega

/-- Settles O42: the address is read back by division, for an access to the window too. -/
theorem windowAddressMap : Obligations.WindowAddressMap := by
  unfold Obligations.WindowAddressMap
  refine ⟨fun idx sub off => ⟨rfl, ?_⟩, rfl, rfl⟩
  obtain ⟨hidx, hsub, hoff⟩ := windowAddr_fields idx sub off
  refine ⟨hidx, hsub, hoff, fun m machine write len v parity => ⟨?_, hsub⟩⟩
  show (windowAddr idx sub + off - 0x60000000) / 0x800 % 65536 = idx
  unfold windowAddr
  omega

end Sys2Proof.Machine
end

section
/-! PROOFS. How the engine refuses a request: rights (R45, R449), access classes (R42), the mask of states (R43), a copy of the store that fails (R61, R62),
and the range that firmware serves (R53, R54). -/

namespace Sys2Proof.Machine

open Sys2Proof

/-! ### The order of the checks (R48) -/

/-- The abort that is picked is one of those whose condition holds, unless none is. -/
theorem pickAbort_mem : ∀ l : List (Bool × Nat), pickAbort l = 0 ∨ ∃ x ∈ l, x.2 = pickAbort l
  | [] => .inl rfl
  | (b, c) :: l => by
    rw [pickAbort]
    split
    case isTrue => exact .inr ⟨(b, c), List.mem_cons_self, rfl⟩
    case isFalse => exact (pickAbort_mem l).imp id fun ⟨x, hx, hc⟩ => ⟨x, List.mem_cons_of_mem _ hx, hc⟩

/-- A condition that holds is picked where no later one comes before it. -/
theorem pickAbort_first {c : Nat} {l : List (Bool × Nat)} (hc : c ≠ 0) (h : ∀ x ∈ l, codeOrder c ≤ codeOrder x.2) : pickAbort ((true, c) :: l) = c := by
  rw [pickAbort]
  refine if_pos ⟨rfl, hc, ?_⟩
  rcases pickAbort_mem l with h0 | ⟨x, hx, hx'⟩
  · exact .inl h0
  · exact .inr (hx' ▸ h x hx)

namespace Sys

section Serve

variable {s : Sys} {otp : Nat → Nat} {q : WaitReq} {ext : Ext}

/-- A request that fails one of the checks 1 to 6 is refused with the code of that check, and nothing changes. -/
theorem serve_refused (h : s.frontCode q (entryRow q.idx q.sub) ≠ 0) : s.serve otp q ext = (s, .done (s.frontCode q (entryRow q.idx q.sub))) := by
  unfold serve
  exact if_pos h

variable {r : Dict.Row} (hr : entryRow q.idx q.sub = some r) (hfront : s.frontCode q (some r) = 0) (hon : s.domainOn (domainOf q.idx) = true)
  (hreached : s.reached (domainOf q.idx) = true)
include hr hfront hon hreached

/-- A read that passes them gives the value of the entry with the clock of its block running. -/
theorem serve_read (hw : q.write = false) (hparity : q.acc.parity = true) : s.serve otp q ext =
    ((s.ungate (domainOf q.idx)).readActs (q.idx * 256 + q.sub), .value r.ty ((s.ungate (domainOf q.idx)).value q.idx q.sub)) := by
  unfold serve
  simp [hr, hfront, hon, hreached, hw, hparity]

/-- A write that passes them and brings a value goes on to checks 8 to 12, and its staged low word is used up with it. -/
theorem serve_word {w : Word} (hw : q.write = true) (hform : (s.ungate (domainOf q.idx)).formOf q r.ty = .word w) : s.serve otp q ext =
    (let x := (s.ungate (domainOf q.idx)).writeEntry otp q.acc (q.idx * 256 + q.sub) r w ext
     match q.acc.who with
     | .chain _ => x
     | .window m _ => (if q.high ∧ x.2 = .done 0 then x.1.unstage m else x.1, x.2)) := by
  unfold serve
  simp only [hr, hfront, hon, hreached, hw, hform, ne_eq, not_true_eq_false, Bool.not_true, Bool.false_eq_true, if_false]
  cases q.acc.who <;> rfl

/-- One that those checks refuse leaves what they leave. -/
theorem serve_word_refused {w : Word} {t : Sys} {code : Nat} (hw : q.write = true) (hform : (s.ungate (domainOf q.idx)).formOf q r.ty = .word w)
    (hentry : (s.ungate (domainOf q.idx)).writeEntry otp q.acc (q.idx * 256 + q.sub) r w ext = (t, .done code)) (hc : code ≠ 0) :
    s.serve otp q ext = (t, .done code) := by
  rw [serve_word hr hfront hon hreached hw hform]
  simp only [hentry, Verdict.done.injEq, hc, and_false, if_false]
  cases q.acc.who <;> rfl

end Serve

/-! ### Rights (R45, R448, R449) -/

/-- The rights table takes rights away and gives none, but for the read and write of FM that the table itself keeps. -/
theorem indexRights_within (s : Sys) {idx b : Nat} (h : (s.indexRights idx).testBit b = true) : (widestRights idx ||| 0x0C).testBit b = true := by
  have taken : ∀ (l : List Nat) (m : Nat), ((l.foldl (fun m i =>
      let w := s.rd (Key.Rights.ROW i)
      if w.testBit 63 ∧ w % 65536 ≤ idx ∧ idx ≤ w / 65536 % 65536 then m &&& (w / 2 ^ 32 % 64) else m) m).testBit b = true → m.testBit b = true) := by
    intro l
    induction l with
    | nil => exact fun m h => h
    | cons i l ih =>
      intro m h
      have hm := ih _ h
      dsimp only at hm
      split at hm
      · rw [Nat.testBit_and, Bool.and_eq_true] at hm
        exact hm.1
      · exact hm
  rw [Nat.testBit_or, Bool.or_eq_true]
  unfold indexRights at h
  dsimp only at h
  split at h
  case isTrue =>
    rw [Nat.testBit_or, Bool.or_eq_true] at h
    refine h.imp (fun h => ?_) id
    split at h
    · exact taken _ _ h
    · exact h
  case isFalse =>
    refine .inl ?_
    split at h
    · exact taken _ _ h
    · exact h

/-- The host may write nothing from 0300 to 03FF. -/
theorem hostWrite_denied (s : Sys) {idx : Nat} (hlo : 0x300 ≤ idx) (hhi : idx < 0x400) (r : Dict.Row) : (s.entryRights idx r).testBit 1 = false := by
  have hwidest : widestRights idx = 0x0D := by
    unfold widestRights
    rw [if_neg (by omega), if_neg (by omega), if_pos hhi]
  rw [entryRights, Nat.testBit_and, Bool.and_eq_false_iff]
  refine .inl (Bool.eq_false_iff.mpr fun h => ?_)
  have := s.indexRights_within h
  rw [hwidest] at this
  exact absurd this (by decide)

/-- The engine refuses a request without the right to it: earlier checks have codes of their own. -/
theorem frontCode_noRight (s : Sys) (q : WaitReq) (h : ∀ r, (s.entryRights q.idx r).testBit (clsBit (s.clsOf q.acc.who) + b2n q.write) = false) :
    s.frontCode q (entryRow q.idx q.sub) ≠ 0 := by
  unfold frontCode
  dsimp only
  split
  · decide
  split
  · decide
  split
  · decide
  split
  · decide
  · rw [h]
    exact Nat.succ_ne_zero 0x0700

end Sys

/-- Settles O36: the host has no bit for such a write, and the engine changes nothing when it refuses. -/
theorem hostWritesNoRights : Obligations.HostWritesNoRights := by
  intro s otp q ext tag hwho hwrite hlo hhi
  have hrefused := s.frontCode_noRight q fun r => by
    rw [hwho, hwrite]
    exact s.hostWrite_denied hlo hhi r
  exact ⟨_, hrefused, Sys.serve_refused hrefused⟩

/-! ### Access classes (R42) -/

namespace Sys

section Classes

variable {s : Sys} {q : WaitReq} {r : Dict.Row} (hstays : s.leaving = false) (hstarted : ¬(s.dev = .start ∧ s.rd Key.Restore.RESTORE_STATUS = 0))
  (hidx : q.idx < 0x8000) (hexists : Dict.indexExists q.idx = true)
  (hright : (s.entryRights q.idx r).testBit (clsBit (s.clsOf q.acc.who) + b2n q.write) = true)
include hstays hstarted hidx hexists hright

/-- What is left to check of a request that passes checks 1 to 4: its access, then its form. -/
theorem frontCode_access : s.frontCode q (some r) =
    if q.write ∧ r.acc = .ro then 0x0605
    else if !q.write ∧ r.acc = .wo then 0x0606
    else if q.write ∧ s.formOf q r.ty = .bad then 0x0603
    else if !q.write ∧ !isChain q.acc.who ∧ ¬(q.size = 4 ∨ (q.size = 8 ∧ !q.high)) then 0x0603
    else 0 := by
  obtain ⟨hwarm, hhold⟩ : s.eng.warmPending = false ∧ s.pw.holdPending = false := Bool.or_eq_false_iff.mp hstays
  unfold frontCode
  dsimp only
  rw [hwarm, hhold, hright, hexists, if_neg (by simp), if_neg (fun h => hstarted ⟨h.1, h.2.1⟩), if_neg (by simpa using hidx), if_neg (by decide)]

end Classes

end Sys

/-- Settles O45: the access is checked right after the rights, and the mask of states stands among the checks of a write alone. -/
theorem accessClassRefuses : Obligations.AccessClassRefuses := by
  refine ⟨fun r => ?classes, fun s otp q ext r hr hstays hstarted hidx hexists hright => ?refused, fun s otp q ext r hr hw hparity hfront hon hreached => ?reads⟩
  case classes => cases r.acc <;> simp
  case refused =>
    have hfront := Sys.frontCode_access hstays hstarted hidx hexists hright
    constructor
    · intro hw hwo
      have hcode : s.frontCode q (entryRow q.idx q.sub) = 0x0606 := by
        rw [hr, hfront, if_neg (by simp [hw]), if_pos ⟨by simp [hw], hwo⟩]
      rw [Sys.serve_refused (by rw [hcode]; decide), hcode]
    · intro hw hro
      have hcode : s.frontCode q (entryRow q.idx q.sub) = 0x0605 := by
        rw [hr, hfront, if_pos ⟨hw, hro⟩]
      rw [Sys.serve_refused (by rw [hcode]; decide), hcode]
  case reads => rw [Sys.serve_read hr hfront hon hreached hw hparity]

end Sys2Proof.Machine
end

section
/-! PROOFS. What a refusal at checks 8 to 12 leaves: the mask of states (R43, R461) and a copy of the store that fails (R61, R62); and the range that
firmware serves has no window (R53, R54). -/

namespace Sys2Proof.Machine

open Sys2Proof

/-! ### The masks of the dictionary (R43) -/

/-- Every row of the dictionary has a mask of six bits. -/
theorem chunk_masks (idx : Nat) : (Dict.chunk idx).all (fun f => f.rows.all (fun r => decide (r.st < 2 ^ 6))) = true := by
  unfold Dict.chunk
  split <;> decide

theorem rowsOf_mask {idx : Nat} {r : Dict.Row} (h : r ∈ Dict.rowsOf idx) : r.st < 2 ^ 6 := by
  obtain ⟨f, hf, hr⟩ := List.mem_flatMap.mp h
  have := List.all_eq_true.mp (List.all_eq_true.mp (chunk_masks idx) f (List.mem_of_mem_filter hf)) r hr
  exact of_decide_eq_true this

theorem find_mask {idx sub : Nat} {r : Dict.Row} (h : Dict.find idx sub = some r) : r.st < 2 ^ 6 := by
  unfold Dict.find at h
  split at h
  case h_1 hrow =>
    cases h
    exact rowsOf_mask (List.mem_of_find?_eq_some hrow)
  case h_2 =>
    split at h
    · cases h
      decide
    · cases h

/-- So has every entry, the read-only ones of the slots of laser channels (R180) too. -/
theorem entryRow_mask {idx sub : Nat} {r : Dict.Row} (h : entryRow idx sub = some r) : r.st < 2 ^ 6 := by
  unfold entryRow at h
  obtain ⟨r', hfind, rfl⟩ := Option.map_eq_some_iff.mp h
  split
  · exact Nat.two_pow_pos 6
  · exact find_mask hfind

namespace Sys

/-! ### A write in a state outside the mask (R43) -/

@[simp] theorem ungate_dev (s : Sys) (d : Nat) : (s.ungate d).dev = s.dev := by
  unfold ungate
  split <;> rfl

theorem rd_ungate (s : Sys) (d : Nat) {k : Nat} (h : k ≠ Key.Dom.CLOCKED) : (s.ungate d).rd k = s.rd k := by
  unfold ungate
  split
  · rfl
  · rw [rd_wrBit, if_neg h]

/-- The clock of a block changes no class. -/
theorem clsOf_ungate (s : Sys) (d : Nat) (who : Req) : (s.ungate d).clsOf who = s.clsOf who := by
  match who with
  | .chain _ => rfl
  | .window .sv _ => rfl
  | .window (.ap _) _ => rfl
  | .window (.dma ch) _ =>
    simp only [clsOf]
    rw [rd_ungate s d (by simp only [Key.Dma.CLASS, Key.Dom.CLOCKED]; omega)]

/-- With the bit of the state clear, check 8 is picked where the entry's own checks come no earlier. -/
theorem writeEntry_masked (s : Sys) (otp : Nat → Nat) (acc : Access) (k : Nat) (r : Dict.Row) (w : Word) (ext : Ext)
    (hmask : r.st.testBit (devCode s.dev) = false)
    (hown : codeOrder 0x0803 ≤ codeOrder (s.need (s.clsOf acc.who) k (maskWord r w).toNat (intOf r (maskWord r w)) ext).2) :
    s.writeEntry otp acc k r w ext =
      ((if (k = Key.Pwr.COMMAND ∨ k = Key.Dom.ENABLE) ∧ (s.need (s.clsOf acc.who) k (maskWord r w).toNat (intOf r (maskWord r w)) ext).2 = 0x0803 then
          (s.need (s.clsOf acc.who) k (maskWord r w).toNat (intOf r (maskWord r w)) ext).1
        else s).powerResult k (maskWord r w).toNat 0x0803, .done 0x0803) := by
  have hint : (if tySigned r.ty = true then (maskWord r w).toInt else ((maskWord r w).toNat : Int)) = intOf r (maskWord r w) := rfl
  have hpick (range busy parity : Bool) : pickAbort [(true, 0x0803),
      (true, (s.need (s.clsOf acc.who) k (maskWord r w).toNat (intOf r (maskWord r w)) ext).2), (range, 0x0604), (busy, 0x0805), (parity, 0x0901)] = 0x0803 := by
    refine pickAbort_first (by decide) ?_
    simp only [List.mem_cons, List.not_mem_nil, or_false, forall_eq_or_imp, forall_eq]
    exact ⟨hown, by decide, by decide, by decide⟩
  have hkeys (own : Nat) : (0x0803 = own ∧ (k = Key.Pwr.COMMAND ∨ k = Key.Dom.ENABLE)) ↔ ((k = Key.Pwr.COMMAND ∨ k = Key.Dom.ENABLE) ∧ own = 0x0803) :=
    ⟨fun h => ⟨h.2, h.1.symm⟩, fun h => ⟨h.2.symm, h.1⟩⟩
  unfold writeEntry
  simp only [hint, hmask, Bool.not_false, hpick, ne_eq, Nat.reduceEqDiff, not_false_eq_true, if_true, Bool.false_eq_true, false_or, hkeys]

/-- What judging NAP, HOLD or a change of the domains changes: BLOCKER at most (R461). -/
theorem need_power (s : Sys) (cls : Cls) (k v : Nat) (i : Int) (ext : Ext) (hk : k = Key.Pwr.COMMAND ∨ k = Key.Dom.ENABLE) :
    (s.need cls k v i ext).1 = s ∨ ∃ b : Nat, (s.need cls k v i ext).1 = s.wr Key.PwrSt.BLOCKER b := by
  rcases hk with rfl | rfl
  · have hneed : s.need cls Key.Pwr.COMMAND v i ext = if v = 1 then s.napAbort cls else (s, if v = 2 then s.holdAbort cls else 0x0604) := by
      unfold need
      dsimp only
      rw [if_neg (by decide), if_pos rfl]
    rw [hneed]
    split
    · unfold napAbort
      split
      · exact .inl rfl
      split
      · exact .inr ⟨_, rfl⟩
      split
      · exact .inr ⟨_, rfl⟩
      · exact .inl rfl
    · exact .inl rfl
  · rw [need_domains]
    unfold domAbort
    dsimp only
    split
    · exact .inr ⟨_, rfl⟩
    split
    · exact .inl rfl
    split
    · split
      · exact .inl rfl
      · exact .inr ⟨_, rfl⟩
    · exact .inl rfl

end Sys

/-- Settles O44: the mask is check 8, and of the entry's own checks none is earlier. -/
theorem stateMaskRefuses : Obligations.StateMaskRefuses := by
  refine ⟨fun idx sub r hr _ => entryRow_mask hr, rfl, rfl, rfl, rfl, rfl, rfl, fun s otp q ext r w hr hw hfront hon hreached hform hown hmask => ?refused,
    fun s cls k v i ext hk => s.need_power cls k v i ext hk⟩
  rw [← Sys.clsOf_ungate s (domainOf q.idx)] at hown ⊢
  rw [← Sys.ungate_dev s (domainOf q.idx)] at hmask
  exact Sys.serve_word_refused hr hfront hon hreached hw hform (Sys.writeEntry_masked _ otp q.acc _ r w ext hmask hown) (by decide)

/-! ### A copy of the store that fails (R61, R62) -/

namespace Sys

/-- What a write that is accepted has passed: checks 1 to 7, and the checks of `writeEntry` with no code left. -/
theorem accepts_judged {s : Sys} {acc : Access} {k v : Nat} {ext : Ext} {r : Dict.Row} (h : s.accepts acc k v ext = true)
    (hr : entryRow (keyIdx k) (keySub k) = some r) : ∃ w, (s.clocked k).formOf (writeReq acc k v) r.ty = .word w ∧
      s.passes (writeReq acc k v) r = true ∧ r.st.testBit (devCode (s.clocked k).dev) = true ∧ (s.needed acc k r (maskWord r w) ext).2 = 0 ∧
      (s.clocked k).rangeOk ((s.clocked k).clsOf acc.who) k r (maskWord r w).toNat (intOf r (maskWord r w)) = true ∧ (s.clocked k).storeBusy k r = false ∧
      acc.parity = true ∧ (r.kept = true → acc.copyA = true ∧ ((s.clocked k).pair ((s.clocked k).storePair k)).building = false) ∧ r.ty ≠ .domain := by
  have hidx : (writeReq acc k v).idx = keyIdx k := rfl
  have hsub : (writeReq acc k v).sub = keySub k := rfl
  unfold accepts wordOf at h
  simp only [hidx, hsub, hr] at h
  cases hform : (s.clocked k).formOf (writeReq acc k v) r.ty with
  | word w =>
    simp only [hform, Bool.and_eq_true, decide_eq_true_eq, Bool.not_eq_true', Bool.or_eq_true] at h
    obtain ⟨hfree, ⟨⟨⟨⟨⟨⟨⟨⟨hfront, hon⟩, hreached⟩, hst⟩, hneed⟩, hrange⟩, hbusy⟩, hparity⟩, hstore⟩, hty⟩ := h
    refine ⟨w, rfl, ?_, by rwa [clocked_dev], hneed, hrange, hbusy, hparity, fun hk => hstore.resolve_left (by simp [hk]), hty⟩
    simp only [passes, hidx, hfree, hfront, hon, hreached, decide_true, Bool.and_self]
  | stage _ => simp [hform] at h
  | nothing => simp [hform] at h
  | bad => simp [hform] at h

/-- Checks 8 to 12 of a write that pass leave no code. -/
theorem pickAbort_judged {u : Sys} {cls : Cls} {k : Nat} {r : Dict.Row} {w : Word} {ext : Ext} {parity : Bool}
    (hst : r.st.testBit (devCode u.dev) = true) (hneed : (u.need cls k w.toNat (intOf r w) ext).2 = 0)
    (hrange : u.rangeOk cls k r w.toNat (intOf r w) = true) (hbusy : u.storeBusy k r = false) (hparity : parity = true) :
    pickAbort [(!r.st.testBit (devCode u.dev), 0x0803), (true, (u.need cls k w.toNat (intOf r w) ext).2),
      (!u.rangeOk cls k r w.toNat (intOf r w), 0x0604), (u.storeBusy k r, 0x0805), (!parity, 0x0901)] = 0 := by
  rw [hst, hneed, hrange, hbusy, hparity]
  decide

/-- Of a write that passes them to a Kept entry, a copy A that fails is all that is left to refuse. -/
theorem writeEntry_failedCopy {u : Sys} {acc : Access} {k : Nat} {r : Dict.Row} {w : Word} {ext : Ext} (otp : Nat → Nat)
    (hst : r.st.testBit (devCode u.dev) = true) (hneed : (u.need (u.clsOf acc.who) k (maskWord r w).toNat (intOf r (maskWord r w)) ext).2 = 0)
    (hrange : u.rangeOk (u.clsOf acc.who) k r (maskWord r w).toNat (intOf r (maskWord r w)) = true) (hbusy : u.storeBusy k r = false)
    (hparity : acc.parity = true) (hkept : r.kept = true) (hbuilding : (u.pair (u.storePair k)).building = false) (hty : r.ty ≠ .domain)
    (hcopy : acc.copyA = false) : u.writeEntry otp acc k r w ext = (u.markCopy (u.storePair k) false, .done 0x0A01) := by
  have hint : (if tySigned r.ty = true then (maskWord r w).toInt else ((maskWord r w).toNat : Int)) = intOf r (maskWord r w) := rfl
  unfold writeEntry
  simp only [hint, pickAbort_judged hst hneed hrange hbusy hparity, hkept, hbuilding, hty, hcopy, ne_eq, not_true_eq_false, if_false, Bool.true_and,
    Bool.false_eq_true, Bool.not_false, if_true]

end Sys

/-- Settles O59: with copy A good the write would go through, so nothing but the copy is left to refuse it. -/
theorem failedStoreCopyRefuses : Obligations.FailedStoreCopyRefuses := by
  intro s otp acc k v ext r hr hkept h hcopy
  obtain ⟨w, hform, hpasses, hst, hneed, hrange, hbusy, hparity, hstore, hty⟩ := Sys.accepts_judged h hr
  simp only [Sys.passes, Bool.and_eq_true, decide_eq_true_eq] at hpasses
  obtain ⟨⟨⟨-, hfront⟩, hon⟩, hreached⟩ := hpasses
  have hrefused := Sys.writeEntry_failedCopy (acc := acc) otp hst hneed hrange hbusy hparity hkept (hstore hkept).2 hty hcopy
  have hfront' : s.frontCode (Sys.writeReq acc k v) (some r) = 0 := hfront
  have hform' : (s.ungate (domainOf (Sys.writeReq acc k v).idx)).formOf (Sys.writeReq acc k v) r.ty = .word w := hform
  refine Sys.serve_word_refused (q := Sys.writeReq acc k v) hr hfront' hon hreached rfl hform' ?_ (Nat.succ_ne_zero 0x0A00)
  rw [show (Sys.writeReq acc k v).idx * 256 + (Sys.writeReq acc k v).sub = k from key_split k]
  exact hrefused

/-! ### The range that firmware serves (R53, R54) -/

/-- No entry of the dictionary stands there. -/
theorem entryRow_firmware {idx : Nat} (h : 0x8000 ≤ idx) (sub : Nat) : entryRow idx sub = none := by
  have hchunk : Dict.chunk idx = [] := by
    unfold Dict.chunk
    split
    case h_70 => rfl
    all_goals omega
  have hrows : Dict.rowsOf idx = [] := by rw [Dict.rowsOf, Dict.famsOf, hchunk]; rfl
  rw [entryRow, Dict.find, Dict.rowOf, hrows, Dict.indexExists, hrows]
  simp

end Sys2Proof.Machine
end

section
/-! PROOFS. What the engine does with a request that it takes at once (R47, R48, R53, R92): what a refusal of a window access leaves (R53, R54), reads and
their snapshots (R51, R52), halves of a slot (R52), and the address and the length of a DOMAIN (R38). -/

namespace Sys2Proof.Machine

open Sys2Proof

namespace Sys

/-! ### A request that is taken at once -/

section Served

variable {s t : Sys} {otp : Nat → Nat} {q : WaitReq} {ext : Ext} {v : Verdict}

/-- A request over the window that nothing holds up is taken. -/
theorem request_window (hq : isChain q.acc.who = false) (hstops : s.engineStops = false) (hwaits : s.eng.waits = []) :
    s.request otp q ext = if (s.take otp q ext).2 then (s.take otp q ext).1 else s.enqueueReq q := by
  unfold request
  simp [hq, hstops, hwaits]

/-- So is any request while the engine is free. -/
theorem request_free (hfree : s.engineFree = true) : s.request otp q ext = if (s.take otp q ext).2 then (s.take otp q ext).1 else s.enqueueReq q := by
  unfold engineFree at hfree
  simp only [Bool.and_eq_true, Bool.not_eq_true', decide_eq_false_iff_not, List.isEmpty_iff] at hfree
  obtain ⟨⟨⟨⟨-, hl⟩, hstart⟩, hstops⟩, hwaits⟩ := hfree
  unfold request
  simp [hl, hstart, hstops, hwaits]

theorem engineFree_stays (hfree : s.engineFree = true) : s.leaving = false := by
  unfold engineFree at hfree
  simp only [Bool.and_eq_true, Bool.not_eq_true'] at hfree
  exact hfree.1.1.1.2

theorem engineFree_powered (hfree : s.engineFree = true) : s.powered = true := by
  unfold engineFree at hfree
  simp only [Bool.and_eq_true] at hfree
  exact hfree.1.1.1.1

/-- A request that does not wait is answered; where its answer is that of WARM_RESET or HOLD, what is queued is answered too (R93). -/
theorem take_served (hfw : isFirmware q = false) (hs : s.serve otp q ext = (t, v)) (hv : v ≠ .wait) :
    s.take otp q ext = (if (t.respond q v).leaving && !s.leaving then (t.respond q v).flushRequests else t.respond q v, true) := by
  unfold take
  simp only [hfw, hs, hv, Bool.false_eq_true, if_false]

/-- No request that passes checks 1 to 6 is one for firmware. -/
theorem not_isFirmware {row : Option Dict.Row} (hfront : s.frontCode q row = 0) : isFirmware q = false := by
  refine Bool.and_eq_false_imp.mpr fun _ => decide_eq_false fun h => ?_
  unfold frontCode at hfront
  dsimp only at hfront
  split at hfront
  · exact absurd hfront (Nat.succ_ne_zero _)
  split at hfront
  · exact absurd hfront (Nat.succ_ne_zero _)
  rw [if_pos (.inl h.1)] at hfront
  exact absurd hfront (Nat.succ_ne_zero _)

/-- The answer to a request that the engine takes at once and serves. -/
theorem request_served (hfree : s.engineFree = true) (hfw : isFirmware q = false) (hs : s.serve otp q ext = (t, v)) (hv : v ≠ .wait) :
    s.request otp q ext = if (t.respond q v).leaving then (t.respond q v).flushRequests else t.respond q v := by
  rw [request_free hfree, take_served hfw hs hv, engineFree_stays hfree]
  simp only [Bool.not_false, Bool.and_true, if_true]

/-- Where neither WARM_RESET nor HOLD waits after it, the answer is all. -/
theorem request_answered (hfree : s.engineFree = true) (hfw : isFirmware q = false) (hs : s.serve otp q ext = (t, v)) (hv : v ≠ .wait)
    (hl : (t.respond q v).leaving = false) : s.request otp q ext = t.respond q v := by
  rw [request_served hfree hfw hs hv, hl, if_neg Bool.false_ne_true]

end Served

/-! ### A refusal over the window (R53) -/

/-- The WINDOW_ABORT of a master. -/
def abortKey : Master → Nat
  | .sv => Key.WinAbort.ABORT_SV
  | .ap h => Key.WinAbort.ABORT_AP h
  | .dma _ => Key.WinAbort.ABORT_DMA

/-- What it holds after a refusal: the code, the channel of a DMA master, the direction, the subindex and the index. -/
def abortWord (m : Master) (q : WaitReq) (code : Nat) : Nat :=
  code + (match m with | .dma c => c.val | _ => 0) * 2 ^ 16 + b2n q.write * 2 ^ 24 + q.sub * 2 ^ 32 + q.idx * 2 ^ 40

/-- A refusal with word `w` as its record under `k`, sent for address `a`. -/
def refusalSent (s : Sys) (m : Master) (k w a : Nat) (write : Bool) : Sys :=
  let s := (s.wr k w).emit (.busError (masterCode m) a)
  let cause := if write then 7 else 5
  let s := match m with | .sv => s.hartFault 4 cause a | .ap h => s.hartFault h cause a | .dma _ => s
  if write then s else s.emit (.window m 0)

theorem refuseWindow_sent (s : Sys) (m : Master) (q : WaitReq) {code : Nat} (hc : code ≠ 0x0807) :
    s.refuseWindow m q code = s.refusalSent m (abortKey m) (abortWord m q code) (windowAddr q.idx q.sub) q.write := by
  unfold refuseWindow refusalSent abortWord
  rw [decide_eq_false hc]
  cases m
  case sv => rfl
  case ap => rfl
  case dma => rfl

theorem refusalSent_write (s : Sys) (m : Master) (k w a : Nat) :
    ∃ l, s.refusalSent m k w a true = { s.wr k w with sent := l } ∧ .busError (masterCode m) a ∈ l := by
  cases m
  case sv => exact ⟨_, rfl, .tail _ (.head _)⟩
  case ap => exact ⟨_, rfl, .tail _ (.head _)⟩
  case dma => exact ⟨_, rfl, .head _⟩

/-- A refused write over the window is recorded in WINDOW_ABORT and sent as a bus error, and no more. -/
theorem refuseWindow_write (s : Sys) (m : Master) {q : WaitReq} {code : Nat} (hw : q.write = true) (hc : code ≠ 0x0807) :
    ∃ l, s.refuseWindow m q code = { s.wr (abortKey m) (abortWord m q code) with sent := l } ∧ .busError (masterCode m) (windowAddr q.idx q.sub) ∈ l := by
  rw [refuseWindow_sent s m q hc, hw]
  exact refusalSent_write s m _ _ _

/-- The state that a refusal over the window leaves: its record, and what is sent. -/
def refusedState (s : Sys) (m : Master) (w : Nat) (l : List Out) : Sys := { (s.dropSnap m).wr (abortKey m) w with sent := l }

theorem respond_refusedWrite (s : Sys) {q : WaitReq} {m : Master} {machine : Bool} {code : Nat} (hwho : q.acc.who = .window m machine)
    (hw : q.write = true) (h0 : code ≠ 0) (hc : code ≠ 0x0807) :
    ∃ l, s.respond q (.done code) = s.refusedState m (abortWord m q code) l ∧ .busError (masterCode m) (windowAddr q.idx q.sub) ∈ l := by
  have hrespond : s.respond q (.done code) = (s.dropSnap m).refuseWindow m q code := by
    unfold respond
    rw [hwho]
    exact if_neg h0
  rw [hrespond]
  exact refuseWindow_write (s.dropSnap m) m hw hc

theorem leaving_refusedState (s : Sys) (m : Master) (w : Nat) (l : List Out) : (s.refusedState m w l).leaving = s.leaving := rfl

theorem rdW_refusedState (s : Sys) (m : Master) (w : Nat) (l : List Out) {k : Nat} (hk : k ≠ abortKey m) : (s.refusedState m w l).rdW k = s.rdW k :=
  (rdW_wrW (s.dropSnap m) _ k _).trans (if_neg hk)

theorem rd_refusedState (s : Sys) (m : Master) {w : Nat} (l : List Out) (hw : w < 2 ^ 64) : (s.refusedState m w l).rd (abortKey m) = w :=
  (rd_wr (s.dropSnap m) _ _ _).trans ((if_pos rfl).trans (Nat.mod_eq_of_lt hw))

theorem byte_refusedState (s : Sys) (m : Master) (w : Nat) (l : List Out) (a : Nat) : (s.refusedState m w l).byte a = s.byte a := rfl

theorem dev_refusedState (s : Sys) (m : Master) (w : Nat) (l : List Out) : (s.refusedState m w l).dev = s.dev := rfl

theorem sent_refusedState (s : Sys) (m : Master) (w : Nat) (l : List Out) : (s.refusedState m w l).sent = l := rfl

/-- The fields of the word of a refused write. -/
theorem abortWord_fields (m : Master) {q : WaitReq} {code : Nat} (hw : q.write = true) (hc : code < 2 ^ 16) (hi : q.idx < 2 ^ 16) (hs : q.sub < 2 ^ 8) :
    abortWord m q code < 2 ^ 64 ∧ abortWord m q code % 2 ^ 16 = code ∧ abortWord m q code / 2 ^ 40 % 2 ^ 16 = q.idx ∧
      abortWord m q code / 2 ^ 32 % 2 ^ 8 = q.sub := by
  have hch : (match m with | .dma c => c.val | _ => 0 : Nat) < 32 := by
    cases m
    case dma c => exact c.isLt
    all_goals exact Nat.succ_pos 31
  unfold abortWord
  rw [hw]
  generalize (match m with | .dma c => c.val | _ => 0 : Nat) = ch at hch ⊢
  have hb : b2n true = 1 := rfl
  rw [hb]
  refine ⟨?_, ?_, ?_, ?_⟩ <;> omega

/-- An index of firmware is refused over the window whatever the state is, unless a reset waits. -/
theorem frontCode_firmware {s : Sys} {q : WaitReq} (hq : isChain q.acc.who = false) (hwarm : s.eng.warmPending = false) (hidx : 0x8000 ≤ q.idx) :
    s.frontCode q (entryRow q.idx q.sub) = 0x0601 := by
  unfold frontCode
  simp [hq, hwarm, entryRow_firmware hidx, hidx]

/-- A write there that the engine takes at once leaves its refusal alone. -/
theorem request_firmware {s : Sys} {q : WaitReq} {m : Master} {machine : Bool} (otp : Nat → Nat) (ext : Ext) (hwho : q.acc.who = .window m machine)
    (hw : q.write = true) (hidx : 0x8000 ≤ q.idx) (hwarm : s.eng.warmPending = false) (hstops : s.engineStops = false) (hwaits : s.eng.waits = []) :
    ∃ l, s.request otp q ext = s.refusedState m (abortWord m q 0x0601) l ∧ .busError (masterCode m) (windowAddr q.idx q.sub) ∈ l := by
  have hq : isChain q.acc.who = false := by rw [hwho]; rfl
  have hcode := frontCode_firmware hq hwarm hidx
  have hserve : s.serve otp q ext = (s, .done 0x0601) := by rw [serve_refused (by rw [hcode]; decide), hcode]
  have hfw : isFirmware q = false := by rw [isFirmware, hq, Bool.false_and]
  obtain ⟨l, hrespond, hsent⟩ := s.respond_refusedWrite (code := 0x0601) hwho hw (by decide) (by decide)
  refine ⟨l, ?_, hsent⟩
  rw [request_window hq hstops hwaits, take_served hfw hserve (by simp), hrespond, leaving_refusedState, Bool.and_not_self]
  simp only [Bool.false_eq_true, if_false, if_true]

end Sys

/-- Settles O43: the refusal is check 2 of the engine, and all that it leaves is its record and a bus error. -/
theorem firmwareRangeHasNoWindow : Obligations.FirmwareRangeHasNoWindow := by
  intro s acc m machine idx sub size v hwho hidx _ hp hwarm hstops hwaits
  obtain ⟨q, hq⟩ : ∃ q : WaitReq, q = { acc := acc, write := true, idx := idx.val, sub := sub.val, size := size, val := v } := ⟨_, rfl⟩
  have hqi : q.idx = idx.val := by rw [hq]
  have hqs : q.sub = sub.val := by rw [hq]
  obtain ⟨l, hrequest, hsent⟩ := Sys.request_firmware (s := s.toSys) (q := q) s.otpWord {} (by rw [hq]; exact hwho) (by rw [hq]) (hqi ▸ hidx) hwarm hstops hwaits
  obtain ⟨hlt, hcode, hindex, hsub⟩ := Sys.abortWord_fields m (q := q) (code := 0x0601) (by rw [hq]) (by decide) (hqi ▸ idx.isLt) (hqs ▸ sub.isLt)
  have hexec : exec (.odWrite acc idx sub size v) s = .next (burnt s (s.toSys.request s.otpWord q {})) := by
    rw [hq]
    exact onOd_on (fun otp u => u.request otp { acc := acc, write := true, idx := idx.val, sub := sub.val, size := size, val := v } {}) s hp
  rw [hrequest] at hexec
  rw [hqi, hqs] at hsent
  have hrd : (burnt s (s.toSys.refusedState m (Sys.abortWord m q 0x0601) l)).rd (Sys.abortKey m) = Sys.abortWord m q 0x0601 :=
    (burnt_rd ..).trans (Sys.rd_refusedState _ _ _ hlt)
  generalize Sys.abortWord m q 0x0601 = w at *
  refine ⟨_, hexec, ?sent, ?code, ?index, ?sub, ?others, ?bytes, ?dev⟩
  case sent => rw [burnt_sent, Sys.sent_refusedState]; exact hsent
  case code => exact (congrArg (· % 2 ^ 16) hrd).trans hcode
  case index => exact (congrArg (· / 2 ^ 40 % 2 ^ 16) hrd).trans (hindex.trans hqi)
  case sub => exact (congrArg (· / 2 ^ 32 % 2 ^ 8) hrd).trans (hsub.trans hqs)
  case others => exact fun k hk => (burnt_rdW ..).trans (Sys.rdW_refusedState _ _ _ _ hk)
  case bytes => exact fun a => (burnt_byte ..).trans (Sys.byte_refusedState ..)
  case dev => exact (burnt_dev ..).trans (Sys.dev_refusedState ..)

end Sys2Proof.Machine
end

section
/-! PROOFS. What an accepted write of a command and of a stored entry answers (R47, R48, R61), where the entry is judged without a trace. -/

namespace Sys2Proof.Machine

open Sys2Proof

section Accepted

variable {s : State} {acc : Access} {k v n m : Nat} {ext : Ext} {g : Sys → Sys}

/-- A write to a write-only entry whose judging leaves the block as `j` does answers with its effect. -/
theorem onWrite_judged {j : Sys → Sys} (h : s.accepts acc k v ext = true) (hrow : Sys.rowIs k .wo false n 0 = true) (hv : v < 2 ^ (8 * n))
    (hneed : ∀ cls, (Sys.need (s.toSys.clocked k) cls k v v ext).2 = 0 → (Sys.need (s.toSys.clocked k) cls k v v ext).1 = j (s.toSys.clocked k))
    (hp : k ≠ Key.Pwr.COMMAND)
    (hact : (j (s.toSys.clocked k)).act (j (s.toSys.clocked k)) s.otpWord ((s.toSys.clocked k).clsOf acc.who) k v v ext = g (s.toSys.clocked k)) :
    onWrite acc k v ext s = .next (s.answers acc k v g) := by
  refine onWrite_row s acc k v ext .wo false n 0 g h hrow hv (by decide) (fun hpass => ?_)
  have hjudged : (s.toSys.need0 acc k (Sys.masked 0 v) ext).1 = j (s.toSys.clocked k) := hneed _ hpass
  rw [hjudged]
  dsimp only
  rw [Sys.powerResult_other _ _ _ hp]
  exact hact.symm

/-- One that is judged without a trace. -/
theorem onWrite_command (h : s.accepts acc k v ext = true) (hrow : Sys.rowIs k .wo false n 0 = true) (hv : v < 2 ^ (8 * n))
    (hneed : ∀ t cls, (Sys.need t cls k v v ext).1 = t) (hp : k ≠ Key.Pwr.COMMAND)
    (hact : (s.toSys.clocked k).act (s.toSys.clocked k) s.otpWord ((s.toSys.clocked k).clsOf acc.who) k v v ext = g (s.toSys.clocked k)) :
    onWrite acc k v ext s = .next (s.answers acc k v g) :=
  onWrite_judged (j := id) h hrow hv (fun cls _ => hneed _ cls) hp hact

/-- A write to an entry that holds its value stores it and answers with its effect, counted where the entry is kept. -/
theorem onWrite_entry {kept : Bool} {j : Sys → Sys} (h : s.accepts acc k v ext = true) (hrow : Sys.rowIs k .rw kept n m = true) (hv : v < 2 ^ (8 * n))
    (hm : m < 2 ^ 64) (hneed : ∀ t cls, (Sys.need t cls k (Sys.masked m v) (Sys.masked m v) ext).1 = j t) (hk : k ≠ Key.FwStore.FWS_DATA)
    (hp : k ≠ Key.Pwr.COMMAND)
    (hact : (j (s.toSys.clocked k)).act ((j (s.toSys.clocked k)).wr k (Sys.masked m v)) s.otpWord ((s.toSys.clocked k).clsOf acc.who) k (Sys.masked m v)
      (Sys.masked m v) ext = g (s.toSys.clocked k)) :
    onWrite acc k v ext s =
      .next (s.answers acc k v (fun u => (g u).when kept (fun x => x.counted acc (pairOf (keyIdx k)) [(k, BitVec.ofNat 64 (Sys.masked m v))]))) := by
  refine onWrite_row s acc k v ext .rw kept n m _ h hrow hv hm (fun _ => ?_)
  have hjudged : (s.toSys.need0 acc k (Sys.masked m v) ext).1 = j (s.toSys.clocked k) := hneed _ _
  simp only [hjudged, reduceCtorEq, if_false]
  rw [Sys.powerResult_other _ _ _ hp, Sys.storePair_other _ hk, Sys.wordCells_other _ _ hk, hact]

/-- An entry that the store keeps. -/
theorem onWrite_kept (h : s.accepts acc k v ext = true) (hrow : Sys.rowIs k .rw true n m = true) (hv : v < 2 ^ (8 * n)) (hm : m < 2 ^ 64)
    (hneed : ∀ t cls, (Sys.need t cls k (Sys.masked m v) (Sys.masked m v) ext).1 = t) (hk : k ≠ Key.FwStore.FWS_DATA) (hp : k ≠ Key.Pwr.COMMAND)
    (hact : (s.toSys.clocked k).act ((s.toSys.clocked k).wr k (Sys.masked m v)) s.otpWord ((s.toSys.clocked k).clsOf acc.who) k (Sys.masked m v)
      (Sys.masked m v) ext = g (s.toSys.clocked k)) :
    onWrite acc k v ext s = .next (s.answers acc k v (fun u => (g u).counted acc (pairOf (keyIdx k)) [(k, BitVec.ofNat 64 (Sys.masked m v))])) := by
  have hwrite := onWrite_entry (j := id) h hrow hv hm hneed hk hp hact
  simpa only [Sys.when, if_true] using hwrite

/-- An entry that a reset forgets. -/
theorem onWrite_held (h : s.accepts acc k v ext = true) (hrow : Sys.rowIs k .rw false n m = true) (hv : v < 2 ^ (8 * n)) (hm : m < 2 ^ 64)
    (hneed : ∀ t cls, (Sys.need t cls k (Sys.masked m v) (Sys.masked m v) ext).1 = t) (hk : k ≠ Key.FwStore.FWS_DATA) (hp : k ≠ Key.Pwr.COMMAND)
    (hact : (s.toSys.clocked k).act ((s.toSys.clocked k).wr k (Sys.masked m v)) s.otpWord ((s.toSys.clocked k).clsOf acc.who) k (Sys.masked m v)
      (Sys.masked m v) ext = g (s.toSys.clocked k)) :
    onWrite acc k v ext s = .next (s.answers acc k v g) := by
  have hwrite := onWrite_entry (j := id) h hrow hv hm hneed hk hp hact
  simpa only [Sys.when, Bool.false_eq_true, if_false] using hwrite

end Accepted

/-! ### Store commands, DESCRIBE and RSP_COMMIT (R41, R55, R61, R65, R551) -/

/-- A store command that is accepted starts. -/
theorem onWrite_storeCommand {s : State} {acc : Access} {v : Nat} (h : s.accepts acc Key.Store.STORE_COMMAND v {} = true) (hv : v < 2 ^ 8) :
    onWrite acc Key.Store.STORE_COMMAND v {} s = .next (s.answers acc Key.Store.STORE_COMMAND v (fun u => u.storeStart v)) :=
  onWrite_command h (n := 1) (by decide) hv (fun _ _ => rfl) (by decide) rfl

/-- REBUILD with no copy failed is done at once, else the failed pairs are its units. -/
theorem storeStart_rebuild (u : Sys) : u.storeStart 4 =
    if u.rd Key.StoreFail.FAILED_NOW = 0 then ((u.wr Key.Store.STORE_PROGRESS 100).wr Key.Store.STORE_RESULT 0).raise 63
    else { u.wr Key.Store.STORE_PROGRESS 0 with eng := { u.eng with
      command := some 4, units := 0
      total := ((List.range 16).filter (fun p => u.rdBit Key.StoreFail.FAILED_NOW (2 * p) || u.rdBit Key.StoreFail.FAILED_NOW (2 * p + 1))).length } } := by
  unfold Sys.storeStart
  simp only [true_and]
  rfl

/-- The eight bytes of FWS_DATA are stored in the firmware store, and the write counts in the pair that FWS_PAIR names. -/
theorem onWrite_fwsData {s : State} {acc : Access} {v : Nat} (h : s.accepts acc Key.FwStore.FWS_DATA v {} = true) (hv : v < 2 ^ 64) :
    onWrite acc Key.FwStore.FWS_DATA v {} s = .next (s.answers acc Key.FwStore.FWS_DATA v (fun u =>
      ({ u with eng := { u.eng with fws := (List.range 8).foldl (fun f j => Kv.put (fun _ => (0 : Byte)) (u.fwsAt + j) (BitVec.ofNat 8 (v / 256 ^ j)) f) u.eng.fws } } : Sys).counted
        acc (u.rd Key.FwStore.FWS_PAIR) ((List.range 8).map (fun j => (u.fwsAt + j, BitVec.ofNat 64 (v / 256 ^ j % 256)))))) := by
  refine onWrite_row s acc Key.FwStore.FWS_DATA v {} .rw true 8 0 _ h (by decide) hv (by decide) (fun _ => ?_)
  have hjudged : (s.toSys.need0 acc Key.FwStore.FWS_DATA (Sys.masked 0 v) {}).1 = s.toSys.clocked Key.FwStore.FWS_DATA := rfl
  have hcells (u : Sys) : u.wordCells Key.FwStore.FWS_DATA v = (List.range 8).map (fun j => (u.fwsAt + j, BitVec.ofNat 64 (v / 256 ^ j % 256))) := by
    rw [Sys.wordCells, if_pos rfl, BitVec.toNat_ofNat, Nat.mod_eq_of_lt hv]
  rw [hjudged]
  dsimp only
  rw [Sys.powerResult_other _ _ _ (by decide), show Sys.masked 0 v = v from rfl, hcells]
  rfl

/-- Settles O2: each is the accepted write of its entry. -/
theorem storeCommandsAct : Obligations.StoreCommandsAct := by
  refine ⟨?keep, ?all, ?verify, ?rebuild, ?ack, ?data, ?describe, ?respond⟩
  case keep => exact fun s acc h => onWrite_storeCommand h (by decide)
  case all => exact fun s acc h => onWrite_storeCommand h (by decide)
  case verify => exact fun s acc h => onWrite_storeCommand h (by decide)
  case rebuild => exact fun s acc h => (funext storeStart_rebuild) ▸ onWrite_storeCommand h (by decide)
  case ack => exact fun s acc h => onWrite_command h (n := 1) (by decide) (by decide) (fun _ _ => rfl) (by decide) rfl
  case data => exact fun s acc v h hv => onWrite_fwsData h hv
  case describe =>
    intro s acc pair v h hv
    have hmask : Sys.masked (2 ^ 24 - 1) v = v % 2 ^ 24 := Sys.masked_low 24 v (by decide)
    cases pair
    all_goals
      have hwrite := onWrite_held h (n := 4) (m := 2 ^ 24 - 1) (g := fun u => u.wr _ (Sys.masked (2 ^ 24 - 1) v)) (by decide) hv (by decide)
        (fun _ _ => rfl) (by decide) (by decide) rfl
      rw [hmask] at hwrite
      exact hwrite
  case respond => exact fun s acc v h hv => onWrite_command h (n := 1) (by decide) hv (fun _ _ => rfl) (by decide) rfl

end Sys2Proof.Machine
end

section
/-! PROOFS. What an accepted write of PORT_ENABLE, of the ENABLE of an endpoint and of RELEASE_OFFSET answers (R48, R74, R96). -/

namespace Sys2Proof.Machine

open Sys2Proof

namespace Sys

/-- PORT_ENABLE acts on its port and on the lanes that follow. -/
theorem actSystem_portEnable (t s : Sys) (cls : Cls) {p : Nat} (hp : p < 2) (v : Nat) :
    t.actSystem s cls (Key.Port.ENABLE p) v = (s.portEnable p v).laneRefresh := by
  have hidx : keyIdx (Key.Port.ENABLE p) = 0x210 + p := idx_of _ 7 (by decide) rfl
  have hsub : keySub (Key.Port.ENABLE p) = 7 := sub_of (0x210 + p) 7 (by decide) rfl
  unfold actSystem
  simp only [hidx, hsub, Key.Port.ENABLE, Key.DevCmd.DEVICE_COMMAND, Key.Fws.RSP_COMMIT, Key.Store.STORE_COMMAND, Key.RestoreAck.RESTORE_ACK, Key.FwStore.FWS_DATA]
  repeat rw [if_neg (by omega)]
  rw [if_pos (by omega), Nat.add_sub_cancel_left]
  rfl

/-- The ENABLE of an endpoint. -/
theorem actSystem_endpointEnable (t s : Sys) (cls : Cls) {n : Nat} (hn : n < 8) (v : Nat) : t.actSystem s cls (Key.Ep.ENABLE n) v = s.epEnable n v := by
  have hidx : keyIdx (Key.Ep.ENABLE n) = 0x230 + 2 * n := idx_of _ 1 (by decide) rfl
  have hsub : keySub (Key.Ep.ENABLE n) = 1 := sub_of (0x230 + 2 * n) 1 (by decide) rfl
  have hinst : (0x230 + 2 * n - 0x230) / 2 = n := by omega
  unfold actSystem
  simp only [hidx, hsub, hinst, Key.Ep.ENABLE, Key.DevCmd.DEVICE_COMMAND, Key.Fws.RSP_COMMIT, Key.Store.STORE_COMMAND, Key.RestoreAck.RESTORE_ACK,
    Key.FwStore.FWS_DATA]
  repeat rw [if_neg (by omega)]
  rw [if_pos (by omega), if_pos (by omega)]
  rfl

/-- RELEASE_OFFSET gives credit back. -/
theorem actSystem_release (t s : Sys) (cls : Cls) {n : Nat} (hn : n < 8) (v : Nat) : t.actSystem s cls (Key.EpSt.RELEASE_OFFSET n) v = s.release n v := by
  have hidx : keyIdx (Key.EpSt.RELEASE_OFFSET n) = 0x231 + 2 * n := idx_of _ 2 (by decide) rfl
  have hsub : keySub (Key.EpSt.RELEASE_OFFSET n) = 2 := sub_of (0x231 + 2 * n) 2 (by decide) rfl
  have hinst : (0x231 + 2 * n - 0x230) / 2 = n := by omega
  unfold actSystem
  simp only [hidx, hsub, hinst, Key.EpSt.RELEASE_OFFSET, Key.DevCmd.DEVICE_COMMAND, Key.Fws.RSP_COMMIT, Key.Store.STORE_COMMAND,
    Key.RestoreAck.RESTORE_ACK, Key.FwStore.FWS_DATA]
  repeat rw [if_neg (by omega)]
  rw [if_pos (by omega), if_neg (by omega)]
  rfl

/-- The entries of the chain, 0210 to 023F, are judged without a trace. -/
theorem need_chain {k : Nat} (i sub v : Nat) (x : Int) (ext : Ext) (hk : k = i * 256 + sub) (hs : sub < 256) (hlo : 0x210 ≤ i) (hhi : i < 0x240) (t : Sys)
    (cls : Cls) : (t.need cls k v x ext).1 = t :=
  congrArg Prod.fst (need_system t cls i sub v x ext hk hs (by omega) (by simp only [Key.DevCmd.DEVICE_COMMAND]; omega)
    (by simp only [Key.Pwr.COMMAND]; omega) (by simp only [Key.Dom.ENABLE]; omega))

end Sys

/-- Settles O3: each entry stores its value and acts on its port, endpoint or credit. -/
theorem chainWritesAct : Obligations.ChainWritesAct := by
  refine ⟨?port, ?endpoint, ?release⟩
  case port =>
    intro s acc p v h hv
    have hp := p.isLt
    have hrow : ∀ p : Fin 2, Sys.rowIs (Key.Port.ENABLE p) .rw true 1 0 = true := by decide
    refine onWrite_kept (m := 0) h (hrow p) hv (by decide) (Sys.need_chain (0x210 + p) 7 _ _ _ rfl (by decide) (by omega) (by omega))
      (by simp only [Key.Port.ENABLE, Key.FwStore.FWS_DATA]; omega) (by simp only [Key.Port.ENABLE, Key.Pwr.COMMAND]; omega) ?_
    rw [Sys.act_system _ _ _ _ (0x210 + p) 7 _ _ _ rfl (by decide) (by omega), Sys.actSystem_portEnable _ _ _ hp]
    rfl
  case endpoint =>
    intro s acc n v h hv
    have hn := n.isLt
    have hrow : ∀ n : Fin 8, Sys.rowIs (Key.Ep.ENABLE n) .rw true 1 0 = true := by decide
    refine onWrite_kept (m := 0) h (hrow n) hv (by decide) (Sys.need_chain (0x230 + 2 * n) 1 _ _ _ rfl (by decide) (by omega) (by omega))
      (by simp only [Key.Ep.ENABLE, Key.FwStore.FWS_DATA]; omega) (by simp only [Key.Ep.ENABLE, Key.Pwr.COMMAND]; omega) ?_
    rw [Sys.act_system _ _ _ _ (0x230 + 2 * n) 1 _ _ _ rfl (by decide) (by omega), Sys.actSystem_endpointEnable _ _ _ hn]
    rfl
  case release =>
    intro s acc n v h hv
    have hn := n.isLt
    have hrow : ∀ n : Fin 8, Sys.rowIs (Key.EpSt.RELEASE_OFFSET n) .rw false 4 0 = true := by decide
    refine onWrite_held (m := 0) h (hrow n) hv (by decide) (Sys.need_chain (0x231 + 2 * n) 2 _ _ _ rfl (by decide) (by omega) (by omega))
      (by simp only [Key.EpSt.RELEASE_OFFSET, Key.FwStore.FWS_DATA]; omega) (by simp only [Key.EpSt.RELEASE_OFFSET, Key.Pwr.COMMAND]; omega) ?_
    rw [Sys.act_system _ _ _ _ (0x231 + 2 * n) 2 _ _ _ rfl (by decide) (by omega), Sys.actSystem_release _ _ _ hn]
    rfl

end Sys2Proof.Machine
end

section
/-! PROOFS. What the accepted commands of a scan channel and a write of HOOP_ENABLE answer (R48, R112, R128, R141). -/

namespace Sys2Proof.Machine

open Sys2Proof

namespace Sys

/-! ### How the commands of a channel are judged -/

/-- ENABLE is judged with its table where the device is READY and the channel is off. -/
theorem chCmdCheck_enable {t : Sys} {c : Nat} {ok : Bool} (h0 : t.chState c = 0) (h : (t.chCmdCheck c 1 ok).2 = 0) :
    (t.chCmdCheck c 1 ok).1 = if t.dev = .ready then t.chChecks c ok else t := by
  revert h
  unfold chCmdCheck
  dsimp only
  by_cases hstate : t.dev = .config ∨ t.dev = .ready
  case pos =>
    simp only [h0, true_and, hstate, not_true_eq_false, if_false]
    intro _
    split <;> rfl
  case neg =>
    rw [if_pos hstate]
    exact fun h => absurd h (Nat.succ_ne_zero 0x0802)

/-- A START is refused with the cause of a READY that does not come, or leaves no trace of its judging. -/
theorem chCmdCheck_start {t : Sys} {c : Nat} {ok : Bool} (h : (t.chCmdCheck c 3 ok).2 = 0) : (t.chCmdCheck c 3 ok).1 = t := by
  have hjudge : t.chCmdCheck c 3 ok = if t.dev ≠ .armed then (t, 0x0803) else if t.chState c = 2 then (t, 0) else if t.chState c ≠ 1 then (t, 0x0803)
    else if !t.stsReady c && decide (t.rd (Key.Mod.READY_TIMEOUT c) ≠ 0) then (t.setChCause c 12, 0x0803) else (t, 0) := rfl
  rw [hjudge] at h ⊢
  grind

theorem hoopEnableCheck_fst (t : Sys) (c v : Nat) (ok : Bool) :
    (t.hoopEnableCheck c v ok).1 = if v ≠ 0 ∧ t.dev = .ready ∧ t.chState c ≠ 0 then t.hoopCheck c ok else t := by
  unfold hoopEnableCheck
  split <;> rfl

/-! ### Their entries -/

/-- COMMAND of a channel is judged by the state machine of the channel. -/
theorem need_channelCommand (c : Fin 16) (v : Nat) (x : Int) (ext : Ext) (t : Sys) (cls : Cls) :
    t.need cls (Key.Ch.COMMAND c) v x ext = t.chCmdCheck c v ext.ok :=
  need_channel t cls c 0 1 v x ext rfl c.isLt (by decide) (by decide) (by decide)

theorem act_channelCommand (c : Fin 16) (t s : Sys) (otp : Nat → Nat) (cls : Cls) (v : Nat) (x : Int) (ext : Ext) :
    t.act s otp cls (Key.Ch.COMMAND c) v x ext = s.chCmd c v :=
  act_channel t s otp cls c 0 1 v x ext rfl c.isLt (by decide) (by decide) (by decide)

/-- HOOP_ENABLE is judged with its table. -/
theorem need_hoopEnable (c : Fin 16) (v : Nat) (x : Int) (ext : Ext) (t : Sys) (cls : Cls) :
    t.need cls (Key.Hoop.HOOP_ENABLE c) v x ext = t.hoopEnableCheck c v ext.ok :=
  need_channel t cls c 0x10 5 v x ext (by simp only [Key.Hoop.HOOP_ENABLE]; omega) c.isLt (by decide) (by decide) (by decide)

theorem act_hoopEnable (c : Fin 16) (t s : Sys) (otp : Nat → Nat) (cls : Cls) (v : Nat) (x : Int) (ext : Ext) :
    t.act s otp cls (Key.Hoop.HOOP_ENABLE c) v x ext = s :=
  act_channel t s otp cls c 0x10 5 v x ext (by simp only [Key.Hoop.HOOP_ENABLE]; omega) c.isLt (by decide) (by decide) (by decide)

/-- The state of a channel stays where a clock starts. -/
theorem clocked_chState (s : Sys) (k : Nat) (c : Fin 16) : (s.clocked k).chState c = s.chState c :=
  rd_clocked s k _ (by simp only [Key.Ch.STATE, Key.Dom.CLOCKED]; omega)

end Sys

section Commands

variable {s : State} {acc : Access} {c : Fin 16} {v : Nat} {ext : Ext} {g : Sys → Sys}

/-- An accepted command of a channel has the effect of the state machine after its judging. -/
theorem onWrite_channelJudged {j : Sys → Sys} (h : s.accepts acc (Key.Ch.COMMAND c) v ext = true) (hv : v < 2 ^ 8)
    (hneed : ((s.toSys.clocked (Key.Ch.COMMAND c)).chCmdCheck c v ext.ok).2 = 0 →
      ((s.toSys.clocked (Key.Ch.COMMAND c)).chCmdCheck c v ext.ok).1 = j (s.toSys.clocked (Key.Ch.COMMAND c)))
    (hact : (j (s.toSys.clocked (Key.Ch.COMMAND c))).chCmd c v = g (s.toSys.clocked (Key.Ch.COMMAND c))) :
    onWrite acc (Key.Ch.COMMAND c) v ext s = .next (s.answers acc (Key.Ch.COMMAND c) v g) := by
  have hrow : ∀ c : Fin 16, Sys.rowIs (Key.Ch.COMMAND c) .wo false 1 0 = true := by decide
  refine onWrite_judged (j := j) h (hrow c) hv (fun cls => ?_) (by simp only [Key.Ch.COMMAND, Key.Pwr.COMMAND]; omega) ?_
  · rw [Sys.need_channelCommand]
    exact hneed
  · rw [Sys.act_channelCommand]
    exact hact

/-- One that is judged without a trace. -/
theorem onWrite_channelCommand (h : s.accepts acc (Key.Ch.COMMAND c) v ext = true) (hv : v < 2 ^ 8)
    (hneed : ((s.toSys.clocked (Key.Ch.COMMAND c)).chCmdCheck c v ext.ok).2 = 0 →
      ((s.toSys.clocked (Key.Ch.COMMAND c)).chCmdCheck c v ext.ok).1 = s.toSys.clocked (Key.Ch.COMMAND c))
    (hact : (s.toSys.clocked (Key.Ch.COMMAND c)).chCmd c v = g (s.toSys.clocked (Key.Ch.COMMAND c))) :
    onWrite acc (Key.Ch.COMMAND c) v ext s = .next (s.answers acc (Key.Ch.COMMAND c) v g) := onWrite_channelJudged (j := id) h hv hneed hact

/-- An accepted write of HOOP_ENABLE is stored and counted after its table has been judged. -/
theorem onWrite_hoopEnable (h : s.accepts acc (Key.Hoop.HOOP_ENABLE c) v ext = true) (hv : v < 2 ^ 8) :
    onWrite acc (Key.Hoop.HOOP_ENABLE c) v ext s = .next (s.answers acc (Key.Hoop.HOOP_ENABLE c) v (fun u =>
      ((if v ≠ 0 ∧ u.dev = .ready ∧ u.chState c ≠ 0 then u.hoopCheck c ext.ok else u).wr (Key.Hoop.HOOP_ENABLE c) v).counted acc
        (pairOf (keyIdx (Key.Hoop.HOOP_ENABLE c))) [(Key.Hoop.HOOP_ENABLE c, BitVec.ofNat 64 v)])) := by
  have hrow : ∀ c : Fin 16, Sys.rowIs (Key.Hoop.HOOP_ENABLE c) .rw true 1 0 = true := by decide
  have hwrite := onWrite_entry (m := 0) (j := fun u => if v ≠ 0 ∧ u.dev = .ready ∧ u.chState c ≠ 0 then u.hoopCheck c ext.ok else u)
    (g := fun u => (if v ≠ 0 ∧ u.dev = .ready ∧ u.chState c ≠ 0 then u.hoopCheck c ext.ok else u).wr (Key.Hoop.HOOP_ENABLE c) v) h (hrow c) hv (by decide)
    (fun t cls => ?_) (by simp only [Key.Hoop.HOOP_ENABLE, Key.FwStore.FWS_DATA]; omega) (by simp only [Key.Hoop.HOOP_ENABLE, Key.Pwr.COMMAND]; omega) ?_
  · simp only [Sys.when, if_true] at hwrite
    exact hwrite
  · rw [Sys.need_hoopEnable]
    exact Sys.hoopEnableCheck_fst t c v ext.ok
  · rw [Sys.act_hoopEnable]
    rfl

end Commands

/-- Settles O4: each command is judged and acts by the state machine of its channel, in the states that the clause names. -/
theorem channelCommandsAct : Obligations.ChannelCommandsAct := by
  have hstate (s : State) (c : Fin 16) : (s.toSys.clocked (Key.Ch.COMMAND c)).chState c = s.chState c := Sys.clocked_chState _ _ c
  refine ⟨?enable, ?disable, ?start, ?pause, ?resume, ?stop, ?reset, ?hoop⟩
  case enable =>
    exact fun s acc c ok h h0 => onWrite_channelJudged (j := fun u => if u.dev = .ready then u.chChecks c ok else u) h (by decide)
      (Sys.chCmdCheck_enable ((hstate s c).trans h0)) rfl
  case disable => exact fun s acc c h h0 => onWrite_channelCommand h (by decide) (fun _ => rfl) (if_neg (by rw [hstate]; exact h0))
  case start => exact fun s acc c h h1 => onWrite_channelCommand h (by decide) Sys.chCmdCheck_start (if_pos ((hstate s c).trans h1))
  case pause => exact fun s acc c h h2 => onWrite_channelCommand h (by decide) (fun _ => rfl) (if_pos ((hstate s c).trans h2))
  case resume => exact fun s acc c h => onWrite_channelCommand h (by decide) (fun _ => rfl) rfl
  case stop => exact fun s acc c h hruns => onWrite_channelCommand h (by decide) (fun _ => rfl) (if_pos (by rw [hstate]; exact hruns))
  case reset => exact fun s acc c h => onWrite_channelCommand h (by decide) (fun _ => rfl) rfl
  case hoop => exact fun s acc c v ok h hv => onWrite_hoopEnable h hv

end Sys2Proof.Machine
end

section
/-! PROOFS. What the accepted commands and acting writes of a loop slot answer (R48, R159, R165, R167, R169, R172). -/

namespace Sys2Proof.Machine

open Sys2Proof

namespace Sys

theorem slotKey_apart {k k' : Nat} (n b sub : Nat) (hk : k = (0x2400 + 16 * n + b) * 256 + sub) (hk' : k' < 0x240000) : k ≠ k' := by omega

/-- The entries of a slot are judged without a trace. -/
theorem need_slotEntry {k : Nat} (n : Fin 64) (b sub v : Nat) (x : Int) (ext : Ext) (hk : k = (0x2400 + 16 * n + b) * 256 + sub) (hb : b < 16) (hs : sub < 256)
    (t : Sys) (cls : Cls) : (t.need cls k v x ext).1 = t :=
  congrArg Prod.fst (need_slot t cls n b sub v x ext hk n.isLt hb hs)

/-- Every acting entry of a slot acts by its index and subindex. -/
theorem act_slotEntry {k : Nat} (n : Fin 64) (b sub : Nat) (hk : k = (0x2400 + 16 * n + b) * 256 + sub) (hb : b < 16) (hs : sub < 256) (t s : Sys)
    (otp : Nat → Nat) (cls : Cls) (v : Nat) (x : Int) (ext : Ext) : t.act s otp cls k v x ext = t.actSlot s n b sub v x :=
  act_slot t s otp cls n b sub v x ext hk n.isLt hb hs

/-- CLOSE closes a slot that is off, and OPEN ramps down one that runs or hands over. -/
theorem slotCmd_close (u : Sys) (n : Nat) : u.slotCmd n 1 = (if u.slotState n = 0 then u.slotClose n else u).gateOfSlot n := rfl

theorem slotCmd_open (u : Sys) (n : Nat) : u.slotCmd n 2 = (if u.slotState n = 1 ∨ u.slotState n = 2 then u.rampDown n 1 else u).gateOfSlot n := rfl

/-- The entries RC_SOURCE, RC_LEN, RC_PARAM and RC_CPR act alike. -/
theorem actSlot_rc (t s : Sys) (n : Nat) (sub : Fin 4) (v : Nat) (x : Int) :
    t.actSlot s n 6 (sub + 1) v x = t.rcConfig n (Key.SlotRc.RC_SOURCE n + sub) v := by
  have hsub : 1 ≤ sub.val + 1 ∧ sub.val + 1 ≤ 4 := by omega
  exact if_pos hsub

/-- A value fits its entry where it fits the size of the row. -/
theorem fits_row {k v : Nat} {a : Dict.Acc} {kept : Bool} {n m : Nat} (hrow : rowIs k a kept n m = true) (hfits : fits k v = true) : v < 2 ^ (8 * n) := by
  obtain ⟨r, hr, -, -, -, -, -, hn⟩ := rowIs_row hrow
  rw [fits, hr, Option.any_some, decide_eq_true_eq, hn] at hfits
  exact hfits

theorem clocked_slotState (s : Sys) (k : Nat) (n : Fin 64) : (s.clocked k).slotState n = s.slotState n :=
  rd_clocked s k _ (by simp only [Key.Slot.STATE, Key.Dom.CLOCKED]; omega)

end Sys

section Commands

variable {s : State} {acc : Access} {n : Fin 64} {v : Nat}

/-- An accepted command of a slot has its effect, and the gate of its channel is judged again. -/
theorem onWrite_slotCommand (h : s.accepts acc (Key.Slot.COMMAND n) v {} = true) (hv : v < 2 ^ 8) :
    onWrite acc (Key.Slot.COMMAND n) v {} s = .next (s.answers acc (Key.Slot.COMMAND n) v (fun u => u.slotCmd n v)) := by
  have hrow : ∀ n : Fin 64, Sys.rowIs (Key.Slot.COMMAND n) .wo false 1 0 = true := by decide
  exact onWrite_command h (hrow n) hv (Sys.need_slotEntry n 0 1 _ _ _ rfl (by decide) (by decide)) (Sys.slotKey_apart n 0 1 rfl (by decide))
    (Sys.act_slotEntry n 0 1 rfl (by decide) (by decide) ..)

/-- So does one whose effect in the present state is `g`. -/
theorem onWrite_slotEffect {g : Sys → Sys} (h : s.accepts acc (Key.Slot.COMMAND n) v {} = true) (hv : v < 2 ^ 8)
    (hg : (s.toSys.clocked (Key.Slot.COMMAND n)).slotCmd n v = g (s.toSys.clocked (Key.Slot.COMMAND n))) :
    onWrite acc (Key.Slot.COMMAND n) v {} s = .next (s.answers acc (Key.Slot.COMMAND n) v g) := by
  rw [onWrite_slotCommand h hv, State.answers, hg]
  rfl

end Commands

/-- Settles O5: each command is the effect of the slot in the state that the clause names, and each acting write stores its value with its effect. -/
theorem slotCommandsAct : Obligations.SlotCommandsAct := by
  have hstate (s : State) (n : Fin 64) : (s.toSys.clocked (Key.Slot.COMMAND n)).slotState n = s.slotState n := Sys.clocked_slotState _ _ n
  refine ⟨?close, ?open_, ?reset, ?learn, ?freeze, ?clear, ?mode, ?biquads, ?repetitive⟩
  case close =>
    intro s acc n h h0
    refine onWrite_slotEffect h (by decide) ?_
    rw [Sys.slotCmd_close, if_pos ((hstate s n).trans h0)]
  case open_ =>
    intro s acc n h hruns
    refine onWrite_slotEffect h (by decide) ?_
    rw [Sys.slotCmd_open, if_pos (by rw [hstate]; exact hruns), Sys.rampDown_eq]
  case reset => exact fun s acc n h => onWrite_slotCommand h (by decide)
  case learn => exact fun s acc n h => onWrite_slotCommand h (by decide)
  case freeze => exact fun s acc n h => onWrite_slotCommand h (by decide)
  case clear => exact fun s acc n h => onWrite_slotCommand h (by decide)
  case mode =>
    intro s acc n v h hv
    have hrow : ∀ n : Fin 64, Sys.rowIs (Key.Slot.MODE n) .rw true 1 0 = true := by decide
    exact onWrite_kept (m := 0) h (hrow n) hv (by decide) (Sys.need_slotEntry n 0 3 _ _ _ rfl (by decide) (by decide))
      (Sys.slotKey_apart n 0 3 rfl (by decide)) (Sys.slotKey_apart n 0 3 rfl (by decide)) (Sys.act_slotEntry n 0 3 rfl (by decide) (by decide) ..)
  case biquads =>
    intro s acc n v h hv
    have hrow : ∀ n : Fin 64, Sys.rowIs (Key.SlotBq.BQ_ENABLE n) .rw true 4 (2 ^ 4 - 1) = true := by decide
    have hk : Key.SlotBq.BQ_ENABLE n = (0x2400 + 16 * n + 5) * 256 + 1 := by simp only [Key.SlotBq.BQ_ENABLE]; omega
    have hmask : Sys.masked (2 ^ 4 - 1) v = v % 16 := Sys.masked_low 4 v (by decide)
    have hwrite := onWrite_kept (m := 2 ^ 4 - 1) (g := fun u => u.bqEnable n (Sys.masked (2 ^ 4 - 1) v)) h (hrow n) hv (by decide)
      (Sys.need_slotEntry n 5 1 _ _ _ hk (by decide) (by decide)) (Sys.slotKey_apart n 5 1 hk (by decide)) (Sys.slotKey_apart n 5 1 hk (by decide))
      (Sys.act_slotEntry n 5 1 hk (by decide) (by decide) ..)
    rw [hmask] at hwrite
    exact hwrite
  case repetitive =>
    intro s acc n sub v h hfits
    have hk : Key.SlotRc.RC_SOURCE n + sub = (0x2400 + 16 * n + 6) * 256 + (sub + 1) := by simp only [Key.SlotRc.RC_SOURCE]; omega
    have hrow : ∀ (n : Fin 64) (sub : Fin 4), Sys.rowIs (Key.SlotRc.RC_SOURCE n + sub) .rw true ([1, 2, 1, 4][sub]) 0 = true := by decide
    have hsub := sub.isLt
    exact onWrite_kept (m := 0) h (hrow n sub) (Sys.fits_row (hrow n sub) hfits) (by decide) (Sys.need_slotEntry n 6 (sub + 1) _ _ _ hk (by decide) (by omega))
      (Sys.slotKey_apart n 6 (sub + 1) hk (by decide)) (Sys.slotKey_apart n 6 (sub + 1) hk (by decide))
      ((Sys.act_slotEntry n 6 (sub + 1) hk (by decide) (by omega) ..).trans (Sys.actSlot_rc _ _ _ sub ..))

end Sys2Proof.Machine
end

section
/-! PROOFS. What the accepted commands of zones, of the report ring, of live updates and of the pattern queue answer (R48, R205, R211, R216, R233, R235, R243). -/

namespace Sys2Proof.Machine

open Sys2Proof

namespace Sys

/-! ### Zones and overlap ends -/

/-- An entry of a zone of a channel, by its index and subindex. -/
theorem zwKey_zone {zone end_ : Nat → Nat → Nat} {w sub : Nat} (hw : w < 128) (hkey : ∀ c z, zone c z = (0x1041 + 0x100 * c + z) * 256 + sub) :
    zwKey zone end_ w = (0x1000 + 256 * (w / 8) + (0x41 + w % 8)) * 256 + sub := by
  simp only [zwKey, zwOwner, zwPart, if_pos hw, hkey]
  omega

/-- The like entry of an overlap end of a head. -/
theorem zwKey_end {zone end_ : Nat → Nat → Nat} {w sub : Nat} (hw : 128 ≤ w) (hkey : ∀ h e, end_ h e = (0x3402 + 0x20 * h + e) * 256 + sub) :
    zwKey zone end_ w = (0x3400 + 32 * ((w - 128) / 2) + (2 + (w - 128) % 2)) * 256 + sub := by
  simp only [zwKey, zwOwner, zwPart, if_neg (Nat.not_lt.mpr hw), hkey]
  omega

theorem zwKey_apart {zone end_ : Nat → Nat → Nat} {w sub sub' k : Nat} (hzone : ∀ c z, zone c z = (0x1041 + 0x100 * c + z) * 256 + sub)
    (hend : ∀ h e, end_ h e = (0x3402 + 0x20 * h + e) * 256 + sub') (hk : k < 0x100000) : zwKey zone end_ w ≠ k := by
  unfold zwKey
  split
  · rw [hzone]; omega
  · rw [hend]; omega

/-- An entry of an overlap end acts by its head, its end and its subindex. -/
theorem actPrint_end (t s : Sys) {w sub : Nat} (hlo : 128 ≤ w) (hhi : w < 192) (hs : sub < 256) (v : Nat) (ext : Ext) :
    t.actPrint s ((0x3400 + 32 * ((w - 128) / 2) + (2 + (w - 128) % 2)) * 256 + sub) v ext =
      if sub = 1 then s.zwEnabled w v else if sub = 0xD then s.zwCmd w v else s := by
  have hidx := idx_of (k := (0x3400 + 32 * ((w - 128) / 2) + (2 + (w - 128) % 2)) * 256 + sub) _ sub hs rfl
  have hsub := sub_of (k := (0x3400 + 32 * ((w - 128) / 2) + (2 + (w - 128) % 2)) * 256 + sub) _ sub hs rfl
  have hend : (0x3400 + 32 * ((w - 128) / 2) + (2 + (w - 128) % 2)) % 32 = 2 + (w - 128) % 2 := by omega
  have hinst : 128 + 2 * ((0x3400 + 32 * ((w - 128) / 2) + (2 + (w - 128) % 2) - 0x3400) / 32) + (2 + (w - 128) % 2 - 2) = w := by omega
  unfold actPrint
  simp only [hidx, hsub, hend, hinst]
  repeat rw [if_neg (by omega)]
  rw [if_pos (by omega)]
  repeat rw [if_neg (by omega)]
  rw [if_pos (by omega)]

/-- An entry of a zone acts by its channel, its zone and its subindex. -/
theorem actChannel_zone (s : Sys) (w sub v : Nat) :
    s.actChannel (w / 8) (0x41 + w % 8) sub v = if sub = 1 then s.zwEnabled w v else if sub = 0x12 then s.zwCmd w v else s := by
  have hinst : 8 * (w / 8) + (0x41 + w % 8 - 0x41) = w := by omega
  unfold actChannel
  simp only [hinst]
  repeat rw [if_neg (by omega)]
  rw [if_pos (by omega)]

theorem need_zone {k : Nat} (t : Sys) (cls : Cls) {w sub : Nat} (hw : w < 128) (hs : sub < 256) (hk : k = (0x1000 + 256 * (w / 8) + (0x41 + w % 8)) * 256 + sub)
    (v : Nat) (x : Int) (ext : Ext) : (t.need cls k v x ext).1 = t := by
  rw [need_channel t cls (w / 8) (0x41 + w % 8) sub v x ext hk (by omega) (by omega) hs (by omega)]
  unfold needChannel
  rw [if_neg (by omega), if_neg (by omega), if_neg (by omega)]

/-- A write to ENABLE of a zone or an overlap end. -/
theorem need_zwEnable (w : Fin 192) (v : Nat) (x : Int) (ext : Ext) (t : Sys) (cls : Cls) : (t.need cls (zwEnable w) v x ext).1 = t := by
  rcases Nat.lt_or_ge w 128 with hw | hw
  · exact need_zone t cls hw (sub := 1) (by decide) (zwKey_zone hw fun _ _ => rfl) v x ext
  · exact congrArg Prod.fst (need_print t cls _ 1 v x ext (zwKey_end hw fun _ _ => rfl) (by decide) (by omega) (by omega))

theorem act_zwEnable (w : Fin 192) (t s : Sys) (otp : Nat → Nat) (cls : Cls) (v : Nat) (x : Int) (ext : Ext) :
    t.act s otp cls (zwEnable w) v x ext = s.zwEnabled w v := by
  have hlt := w.isLt
  rcases Nat.lt_or_ge w 128 with hw | hw
  · have hk : zwEnable w = _ := zwKey_zone hw fun _ _ => rfl
    rw [act_channel t s otp cls (w / 8) (0x41 + w % 8) 1 v x ext hk (by omega) (by omega) (by decide) (by omega),
      actChannel_zone s w, if_pos rfl]
  · have hk : zwEnable w = _ := zwKey_end hw fun _ _ => rfl
    rw [act_print t s otp cls _ 1 v x ext hk (by decide) (by omega) (by omega), hk, actPrint_end t s hw w.isLt (by decide), if_pos rfl]

/-- A write to COMMAND of a zone or an overlap end. -/
theorem need_zwCommand (w : Fin 192) (v : Nat) (x : Int) (ext : Ext) (t : Sys) (cls : Cls) : (t.need cls (zwCommand w) v x ext).1 = t := by
  rcases Nat.lt_or_ge w 128 with hw | hw
  · exact need_zone t cls hw (sub := 0x12) (by decide) (zwKey_zone hw fun _ _ => rfl) v x ext
  · exact congrArg Prod.fst (need_print t cls _ 0xD v x ext (zwKey_end hw fun _ _ => rfl) (by decide) (by omega) (by omega))

theorem act_zwCommand (w : Fin 192) (t s : Sys) (otp : Nat → Nat) (cls : Cls) (v : Nat) (x : Int) (ext : Ext) :
    t.act s otp cls (zwCommand w) v x ext = s.zwCmd w v := by
  have hlt := w.isLt
  rcases Nat.lt_or_ge w 128 with hw | hw
  · have hk : zwCommand w = _ := zwKey_zone hw fun _ _ => rfl
    rw [act_channel t s otp cls (w / 8) (0x41 + w % 8) 0x12 v x ext hk (by omega) (by omega) (by decide) (by omega),
      actChannel_zone s w, if_neg (by decide), if_pos rfl]
  · have hk : zwCommand w = _ := zwKey_end hw fun _ _ => rfl
    rw [act_print t s otp cls _ 0xD v x ext hk (by decide) (by omega) (by omega), hk, actPrint_end t s hw w.isLt (by decide), if_neg (by decide), if_pos rfl]

/-- The state of a zone stays where a clock starts. -/
theorem clocked_zwState (s : Sys) (k w : Nat) : (s.clocked k).rd (zwState w) = s.rd (zwState w) :=
  rd_clocked s k _ (zwKey_apart (fun _ _ => rfl) (fun _ _ => rfl) (by decide))

/-! ### Live updates -/

/-- START, RESUME and ABORT of an update are judged without a trace. -/
theorem updCmdCheck_plain (t : Sys) (u : Nat) {cmd : Nat} (h : cmd < 4) : (t.updCmdCheck u cmd true).1 = t := by
  have h5 : cmd ≠ 5 := by omega
  unfold updCmdCheck
  simp [h5, Sys.when]

/-- ROLLBACK finds a parity error of the retained copy. -/
theorem updCmdCheck_rollback {t : Sys} {u : Nat} {ok : Bool} (h : (t.updCmdCheck u 4 ok).2 = 0) :
    (t.updCmdCheck u 4 ok).1 = t.when (!ok) (fun t => t.faultNow 0x2A (tableInst u) (tableIndex u)) := by
  have hcode : t.updCmdAbort u 4 ok = 0 := h
  unfold updCmdCheck
  simp [hcode]

theorem code_of_passes {p : Prop} [Decidable p] {code : Nat} (h : (if p then code else 0x0604) = 0) : code = 0 := by
  split at h
  · exact h
  · exact absurd h (Nat.succ_ne_zero 0x0603)

/-- INSTALL that is accepted has read its target. -/
theorem updCmdCheck_install {t : Sys} {u : Nat} {ok : Bool} (h : (t.updCmdCheck u 5 ok).2 = 0) :
    (t.updCmdCheck u 5 ok).1 = (t.readOk 0x42 (t.rd (updKey u 1)) (tableLen u) ok).1 := by
  have hcode : t.updCmdAbort u 5 ok = 0 := code_of_passes h
  have hread : t.rd (updKey u 2) = tableLen u ∧ ok = true := by
    unfold updCmdAbort at hcode
    grind
  obtain ⟨hlen, rfl⟩ := hread
  unfold updCmdCheck
  simp [hcode, hlen, Sys.when]

/-- COMMAND of an update is judged by the state of the update. -/
theorem need_update (m : Fin 48) (v : Nat) (x : Int) (ext : Ext) (t : Sys) (cls : Cls) :
    t.need cls (updKey m 9) v x ext = t.updCmdCheck m v ext.ok := by
  have hm := m.isLt
  rcases Nat.lt_or_ge m 16 with h | h
  · have hk : updKey m 9 = (0x1000 + 256 * m + 0x11) * 256 + 9 := by rw [updKey, if_pos h]; omega
    exact need_channel t cls m 0x11 9 v x ext hk h (by decide) (by decide) (by decide)
  · have hk : updKey m 9 = (0x4860 + (m - 16)) * 256 + 9 := by rw [updKey, if_neg (by omega)]
    rw [need_mapUpdate t cls (m - 16) v x ext hk (by omega), Nat.sub_add_cancel h]

theorem act_update (m : Fin 48) (t s : Sys) (otp : Nat → Nat) (cls : Cls) (v : Nat) (x : Int) (ext : Ext) :
    t.act s otp cls (updKey m 9) v x ext = s.updCmd m v := by
  have hm := m.isLt
  rcases Nat.lt_or_ge m 16 with h | h
  · have hk : updKey m 9 = (0x1000 + 256 * m + 0x11) * 256 + 9 := by rw [updKey, if_pos h]; omega
    exact act_channel t s otp cls m 0x11 9 v x ext hk h (by decide) (by decide) (by decide)
  · have hk : updKey m 9 = (0x4860 + (m - 16)) * 256 + 9 := by rw [updKey, if_neg (by omega)]
    have hinst : 0x4860 + (m.val - 16) - 0x4860 + 16 = m := by omega
    rw [act_rest t s otp cls _ 9 v x ext hk (by decide) (by omega)]
    unfold actRest
    simp only [idx_of _ 9 (by decide) hk, sub_of _ 9 (by decide) hk, hinst]
    repeat rw [if_neg (by omega)]
    rw [if_pos (by omega)]
    rfl

theorem updKey_above (m : Fin 48) {k : Nat} (hk : k < 0x100000) : updKey m 9 ≠ k := by
  unfold updKey
  split <;> omega

/-! ### The pattern queue -/

theorem need_patCommand (g : Fin 4) (v : Nat) (x : Int) (ext : Ext) (t : Sys) (cls : Cls) : (t.need cls (Key.Pat.PAT_COMMAND g) v x ext).1 = t :=
  congrArg Prod.fst (need_rest t cls (0x4810 + g) 0xD v x ext rfl (by decide) (by omega) (by omega) (by omega))

theorem act_patCommand (g : Fin 4) (t s : Sys) (otp : Nat → Nat) (cls : Cls) (v : Nat) (x : Int) (ext : Ext) :
    t.act s otp cls (Key.Pat.PAT_COMMAND g) v x ext = s.patCmd g v := by
  have hg := g.isLt
  refine (act_rest t s otp cls (0x4810 + g) 0xD v x ext rfl (by decide) (by omega)).trans ?_
  unfold actRest
  simp only [idx_of (k := Key.Pat.PAT_COMMAND g) (0x4810 + g) 0xD (by decide) rfl, sub_of (k := Key.Pat.PAT_COMMAND g) (0x4810 + g) 0xD (by decide) rfl,
    Nat.add_sub_cancel_left]
  repeat rw [if_neg (by omega)]
  rw [if_pos (by omega)]
  rfl

end Sys

section Commands

variable {s : State} {acc : Access} {v : Nat}

/-- An accepted command of a zone whose effect in the present state is `g`. -/
theorem onWrite_zwCommand {w : Fin 192} {g : Sys → Sys} (h : s.accepts acc (Sys.zwCommand w) v {} = true) (hv : v < 2 ^ 8)
    (hg : (s.toSys.clocked (Sys.zwCommand w)).zwCmd w v = g (s.toSys.clocked (Sys.zwCommand w))) :
    onWrite acc (Sys.zwCommand w) v {} s = .next (s.answers acc (Sys.zwCommand w) v g) := by
  have hrow : ∀ w : Fin 192, Sys.rowIs (Sys.zwCommand w) .wo false 1 0 = true := by decide +kernel
  exact onWrite_command h (hrow w) hv (Sys.need_zwCommand w _ _ _) (Sys.zwKey_apart (fun _ _ => rfl) (fun _ _ => rfl) (by decide))
    ((Sys.act_zwCommand w ..).trans hg)

/-- An accepted command of an update whose judging leaves the block as `j` does. -/
theorem onWrite_update {m : Fin 48} {ext : Ext} {j : Sys → Sys} (h : s.accepts acc (Sys.updKey m 9) v ext = true) (hv : v < 2 ^ 8)
    (hj : ∀ t : Sys, (t.updCmdCheck m v ext.ok).2 = 0 → (t.updCmdCheck m v ext.ok).1 = j t) :
    onWrite acc (Sys.updKey m 9) v ext s = .next (s.answers acc (Sys.updKey m 9) v (fun u => (j u).updCmd m v)) := by
  have hrow : ∀ m : Fin 48, Sys.rowIs (Sys.updKey m 9) .wo false 1 0 = true := by decide
  refine onWrite_judged (j := j) h (hrow m) hv (fun cls => ?_) (Sys.updKey_above m (by decide)) (Sys.act_update m ..)
  rw [Sys.need_update]
  exact hj _

theorem onWrite_patCommand {g : Fin 4} (h : s.accepts acc (Key.Pat.PAT_COMMAND g) v {} = true) (hv : v < 2 ^ 8) :
    onWrite acc (Key.Pat.PAT_COMMAND g) v {} s = .next (s.answers acc (Key.Pat.PAT_COMMAND g) v (fun u => u.patCmd g v)) := by
  have hrow : ∀ g : Fin 4, Sys.rowIs (Key.Pat.PAT_COMMAND g) .wo false 1 0 = true := by decide
  exact onWrite_command h (hrow g) hv (Sys.need_patCommand g _ _ _) (by simp only [Key.Pat.PAT_COMMAND, Key.Pwr.COMMAND]; omega) (Sys.act_patCommand g ..)

end Commands

/-- Settles O6: the effects are those of the zone, the ring, the update and the queue, in the states that the clauses name. -/
theorem stitchAndUpdateCommandsAct : Obligations.StitchAndUpdateCommandsAct := by
  refine ⟨?zone, ?join, ?cancel, ?pop, ?start, ?resume, ?abort, ?rollback, ?install, ?request, ?clear⟩
  case zone =>
    intro s acc w v h hv
    have hrow : ∀ w : Fin 192, Sys.rowIs (zwEnable w) .rw true 1 0 = true := by decide +kernel
    have hne : ∀ k, k < 0x100000 → zwEnable w ≠ k := fun k => Sys.zwKey_apart (fun _ _ => rfl) (fun _ _ => rfl)
    exact onWrite_kept (m := 0) h (hrow w) hv (by decide) (Sys.need_zwEnable w _ _ _) (hne _ (by decide)) (hne _ (by decide)) (Sys.act_zwEnable w ..)
  case join =>
    intro s acc w h hst
    refine onWrite_zwCommand h (by decide) (if_pos ?_)
    rw [Sys.clocked_zwState]
    exact hst
  case cancel =>
    intro s acc w h hst
    exact onWrite_zwCommand h (by decide) (if_pos ((Sys.clocked_zwState ..).trans hst))
  case pop => exact fun s acc v h hv => onWrite_command h (n := 1) (by decide) hv (fun _ _ => rfl) (by decide) rfl
  case start => exact fun s acc m h => onWrite_update (j := id) h (by decide) (fun t _ => t.updCmdCheck_plain m (by decide))
  case resume => exact fun s acc m h => onWrite_update (j := id) h (by decide) (fun t _ => t.updCmdCheck_plain m (by decide))
  case abort => exact fun s acc m h => onWrite_update (j := id) h (by decide) (fun t _ => t.updCmdCheck_plain m (by decide))
  case rollback =>
    exact fun s acc m ok h => onWrite_update (j := fun t => t.when (!ok) (fun t => t.faultNow 0x2A (tableInst m) (tableIndex m))) h (by decide)
      (fun t => Sys.updCmdCheck_rollback)
  case install =>
    exact fun s acc m ok h => onWrite_update (j := fun t => (t.readOk 0x42 (t.rd (Sys.updKey m 1)) (tableLen m) ok).1) h (by decide)
      (fun t => Sys.updCmdCheck_install)
  case request => exact fun s acc g h => onWrite_patCommand h (by decide)
  case clear => exact fun s acc g h => onWrite_patCommand h (by decide)

end Sys2Proof.Machine
end

section
/-! PROOFS. What the accepted commands of encoders, head links, correction tables and print groups answer (R48, R250, R266, R267, R269, R273, R281). -/

namespace Sys2Proof.Machine

open Sys2Proof

namespace Sys

/-! ### The entries of the print engine -/

section Entries

variable (t s : Sys) (otp : Nat → Nat) (cls : Cls) (v : Nat) (x : Int) (ext : Ext)

/-- The entries of the print engine are judged without a trace. -/
theorem need_printEntry {k : Nat} (i sub : Nat) (hk : k = i * 256 + sub) (hs : sub < 256) (hlo : 0x3000 ≤ i) (hhi : i < 0x4000) :
    (t.need cls k v x ext).1 = t :=
  congrArg Prod.fst (need_print t cls i sub v x ext hk hs hlo hhi)

theorem act_encCommand (e : Fin 6) : t.act s otp cls (Key.Enc.COMMAND e) v x ext = s.encCmd e v := by
  have he := e.isLt
  refine (act_print t s otp cls (0x3010 + e) 0xA v x ext rfl (by decide) (by omega) (by omega)).trans ?_
  unfold actPrint
  simp only [idx_of (k := Key.Enc.COMMAND e) (0x3010 + e) 0xA (by decide) rfl, sub_of (k := Key.Enc.COMMAND e) (0x3010 + e) 0xA (by decide) rfl,
    Nat.add_sub_cancel_left]
  rw [if_pos (by omega), if_pos trivial]

theorem act_ctrlCommand (l : Fin 8) : t.act s otp cls (Key.LinkSt.CTRL_COMMAND l) v x ext = s.ctrlSend l (decide (v = 2)) := by
  have hl := l.isLt
  have hinst : (0x3A01 + 0x10 * l.val - 0x3A00) / 16 = l.val := by omega
  refine (act_print t s otp cls (0x3A01 + 0x10 * l) 9 v x ext rfl (by decide) (by omega) (by omega)).trans ?_
  unfold actPrint
  simp only [idx_of (k := Key.LinkSt.CTRL_COMMAND l) (0x3A01 + 0x10 * l) 9 (by decide) rfl,
    sub_of (k := Key.LinkSt.CTRL_COMMAND l) (0x3A01 + 0x10 * l) 9 (by decide) rfl, hinst, Key.Picot.COMMAND]
  repeat rw [if_neg (by omega)]
  rw [if_pos (by omega), if_neg (by omega), if_pos ⟨by omega, trivial⟩]

theorem act_picotCommand : t.act s otp cls Key.Picot.COMMAND v x ext =
    if v = 1 then s.picotStore ext.ok else if v = 2 then s.picotSend else s.picotCheckAll ext.bad := by
  rw [act_print t s otp cls 0x3800 4 v x ext rfl (by decide) (by decide) (by decide)]
  unfold actPrint
  simp only [idx_of (k := Key.Picot.COMMAND) 0x3800 4 (by decide) rfl]
  repeat rw [if_neg (by decide)]
  rw [if_pos trivial]

theorem act_groupCommand (g : Fin 4) : t.act s otp cls (Key.Grp.COMMAND g) v x ext = s.grpCmd g v := by
  have hg := g.isLt
  have hinst : (0x3100 + 0x40 * g.val - 0x3100) / 64 = g.val := by omega
  have hfirst : decide ((0x3100 + 0x40 * g.val) % 64 = 0 ∧ True) = true := decide_eq_true ⟨by omega, trivial⟩
  refine (act_print t s otp cls (0x3100 + 0x40 * g) 1 v x ext rfl (by decide) (by omega) (by omega)).trans ?_
  unfold actPrint
  simp only [idx_of (k := Key.Grp.COMMAND g) (0x3100 + 0x40 * g) 1 (by decide) rfl, sub_of (k := Key.Grp.COMMAND g) (0x3100 + 0x40 * g) 1 (by decide) rfl, hinst]
  repeat rw [if_neg (by omega)]
  rw [if_pos (by omega), hfirst]
  rfl

end Entries

theorem clocked_grpState (s : Sys) (k : Nat) (g : Fin 4) : (s.clocked k).grpState g = s.grpState g :=
  rd_clocked s k _ (by simp only [Key.Grp.STATE, Key.Dom.CLOCKED]; omega)

/-! ### Commands of a print group (R281) -/

section Group

variable {u : Sys} {g : Nat}

theorem grpCmd_start (h : u.grpState g = 1) : u.grpCmd g 3 = (u.group g).heldFeed.elim (u.setGrpState g 2) (fun n => u.grpFeed g n) := by
  have hcmd : u.grpCmd g 3 = match (u.group g).heldFeed with | some n => u.grpFeed g n | none => u.setGrpState g 2 := if_pos h
  rw [hcmd]
  cases (u.group g).heldFeed <;> rfl

/-- PAUSE of a group that prints or feeds takes effect later, else at once. -/
theorem grpCmd_pause (h : u.grpState g = 2 ∨ u.grpState g = 3 ∨ u.grpState g = 4 ∨ u.grpState g = 5) : u.grpCmd g 4 =
    if u.grpState g = 3 ∨ u.grpState g = 4 then u.modGroup g (fun q => { q with pause := true }) else u.setGrpState g 1 := by
  have hcmd : u.grpCmd g 4 = if u.grpState g = 2 then u.setGrpState g 1
    else if u.grpState g = 3 ∨ u.grpState g = 4 then u.modGroup g (fun q => { q with pause := true })
    else if u.grpState g = 5 then u.setGrpState g 1 else u := rfl
  rw [hcmd]
  rcases h with h | h | h | h <;> simp [h]

/-- RESUME of a HELD group feeds, and one of a group that still runs takes its PAUSE back. -/
theorem grpCmd_resume (h : u.grpState g = 3 ∨ u.grpState g = 4 ∨ u.grpState g = 5) : u.grpCmd g 5 =
    if u.grpState g = 5 then u.grpFeed g ((u.group g).heldFeed.getD 0) else u.modGroup g (fun q => { q with pause := false }) := by
  have hcmd : u.grpCmd g 5 = if u.grpState g = 3 ∨ u.grpState g = 4 then u.modGroup g (fun q => { q with pause := false })
    else if u.grpState g = 5 then u.grpFeed g ((u.group g).heldFeed.getD 0) else u := rfl
  rw [hcmd]
  rcases h with h | h | h <;> simp [h]

end Group

end Sys

section Commands

variable {s : State} {acc : Access} {v : Nat}

theorem onWrite_encCommand {e : Fin 6} (h : s.accepts acc (Key.Enc.COMMAND e) v {} = true) (hv : v < 2 ^ 8) :
    onWrite acc (Key.Enc.COMMAND e) v {} s = .next (s.answers acc (Key.Enc.COMMAND e) v (fun u => u.encCmd e v)) := by
  have hrow : ∀ e : Fin 6, Sys.rowIs (Key.Enc.COMMAND e) .wo false 1 0 = true := by decide
  exact onWrite_command h (hrow e) hv (fun t cls => t.need_printEntry cls _ _ _ (0x3010 + e) 0xA rfl (by decide) (by omega) (by omega))
    (by simp only [Key.Enc.COMMAND, Key.Pwr.COMMAND]; omega) (Sys.act_encCommand ..)

theorem onWrite_ctrlCommand {l : Fin 8} (h : s.accepts acc (Key.LinkSt.CTRL_COMMAND l) v {} = true) (hv : v < 2 ^ 8) :
    onWrite acc (Key.LinkSt.CTRL_COMMAND l) v {} s = .next (s.answers acc (Key.LinkSt.CTRL_COMMAND l) v (fun u => u.ctrlSend l (decide (v = 2)))) := by
  have hrow : ∀ l : Fin 8, Sys.rowIs (Key.LinkSt.CTRL_COMMAND l) .wo false 1 0 = true := by decide
  exact onWrite_command h (hrow l) hv (fun t cls => t.need_printEntry cls _ _ _ (0x3A01 + 0x10 * l) 9 rfl (by decide) (by omega) (by omega))
    (by simp only [Key.LinkSt.CTRL_COMMAND, Key.Pwr.COMMAND]; omega) (Sys.act_ctrlCommand ..)

/-- A command of the correction tables whose effect is `g`. -/
theorem onWrite_picotCommand {ext : Ext} {g : Sys → Sys} (h : s.accepts acc Key.Picot.COMMAND v ext = true) (hv : v < 2 ^ 8)
    (hg : ∀ u : Sys, (if v = 1 then u.picotStore ext.ok else if v = 2 then u.picotSend else u.picotCheckAll ext.bad) = g u) :
    onWrite acc Key.Picot.COMMAND v ext s = .next (s.answers acc Key.Picot.COMMAND v g) :=
  onWrite_command h (n := 1) (by decide) hv (fun t cls => t.need_printEntry cls _ _ _ 0x3800 4 rfl (by decide) (by decide) (by decide)) (by decide)
    ((Sys.act_picotCommand ..).trans (hg _))

/-- A command of a print group whose effect in the present state is `f`. -/
theorem onWrite_groupCommand {g : Fin 4} {f : Sys → Sys} (h : s.accepts acc (Key.Grp.COMMAND g) v {} = true) (hv : v < 2 ^ 8)
    (hf : (s.toSys.clocked (Key.Grp.COMMAND g)).grpCmd g v = f (s.toSys.clocked (Key.Grp.COMMAND g))) :
    onWrite acc (Key.Grp.COMMAND g) v {} s = .next (s.answers acc (Key.Grp.COMMAND g) v f) := by
  have hrow : ∀ g : Fin 4, Sys.rowIs (Key.Grp.COMMAND g) .wo false 1 0 = true := by decide
  exact onWrite_command h (hrow g) hv (fun t cls => t.need_printEntry cls _ _ _ (0x3100 + 0x40 * g) 1 rfl (by decide) (by omega) (by omega))
    (by simp only [Key.Grp.COMMAND, Key.Pwr.COMMAND]; omega) ((Sys.act_groupCommand ..).trans hf)

end Commands

/-- Settles O7: the effects are those of the encoder, the link, the tables and the group, in the states that the clauses name. -/
theorem printCommandsAct : Obligations.PrintCommandsAct := by
  have hstate (s : State) (g : Fin 4) : (s.toSys.clocked (Key.Grp.COMMAND g)).grpState g = s.grpState g := Sys.clocked_grpState _ _ g
  refine ⟨?encClear, ?encZero, ?ctrlWrite, ?ctrlRead, ?store, ?send, ?check, ?enable, ?disable, ?start, ?pause, ?resume, ?stop, ?reset⟩
  case encClear => exact fun s acc e h => onWrite_encCommand h (by decide)
  case encZero => exact fun s acc e h => onWrite_encCommand h (by decide)
  case ctrlWrite => exact fun s acc l h => onWrite_ctrlCommand h (by decide)
  case ctrlRead => exact fun s acc l h => onWrite_ctrlCommand h (by decide)
  case store => exact fun s acc ok h => onWrite_picotCommand h (by decide) (fun u => if_pos rfl)
  case send => exact fun s acc h => onWrite_picotCommand h (by decide) (fun u => (if_neg (by decide)).trans (if_pos rfl))
  case check => exact fun s acc bad h => onWrite_picotCommand h (by decide) (fun u => (if_neg (by decide)).trans (if_neg (by decide)))
  case enable => exact fun s acc g h h0 => onWrite_groupCommand h (by decide) (if_pos ((hstate s g).trans h0))
  case disable => exact fun s acc g h hst => onWrite_groupCommand h (by decide) (if_pos (by rw [hstate]; exact hst))
  case start => exact fun s acc g h h1 => onWrite_groupCommand h (by decide) (Sys.grpCmd_start ((hstate s g).trans h1))
  case pause => exact fun s acc g h hst => onWrite_groupCommand h (by decide) (Sys.grpCmd_pause (by rw [hstate]; exact hst))
  case resume => exact fun s acc g h hst => onWrite_groupCommand h (by decide) (Sys.grpCmd_resume (by rw [hstate]; exact hst))
  case stop => exact fun s acc g h => onWrite_groupCommand h (by decide) rfl
  case reset => exact fun s acc g h hst => onWrite_groupCommand h (by decide) (if_pos (by rw [hstate]; exact hst))

end Sys2Proof.Machine
end

section
/-! PROOFS. What the accepted commands of an axis answer (R48, R307, R308, R311). -/

namespace Sys2Proof.Machine

open Sys2Proof

namespace Sys

/-- An axis command that is accepted leaves no trace of its judging: only a refused RUN_TABLE does. -/
theorem axCmdCheck_accepted {t : Sys} {a cmd : Nat} {ok : Bool} (h : (t.axCmdCheck a cmd ok).2 = 0) : (t.axCmdCheck a cmd ok).1 = t := by
  unfold axCmdCheck at h ⊢
  grind

/-- COMMAND of an axis puts the command at the end of what the axis takes. -/
theorem act_axisCommand (a : Fin 8) (t s : Sys) (otp : Nat → Nat) (cls : Cls) (v : Nat) (x : Int) (ext : Ext) :
    t.act s otp cls (Key.Axis.COMMAND a) v x ext = s.axCmd a v := by
  have ha := a.isLt
  have hinst : (0x4000 + 0x100 * a.val - 0x4000) / 256 = a.val := by omega
  have hcommand : decide ((0x4000 + 0x100 * a.val) % 256 = 0 ∧ True) = true := decide_eq_true ⟨by omega, trivial⟩
  have hmeasured : decide ((0x4000 + 0x100 * a.val) % 256 = 0 ∧ 1 = 5 ∧ v = 0) = false := decide_eq_false (by omega)
  refine (act_rest t s otp cls (0x4000 + 0x100 * a) 1 v x ext rfl (by decide) (by omega)).trans ?_
  unfold actRest
  simp only [idx_of (k := Key.Axis.COMMAND a) (0x4000 + 0x100 * a) 1 (by decide) rfl, sub_of (k := Key.Axis.COMMAND a) (0x4000 + 0x100 * a) 1 (by decide) rfl,
    hinst, hcommand, hmeasured]
  rw [if_pos (by omega)]
  rfl

end Sys

/-- An accepted command of an axis waits for its next update, with the operand that its entries hold. -/
theorem onWrite_axisCommand {s : State} {acc : Access} {a : Fin 8} {v : Nat} {ext : Ext} (h : s.accepts acc (Key.Axis.COMMAND a) v ext = true) (hv : v < 2 ^ 8) :
    onWrite acc (Key.Axis.COMMAND a) v ext s = .next (s.answers acc (Key.Axis.COMMAND a) v (fun u => u.axCmd a v)) := by
  have hrow : ∀ a : Fin 8, Sys.rowIs (Key.Axis.COMMAND a) .wo false 1 0 = true := by decide
  refine onWrite_judged (j := id) h (hrow a) hv (fun cls => ?_) (by simp only [Key.Axis.COMMAND, Key.Pwr.COMMAND]; omega) (Sys.act_axisCommand a ..)
  rw [Sys.need_axisCommand _ _ a _ _ _ (by simp only [Key.Axis.COMMAND]) a.isLt]
  exact Sys.axCmdCheck_accepted

/-- Settles O8: one lemma for the ten commands, whose operands are those of the clauses. -/
theorem axisCommandsAreTaken : Obligations.AxisCommandsAreTaken :=
  ⟨fun _ _ _ h => onWrite_axisCommand h (by decide), fun _ _ _ h => onWrite_axisCommand h (by decide), fun _ _ _ h => onWrite_axisCommand h (by decide),
    fun _ _ _ h => onWrite_axisCommand h (by decide), fun _ _ _ _ h => onWrite_axisCommand h (by decide), fun _ _ _ h => onWrite_axisCommand h (by decide),
    fun _ _ _ h => onWrite_axisCommand h (by decide), fun _ _ _ h => onWrite_axisCommand h (by decide), fun _ _ _ h => onWrite_axisCommand h (by decide),
    fun _ _ _ h => onWrite_axisCommand h (by decide)⟩

end Sys2Proof.Machine
end

section
/-! PROOFS. What accepted writes of the camera's enables, lane commands and TX_TAIL answer (R48, R317, R326, R330, R340, R352, R354, R356). -/

namespace Sys2Proof.Machine

open Sys2Proof

namespace Sys

section Entries

variable (t s : Sys) (otp : Nat → Nat) (cls : Cls) (v : Nat) (x : Int) (ext : Ext)

/-- The entries of the camera are judged without a trace. -/
theorem need_cameraEntry {k : Nat} (i sub : Nat) (hk : k = i * 256 + sub) (hs : sub < 256) (hi : 0x5000 ≤ i) : (t.need cls k v x ext).1 = t :=
  congrArg Prod.fst (need_rest t cls i sub v x ext hk hs (by omega) (by omega) (by omega))

/-- So are those of the fabric but TRAIN_COMMAND. -/
theorem need_fabricEntry {k : Nat} (i sub : Nat) (hk : k = i * 256 + sub) (hs : sub < 256) (hlo : 0x900 ≤ i) (hhi : i < 0x1000) : (t.need cls k v x ext).1 = t :=
  congrArg Prod.fst (need_fabric t cls i sub v x ext hk hs (by omega) hhi (by simp only [Key.Train.TRAIN_COMMAND]; omega))

theorem act_ctxEnable (c : Fin 16) : t.act s otp cls (Key.Ctx.ENABLE c) v x ext = s.ctxEnable c (t.rdB (Key.Ctx.ENABLE c)) v := by
  have hc := c.isLt
  have hinst : (0x5100 + 0x10 * c.val - 0x5100) / 16 = c.val := by omega
  have hfirst : decide ((0x5100 + 0x10 * c.val) % 16 = 0 ∧ True) = true := decide_eq_true ⟨by omega, trivial⟩
  refine (act_rest t s otp cls (0x5100 + 0x10 * c) 1 v x ext rfl (by decide) (by omega)).trans ?_
  unfold actRest
  simp only [idx_of (k := Key.Ctx.ENABLE c) (0x5100 + 0x10 * c) 1 (by decide) rfl, sub_of (k := Key.Ctx.ENABLE c) (0x5100 + 0x10 * c) 1 (by decide) rfl,
    hinst, hfirst]
  repeat rw [if_neg (by omega)]
  rw [if_pos (by omega)]
  rfl

/-- Entries of outputs, profiles and records do nothing but hold their values. -/
theorem act_cameraStored {k : Nat} (i sub : Nat) (hk : k = i * 256 + sub) (hs : sub < 256) (hi : 0x5200 ≤ i) : t.act s otp cls k v x ext = s := by
  rw [act_rest t s otp cls i sub v x ext hk hs (by omega)]
  unfold actRest
  simp only [idx_of i sub hs hk]
  repeat rw [if_neg (by omega)]

theorem act_laneCommand (l : Fin 16) : t.act s otp cls (Key.Lane.COMMAND l) v x ext = s.laneCmd l v := by
  have hl := l.isLt
  have hinst : (0xC00 + 0x8 * l.val - 0xC00) / 8 = l.val := by omega
  have hfirst : decide ((0xC00 + 0x8 * l.val) % 8 = 0 ∧ True) = true := decide_eq_true ⟨by omega, trivial⟩
  refine (act_fabric t s otp cls (0xC00 + 0x8 * l) 5 v x ext rfl (by decide) (by omega) (by omega)).trans ?_
  unfold actFabric
  simp only [idx_of (k := Key.Lane.COMMAND l) (0xC00 + 0x8 * l) 5 (by decide) rfl, sub_of (k := Key.Lane.COMMAND l) (0xC00 + 0x8 * l) 5 (by decide) rfl,
    hinst, hfirst, Key.Mram.COMMAND, Key.Image.COMMAND, Key.Otp.OTP_COMMAND]
  repeat rw [if_neg (by omega)]
  rw [if_pos (by omega)]
  rfl

theorem act_txTail (m : Fin 2) : t.act s otp cls (Key.MacRing.TX_TAIL m) v x ext = s := by
  have hm := m.isLt
  refine (act_fabric t s otp cls (0xD01 + 0x10 * m) 8 v x ext rfl (by decide) (by omega) (by omega)).trans ?_
  unfold actFabric
  simp only [idx_of (k := Key.MacRing.TX_TAIL m) (0xD01 + 0x10 * m) 8 (by decide) rfl, Key.Mram.COMMAND, Key.Image.COMMAND,
    Key.Otp.OTP_COMMAND, Key.Inc.ADJ_TICKS, Key.Step.TIME_STEP]
  repeat rw [if_neg (by omega)]

end Entries

end Sys

section Commands

variable {s : State} {acc : Access} {v : Nat}

theorem onWrite_laneCommand {l : Fin 16} (h : s.accepts acc (Key.Lane.COMMAND l) v {} = true) (hv : v < 2 ^ 8) :
    onWrite acc (Key.Lane.COMMAND l) v {} s = .next (s.answers acc (Key.Lane.COMMAND l) v (fun u => u.laneCmd l v)) := by
  have hrow : ∀ l : Fin 16, Sys.rowIs (Key.Lane.COMMAND l) .wo false 1 0 = true := by decide
  exact onWrite_command h (hrow l) hv (fun t cls => t.need_fabricEntry cls _ _ _ (0xC00 + 0x8 * l) 5 rfl (by decide) (by omega) (by omega))
    (by simp only [Key.Lane.COMMAND, Key.Pwr.COMMAND]; omega) (Sys.act_laneCommand ..)

/-- A kept entry of the camera from 5200 on is stored and counted. -/
theorem onWrite_cameraStored {k n : Nat} (h : s.accepts acc k v {} = true) (hrow : Sys.rowIs k .rw true n 0 = true) (hv : v < 2 ^ (8 * n)) (i sub : Nat)
    (hk : k = i * 256 + sub) (hs : sub < 256) (hi : 0x5200 ≤ i) : onWrite acc k v {} s =
      .next (s.answers acc k v (fun u => (u.wr k v).counted acc (pairOf (keyIdx k)) [(k, BitVec.ofNat 64 v)])) :=
  onWrite_kept (m := 0) h hrow hv (by decide) (fun t cls => t.need_cameraEntry cls _ _ _ i sub hk hs (by omega))
    (by simp only [Key.FwStore.FWS_DATA]; omega) (by simp only [Key.Pwr.COMMAND]; omega) (Sys.act_cameraStored _ _ _ _ _ _ _ i sub hk hs hi)

/-- The tail of a transmit ring is held. -/
theorem onWrite_txTail {m : Fin 2} (h : s.accepts acc (Key.MacRing.TX_TAIL m) v {} = true) (hv : v < 2 ^ 16) :
    onWrite acc (Key.MacRing.TX_TAIL m) v {} s = .next (s.answers acc (Key.MacRing.TX_TAIL m) v (fun u => u.wr (Key.MacRing.TX_TAIL m) v)) := by
  have hrow : ∀ m : Fin 2, Sys.rowIs (Key.MacRing.TX_TAIL m) .rw false 2 0 = true := by decide
  exact onWrite_held (m := 0) h (hrow m) hv (by decide) (fun t cls => t.need_fabricEntry cls _ _ _ (0xD01 + 0x10 * m) 8 rfl (by decide) (by omega) (by omega))
    (by simp only [Key.MacRing.TX_TAIL, Key.FwStore.FWS_DATA]; omega) (by simp only [Key.MacRing.TX_TAIL, Key.Pwr.COMMAND]; omega) (Sys.act_txTail ..)

end Commands

/-- Settles O9: the enables are stored with the effect of a context's, lane commands act on their lane, and TX_TAIL is held. -/
theorem cameraAndLaneCommandsAct : Obligations.CameraAndLaneCommandsAct := by
  refine ⟨?context, ?output, ?profile, ?retrain, ?reload, ?testStart, ?testStop, ?tail⟩
  case context =>
    intro s acc c v h hv
    have hrow : ∀ c : Fin 16, Sys.rowIs (Key.Ctx.ENABLE c) .rw true 1 0 = true := by decide
    exact onWrite_kept (m := 0) h (hrow c) hv (by decide) (fun t cls => t.need_cameraEntry cls _ _ _ (0x5100 + 0x10 * c) 1 rfl (by decide) (by omega))
      (by simp only [Key.Ctx.ENABLE, Key.FwStore.FWS_DATA]; omega) (by simp only [Key.Ctx.ENABLE, Key.Pwr.COMMAND]; omega) (Sys.act_ctxEnable ..)
  case output =>
    intro s acc c n v h hv
    have hrow : ∀ (c : Fin 16) (n : Fin 3), Sys.rowIs (Key.Out.ENABLE c n) .rw true 1 0 = true := by decide
    exact onWrite_cameraStored h (hrow c n) hv (0x5200 + 0x10 * c + n) 1 rfl (by decide) (by omega)
  case profile =>
    intro s acc c v h hv
    have hrow : ∀ c : Fin 16, Sys.rowIs (Key.Profl.PROF_ENABLE c) .rw true 1 0 = true := by decide
    exact onWrite_cameraStored h (hrow c) hv (0x5301 + 0x10 * c) 1 rfl (by decide) (by omega)
  case retrain => exact fun s acc l h => onWrite_laneCommand h (by decide)
  case reload => exact fun s acc l h => onWrite_laneCommand h (by decide)
  case testStart => exact fun s acc l h => onWrite_laneCommand h (by decide)
  case testStop => exact fun s acc l h => onWrite_laneCommand h (by decide)
  case tail => exact fun s acc m v h hv => onWrite_txTail h hv

end Sys2Proof.Machine
end

section
/-! PROOFS. What accepted writes of device time, of the triggers and of the capture units answer (R48, R359, R360, R362, R363, R364, R368). -/

namespace Sys2Proof.Machine

open Sys2Proof

namespace Sys

section Entries

variable (t s : Sys) (otp : Nat → Nat) (cls : Cls) (v : Nat) (x : Int) (ext : Ext)

/-- An entry of trigger `n` acts by its subindex. -/
theorem act_trigger {k : Nat} (n : Fin 32) (sub : Nat) (hk : k = (0xE10 + n.val) * 256 + sub) (hs : sub < 256) : t.act s otp cls k v x ext =
    if 1 ≤ sub ∧ sub ≤ 3 then s.trigRestart n else if sub = 4 then s.trigArm n else if sub = 5 then s.trigCmd n v else s := by
  have hn := n.isLt
  rw [act_fabric t s otp cls (0xE10 + n) sub v x ext hk hs (by omega) (by omega)]
  unfold actFabric
  simp only [idx_of (0xE10 + n) sub hs hk, sub_of (0xE10 + n) sub hs hk, Nat.add_sub_cancel_left, Key.Mram.COMMAND, Key.Image.COMMAND,
    Key.Otp.OTP_COMMAND, Key.Inc.ADJ_TICKS, Key.Step.TIME_STEP]
  repeat rw [if_neg (by omega)]
  rw [if_pos (by omega)]

/-- An entry of capture unit `n` acts by its subindex. -/
theorem act_capture {k : Nat} (n : Fin 32) (sub : Nat) (hk : k = (0xE40 + n.val) * 256 + sub) (hs : sub < 256) : t.act s otp cls k v x ext =
    if sub = 1 ∨ sub = 2 then s.capEmpty n else if sub = 8 then s.capPop n v else s := by
  have hn := n.isLt
  rw [act_fabric t s otp cls (0xE40 + n) sub v x ext hk hs (by omega) (by omega)]
  unfold actFabric
  simp only [idx_of (0xE40 + n) sub hs hk, sub_of (0xE40 + n) sub hs hk, Nat.add_sub_cancel_left, Key.Mram.COMMAND, Key.Image.COMMAND,
    Key.Otp.OTP_COMMAND, Key.Inc.ADJ_TICKS, Key.Step.TIME_STEP]
  repeat rw [if_neg (by omega)]
  rw [if_pos (by omega)]

end Entries

/-! ### TIME_STEP, whose value is signed (R37, R360) -/

/-- The bits of a signed value of 64 bits. -/
theorem ofInt_sext (v : Nat) : BitVec.ofInt 64 (sext 64 v) = BitVec.ofNat 64 v := by
  apply BitVec.eq_of_toNat_eq
  unfold sext
  rw [BitVec.toNat_ofInt, BitVec.toNat_ofNat]
  dsimp only
  split <;> omega

theorem toInt_trunc {i : Int} (hlo : -(2 ^ 63) ≤ i) (hhi : i < 2 ^ 63) : (BitVec.ofNat 64 (trunc 64 i)).toInt = i := by
  unfold trunc
  rw [BitVec.toInt_eq_toNat_bmod, BitVec.toNat_ofNat, Int.bmod_def]
  split <;> omega

/-- A write of a signed value of 64 bits brings its bits. -/
theorem formOf_i64 (t : Sys) (acc : Access) {k : Nat} (v : Nat) {r : Dict.Row} (hr : entryRow (keyIdx k) (keySub k) = some r) (hty : r.ty = .i64) :
    t.formOf (writeReq acc k v) r.ty = .word (BitVec.ofNat 64 v) := by
  have hsize : tySize .i64 = 8 := rfl
  have hbits : BitVec.ofNat 64 (v % 2 ^ 64) = BitVec.ofNat 64 v := BitVec.eq_of_toNat_eq (by simp)
  unfold formOf
  cases hw : acc.who with
  | chain tag =>
    have hwho : (writeReq acc k v).acc.who = .chain tag := hw
    rw [hwho, hty]
    simp only [writeReq, hr, Option.elim, hw, isChain, if_true, hty, hsize, chainForm, formWord, tySigned, ne_eq, not_true_eq_false, if_false, reduceCtorEq]
    exact congrArg Form.word ((ofInt_sext _).trans hbits)
  | window m machine =>
    have hwho : (writeReq acc k v).acc.who = .window m machine := hw
    rw [hwho, hty]
    simp only [writeReq, hr, Option.elim, hw, isChain, hty, hsize, windowForm, Bool.false_eq_true, if_false, if_true, Bool.not_false, and_self, decide_true,
      Nat.max_def, Nat.reduceLeDiff, Nat.reduceMul, hbits]

theorem row_timeStep : ∃ r, entryRow (keyIdx Key.Step.TIME_STEP) (keySub Key.Step.TIME_STEP) = some r ∧ r.ty = .i64 ∧ r.acc = .wo ∧ r.kept = false ∧ r.mask = 0 := by
  have hrow : (entryRow (keyIdx Key.Step.TIME_STEP) (keySub Key.Step.TIME_STEP)).any
      (fun r => decide (r.ty = .i64 ∧ r.acc = .wo ∧ r.kept = false ∧ r.mask = 0)) = true := by decide
  rw [Option.any_eq_true] at hrow
  obtain ⟨r, hr, h⟩ := hrow
  exact ⟨r, hr, of_decide_eq_true h⟩

/-- A write of TIME_STEP adds to the step that waits. -/
theorem written_timeStep (s : Sys) (otp : Nat → Nat) (acc : Access) {i : Int} (hlo : -(2 ^ 63) ≤ i) (hhi : i < 2 ^ 63) :
    s.written otp acc Key.Step.TIME_STEP (trunc 64 i) {} = (s.clocked Key.Step.TIME_STEP).timeStep i := by
  obtain ⟨r, hr, hty, hacc, hkept, hmask⟩ := row_timeStep
  have hform := (s.clocked Key.Step.TIME_STEP).formOf_i64 acc (trunc 64 i) hr hty
  have hword : maskWord r (BitVec.ofNat 64 (trunc 64 i)) = BitVec.ofNat 64 (trunc 64 i) := if_pos hmask
  have hint : intOf r (BitVec.ofNat 64 (trunc 64 i)) = i := by rw [intOf, hty]; exact toInt_trunc hlo hhi
  have hneed (w : Word) (x : Int) : ((s.clocked Key.Step.TIME_STEP).need ((s.clocked Key.Step.TIME_STEP).clsOf acc.who) Key.Step.TIME_STEP w.toNat x {}).1 =
      s.clocked Key.Step.TIME_STEP := need_fabricEntry _ _ _ _ _ 0xE02 0 rfl (by decide) (by decide) (by decide)
  unfold written wordOf
  simp only [show (writeReq acc Key.Step.TIME_STEP (trunc 64 i)).idx = keyIdx Key.Step.TIME_STEP from rfl,
    show (writeReq acc Key.Step.TIME_STEP (trunc 64 i)).sub = keySub Key.Step.TIME_STEP from rfl, hr, hform, hword, hint, hkept, needed, hneed, storeValue, hacc,
    if_true, Sys.when, Bool.false_eq_true, if_false]
  rw [powerResult_other _ _ _ (by decide)]
  rfl

end Sys

section Writes

variable {s : State} {acc : Access} {v n m : Nat}

/-- A write of an entry of device time that holds its value. -/
theorem onWrite_timeHeld {k : Nat} {g : Sys → Sys} (i sub : Nat) (h : s.accepts acc k v {} = true) (hrow : Sys.rowIs k .rw false n 0 = true) (hv : v < 2 ^ (8 * n))
    (hk : k = i * 256 + sub) (hs : sub < 256) (hlo : 0xE00 ≤ i) (hhi : i < 0xF00)
    (hact : (s.toSys.clocked k).act ((s.toSys.clocked k).wr k v) s.otpWord ((s.toSys.clocked k).clsOf acc.who) k v v {} = g (s.toSys.clocked k)) :
    onWrite acc k v {} s = .next (s.answers acc k v g) :=
  onWrite_held (m := 0) h hrow hv (by decide) (fun t cls => t.need_fabricEntry cls _ _ _ i sub hk hs (by omega) (by omega))
    (by simp only [Key.FwStore.FWS_DATA]; omega) (by simp only [Key.Pwr.COMMAND]; omega) hact

/-- One that the store keeps. -/
theorem onWrite_timeKept {k : Nat} {g : Sys → Sys} (i sub : Nat) (h : s.accepts acc k v {} = true) (hrow : Sys.rowIs k .rw true n 0 = true) (hv : v < 2 ^ (8 * n))
    (hk : k = i * 256 + sub) (hs : sub < 256) (hlo : 0xE00 ≤ i) (hhi : i < 0xF00)
    (hact : (s.toSys.clocked k).act ((s.toSys.clocked k).wr k v) s.otpWord ((s.toSys.clocked k).clsOf acc.who) k v v {} = g (s.toSys.clocked k)) :
    onWrite acc k v {} s = .next (s.answers acc k v (fun u => (g u).counted acc (pairOf (keyIdx k)) [(k, BitVec.ofNat 64 v)])) :=
  onWrite_kept (m := 0) h hrow hv (by decide) (fun t cls => t.need_fabricEntry cls _ _ _ i sub hk hs (by omega) (by omega))
    (by simp only [Key.FwStore.FWS_DATA]; omega) (by simp only [Key.Pwr.COMMAND]; omega) hact

/-- A command of device time. -/
theorem onWrite_timeCommand {k : Nat} {g : Sys → Sys} (i sub : Nat) (h : s.accepts acc k v {} = true) (hrow : Sys.rowIs k .wo false 1 0 = true) (hv : v < 2 ^ 8)
    (hk : k = i * 256 + sub) (hs : sub < 256) (hlo : 0xE00 ≤ i) (hhi : i < 0xF00)
    (hact : (s.toSys.clocked k).act (s.toSys.clocked k) s.otpWord ((s.toSys.clocked k).clsOf acc.who) k v v {} = g (s.toSys.clocked k)) :
    onWrite acc k v {} s = .next (s.answers acc k v g) :=
  onWrite_command h hrow hv (fun t cls => t.need_fabricEntry cls _ _ _ i sub hk hs (by omega) (by omega)) (by simp only [Key.Pwr.COMMAND]; omega) hact

theorem onWrite_increment (adj : Bool) (h : s.accepts acc (if adj then Key.Inc.ADJ_INCREMENT else Key.Inc.INCREMENT) v {} = true) (hv : v < 2 ^ 64) :
    onWrite acc (if adj then Key.Inc.ADJ_INCREMENT else Key.Inc.INCREMENT) v {} s =
      .next (s.answers acc (if adj then Key.Inc.ADJ_INCREMENT else Key.Inc.INCREMENT) v (fun u => u.wr (if adj then Key.Inc.ADJ_INCREMENT else Key.Inc.INCREMENT) v)) := by
  cases adj
  case false => exact onWrite_timeHeld 0xE01 1 h (n := 8) (by decide) hv rfl (by decide) (by decide) (by decide) rfl
  case true => exact onWrite_timeHeld 0xE01 2 h (n := 8) (by decide) hv rfl (by decide) (by decide) (by decide) rfl

theorem onWrite_adjTicks (h : s.accepts acc Key.Inc.ADJ_TICKS v {} = true) (hv : v < 2 ^ 32) :
    onWrite acc Key.Inc.ADJ_TICKS v {} s = .next (s.answers acc Key.Inc.ADJ_TICKS v (fun u => u.adjTicks v)) :=
  onWrite_timeHeld 0xE01 3 h (n := 4) (by decide) hv rfl (by decide) (by decide) (by decide) rfl

/-- A command of a trigger. -/
theorem onWrite_trigCommand {n : Fin 32} (h : s.accepts acc (Key.Trig.COMMAND n) v {} = true) (hv : v < 2 ^ 8) :
    onWrite acc (Key.Trig.COMMAND n) v {} s = .next (s.answers acc (Key.Trig.COMMAND n) v (fun u => u.trigCmd n v)) := by
  have hrow : ∀ n : Fin 32, Sys.rowIs (Key.Trig.COMMAND n) .wo false 1 0 = true := by decide
  exact onWrite_timeCommand (0xE10 + n) 5 h (hrow n) hv rfl (by decide) (by omega) (by omega) (Sys.act_trigger _ _ _ _ _ _ _ n 5 rfl (by decide))

end Writes

/-- Settles O10: each write is that of its entry, and TIME_STEP brings a signed value. -/
theorem timeCommandsAct : Obligations.TimeCommandsAct := by
  refine ⟨?increment, ?ticks, ?step, ?config, ?arm, ?pulse, ?cancel, ?pop, ?capture⟩
  case increment => exact fun s acc adj v h hv => onWrite_increment adj h hv
  case ticks => exact fun s acc v h hv => onWrite_adjTicks h hv
  case step =>
    intro s acc i h hlo hhi
    refine (onWrite_accepted s acc Key.Step.TIME_STEP (trunc 64 i) {} h).trans ?_
    rw [State.afterWrite, Sys.afterWrite, Sys.written_timeStep _ _ _ hlo hhi]
    rfl
  case config =>
    intro s acc n sub v h hfits
    have hn := n.isLt
    have hrow : ∀ (n : Fin 32) (sub : Fin 3), Sys.rowIs (Key.Trig.MODE n + sub) .rw true ([1, 8, 4][sub]) 0 = true := by decide
    have hk : Key.Trig.MODE n + sub = (0xE10 + n) * 256 + (sub + 1) := by simp only [Key.Trig.MODE]; omega
    exact onWrite_timeKept (0xE10 + n) (sub + 1) h (hrow n sub) (Sys.fits_row (hrow n sub) hfits) hk (by omega) (by omega) (by omega)
      ((Sys.act_trigger _ _ _ _ _ _ _ n (sub + 1) hk (by omega)).trans (if_pos (by omega)))
  case arm =>
    intro s acc n v h hv
    have hn := n.isLt
    have hrow : ∀ n : Fin 32, Sys.rowIs (Key.Trig.AT n) .rw false 8 0 = true := by decide
    exact onWrite_timeHeld (0xE10 + n) 4 h (hrow n) hv rfl (by decide) (by omega) (by omega) (Sys.act_trigger _ _ _ _ _ _ _ n 4 rfl (by decide))
  case pulse => exact fun s acc n h => onWrite_trigCommand h (by decide)
  case cancel => exact fun s acc n h => onWrite_trigCommand h (by decide)
  case pop =>
    intro s acc n v h hv
    have hn := n.isLt
    have hrow : ∀ n : Fin 32, Sys.rowIs (Key.Cap.POP n) .wo false 1 0 = true := by decide
    exact onWrite_timeCommand (0xE40 + n) 8 h (hrow n) hv rfl (by decide) (by omega) (by omega) (Sys.act_capture _ _ _ _ _ _ _ n 8 rfl (by decide))
  case capture =>
    intro s acc n edge v h hv
    have hn := n.isLt
    cases edge
    case false =>
      have hrow : ∀ n : Fin 32, Sys.rowIs (Key.Cap.SOURCE n) .rw true 1 0 = true := by decide
      exact onWrite_timeKept (0xE40 + n) 1 h (hrow n) hv rfl (by decide) (by omega) (by omega) (Sys.act_capture _ _ _ _ _ _ _ n 1 rfl (by decide))
    case true =>
      have hrow : ∀ n : Fin 32, Sys.rowIs (Key.Cap.EDGE n) .rw true 1 0 = true := by decide
      exact onWrite_timeKept (0xE40 + n) 2 h (hrow n) hv rfl (by decide) (by omega) (by omega) (Sys.act_capture _ _ _ _ _ _ _ n 2 rfl (by decide))

end Sys2Proof.Machine
end

section
/-! PROOFS. What the accepted commands of the DRAM controller answer (R48, R390, R391, R392, R394, R396, R397). -/

namespace Sys2Proof.Machine

open Sys2Proof

namespace Sys

section Entries

variable (t s : Sys) (otp : Nat → Nat) (cls : Cls) (v : Nat) (x : Int) (ext : Ext)

/-- The entries of the controller act by their key. -/
theorem act_dram {k : Nat} (i sub : Nat) (hk : k = i * 256 + sub) (hs : sub < 256) (hlo : 0x800 ≤ i) (hhi : i < 0x900) :
    t.act s otp cls k v x ext = t.actDmc s k v ext := by
  rw [act_fabric t s otp cls i sub v x ext hk hs hlo (by omega)]
  unfold actFabric
  simp only [idx_of i sub hs hk]
  exact if_pos hhi

/-- They are judged without a trace but TRAIN_COMMAND. -/
theorem need_dramEntry {k : Nat} (i sub : Nat) (hk : k = i * 256 + sub) (hs : sub < 256) (hlo : 0x800 ≤ i) (hhi : i < 0x900)
    (htrain : k ≠ Key.Train.TRAIN_COMMAND) : (t.need cls k v x ext).1 = t :=
  congrArg Prod.fst (need_fabric t cls i sub v x ext hk hs hlo (by omega) htrain)

/-- A training command that is accepted leaves no trace of its judging: only an END that failed does. -/
theorem need_train (h : (t.need cls Key.Train.TRAIN_COMMAND v x ext).2 = 0) : (t.need cls Key.Train.TRAIN_COMMAND v x ext).1 = t := by
  have hjudge : t.need cls Key.Train.TRAIN_COMMAND v x ext =
      if Key.Train.TRAIN_COMMAND = Key.Train.TRAIN_COMMAND ∧ v = 2 ∧ t.inTraining = 0 ∧ !ext.ok then (t.trainEnd false [], 0x0604)
      else (t, t.needFabric cls Key.Train.TRAIN_COMMAND v x) := by
    unfold need
    dsimp only
    rw [if_neg (by decide), if_neg (by decide), if_neg (by decide)]
    rfl
  rw [hjudge] at h ⊢
  split at h
  case isTrue => exact absurd h (Nat.succ_ne_zero 0x0603)
  case isFalse hpass => rw [if_neg hpass]

end Entries

end Sys

section Commands

variable {s : State} {acc : Access} {v : Nat} {ext : Ext} {g : Sys → Sys}

/-- A command of the controller whose effect is `g`. -/
theorem onWrite_dramCommand {k : Nat} (i sub : Nat) (h : s.accepts acc k v ext = true) (hrow : Sys.rowIs k .wo false 1 0 = true) (hv : v < 2 ^ 8)
    (hk : k = i * 256 + sub) (hs : sub < 256) (hlo : 0x800 ≤ i) (hhi : i < 0x900) (htrain : k ≠ Key.Train.TRAIN_COMMAND)
    (hg : (s.toSys.clocked k).actDmc (s.toSys.clocked k) k v ext = g (s.toSys.clocked k)) :
    onWrite acc k v ext s = .next (s.answers acc k v g) :=
  onWrite_command h hrow hv (fun t cls => t.need_dramEntry cls _ _ _ i sub hk hs hlo hhi htrain) (by simp only [Key.Pwr.COMMAND]; omega)
    ((Sys.act_dram _ _ _ _ _ _ _ i sub hk hs hlo hhi).trans hg)

/-- A training command whose effect is `g`. -/
theorem onWrite_trainCommand (h : s.accepts acc Key.Train.TRAIN_COMMAND v ext = true) (hv : v < 2 ^ 8)
    (hg : (s.toSys.clocked Key.Train.TRAIN_COMMAND).actDmc (s.toSys.clocked Key.Train.TRAIN_COMMAND) Key.Train.TRAIN_COMMAND v ext =
      g (s.toSys.clocked Key.Train.TRAIN_COMMAND)) :
    onWrite acc Key.Train.TRAIN_COMMAND v ext s = .next (s.answers acc Key.Train.TRAIN_COMMAND v g) :=
  onWrite_judged (j := id) h (n := 1) (by decide) hv (fun cls hpass => Sys.need_train _ _ _ _ _ hpass) (by decide)
    ((Sys.act_dram (k := Key.Train.TRAIN_COMMAND) _ _ _ _ _ _ _ 0x820 1 rfl (by decide) (by decide) (by decide)).trans hg)

theorem onWrite_pprCommand (h : s.accepts acc Key.Ppr.PPR_COMMAND v ext = true) (hv : v < 2 ^ 8) :
    onWrite acc Key.Ppr.PPR_COMMAND v ext s = .next (s.answers acc Key.Ppr.PPR_COMMAND v (fun u => u.pprStart (decide (v = 2)))) :=
  onWrite_dramCommand 0x810 7 h (by decide) hv rfl (by decide) (by decide) (by decide) (by decide) rfl

/-- A mode register command reads a value of the device, or none. -/
theorem actDmc_modeRegister (t u : Sys) (v : Nat) (ext : Ext) : t.actDmc u Key.Mr.MR_COMMAND v ext =
    if v = 2 then (match ext.val with | some x => u.mrCmd v x | none => u.useFree.mrCmd v u.freeVal.toNat) else u.mrCmd v 0 := rfl

/-- One that reads none. -/
theorem onWrite_mrCommand (h : s.accepts acc Key.Mr.MR_COMMAND v ext = true) (hv : v < 2 ^ 8) (h2 : v ≠ 2) :
    onWrite acc Key.Mr.MR_COMMAND v ext s = .next (s.answers acc Key.Mr.MR_COMMAND v (fun u => u.mrCmd v 0)) :=
  onWrite_dramCommand 0x822 3 h (by decide) hv rfl (by decide) (by decide) (by decide) (by decide) ((actDmc_modeRegister ..).trans (if_neg h2))

/-- MRR takes the value that the device gives. -/
theorem onWrite_mrr {val : Nat} (h : s.accepts acc Key.Mr.MR_COMMAND 2 { val := some val } = true) :
    onWrite acc Key.Mr.MR_COMMAND 2 { val := some val } s = .next (s.answers acc Key.Mr.MR_COMMAND 2 (fun u => u.mrCmd 2 val)) :=
  onWrite_dramCommand 0x822 3 h (by decide) (by decide) rfl (by decide) (by decide) (by decide) (by decide)
    ((actDmc_modeRegister ..).trans (if_pos rfl))

/-- A pattern command makes the engine busy and is sent to the channel that is selected. -/
theorem patternCmd_sends (u : Sys) (v : Nat) : u.patternCmd v =
    ({ u.wrB Key.TPat.PAT_BUSY true with dram := { u.dram with pat := v } } : Sys).emit (.dram (u.rd Key.Train.SEL_CHANNEL) (6 + v) (u.rd Key.Train.MODE)) := by
  have hread (k : Nat) (hk : k ≠ Key.TPat.PAT_BUSY) : ({ u.wrB Key.TPat.PAT_BUSY true with dram := { u.dram with pat := v } } : Sys).rd k = u.rd k :=
    (Sys.rd_wrB u Key.TPat.PAT_BUSY k true).trans (if_neg hk)
  unfold Sys.patternCmd
  rw [← hread _ (by decide), ← hread Key.Train.MODE (by decide)]

theorem onWrite_patternCommand (h : s.accepts acc Key.TPat.PAT_COMMAND v ext = true) (hv : v < 2 ^ 8) :
    onWrite acc Key.TPat.PAT_COMMAND v ext s = .next (s.answers acc Key.TPat.PAT_COMMAND v (fun u =>
      ({ u.wrB Key.TPat.PAT_BUSY true with dram := { u.dram with pat := v } } : Sys).emit (.dram (u.rd Key.Train.SEL_CHANNEL) (6 + v) (u.rd Key.Train.MODE)))) :=
  onWrite_dramCommand 0x823 5 h (by decide) hv rfl (by decide) (by decide) (by decide) (by decide) (patternCmd_sends _ v)

end Commands

/-- Settles O11: each command acts as its entry of the controller does. -/
theorem dramCommandsAct : Obligations.DramCommandsAct := by
  refine ⟨?unfreeze, ?debug, ?soft, ?hard, ?begin_, ?end_, ?abort, ?mrw, ?mrr, ?mpc, ?lane, ?write, ?compare, ?sample⟩
  case unfreeze => exact fun s acc h => onWrite_dramCommand 0x801 1 h (by decide) (by decide) rfl (by decide) (by decide) (by decide) (by decide) rfl
  case debug => exact fun s acc bad h => onWrite_dramCommand 0x803 2 h (by decide) (by decide) rfl (by decide) (by decide) (by decide) (by decide) rfl
  case soft => exact fun s acc h => onWrite_pprCommand h (by decide)
  case hard => exact fun s acc h => onWrite_pprCommand h (by decide)
  case begin_ => exact fun s acc h => onWrite_trainCommand h (by decide) rfl
  case end_ => exact fun s acc pass osc h => onWrite_trainCommand h (by decide) rfl
  case abort => exact fun s acc h => onWrite_trainCommand h (by decide) rfl
  case mrw => exact fun s acc h => onWrite_mrCommand h (by decide) (by decide)
  case mrr => exact fun s acc val h => onWrite_mrr h
  case mpc => exact fun s acc h => onWrite_mrCommand h (by decide) (by decide)
  case lane => exact fun s acc h => onWrite_mrCommand h (by decide) (by decide)
  case write => exact fun s acc h => onWrite_patternCommand h (by decide)
  case compare => exact fun s acc h => onWrite_patternCommand h (by decide)
  case sample => exact fun s acc h => onWrite_patternCommand h (by decide)

end Sys2Proof.Machine
end

section
/-! PROOFS. What the accepted commands of the DMA engine, of the boot images and of MRAM answer (R48, R410, R412, R413, R418, R437, R438, R439, R452). -/

namespace Sys2Proof.Machine

open Sys2Proof

namespace Sys

section Entries

variable (t s : Sys) (otp : Nat → Nat) (cls : Cls) (v : Nat) (x : Int) (ext : Ext)

/-- The entries of a DMA channel act by their key, and its class follows but for those of the active set. -/
theorem act_dma {k : Nat} (d : Fin 32) (b sub : Nat) (hk : k = (0x900 + 4 * d + b) * 256 + sub) (hb : b < 4) (hb1 : b ≠ 1) (hs : sub < 256) :
    t.act s otp cls k v x ext =
      (if k = Key.Dma.ENABLE d then t.dmaEnable d v else if k = Key.Dma.COMMAND d then s.dmaCmd d v
        else if k = Key.DmaSh.ARM d then t.arm d v else s).dmaClass d cls := by
  have hd := d.isLt
  have hinst : (0x900 + 4 * d.val + b - 0x900) / 4 = d.val := by omega
  have hclass : decide ((0x900 + 4 * d.val + b) % 4 ≠ 1) = true := decide_eq_true (by omega)
  rw [act_fabric t s otp cls (0x900 + 4 * d + b) sub v x ext hk hs (by omega) (by omega)]
  unfold actFabric
  simp only [idx_of (0x900 + 4 * d + b) sub hs hk, hinst, hclass]
  rw [if_neg (by omega), if_pos (by omega)]
  rfl

theorem act_dmaEnable (d : Fin 32) : t.act s otp cls (Key.Dma.ENABLE d) v x ext = (t.dmaEnable d v).dmaClass d cls := by
  rw [act_dma t s otp cls v x ext d 0 1 (by simp only [Key.Dma.ENABLE]; omega) (by decide) (by decide) (by decide), if_pos rfl]

theorem act_dmaCommand (d : Fin 32) : t.act s otp cls (Key.Dma.COMMAND d) v x ext = (s.dmaCmd d v).dmaClass d cls := by
  rw [act_dma t s otp cls v x ext d 0 3 (by simp only [Key.Dma.COMMAND]; omega) (by decide) (by decide) (by decide),
    if_neg (by simp only [Key.Dma.COMMAND, Key.Dma.ENABLE]; omega), if_pos rfl]

theorem act_dmaArm (d : Fin 32) : t.act s otp cls (Key.DmaSh.ARM d) v x ext = (t.arm d v).dmaClass d cls := by
  rw [act_dma t s otp cls v x ext d 2 0xB (by simp only [Key.DmaSh.ARM]; omega) (by decide) (by decide) (by decide),
    if_neg (by simp only [Key.DmaSh.ARM, Key.Dma.ENABLE]; omega), if_neg (by simp only [Key.DmaSh.ARM, Key.Dma.COMMAND]; omega), if_pos rfl]

/-- The tail of a completion queue makes room. -/
theorem act_cqTail (q : Fin 8) : t.act s otp cls (Key.Cq.TAIL q) v x ext = s.cqRelease q := by
  have hq := q.isLt
  refine (act_fabric t s otp cls (0x980 + q) 4 v x ext rfl (by decide) (by omega) (by omega)).trans ?_
  unfold actFabric
  simp only [idx_of (k := Key.Cq.TAIL q) (0x980 + q) 4 (by decide) rfl, sub_of (k := Key.Cq.TAIL q) (0x980 + q) 4 (by decide) rfl, Nat.add_sub_cancel_left]
  rw [if_neg (by omega), if_neg (by omega), if_pos (by omega)]
  rfl

end Entries

theorem rdBit_clocked (s : Sys) (k j i : Nat) (h : j ≠ Key.Dom.CLOCKED) : (s.clocked k).rdBit j i = s.rdBit j i :=
  congrArg (fun n => n.testBit i) (rd_clocked s k j h)

end Sys

section Commands

variable {s : State} {acc : Access} {v n : Nat} {g : Sys → Sys}

/-- A write to an entry of the fabric that holds its value and is not kept. -/
theorem onWrite_fabricHeld {k : Nat} (i sub : Nat) (h : s.accepts acc k v {} = true) (hrow : Sys.rowIs k .rw false n 0 = true) (hv : v < 2 ^ (8 * n))
    (hk : k = i * 256 + sub) (hs : sub < 256) (hlo : 0x900 ≤ i) (hhi : i < 0xA00)
    (hact : (s.toSys.clocked k).act ((s.toSys.clocked k).wr k v) s.otpWord ((s.toSys.clocked k).clsOf acc.who) k v v {} = g (s.toSys.clocked k)) :
    onWrite acc k v {} s = .next (s.answers acc k v g) :=
  onWrite_held (m := 0) h hrow hv (by decide) (fun t cls => t.need_fabricEntry cls _ _ _ i sub hk hs (by omega) (by omega))
    (by simp only [Key.FwStore.FWS_DATA]; omega) (by simp only [Key.Pwr.COMMAND]; omega) hact

/-- A command of a DMA channel, which keeps the class of its writer. -/
theorem onWrite_dmaCommand {d : Fin 32} (h : s.accepts acc (Key.Dma.COMMAND d) v {} = true) (hv : v < 2 ^ 8) :
    onWrite acc (Key.Dma.COMMAND d) v {} s = .next (s.answers acc (Key.Dma.COMMAND d) v (fun u => (u.dmaCmd d v).dmaClass d (u.clsOf acc.who))) := by
  have hrow : ∀ d : Fin 32, Sys.rowIs (Key.Dma.COMMAND d) .wo false 1 0 = true := by decide
  exact onWrite_command h (hrow d) hv (fun t cls => t.need_fabricEntry cls _ _ _ (0x900 + 4 * d) 3 rfl (by decide) (by omega) (by omega))
    (by simp only [Key.Dma.COMMAND, Key.Pwr.COMMAND]; omega) (Sys.act_dmaCommand ..)

/-- A command of the boot images whose effect in the present state is `g`. -/
theorem onWrite_imageCommand (h : s.accepts acc Key.Image.COMMAND v {} = true) (hv : v < 2 ^ 8)
    (hg : (s.toSys.clocked Key.Image.COMMAND).imageCmd v = g (s.toSys.clocked Key.Image.COMMAND)) :
    onWrite acc Key.Image.COMMAND v {} s = .next (s.answers acc Key.Image.COMMAND v g) :=
  onWrite_command h (n := 1) (by decide) hv (fun t cls => t.need_fabricEntry cls _ _ _ 0xA20 1 rfl (by decide) (by decide) (by decide)) (by decide) hg

/-- A command of MRAM takes the span that its entries hold. -/
theorem onWrite_mramCommand (h : s.accepts acc Key.Mram.COMMAND v {} = true) (hv : v < 2 ^ 8) :
    onWrite acc Key.Mram.COMMAND v {} s = .next (s.answers acc Key.Mram.COMMAND v (fun u => u.mramCmd v)) :=
  onWrite_command h (n := 1) (by decide) hv (fun t cls => t.need_fabricEntry cls _ _ _ 0xA10 4 rfl (by decide) (by decide) (by decide)) (by decide) rfl

end Commands

/-- Settles O12: each entry of a DMA channel acts as its key says, with the class of the writer, and a queue releases what it held. -/
theorem dmaCommandsAct : Obligations.DmaCommandsAct := by
  refine ⟨?arm, ?stop, ?start, ?clear, ?enable, ?tail⟩
  case arm =>
    intro s acc d v h hv
    have hrow : ∀ d : Fin 32, Sys.rowIs (Key.DmaSh.ARM d) .rw false 1 0 = true := by decide
    exact onWrite_fabricHeld (0x902 + 4 * d) 0xB h (hrow d) hv rfl (by decide) (by omega) (by omega) (Sys.act_dmaArm ..)
  case stop => exact fun s acc d h => onWrite_dmaCommand h (by decide)
  case start => exact fun s acc d h => onWrite_dmaCommand h (by decide)
  case clear => exact fun s acc d h => onWrite_dmaCommand h (by decide)
  case enable =>
    intro s acc d v h hv
    have hrow : ∀ d : Fin 32, Sys.rowIs (Key.Dma.ENABLE d) .rw false 1 0 = true := by decide
    exact onWrite_fabricHeld (0x900 + 4 * d) 1 h (hrow d) hv rfl (by decide) (by omega) (by omega) (Sys.act_dmaEnable ..)
  case tail =>
    intro s acc q v h hv
    have hrow : ∀ q : Fin 8, Sys.rowIs (Key.Cq.TAIL q) .rw false 4 0 = true := by decide
    exact onWrite_fabricHeld (0x980 + q) 4 h (hrow q) hv rfl (by decide) (by omega) (by omega) (Sys.act_cqTail ..)

/-- Settles O13: the commands of the images and of MRAM act as their entries do, CONFIRM on an image that is on trial. -/
theorem imageAndMramCommandsAct : Obligations.ImageAndMramCommandsAct := by
  refine ⟨?checkA, ?checkB, ?invalidateA, ?invalidateB, ?confirm, ?write, ?compare, ?zero⟩
  case checkA => exact fun s acc h => onWrite_imageCommand h (by decide) rfl
  case checkB => exact fun s acc h => onWrite_imageCommand h (by decide) rfl
  case invalidateA => exact fun s acc h => onWrite_imageCommand h (by decide) rfl
  case invalidateB => exact fun s acc h => onWrite_imageCommand h (by decide) rfl
  case confirm => exact fun s acc h htrial => onWrite_imageCommand h (by decide) (if_pos ((Sys.rdBit_clocked _ _ _ _ (by decide)).trans htrial))
  case write => exact fun s acc h => onWrite_mramCommand h (by decide)
  case compare => exact fun s acc h => onWrite_mramCommand h (by decide)
  case zero => exact fun s acc h => onWrite_mramCommand h (by decide)

end Sys2Proof.Machine
end

section
/-! PROOFS. What the accepted device commands answer in the states where their matrix has them act (R48, R57, R58, R59). -/

namespace Sys2Proof.Machine

open Sys2Proof

namespace Sys

section Judged

variable {t : Sys} {cls : Cls} {cmd bad : Nat}

/-- A device command that acts is judged by these conditions. -/
theorem devAbort_acting (hmatrix : devMatrix t.dev cmd = some true) (h5 : ¬((cmd = 5 ∨ cmd = 6) ∧ cls = .fs)) (hcmd : ¬(cmd < 1 ∨ 8 < cmd)) :
    t.devAbort cls cmd bad =
      (let refuse (s : Sys) (cause detail : Nat) : Sys × Nat := (s.setCause cause detail (devCode s.dev) (devCode s.dev) (clsCode cls), 0x0803)
       let busy : Nat := if t.pendState.isSome ∧ cmd ≠ 8 then 0x0805 else 0
       if cmd = 2 then
         match ((t.tableChecks bad).showLoads).readyFaults bad with
         | [] => ((t.tableChecks bad).showLoads, busy)
         | l => refuse (t.tableChecks bad).showLoads 0x11 (lowest l)
       else if cmd = 3 then
         if !t.pads.lsafe then refuse t 0x12 3 else if t.rdB Key.Restore.ACK_REQUIRED then refuse t 0x13 3 else (t, busy)
       else if cmd = 7 ∧ t.freezeActive ≠ [] then refuse t 0x22 (lowest t.freezeActive)
       else (t, busy)) := by
  unfold devAbort
  rw [if_neg h5, if_neg hcmd, hmatrix] <;> rfl

/-- The class and the number of a device command that passes its checks. -/
theorem devAbort_range (h : (t.devAbort cls cmd bad).2 = 0) : ¬((cmd = 5 ∨ cmd = 6) ∧ cls = .fs) ∧ ¬(cmd < 1 ∨ 8 < cmd) := by
  unfold devAbort at h
  dsimp only at h
  split at h
  case isTrue => exact absurd h (Nat.succ_ne_zero 0x0700)
  case isFalse h5 =>
    split at h
    case isTrue => exact absurd h (Nat.succ_ne_zero 0x0603)
    case isFalse hcmd => exact ⟨h5, hcmd⟩

/-- Every acting command but GO_READY leaves no trace of its judging where it is accepted. -/
theorem devAbort_accepted (hmatrix : devMatrix t.dev cmd = some true) (h2 : cmd ≠ 2) (h : (t.devAbort cls cmd bad).2 = 0) : (t.devAbort cls cmd bad).1 = t := by
  obtain ⟨h5, hcmd⟩ := devAbort_range h
  rw [devAbort_acting hmatrix h5 hcmd] at h ⊢
  grind

/-- GO_READY leaves the tables checked and the loads shown. -/
theorem devAbort_goReady (hmatrix : devMatrix t.dev 2 = some true) (h : (t.devAbort cls 2 bad).2 = 0) :
    (t.devAbort cls 2 bad).1 = (t.tableChecks bad).showLoads := by
  obtain ⟨h5, hcmd⟩ := devAbort_range h
  rw [devAbort_acting hmatrix h5 hcmd] at h ⊢
  dsimp only at h ⊢
  rw [if_pos rfl] at h ⊢
  split at h
  case h_1 => rfl
  case h_2 => exact absurd h (Nat.succ_ne_zero 0x0802)

end Judged

end Sys

section Commands

variable {s : State} {acc : Access} {v : Nat} {ext : Ext}

/-- A device command that acts, judged as `j`, has the effect of the matrix. -/
theorem onWrite_deviceJudged {j : Sys → Sys} (h : s.accepts acc Key.DevCmd.DEVICE_COMMAND v ext = true) (hv : v < 2 ^ 8)
    (hj : ∀ cls, ((s.toSys.clocked Key.DevCmd.DEVICE_COMMAND).devAbort cls v ext.bad).2 = 0 →
      ((s.toSys.clocked Key.DevCmd.DEVICE_COMMAND).devAbort cls v ext.bad).1 = j (s.toSys.clocked Key.DevCmd.DEVICE_COMMAND)) :
    onWrite acc Key.DevCmd.DEVICE_COMMAND v ext s = .next (s.answers acc Key.DevCmd.DEVICE_COMMAND v (fun u => (j u).devAct (u.clsOf acc.who) v)) :=
  onWrite_judged (j := j) h (n := 1) (by decide) hv hj (by decide) rfl

/-- One whose effect on the present state is `g`. -/
theorem onWrite_deviceCommand {g : Sys → Sys} (h : s.accepts acc Key.DevCmd.DEVICE_COMMAND v ext = true) (hv : v < 2 ^ 8)
    (hmatrix : Sys.devMatrix s.dev v = some true) (h2 : v ≠ 2)
    (hg : ∀ u : Sys, Sys.devMatrix u.dev v = some true → u.devAct (u.clsOf acc.who) v = g u) :
    onWrite acc Key.DevCmd.DEVICE_COMMAND v ext s = .next (s.answers acc Key.DevCmd.DEVICE_COMMAND v g) := by
  have hclocked : Sys.devMatrix (s.toSys.clocked Key.DevCmd.DEVICE_COMMAND).dev v = some true := (Sys.clocked_dev s.toSys _).symm ▸ hmatrix
  rw [onWrite_deviceJudged (j := id) h hv (fun cls => Sys.devAbort_accepted hclocked h2), State.answers, id, hg _ hclocked]
  rfl

end Commands

/-- Settles O1: an acting command is accepted without a trace of its judging but for GO_READY, and has the effect that the matrix gives it. -/
theorem deviceCommandsAct : Obligations.DeviceCommandsAct := by
  have hacts {u : Sys} {v : Nat} (h : Sys.devMatrix u.dev v = some true) : ¬Sys.devMatrix u.dev v ≠ some true := not_not_intro h
  refine ⟨?goConfig, ?goReady, ?arm, ?disarm, ?enter, ?leave, ?clear, ?warm⟩
  case goConfig => exact fun s acc h hm => onWrite_deviceCommand h (by decide) hm (by decide) (fun u hu => if_neg (hacts hu))
  case goReady =>
    exact fun s acc bad h hm => onWrite_deviceJudged (j := fun u => (u.tableChecks bad).showLoads) h (by decide)
      (fun cls => Sys.devAbort_goReady ((Sys.clocked_dev s.toSys _).symm ▸ hm))
  case arm => exact fun s acc h hm => onWrite_deviceCommand h (by decide) hm (by decide) (fun u hu => if_neg (hacts hu))
  case disarm => exact fun s acc h hm => onWrite_deviceCommand h (by decide) hm (by decide) (fun u hu => if_neg (hacts hu))
  case enter => exact fun s acc h hm => onWrite_deviceCommand h (by decide) hm (by decide) (fun u hu => if_neg (hacts hu))
  case leave => exact fun s acc h hm => onWrite_deviceCommand h (by decide) hm (by decide) (fun _ _ => rfl)
  case clear => exact fun s acc h hm => onWrite_deviceCommand h (by decide) hm (by decide) (fun u hu => if_neg (hacts hu))
  case warm => exact fun s acc h hm => onWrite_deviceCommand h (by decide) hm (by decide) (fun u hu => if_neg (hacts hu))

end Sys2Proof.Machine
end

section
/-! PROOFS. What the commands that only set entries leave unchanged (R41, R47, R211, R233, R250, R307, R352, R359, R363, R364, R394, R412). -/

namespace Sys2Proof.Machine

open Sys2Proof

/-- `t` holds what `s` held but for the entries in `ks`, and neither WARM_RESET nor HOLD has come to wait. -/
structure MovesOnly (ks : List Nat) (s t : Sys) : Prop extends Holds ks s t where
  leaves : t.leaving = s.leaving

namespace MovesOnly

variable {ks : List Nat} {s t u : Sys}

theorem refl (s : Sys) : MovesOnly ks s s := ⟨.refl s, rfl⟩

theorem trans (a : MovesOnly ks s t) (b : MovesOnly ks t u) : MovesOnly ks s u := ⟨a.toHolds.trans b.toHolds, b.leaves.trans a.leaves⟩

theorem wr (s : Sys) {k : Nat} (v : Nat) (hk : k ∈ ks) : MovesOnly ks s (s.wr k v) := ⟨.wr s v hk, rfl⟩

/-- A counter that moves is an entry that is written. -/
theorem add (s : Sys) {k : Nat} (w n : Nat) (hk : k ∈ ks) : MovesOnly ks s (s.add k w n) := .wr s _ hk

/-- What is kept beside the entries and memory may change. -/
theorem beside {ks : List Nat} {s t : Sys} (hod : t.rdW = s.rdW) (hmem : t.byte = s.byte) (hdev : t.dev = s.dev) (hl : t.leaving = s.leaving) : MovesOnly ks s t :=
  ⟨⟨fun a => congrFun hmem a, hdev, fun k _ => congrFun hod k⟩, hl⟩

theorem dram (s : Sys) (d : Dram) : MovesOnly ks s { s with dram := d } := beside rfl rfl rfl rfl

theorem emit (s : Sys) (o : Out) : MovesOnly ks s (s.emit o) := beside rfl rfl rfl rfl

theorem foldl {α : Type} {f : Sys → α → Sys} (h : ∀ s x, MovesOnly ks s (f s x)) (l : List α) (s : Sys) : MovesOnly ks s (l.foldl f s) := by
  induction l generalizing s with
  | nil => exact refl s
  | cons x l ih => exact (h s x).trans (ih (f s x))

theorem iter {f : Sys → Sys} (h : ∀ s, MovesOnly ks s (f s)) (n : Nat) (s : Sys) : MovesOnly ks s (iter f n s) := by
  induction n generalizing s with
  | zero => exact refl s
  | succ n ih => exact (h s).trans (ih (f s))

end MovesOnly

/-- An accepted write whose effect moves only the entries in `ks` keeps all but them. -/
theorem State.keepsBut_of_answers {s t : State} {acc : Access} {k v : Nat} {f : Sys → Sys} {ks : List Nat} {o : Host.Outcome State Fault Refusal}
    (hx : o = .next (s.answers acc k v f)) (h : s.accepts acc k v {} = true) (hf : ∀ u, MovesOnly ks u (f u)) (ht : o = .next t) : s.keepsBut t ks := by
  obtain rfl : s.answers acc k v f = t := Host.Outcome.next.inj (hx.symm.trans ht)
  exact State.answers_keepsBut (hf _).toHolds ((hf _).leaves.trans ((s.toSys.clocked_leaving k).trans (Sys.accepts_stays h)))

namespace Sys

/-! ### The entries that each command moves -/

theorem zwCmd_join_moves (s : Sys) (w : Nat) : MovesOnly [zwState w, zwEvent w] s (s.zwCmd w 1) := by
  change MovesOnly _ s (if _ then _ else _)
  split
  · exact ((MovesOnly.wr s _ (by simp)).trans (.wr _ _ (by simp))).trans (.beside rfl rfl rfl rfl)
  · exact .refl s

theorem zwCmd_cancel_moves (s : Sys) (w : Nat) : MovesOnly [zwState w, zwEvent w] s (s.zwCmd w 2) := by
  change MovesOnly _ s (s.zwUnjoin w)
  unfold zwUnjoin
  split
  · exact ((MovesOnly.wr s _ (by simp)).trans (.wr _ _ (by simp))).trans (.beside rfl rfl rfl rfl)
  · exact .refl s

theorem patCmd_clear_moves (s : Sys) (g : Nat) : MovesOnly [Key.Pat.PAT_QUEUED g] s (s.patCmd g 2) :=
  (MovesOnly.wr s 0 (by simp)).trans (.beside rfl rfl rfl rfl)

theorem encCmd_zero_moves (s : Sys) (e : Nat) : MovesOnly [Key.Enc.COUNT e] s (s.encCmd e 2) :=
  (MovesOnly.wr s _ (by simp)).trans (.beside rfl rfl rfl rfl)

/-- A command of an axis waits for its next update: no entry moves with it. -/
theorem axCmd_moves (s : Sys) (a cmd : Nat) : MovesOnly [] s (s.axCmd a cmd) := .beside rfl rfl rfl rfl

theorem adjTicks_moves (s : Sys) (v : Nat) : MovesOnly [Key.Inc.ADJ_TICKS, Key.TimeSt.TIME_STATUS] s (s.adjTicks v) :=
  (MovesOnly.wr s _ (by simp)).trans (.wr _ _ (by simp))

theorem trigCmd_pulse_moves (s : Sys) (n : Nat) : MovesOnly [] s (s.trigCmd n 1) := by
  change MovesOnly [] s (if s.timeRuns then _ else s)
  split
  · exact .beside rfl rfl rfl rfl
  · exact .refl s

theorem trigCmd_cancel_moves (s : Sys) (n : Nat) : MovesOnly [Key.Trig.FLAGS n] s (s.trigCmd n 2) := .wr s _ (by simp)

theorem dmaCmd_clear_moves (s : Sys) (d : Nat) (cls : Cls) : MovesOnly [Key.Dma.FLAGS d, Key.Dma.CLASS d] s ((s.dmaCmd d 3).dmaClass d cls) :=
  (MovesOnly.wr s _ (by simp)).trans (.wr _ _ (by simp))

/-! ### A repair answers what waits in the queues of the controller -/

/-- PPR_RESULT and the counters of the accesses that the controller answers. -/
abbrev pprKeys : List Nat := [Key.Ppr.PPR_RESULT, Key.DmcCnt.READS, Key.DmcCnt.WRITES, Key.DmcCnt.RMW]

theorem dramRefuse_moves (s : Sys) (r : DramReq) : MovesOnly pprKeys s (s.dramRefuse r) := (MovesOnly.emit s _).trans (.emit _ _)

theorem dramServed_moves (s : Sys) (r : DramReq) : MovesOnly pprKeys s (s.dramServed r) := by
  unfold dramServed
  split
  · exact (MovesOnly.add s _ _ (by simp)).trans (.emit _ _)
  split
  · exact ((MovesOnly.add s _ _ (by simp)).trans (.add _ _ _ (by simp))).trans (.add _ _ _ (by simp))
  · exact .add s _ _ (by simp)

theorem refreshOut_moves (s : Sys) (c n : Nat) : MovesOnly pprKeys s (s.refreshOut c n) := by
  refine MovesOnly.iter (fun s => ?_) n s
  split
  · exact .foldl (fun s _ => .emit s _) _ s
  · exact .emit s _

theorem refreshOwed_moves (s : Sys) (c : Nat) : MovesOnly pprKeys s (s.refreshOwed c) :=
  (s.refreshOut_moves c _).trans (.dram _ _)

theorem clearQueues_moves (s : Sys) : MovesOnly pprKeys s s.clearQueues := by
  have hrefused : MovesOnly pprKeys s s.refuseReads := .foldl dramRefuse_moves _ s
  have hserved : MovesOnly pprKeys s.refuseReads (s.unissued.foldl dramServed s.refuseReads) := .foldl dramServed_moves _ _
  have hrefreshed (u : Sys) : MovesOnly pprKeys u (u.each (List.range 2) refreshOwed) := .foldl refreshOwed_moves _ u
  unfold clearQueues
  exact ((hrefused.trans hserved).trans (hrefreshed _)).trans (.dram _ _)

theorem pprStart_moves (s : Sys) (hard : Bool) : MovesOnly pprKeys s (s.pprStart hard) :=
  by
  unfold pprStart
  exact (s.clearQueues_moves.trans (.wr _ 3 (by simp))).trans (.dram _ _)

end Sys

/-- Settles O54: each command is answered with its effect, which moves only the entries that its clause names. -/
theorem registerCommandFrames : Obligations.RegisterCommandFrames := by
  have axis (s t : State) (acc : Access) (a : Fin 8) (v : Nat) (hv : v < 2 ^ 8) (h : s.accepts acc (Key.Axis.COMMAND a) v {} = true)
      (ht : onWrite acc (Key.Axis.COMMAND a) v {} s = .next t) : s.keepsBut t [] :=
    State.keepsBut_of_answers (onWrite_axisCommand h hv) h (fun u => u.axCmd_moves a v) ht
  have repair (s t : State) (acc : Access) (v : Nat) (hv : v < 2 ^ 8) (h : s.accepts acc Key.Ppr.PPR_COMMAND v {} = true)
      (ht : onWrite acc Key.Ppr.PPR_COMMAND v {} s = .next t) : s.keepsBut t Sys.pprKeys :=
    State.keepsBut_of_answers (onWrite_pprCommand h hv) h (fun u => u.pprStart_moves _) ht
  obtain ⟨-, -, -, -, -, -, hdescribe, -⟩ := storeCommandsAct
  refine ⟨?describe, ?join, ?cancelJoin, ?patterns, ?zero, ?enable, ?disable, ?moveAbs, ?moveRel, ?switch, ?stop, ?quickStop, ?reset, ?position, ?tail, ?increment,
    ?ticks, ?pulse, ?cancel, ?pprSoft, ?pprHard, ?clear⟩
  case describe => exact fun s t acc pair v h hv => State.keepsBut_of_answers (hdescribe s acc pair v h hv) h (fun u => .wr u _ (by simp))
  case join => exact fun s t acc w h => State.keepsBut_of_answers (onWrite_zwCommand h (by decide) rfl) h (fun u => u.zwCmd_join_moves w)
  case cancelJoin => exact fun s t acc w h => State.keepsBut_of_answers (onWrite_zwCommand h (by decide) rfl) h (fun u => u.zwCmd_cancel_moves w)
  case patterns => exact fun s t acc g h => State.keepsBut_of_answers (onWrite_patCommand h (by decide)) h (fun u => u.patCmd_clear_moves g)
  case zero => exact fun s t acc e h => State.keepsBut_of_answers (onWrite_encCommand h (by decide)) h (fun u => u.encCmd_zero_moves e)
  case enable => exact fun s t acc a => axis s t acc a 1 (by decide)
  case disable => exact fun s t acc a => axis s t acc a 2 (by decide)
  case moveAbs => exact fun s t acc a => axis s t acc a 3 (by decide)
  case moveRel => exact fun s t acc a => axis s t acc a 4 (by decide)
  case switch => exact fun s t acc a => axis s t acc a 6 (by decide)
  case stop => exact fun s t acc a => axis s t acc a 7 (by decide)
  case quickStop => exact fun s t acc a => axis s t acc a 8 (by decide)
  case reset => exact fun s t acc a => axis s t acc a 9 (by decide)
  case position => exact fun s t acc a => axis s t acc a 10 (by decide)
  case tail => exact fun s t acc m v h hv => State.keepsBut_of_answers (onWrite_txTail h hv) h (fun u => .wr u _ (by simp))
  case increment => exact fun s t acc adj v h hv => State.keepsBut_of_answers (onWrite_increment adj h hv) h (fun u => .wr u _ (by simp))
  case ticks => exact fun s t acc v h hv => State.keepsBut_of_answers (onWrite_adjTicks h hv) h (fun u => u.adjTicks_moves v)
  case pulse => exact fun s t acc n h => State.keepsBut_of_answers (onWrite_trigCommand h (by decide)) h (fun u => u.trigCmd_pulse_moves n)
  case cancel => exact fun s t acc n h => State.keepsBut_of_answers (onWrite_trigCommand h (by decide)) h (fun u => u.trigCmd_cancel_moves n)
  case pprSoft => exact fun s t acc => repair s t acc 1 (by decide)
  case pprHard => exact fun s t acc => repair s t acc 2 (by decide)
  case clear => exact fun s t acc d h => State.keepsBut_of_answers (onWrite_dmaCommand h (by decide)) h (fun u => u.dmaCmd_clear_moves d _)

end Sys2Proof.Machine
end

section
/-! PROOFS. What an accepted write of an entry that acts on nothing leaves (R47, R48, R61). -/

namespace Sys2Proof.Machine

open Sys2Proof

namespace Sys

/-- An entry whose writes are judged without a trace and act on nothing. -/
structure Inert (k : Nat) : Prop where
  judged : ∀ (t : Sys) (cls : Cls) (v : Nat) (x : Int) (ext : Ext), (t.need cls k v x ext).1 = t
  acts : ∀ (t s : Sys) (otp : Nat → Nat) (cls : Cls) (v : Nat) (x : Int) (ext : Ext), t.act s otp cls k v x ext = s

/-! ### The entries of the statement are inert -/

theorem inert_coast (n : Fin 64) : Inert (Key.SlotOut.T_COAST n) where
  judged t cls v x ext := need_slotEntry n 2 6 v x ext (by simp only [Key.SlotOut.T_COAST]; omega) (by decide) (by decide) t cls
  acts t s otp cls v x ext := act_slotEntry n 2 6 (by simp only [Key.SlotOut.T_COAST]; omega) (by decide) (by decide) t s otp cls v x ext

theorem inert_markSpeed (c : Fin 16) : Inert (Key.Mark.MARK_SPEED_MAX c) where
  judged t cls v x ext := congrArg Prod.fst (need_channel t cls c 3 1 v x ext (by simp only [Key.Mark.MARK_SPEED_MAX]; omega) c.isLt (by decide) (by decide) (by decide))
  acts t s otp cls v x ext := act_channel t s otp cls c 3 1 v x ext (by simp only [Key.Mark.MARK_SPEED_MAX]; omega) c.isLt (by decide) (by decide) (by decide)

theorem inert_updateSteps (c : Fin 16) : Inert (Key.Upd.STEPS c) where
  judged t cls v x ext := congrArg Prod.fst (need_channel t cls c 0x11 3 v x ext (by simp only [Key.Upd.STEPS]; omega) c.isLt (by decide) (by decide) (by decide))
  acts t s otp cls v x ext := act_channel t s otp cls c 0x11 3 v x ext (by simp only [Key.Upd.STEPS]; omega) c.isLt (by decide) (by decide) (by decide)

theorem inert_joinTime (c : Fin 16) (z : Fin 8) : Inert (Key.Zone.JOIN_TIME c z) := by
  have hk : Key.Zone.JOIN_TIME c z = (0x1000 + 256 * c + (0x41 + z)) * 256 + 0x13 := by simp only [Key.Zone.JOIN_TIME]; omega
  have hc : (8 * c.val + z) / 8 = c := by omega
  have hz : (8 * c.val + z) % 8 = z := by omega
  constructor
  case judged =>
    intro t cls v x ext
    exact need_zone (w := 8 * c + z) (sub := 0x13) t cls (by omega) (by decide) (by rw [hc, hz, hk]) v x ext
  case acts =>
    intro t s otp cls v x ext
    have hact := actChannel_zone s (8 * c + z) 0x13 v
    rw [hc, hz, if_neg (by decide), if_neg (by decide)] at hact
    rw [act_channel t s otp cls c (0x41 + z) 0x13 v x ext hk c.isLt (by omega) (by decide) (by omega), hact]

theorem inert_creditPeriod (n : Fin 8) : Inert (Key.Ep.CREDIT_PERIOD n) where
  judged t cls v x ext := need_chain (0x230 + 0x2 * n) 6 v x ext rfl (by decide) (by omega) (by omega) t cls
  acts t s otp cls v x ext := by
    have hn := n.isLt
    have heven : (0x230 + 0x2 * n.val) % 2 = 0 := by omega
    rw [act_system t s otp cls (0x230 + 0x2 * n) 6 v x ext rfl (by decide) (by omega)]
    unfold actSystem
    simp only [idx_of (k := Key.Ep.CREDIT_PERIOD n) (0x230 + 0x2 * n) 6 (by decide) rfl, sub_of (k := Key.Ep.CREDIT_PERIOD n) (0x230 + 0x2 * n) 6 (by decide) rfl,
      Key.DevCmd.DEVICE_COMMAND, Key.Fws.RSP_COMMIT, Key.Store.STORE_COMMAND, Key.RestoreAck.RESTORE_ACK, Key.FwStore.FWS_DATA, heven]
    repeat rw [if_neg (by omega)]
    rw [if_pos (by omega)]
    rfl

theorem inert_encFilter (e : Fin 6) : Inert (Key.Enc.FILTER e) where
  judged t cls v x ext := need_printEntry t cls v x ext (0x3010 + e) 2 rfl (by decide) (by omega) (by omega)
  acts t s otp cls v x ext := by
    rw [act_print t s otp cls (0x3010 + e) 2 v x ext rfl (by decide) (by omega) (by omega)]
    unfold actPrint
    simp only [idx_of (k := Key.Enc.FILTER e) (0x3010 + e) 2 (by decide) rfl, sub_of (k := Key.Enc.FILTER e) (0x3010 + e) 2 (by decide) rfl]
    rw [if_pos (by omega)]
    rfl

theorem inert_minPeriod (g : Fin 4) : Inert (Key.GrpCfg.MIN_PERIOD g) where
  judged t cls v x ext := need_printEntry t cls v x ext (0x3101 + 0x40 * g) 1 rfl (by decide) (by omega) (by omega)
  acts t s otp cls v x ext := by
    have hother : decide ((0x3101 + 0x40 * g.val) % 64 = 0 ∧ True) = false := decide_eq_false fun h => by omega
    rw [act_print t s otp cls (0x3101 + 0x40 * g) 1 v x ext rfl (by decide) (by omega) (by omega)]
    unfold actPrint
    simp only [idx_of (k := Key.GrpCfg.MIN_PERIOD g) (0x3101 + 0x40 * g) 1 (by decide) rfl, sub_of (k := Key.GrpCfg.MIN_PERIOD g) (0x3101 + 0x40 * g) 1 (by decide) rfl,
      hother]
    rw [if_neg (by omega), if_neg (by omega), if_pos (by omega)]
    rfl

theorem inert_axisVmax (a : Fin 8) : Inert (Key.AxMove.VMAX a) where
  judged t cls v x ext := congrArg Prod.fst (need_rest t cls (0x4001 + 0x100 * a) 3 v x ext rfl (by decide) (by omega) (by omega) (by omega))
  acts t s otp cls v x ext := by
    rw [act_rest t s otp cls (0x4001 + 0x100 * a) 3 v x ext rfl (by decide) (by omega)]
    unfold actRest
    simp only [idx_of (k := Key.AxMove.VMAX a) (0x4001 + 0x100 * a) 3 (by decide) rfl, sub_of (k := Key.AxMove.VMAX a) (0x4001 + 0x100 * a) 3 (by decide) rfl]
    rw [if_pos (by omega), when, if_neg (by simp), when, if_neg (by simp)]

theorem inert_patRun (g : Fin 4) : Inert (Key.Pat.PAT_RUN g) where
  judged t cls v x ext := congrArg Prod.fst (need_rest t cls (0x4810 + g) 9 v x ext rfl (by decide) (by omega) (by omega) (by omega))
  acts t s otp cls v x ext := by
    rw [act_rest t s otp cls (0x4810 + g) 9 v x ext rfl (by decide) (by omega)]
    unfold actRest
    simp only [idx_of (k := Key.Pat.PAT_RUN g) (0x4810 + g) 9 (by decide) rfl, sub_of (k := Key.Pat.PAT_RUN g) (0x4810 + g) 9 (by decide) rfl]
    rw [if_neg (by omega), if_pos (by omega)]
    rfl

theorem inert_frameTimeout (c : Fin 16) : Inert (Key.Ctx.FRAME_TIMEOUT c) where
  judged t cls v x ext := need_cameraEntry t cls v x ext (0x5100 + 0x10 * c) 0xA rfl (by decide) (by omega)
  acts t s otp cls v x ext := by
    rw [act_rest t s otp cls (0x5100 + 0x10 * c) 0xA v x ext rfl (by decide) (by omega)]
    unfold actRest
    simp only [idx_of (k := Key.Ctx.FRAME_TIMEOUT c) (0x5100 + 0x10 * c) 0xA (by decide) rfl,
      sub_of (k := Key.Ctx.FRAME_TIMEOUT c) (0x5100 + 0x10 * c) 0xA (by decide) rfl]
    repeat rw [if_neg (by omega)]
    rw [if_pos (by omega), when, if_neg (by simp)]

theorem inert_captureFilter (n : Fin 32) : Inert (Key.Cap.FILTER n) where
  judged t cls v x ext := need_fabricEntry t cls v x ext (0xE40 + n) 3 rfl (by decide) (by omega) (by omega)
  acts t s otp cls v x ext := act_capture t s otp cls v x ext n 3 rfl (by decide)

/-! ### The store counts a write beside the entries -/

/-- The store's count of a write whose copy B verifies is in the engine alone. -/
theorem counted_eq (s : Sys) {acc : Access} (hcopy : acc.copyB = true) (p : Nat) (cells : List (Nat × Word)) :
    ∃ pairs, s.counted acc p cells = { s with eng := { s.eng with pairs := pairs } } := by
  unfold counted when
  rw [hcopy, if_neg (by decide)]
  exact ⟨_, rfl⟩

/-- A write that is stored and counted. -/
def stored (kept : Bool) (acc : Access) (k v : Nat) (u : Sys) : Sys :=
  (u.wr k v).when kept (fun x => x.counted acc (pairOf (keyIdx k)) [(k, BitVec.ofNat 64 v)])

theorem stored_eq (kept : Bool) {acc : Access} (hcopy : acc.copyB = true) (k v : Nat) (u : Sys) :
    ∃ pairs, u.stored kept acc k v = { u.wr k v with eng := { u.eng with pairs := pairs } } := by
  cases kept
  case false => exact ⟨u.eng.pairs, rfl⟩
  case true => exact counted_eq _ hcopy _ _

/-- The request of an OD write of entry `k` is that of its index and subindex. -/
theorem odWrite_eq (acc : Access) (k v : Nat) (idx : Fin 65536) (sub : Fin 256) (hk : idx.val * 256 + sub.val = k) (s : State) :
    exec (.odWrite acc idx sub (writeReq acc k v).size (writeReq acc k v).val) s = onWrite acc k v {} s := by
  have hreq : ({ acc := acc, write := true, idx := idx, sub := sub, size := (writeReq acc k v).size, val := (writeReq acc k v).val } : WaitReq) = writeReq acc k v := by
    rw [show writeReq acc k v = { writeReq acc k v with idx := idx, sub := sub } by
      simp only [writeReq, idx_of idx sub sub.isLt hk.symm, sub_of idx sub sub.isLt hk.symm]]
    rfl
  unfold onWrite
  rw [← hreq]
  rfl

end Sys

theorem burnt_plic (s : State) (t : Sys) : (burnt s t).plic = t.plic := by
  unfold burnt
  split <;> rfl

theorem Sys.clocked_plic (s : Sys) (k : Nat) : (s.clocked k).plic = s.plic := by
  unfold Sys.clocked Sys.ungate
  split <;> rfl

/-- The row of a plain entry of `n` bytes: no bit is reserved, the engine gives it no meaning of its own, and no answer moves it. -/
def plainRow (kept : Bool) (n k : Nat) : Bool :=
  Sys.rowIs k .rw kept n 0 && decide (n ≤ 8) && decide (k ≠ Key.FwStore.FWS_DATA) && decide (k ≠ Key.Pwr.COMMAND) && decide (k ∉ sendKeys)

/-- A write of an inert entry with a plain row leaves the value in it and nothing else. -/
theorem storesOnly_of_inert {k : Nat} (kept : Bool) (n : Nat) (hi : Sys.Inert k) (hplain : plainRow kept n k = true) : storesOnly k := by
  simp only [plainRow, Bool.and_eq_true, decide_eq_true_eq] at hplain
  obtain ⟨⟨⟨⟨hrow, hn⟩, hfws⟩, hpwr⟩, hsend⟩ := hplain
  intro s acc v idx sub hk h hfits hcopy
  have hv := Sys.fits_row hrow hfits
  have h64 : v < 2 ^ 64 := Nat.lt_of_lt_of_le hv (Nat.pow_le_pow_right (by decide) (by omega))
  have hx : onWrite acc k v {} s = .next (s.answers acc k v (Sys.stored kept acc k v)) :=
    onWrite_entry (m := 0) (j := id) h hrow hv (by decide) (fun t cls => hi.judged t cls _ _ _) hfws hpwr (hi.acts ..)
  obtain ⟨pairs, hstored⟩ := Sys.stored_eq kept hcopy k v (s.toSys.clocked k)
  have hl : (Sys.stored kept acc k v (s.toSys.clocked k)).leaving = false := by
    rw [hstored]
    exact (s.toSys.clocked_leaving k).trans (Sys.accepts_stays h)
  have holds : Holds [k] (s.toSys.clocked k) (Sys.stored kept acc k v (s.toSys.clocked k)) := by
    rw [hstored]
    exact (Holds.wr _ v List.mem_cons_self).trans ⟨fun _ => rfl, rfl, fun _ _ => rfl⟩
  have ha := Sys.answered_stays hl acc k v
  refine ⟨_, (Sys.odWrite_eq acc k v idx sub hk s).trans hx, ?value, State.answers_keepsBut holds hl, ?pads, ?plic, ?timebase⟩
  case value =>
    rw [State.answers, burnt_rd, ha.rd k hsend, hstored]
    exact (Sys.rd_wr _ k k v).trans ((if_pos rfl).trans (Nat.mod_eq_of_lt h64))
  case pads => rw [State.answers, burnt_pads, ha.rest, hstored]; exact clocked_pads _ _
  case plic => rw [State.answers, burnt_plic, ha.rest, hstored]; exact Sys.clocked_plic _ _
  case timebase => rw [State.answers, burnt_tb, ha.rest, hstored]; exact Sys.clocked_tb _ _

/-- Settles O53: the sixteen groups are inert, and their rows plain. -/
theorem plainEntriesHoldWhatIsWritten : Obligations.PlainEntriesHoldWhatIsWritten := by
  have alone {k : Nat} (n : Nat) (hplain : plainRow true n k = true) (hneed : ∀ t cls v x ext, (Sys.need t cls k v x ext).1 = t)
      (hact : ∀ t s otp cls v x ext, Sys.act t s otp cls k v x ext = s) : storesOnly k := storesOnly_of_inert true n ⟨hneed, hact⟩ hplain
  refine ⟨?timeout, ?aliases, ?credit, ?mark, ?coast, ?join, ?takeover, ?steps, ?patterns, ?encoder, ?period, ?axis, ?frame, ?sync, ?capture, ?sampler⟩
  case timeout => exact alone 4 (by decide) (fun _ _ _ _ _ => rfl) (fun _ _ _ _ _ _ _ => rfl)
  case aliases => exact alone 2 (by decide) (fun _ _ _ _ _ => rfl) (fun _ _ _ _ _ _ _ => rfl)
  case takeover => exact alone 4 (by decide) (fun _ _ _ _ _ => rfl) (fun _ _ _ _ _ _ _ => rfl)
  case sync => exact alone 4 (by decide) (fun _ _ _ _ _ => rfl) (fun _ _ _ _ _ _ _ => rfl)
  case sampler => exact alone 2 (by decide) (fun _ _ _ _ _ => rfl) (fun _ _ _ _ _ _ _ => rfl)
  case credit =>
    have hplain : ∀ n : Fin 8, plainRow true 4 (Key.Ep.CREDIT_PERIOD n) = true := by decide
    exact fun n => storesOnly_of_inert true 4 (Sys.inert_creditPeriod n) (hplain n)
  case mark =>
    have hplain : ∀ c : Fin 16, plainRow true 4 (Key.Mark.MARK_SPEED_MAX c) = true := by decide
    exact fun c => storesOnly_of_inert true 4 (Sys.inert_markSpeed c) (hplain c)
  case coast =>
    have hplain : ∀ n : Fin 64, plainRow true 4 (Key.SlotOut.T_COAST n) = true := by decide
    exact fun n => storesOnly_of_inert true 4 (Sys.inert_coast n) (hplain n)
  case join =>
    have hplain : ∀ (c : Fin 16) (z : Fin 8), plainRow false 8 (Key.Zone.JOIN_TIME c z) = true := by decide
    exact fun c z => storesOnly_of_inert false 8 (Sys.inert_joinTime c z) (hplain c z)
  case steps =>
    have hplain : ∀ c : Fin 16, plainRow false 2 (Key.Upd.STEPS c) = true := by decide
    exact fun c => storesOnly_of_inert false 2 (Sys.inert_updateSteps c) (hplain c)
  case patterns =>
    have hplain : ∀ g : Fin 4, plainRow false 2 (Key.Pat.PAT_RUN g) = true := by decide
    exact fun g => storesOnly_of_inert false 2 (Sys.inert_patRun g) (hplain g)
  case encoder =>
    have hplain : ∀ e : Fin 6, plainRow true 1 (Key.Enc.FILTER e) = true := by decide
    exact fun e => storesOnly_of_inert true 1 (Sys.inert_encFilter e) (hplain e)
  case period =>
    have hplain : ∀ g : Fin 4, plainRow true 4 (Key.GrpCfg.MIN_PERIOD g) = true := by decide
    exact fun g => storesOnly_of_inert true 4 (Sys.inert_minPeriod g) (hplain g)
  case axis =>
    have hplain : ∀ a : Fin 8, plainRow true 4 (Key.AxMove.VMAX a) = true := by decide
    exact fun a => storesOnly_of_inert true 4 (Sys.inert_axisVmax a) (hplain a)
  case frame =>
    have hplain : ∀ c : Fin 16, plainRow true 4 (Key.Ctx.FRAME_TIMEOUT c) = true := by decide
    exact fun c => storesOnly_of_inert true 4 (Sys.inert_frameTimeout c) (hplain c)
  case capture =>
    have hplain : ∀ n : Fin 32, plainRow true 2 (Key.Cap.FILTER n) = true := by decide
    exact fun n => storesOnly_of_inert true 2 (Sys.inert_captureFilter n) (hplain n)

end Sys2Proof.Machine
end

section
/-! PROOFS. What a read answers (R51, R52, R92, R497), what half of a slot does (R52), and what the address and the length of a DOMAIN do (R38). -/

namespace Sys2Proof.Machine

open Sys2Proof

namespace Sys

/-! ### A request that passes checks 1 to 6 -/

section Passes

variable {s t : Sys} {otp : Nat → Nat} {q : WaitReq} {r : Dict.Row} {v : Verdict}

theorem passes_free (h : s.passes q r = true) : s.engineFree = true := by
  simp only [passes, Bool.and_eq_true] at h
  exact h.1.1.1

theorem passes_front (h : s.passes q r = true) : s.frontCode q (some r) = 0 := by
  simp only [passes, Bool.and_eq_true, decide_eq_true_eq] at h
  exact h.1.1.2

theorem passes_on (h : s.passes q r = true) : s.domainOn (domainOf q.idx) = true := by
  simp only [passes, Bool.and_eq_true] at h
  exact h.1.2

theorem passes_reached (h : s.passes q r = true) : s.reached (domainOf q.idx) = true := by
  simp only [passes, Bool.and_eq_true] at h
  exact h.2

/-- The clock of the block of the index of a request is the clock of its entry's block. -/
theorem ungate_entry (s : Sys) {i sub : Nat} (hs : sub < 256) : s.ungate (domainOf i) = s.clocked (i * 256 + sub) := by
  unfold clocked
  rw [idx_of i sub hs rfl]

/-- A request that passes and is served without waiting is answered. -/
theorem request_passed (h : s.passes q r = true) (hs : s.serve otp q {} = (t, v)) (hv : v ≠ .wait) :
    s.request otp q {} = if (t.respond q v).leaving then (t.respond q v).flushRequests else t.respond q v :=
  request_served (passes_free h) (not_isFirmware (passes_front h)) hs hv

/-- Where its answer starts neither WARM_RESET nor HOLD, the answer is all. -/
theorem request_calm (h : s.passes q r = true) (hs : s.serve otp q {} = (t, v)) (hv : v ≠ .wait) (hl : (t.respond q v).leaving = s.leaving) :
    s.request otp q {} = t.respond q v :=
  request_answered (passes_free h) (not_isFirmware (passes_front h)) hs hv (hl.trans (engineFree_stays (passes_free h)))

end Passes

/-! ### Reads -/

/-- A read releases the error capture, or opens a value anew (R497). -/
theorem readActs_eq (s : Sys) (k : Nat) : ∃ g n, s.readActs k = { s with gath := g, free := n } := by
  unfold readActs errRead
  split
  · split
    · exact ⟨_, _, rfl⟩
    · exact ⟨_, _, rfl⟩
  split
  · split
    · exact ⟨_, _, rfl⟩
    · exact ⟨_, _, rfl⟩
  split
  · exact ⟨_, _, rfl⟩
  · exact ⟨_, _, rfl⟩

theorem readActs_moves (s : Sys) (k : Nat) : MovesOnly [] s (s.readActs k) := by
  obtain ⟨g, n, h⟩ := s.readActs_eq k
  rw [h]
  exact .beside rfl rfl rfl rfl

/-- The answer to a read is sent, and the snapshot of the master kept or dropped. -/
theorem windowRead_eq (s : Sys) (m : Master) (q : WaitReq) (ty : Dict.Ty) (w : Word) :
    ∃ l, (s.windowRead m q ty w).1 = { s with eng := { s.eng with snaps := l } } := by
  unfold windowRead
  dsimp only
  split
  · exact ⟨_, rfl⟩
  split
  · exact ⟨_, rfl⟩
  · exact ⟨_, rfl⟩

theorem respond_value_leaving (s : Sys) (q : WaitReq) (ty : Dict.Ty) (w : Word) : (s.respond q (.value ty w)).leaving = s.leaving := by
  unfold respond
  cases q.acc.who with
  | chain tag =>
    change (s.answer 0 q.idx q.sub tag 0 (chainValue ty w)).leaving = s.leaving
    rw [(answer_answered s 0 q.idx q.sub tag 0 (chainValue ty w)).rest]
    rfl
  | window m machine =>
    obtain ⟨l, hl⟩ := s.windowRead_eq m q ty w
    change ((s.windowRead m q ty w).1.emit _).leaving = s.leaving
    rw [hl]
    rfl

theorem reads_row {s : Sys} {q : WaitReq} (h : s.reads q = true) :
    ∃ r, entryRow q.idx q.sub = some r ∧ q.write = false ∧ q.acc.parity = true ∧ s.passes q r = true := by
  simp only [reads, Bool.and_eq_true, Bool.not_eq_true', Option.any_eq_true] at h
  obtain ⟨⟨hw, hp⟩, r, hr, hpass⟩ := h
  exact ⟨r, hr, hw, hp, hpass⟩

/-- A read that the engine takes at once gives the value of the entry as its answer. -/
theorem request_read {s : Sys} (otp : Nat → Nat) {q : WaitReq} (hs : q.sub < 256) (h : s.reads q = true) : s.request otp q {} = s.readOut q := by
  obtain ⟨r, hr, hw, hp, hpass⟩ := reads_row h
  have hserve := serve_read (otp := otp) (ext := {}) hr (passes_front hpass) (passes_on hpass) (passes_reached hpass) hw hp
  rw [ungate_entry s hs] at hserve
  unfold readOut
  rw [hr]
  refine request_calm hpass hserve (by simp) ?_
  rw [respond_value_leaving, (readActs_moves _ _).leaves, clocked_leaving]

/-! ### Snapshots (R52) -/

theorem snapOf_dropSnap (s : Sys) (m : Master) (k : Nat) : (s.dropSnap m).snapOf m k = none := by
  unfold snapOf dropSnap
  rw [Option.map_eq_none_iff, List.find?_eq_none]
  intro x hx
  simp only [List.mem_filter, decide_eq_true_eq] at hx
  simp [hx.2]

/-- A low-word read gives the low half of the live value. -/
theorem windowRead_low {q : WaitReq} (s : Sys) (m : Master) (ty : Dict.Ty) (w : Word) (hsize : q.size = 4) (hhigh : q.high = false) :
    (s.windowRead m q ty w).2 = windowValue ty w % 2 ^ 32 := by
  unfold windowRead
  simp [hsize, hhigh]

/-- It keeps the whole of it for the half that follows. -/
theorem snapOf_windowRead_low {q : WaitReq} (s : Sys) (m : Master) (ty : Dict.Ty) (w : Word) (hsize : q.size = 4) (hhigh : q.high = false) :
    (s.windowRead m q ty w).1.snapOf m (q.idx * 256 + q.sub) = some (windowValue ty w) := by
  unfold windowRead
  simp [hsize, hhigh, snapOf]

/-- A high-word read takes the upper half of the snapshot and drops it. -/
theorem windowRead_high {q : WaitReq} (s : Sys) (m : Master) (ty : Dict.Ty) (w : Word) (hsize : q.size = 4) (hhigh : q.high = true) {x : Nat}
    (hsnap : s.snapOf m (q.idx * 256 + q.sub) = some x) :
    (s.windowRead m q ty w).2 = x / 2 ^ 32 % 2 ^ 32 ∧ (s.windowRead m q ty w).1 = s.dropSnap m := by
  unfold windowRead
  simp [hsize, hhigh, hsnap]

end Sys

/-- What a fuse takes leaves the snapshots. -/
theorem burnt_snapOf (s : State) (t : Sys) (m : Master) (k : Nat) : (burnt s t).snapOf m k = t.snapOf m k := by
  unfold burnt
  split <;> rfl

theorem Sys.clocked_sent (s : Sys) (k : Nat) : (s.clocked k).sent = s.sent := by
  unfold Sys.clocked Sys.ungate
  split <;> rfl

/-- What a command that is a read of one entry answers. -/
theorem onOd_read (s : State) {q : WaitReq} (hs : q.sub < 256) (h : s.reads q = true) :
    onOd (fun otp u => u.request otp q {}) s = .next (burnt s (s.readOut q)) := by
  obtain ⟨r, -, -, -, hpass⟩ := Sys.reads_row h
  rw [onOd_on _ s (Sys.engineFree_powered (Sys.passes_free hpass)), Sys.request_read _ hs h]

/-- A state that keeps all but some entries after the clock of a block has started keeps them as the fuses are burnt. -/
theorem State.burnt_keepsBut {s : State} {t : Sys} {k : Nat} {ks : List Nat} (h : Holds ks (s.toSys.clocked k) t) : s.keepsBut (burnt s t) ks := by
  have hc := s.toSys.clocked_holds k
  refine ⟨fun a => ?_, ?_, burnt_pending _ _, fun j hj _ hcl => ?_⟩
  · rw [burnt_byte, h.bytes, hc.bytes]
  · rw [burnt_dev, h.dev, hc.dev]
  · rw [burnt_rdW, h.entries j hj, hc.entries j (by simpa using hcl)]

namespace Sys

/-- The answer to a read over the window is the word that the master reads. -/
theorem respond_window (s : Sys) {q : WaitReq} {m : Master} {machine : Bool} (hwho : q.acc.who = .window m machine) (ty : Dict.Ty) (w : Word) :
    s.respond q (.value ty w) = (s.windowRead m q ty w).1.emit (.window m (s.windowRead m q ty w).2) := by
  unfold respond
  rw [hwho]

/-- What a low-word read over the window sends, keeps and leaves as it was. -/
theorem respond_low (s : Sys) {q : WaitReq} {m : Master} {machine : Bool} (hwho : q.acc.who = .window m machine) (hsize : q.size = 4) (hhigh : q.high = false)
    (ty : Dict.Ty) (w : Word) :
    (s.respond q (.value ty w)).sent = .window m (windowValue ty w % 2 ^ 32) :: s.sent ∧
      (s.respond q (.value ty w)).snapOf m (q.idx * 256 + q.sub) = some (windowValue ty w) ∧ MovesOnly [] s (s.respond q (.value ty w)) := by
  obtain ⟨l, hl⟩ := s.windowRead_eq m q ty w
  have hsnap := s.snapOf_windowRead_low m ty w hsize hhigh
  rw [s.respond_window hwho, s.windowRead_low m ty w hsize hhigh]
  refine ⟨?sent, hsnap, ?moves⟩
  case sent => rw [hl]; rfl
  case moves => rw [hl]; exact .beside rfl rfl rfl rfl

theorem readOut_row (s : Sys) {q : WaitReq} {r : Dict.Row} (hr : entryRow q.idx q.sub = some r) :
    s.readOut q = ((s.clocked (q.idx * 256 + q.sub)).readActs (q.idx * 256 + q.sub)).respond q
      (.value r.ty ((s.clocked (q.idx * 256 + q.sub)).value q.idx q.sub)) := by
  unfold readOut
  rw [hr]

theorem readActs_sent (s : Sys) (k : Nat) : (s.readActs k).sent = s.sent := by
  obtain ⟨g, n, h⟩ := s.readActs_eq k
  rw [h]

end Sys

/-- A low-word read over the window, from the state before it. -/
theorem lowWordRead (s : State) {q : WaitReq} {m : Master} {machine : Bool} {r : Dict.Row} (hr : entryRow q.idx q.sub = some r)
    (hwho : q.acc.who = .window m machine) (hsize : q.size = 4) (hhigh : q.high = false) :
    (burnt s (s.readOut q)).sent = .window m (windowValue r.ty ((s.toSys.clocked (q.idx * 256 + q.sub)).value q.idx q.sub) % 2 ^ 32) :: s.sent ∧
      (burnt s (s.readOut q)).snapOf m (q.idx * 256 + q.sub) = some (windowValue r.ty ((s.toSys.clocked (q.idx * 256 + q.sub)).value q.idx q.sub)) ∧
      s.keepsBut (burnt s (s.readOut q)) [] := by
  rw [burnt_sent, burnt_snapOf, s.toSys.readOut_row hr]
  obtain ⟨hsent, hsnap, hmoves⟩ := ((s.toSys.clocked (q.idx * 256 + q.sub)).readActs (q.idx * 256 + q.sub)).respond_low hwho hsize hhigh r.ty
    ((s.toSys.clocked (q.idx * 256 + q.sub)).value q.idx q.sub)
  refine ⟨?sent, hsnap, ?keeps⟩
  case sent => rw [hsent, Sys.readActs_sent, Sys.clocked_sent]
  case keeps => exact State.burnt_keepsBut ((Sys.readActs_moves _ _).trans hmoves).toHolds

/-- Settles O52: the read moves what a read releases and its snapshot, and the high half comes from there. -/
theorem lowWordReadTakesSnapshot : Obligations.LowWordReadTakesSnapshot := by
  refine ⟨fun s m machine idx sub r hr h => ?low, fun s m lo hi ty w w' hlo hlow hhi hhigh hk => ?high⟩
  case low =>
    obtain ⟨hsent, hsnap, hbytes, hdev, hpending, hentries⟩ := lowWordRead s (q := { acc := { who := .window m machine }, write := false, idx := idx, sub := sub, size := 4 })
      hr rfl rfl rfl
    exact ⟨_, onOd_read s sub.isLt h, hsent, hsnap, hbytes, hdev, hpending, fun k _ => hentries k List.not_mem_nil⟩
  case high =>
    have hsnap : (s.windowRead m lo ty w).1.snapOf m (hi.idx * 256 + hi.sub) = some (windowValue ty w) := by
      rw [hk]
      exact s.snapOf_windowRead_low m ty w hlo hlow
    obtain ⟨hword, hdrop⟩ := (s.windowRead m lo ty w).1.windowRead_high m ty w' hhi hhigh hsnap
    exact ⟨hword, by rw [hdrop, Sys.snapOf_dropSnap]⟩

end Sys2Proof.Machine
end

section
/-! PROOFS. What accepted OD writes, reads, halves of a slot, and the address and the length of a DOMAIN answer (R38, R47, R48, R51, R52, R497). -/

namespace Sys2Proof.Machine

open Sys2Proof

namespace Sys

section Requests

variable {s : Sys} {otp : Nat → Nat} {q : WaitReq} {r : Dict.Row} (hs : q.sub < 256) (hr : entryRow q.idx q.sub = some r) (hpass : s.passes q r = true)
  (hw : q.write = true)
include hs hr hpass hw

/-! ### A write by its form (R52) -/

/-- A window write of the low word of a wide slot stages it. -/
theorem serve_stage {m : Master} {machine : Bool} {low : Nat} (hwho : q.acc.who = .window m machine)
    (hform : (s.clocked (q.idx * 256 + q.sub)).formOf q r.ty = .stage low) :
    s.serve otp q {} = ((s.clocked (q.idx * 256 + q.sub)).stageLow m (q.idx * 256 + q.sub) low, .done 0) := by
  rw [← ungate_entry s hs] at hform ⊢
  unfold serve
  simp [hr, passes_front hpass, passes_on hpass, passes_reached hpass, hw, hform, hwho]

/-- A high word of zero that a narrow entry ignores has no effect. -/
theorem serve_nothing {m : Master} {machine : Bool} (hwho : q.acc.who = .window m machine)
    (hform : (s.clocked (q.idx * 256 + q.sub)).formOf q r.ty = .nothing) : s.serve otp q {} = (s.clocked (q.idx * 256 + q.sub), .done 0) := by
  rw [← ungate_entry s hs] at hform ⊢
  unfold serve
  simp [hr, passes_front hpass, passes_on hpass, passes_reached hpass, hw, hform, hwho]

end Requests

/-- A carried-out window write forgets the snapshot of its master. -/
theorem respond_windowWrite (s : Sys) {q : WaitReq} {m : Master} {machine : Bool} (hwho : q.acc.who = .window m machine) :
    s.respond q (.done 0) = s.dropSnap m := by
  unfold respond
  rw [hwho]
  rfl

theorem dropSnap_leaving (s : Sys) (m : Master) : (s.dropSnap m).leaving = s.leaving := rfl

theorem stageLow_leaving (s : Sys) (m : Master) (k low : Nat) : (s.stageLow m k low).leaving = s.leaving := rfl

theorem formOf_window (s : Sys) {q : WaitReq} {m : Master} {machine : Bool} (hwho : q.acc.who = .window m machine) (ty : Dict.Ty) :
    s.formOf q ty = windowForm ty q.size q.val q.high (s.stagedLow m (q.idx * 256 + q.sub)) := by
  unfold formOf
  rw [hwho]

/-- Half of a slot of 64 bits: its low word is staged, and its high word goes with what is staged. -/
theorem windowForm_low {ty : Dict.Ty} (hty : tySize ty = 8) (v : Nat) (low : Option Nat) : windowForm ty 4 v false low = .stage (v % 2 ^ 32) := by
  unfold windowForm
  simp [hty]

theorem windowForm_high {ty : Dict.Ty} (hty : tySize ty = 8) (v low : Nat) :
    windowForm ty 4 v true (some low) = .word (BitVec.ofNat 64 (v % 2 ^ 32 * 2 ^ 32 + low % 2 ^ 32)) := by
  unfold windowForm
  simp [hty]

/-- A whole write brings its value. -/
theorem windowForm_whole {ty : Dict.Ty} (hty : tySize ty = 8) (v : Nat) (low : Option Nat) : windowForm ty 8 v false low = .word (BitVec.ofNat 64 v) := by
  unfold windowForm
  simp [hty]

/-- The high word of a narrow entry is nothing where it is zero. -/
theorem windowForm_zeroHigh {ty : Dict.Ty} (hty : tySize ty ≠ 8) {v : Nat} (hv : v % 2 ^ 32 = 0) (low : Option Nat) : windowForm ty 4 v true low = .nothing := by
  unfold windowForm
  simp only [hty, hv, decide_false]
  rfl

/-- The low word of a narrow entry is the whole of it. -/
theorem writeReq_narrow {acc : Access} {m : Master} {machine : Bool} (hwho : acc.who = .window m machine) {idx sub : Nat} (hs : sub < 256) {r : Dict.Row}
    (hr : entryRow idx sub = some r) (hty : tySize r.ty ≠ 8) (word : Nat) :
    writeReq acc (idx * 256 + sub) word = { acc := acc, write := true, idx := idx, sub := sub, size := 4, val := word % 2 ^ 32 } := by
  have hsize : max 4 (tySize r.ty) = 4 := by
    cases hr : r.ty <;> simp_all [tySize]
  unfold writeReq
  simp only [idx_of idx sub hs rfl, sub_of idx sub hs rfl, hr, hwho, Option.elim, isChain, hty, hsize, Bool.false_eq_true, if_false]

/-- The whole write of a wide entry over the window. -/
theorem writeReq_wide {acc : Access} {m : Master} {machine : Bool} (hwho : acc.who = .window m machine) {idx sub : Nat} (hs : sub < 256) {r : Dict.Row}
    (hr : entryRow idx sub = some r) (hty : tySize r.ty = 8) (v : Nat) :
    writeReq acc (idx * 256 + sub) v = { acc := acc, write := true, idx := idx, sub := sub, size := 8, val := v % 2 ^ 64 } := by
  unfold writeReq
  simp [idx_of idx sub hs rfl, sub_of idx sub hs rfl, hr, hwho, isChain, hty]

/-! ### The high word carries the write out -/

/-- Writes of one requester to one entry that both bring a value pass the same checks 1 to 6. -/
theorem frontCode_congr {s : Sys} {q q' : WaitReq} {r : Dict.Row} (hacc : q'.acc = q.acc) (hidx : q'.idx = q.idx) (hw : q.write = true) (hw' : q'.write = true)
    (hform : s.formOf q r.ty ≠ .bad) (hform' : s.formOf q' r.ty ≠ .bad) : s.frontCode q' (some r) = s.frontCode q (some r) := by
  unfold frontCode
  simp only [hacc, hidx, hw, hw', hform, hform', and_false, if_false, Bool.not_true, Bool.false_eq_true, false_and]

/-- An accepted write passes checks 1 to 6. -/
theorem accepts_passes {s : Sys} {acc : Access} {k v : Nat} {ext : Ext} {r : Dict.Row} (hr : entryRow (keyIdx k) (keySub k) = some r)
    (h : s.accepts acc k v ext = true) : s.passes (writeReq acc k v) r = true := by
  have hrow : entryRow (writeReq acc k v).idx (writeReq acc k v).sub = some r := hr
  unfold accepts at h
  simp only [hrow, Bool.and_eq_true] at h
  obtain ⟨hfree, h⟩ := h
  cases hword : (s.clocked k).wordOf (writeReq acc k v) r with
  | none => simp [hword] at h
  | some w =>
    simp only [hword, Bool.and_eq_true] at h
    obtain ⟨⟨⟨⟨⟨⟨⟨⟨⟨hfront, hon⟩, hreached⟩, -⟩, -⟩, -⟩, -⟩, -⟩, -⟩, -⟩ := h
    simp only [passes, Bool.and_eq_true]
    exact ⟨⟨⟨hfree, hfront⟩, hon⟩, hreached⟩

theorem clocked_formOf (s : Sys) (k : Nat) (q : WaitReq) (ty : Dict.Ty) : (s.clocked k).formOf q ty = s.formOf q ty := by
  unfold clocked ungate
  split <;> rfl

/-- A high word `q` that brings what a whole write `p` brings passes with it, and is carried out as it is, its low word used up. -/
theorem serve_highWord {s t : Sys} {otp : Nat → Nat} {p q : WaitReq} {m : Master} {machine : Bool} {r : Dict.Row} {w : Word} (hacc : q.acc = p.acc)
    (hidx : q.idx = p.idx) (hsub : q.sub = p.sub) (hwp : p.write = true) (hwq : q.write = true) (hp : p.high = false) (hq : q.high = true)
    (hwho : p.acc.who = .window m machine) (hs : p.sub < 256) (hr : entryRow p.idx p.sub = some r) (hformp : s.formOf p r.ty = .word w)
    (hformq : s.formOf q r.ty = .word w) (hpass : s.passes p r = true) (hserve : s.serve otp p {} = (t, .done 0)) :
    s.passes q r = true ∧ s.serve otp q {} = (t.unstage m, .done 0) := by
  have hfront : s.frontCode q (some r) = s.frontCode p (some r) := frontCode_congr hacc hidx hwp hwq (by simp [hformp]) (by simp [hformq])
  have hpassq : s.passes q r = true := by
    unfold passes at hpass ⊢
    rw [hfront, hidx]
    exact hpass
  have hqr : entryRow q.idx q.sub = some r := by rw [hidx, hsub, hr]
  have hclockedp : (s.ungate (domainOf p.idx)).formOf p r.ty = .word w := by rw [ungate_entry s hs, clocked_formOf, hformp]
  have hclockedq : (s.ungate (domainOf q.idx)).formOf q r.ty = .word w := by rw [hidx, ungate_entry s hs, clocked_formOf, hformq]
  rw [serve_word hr (passes_front hpass) (passes_on hpass) (passes_reached hpass) hwp hclockedp] at hserve
  refine ⟨hpassq, ?_⟩
  rw [serve_word hqr (passes_front hpassq) (passes_on hpassq) (passes_reached hpassq) hwq hclockedq, hacc, hidx, hsub, hq]
  simp only [hwho, hp, Bool.false_eq_true, false_and, if_false] at hserve ⊢
  obtain ⟨hstate, hverdict⟩ := Prod.mk.inj hserve
  rw [hstate, hverdict]
  simp

/-! ### The address of a DOMAIN (R38) -/

/-- Where checks 8 to 12 pass and no copy of the store is rebuilt, the address is staged. -/
theorem writeEntry_address {s : Sys} (otp : Nat → Nat) {acc : Access} {k : Nat} {r : Dict.Row} {w : Word} (hst : r.st.testBit (devCode s.dev) = true)
    (hneed : (s.need (s.clsOf acc.who) k (maskWord r w).toNat (intOf r (maskWord r w)) {}).2 = 0)
    (hrange : s.rangeOk (s.clsOf acc.who) k r (maskWord r w).toNat (intOf r (maskWord r w)) = true) (hbusy : s.storeBusy k r = false)
    (hparity : acc.parity = true) (hstore : (r.kept && (s.pair (s.storePair k)).building) = false) (hty : r.ty = .domain) :
    s.writeEntry otp acc k r w {} =
      ((s.need (s.clsOf acc.who) k (maskWord r w).toNat (intOf r (maskWord r w)) {}).1.stageDomain (s.clsOf acc.who) k (maskWord r w).toNat, .done 0) := by
  have hint : (if tySigned r.ty = true then (maskWord r w).toInt else ((maskWord r w).toNat : Int)) = intOf r (maskWord r w) := rfl
  have hcode : pickAbort [(!r.st.testBit (devCode s.dev), 0x0803), (true, (s.need (s.clsOf acc.who) k (maskWord r w).toNat (intOf r (maskWord r w)) {}).2),
      (!s.rangeOk (s.clsOf acc.who) k r (maskWord r w).toNat (intOf r (maskWord r w)), 0x0604), (s.storeBusy k r, 0x0805), (!acc.parity, 0x0901)] = 0 :=
    pickAbort_zero _ (by simp [hst, hneed, hrange, hbusy, hparity])
  unfold writeEntry
  simp only [hint, hcode, hstore, ne_eq, not_true_eq_false, if_false, Bool.false_eq_true]
  rw [if_pos hty]

/-- A write that is no high word is carried out as its entry is. -/
theorem serve_whole {s : Sys} {otp : Nat → Nat} {q : WaitReq} {r : Dict.Row} {w : Word} (hs : q.sub < 256) (hr : entryRow q.idx q.sub = some r)
    (hpass : s.passes q r = true) (hw : q.write = true) (hhigh : q.high = false) (hform : (s.clocked (q.idx * 256 + q.sub)).formOf q r.ty = .word w) :
    s.serve otp q {} = (s.clocked (q.idx * 256 + q.sub)).writeEntry otp q.acc (q.idx * 256 + q.sub) r w {} := by
  rw [← ungate_entry s hs] at hform ⊢
  rw [serve_word hr (passes_front hpass) (passes_on hpass) (passes_reached hpass) hw hform, hhigh]
  cases q.acc.who <;> rfl

theorem wordOf_some {s : Sys} {q : WaitReq} {r : Dict.Row} {w : Word} (h : s.wordOf q r = some w) : ∃ x, s.formOf q r.ty = .word x ∧ w = maskWord r x := by
  unfold wordOf at h
  split at h
  case h_1 x hform => exact ⟨x, hform, (Option.some.inj h).symm⟩
  case h_2 => cases h

/-- An accepted write of an address passes the checks and is staged. -/
theorem serve_address {s : Sys} (otp : Nat → Nat) {acc : Access} {k v : Nat} (h : s.acceptsAddress acc k v = true) :
    ∃ r, entryRow (keyIdx k) (keySub k) = some r ∧ r.ty = .domain ∧ s.passes (writeReq acc k v) r = true ∧
      s.serve otp (writeReq acc k v) {} = (s.addressStaged acc k v, .done 0) := by
  have hsub : (writeReq acc k v).sub < 256 := Nat.mod_lt _ (by decide)
  have hkey : (writeReq acc k v).idx * 256 + (writeReq acc k v).sub = k := key_split k
  unfold acceptsAddress at h
  cases hr : entryRow (writeReq acc k v).idx (writeReq acc k v).sub with
  | none => simp [hr] at h
  | some r =>
    cases hword : (s.clocked k).wordOf (writeReq acc k v) r with
    | none => simp [hr, hword] at h
    | some w =>
      simp only [hr, hword, Bool.and_eq_true, decide_eq_true_eq, Bool.not_eq_true'] at h
      obtain ⟨⟨⟨⟨⟨⟨⟨hpass, hst⟩, hneed⟩, hrange⟩, hbusy⟩, hparity⟩, hstore⟩, hty⟩ := h
      obtain ⟨x, hform, rfl⟩ := wordOf_some hword
      have hstaged : s.addressStaged acc k v =
          (s.needed acc k r (maskWord r x) {}).1.stageDomain ((s.clocked k).clsOf acc.who) k (maskWord r x).toNat := by
        unfold addressStaged
        simp only [hr, hword]
      have hentry : (s.clocked k).writeEntry otp acc k r x {} = (s.addressStaged acc k v, .done 0) := by
        rw [hstaged]
        exact writeEntry_address otp (by rw [clocked_dev]; exact hst) hneed hrange hbusy hparity (by cases hk : r.kept <;> simp_all) hty
      refine ⟨r, hr, hty, hpass, ?_⟩
      rw [← hentry, serve_whole hsub hr hpass rfl rfl (w := x) (by rw [hkey]; exact hform), hkey]
      rfl

end Sys

section Commands

variable {s : State} {acc : Access} {idx : Fin 65536} {sub : Fin 256} {r : Dict.Row} {m : Master} {machine : Bool}

/-- A request that passes, with what it answers. -/
theorem onOd_passed {q : WaitReq} {t : Sys} {v : Verdict} (h : s.passes q r = true) (hs : s.toSys.serve s.otpWord q {} = (t, v)) (hv : v ≠ .wait) :
    onOd (fun otp u => u.request otp q {}) s = .next (burnt s (if (t.respond q v).leaving then (t.respond q v).flushRequests else t.respond q v)) := by
  rw [onOd_on _ s (Sys.engineFree_powered (Sys.passes_free h)), Sys.request_passed h hs hv]

/-- Half of a slot is a request over the window. -/
theorem exec_split (hwho : acc.who = .window m machine) (high : Bool) (word : Nat) :
    exec (.windowSplitWrite acc high idx sub word) s =
      onOd (fun otp u => u.request otp { acc := acc, write := true, idx := idx, sub := sub, size := 4, val := word % 2 ^ 32, high := high } {}) s := by
  change onOd (fun otp u => if Sys.isChain acc.who then u else
    u.request otp { acc := acc, write := true, idx := idx, sub := sub, size := 4, val := word % 2 ^ 32, high := high } {}) s = _
  rw [hwho]
  rfl

theorem exec_lowWord {word : Nat} (hwho : acc.who = .window m machine) (hr : entryRow idx sub = some r) (hty : tySize r.ty = 8)
    (hpass : s.passes { acc := acc, write := true, idx := idx, sub := sub, size := 4, val := word % 2 ^ 32, high := false } r = true) :
    exec (.windowSplitWrite acc false idx sub word) s =
      .next (burnt s (((s.toSys.clocked (idx * 256 + sub)).stageLow m (idx * 256 + sub) (word % 2 ^ 32)).dropSnap m)) := by
  generalize hv : word % 2 ^ 32 = v at hpass ⊢
  have hlow : v % 2 ^ 32 = v := by omega
  have hform : (s.toSys.clocked (idx * 256 + sub)).formOf { acc := acc, write := true, idx := idx, sub := sub, size := 4, val := v, high := false } r.ty = .stage v := by
    rw [Sys.formOf_window _ hwho, Sys.windowForm_low hty, hlow]
  have hserve := Sys.serve_stage (otp := s.otpWord) sub.isLt hr hpass rfl hwho hform
  rw [exec_split hwho, hv, onOd_on _ s (Sys.engineFree_powered (Sys.passes_free hpass)),
    Sys.request_calm hpass hserve (by simp) (by rw [Sys.respond_windowWrite _ hwho, Sys.dropSnap_leaving, Sys.stageLow_leaving, Sys.clocked_leaving]), Sys.respond_windowWrite _ hwho]

theorem exec_zeroHigh {word : Nat} (hwho : acc.who = .window m machine) (hr : entryRow idx sub = some r) (hty : tySize r.ty ≠ 8) (hv : word % 2 ^ 32 = 0)
    (hpass : s.passes { acc := acc, write := true, idx := idx, sub := sub, size := 4, val := word % 2 ^ 32, high := true } r = true) :
    exec (.windowSplitWrite acc true idx sub word) s = .next (burnt s ((s.toSys.clocked (idx * 256 + sub)).dropSnap m)) := by
  have hform : (s.toSys.clocked (idx * 256 + sub)).formOf { acc := acc, write := true, idx := idx, sub := sub, size := 4, val := 0, high := true } r.ty = .nothing := by
    rw [Sys.formOf_window _ hwho, Sys.windowForm_zeroHigh hty rfl]
  rw [exec_split hwho]
  rw [hv] at hpass ⊢
  have hserve := Sys.serve_nothing (otp := s.otpWord) sub.isLt hr hpass rfl hwho hform
  rw [onOd_on _ s (Sys.engineFree_powered (Sys.passes_free hpass)),
    Sys.request_calm hpass hserve (by simp) (by rw [Sys.respond_windowWrite _ hwho, Sys.dropSnap_leaving, Sys.clocked_leaving]), Sys.respond_windowWrite _ hwho]

theorem exec_highWord {word low v : Nat} (hv : v = word % 2 ^ 32 * 2 ^ 32 + low % 2 ^ 32) (hwho : acc.who = .window m machine) (hr : entryRow idx sub = some r) (hty : tySize r.ty = 8)
    (hlow : s.stagedLow m (idx * 256 + sub) = some low) (h : s.accepts acc (idx * 256 + sub) v {} = true) :
    exec (.windowSplitWrite acc true idx sub word) s =
      .next (burnt s (((s.toSys.written s.otpWord acc (idx * 256 + sub) v {}).unstage m).answered acc (idx * 256 + sub) v)) := by
  have hword : v % 2 ^ 64 = v := by omega
  have hhalf := Sys.windowForm_high hty (word % 2 ^ 32) low
  rw [Nat.mod_mod, ← hv] at hhalf
  have hwhole := Sys.writeReq_wide hwho sub.isLt hr hty v
  have hrow : entryRow (keyIdx (idx * 256 + sub)) (keySub (idx * 256 + sub)) = some r := by
    rw [Sys.idx_of idx sub sub.isLt rfl, Sys.sub_of idx sub sub.isLt rfl, hr]
  have hserve := s.toSys.serve_accepted s.otpWord acc _ v {} h
  have hpass := Sys.accepts_passes hrow h
  rw [hwhole, hword] at hserve hpass
  have hformWhole : s.toSys.formOf { acc := acc, write := true, idx := idx, sub := sub, size := 8, val := v } r.ty = .word (BitVec.ofNat 64 v) :=
    (Sys.formOf_window _ hwho _).trans (Sys.windowForm_whole hty v _)
  have hformHigh : s.toSys.formOf { acc := acc, write := true, idx := idx, sub := sub, size := 4, val := word % 2 ^ 32, high := true } r.ty =
      .word (BitVec.ofNat 64 v) := by
    rw [Sys.formOf_window _ hwho, hlow, hhalf]
  obtain ⟨hpassHigh, hserveHigh⟩ := Sys.serve_highWord (p := { acc := acc, write := true, idx := idx, sub := sub, size := 8, val := v })
    (q := { acc := acc, write := true, idx := idx, sub := sub, size := 4, val := word % 2 ^ 32, high := true })
    rfl rfl rfl rfl rfl rfl rfl hwho sub.isLt hr hformWhole hformHigh hpass hserve
  rw [exec_split hwho, onOd_passed hpassHigh hserveHigh (by simp)]
  unfold Sys.answered
  rw [Sys.respond_windowWrite _ hwho, Sys.respond_windowWrite _ hwho]

theorem exec_domainAddress {v : Nat} (h : s.acceptsAddress acc (idx * 256 + sub) v = true) :
    exec (.domainAddressWrite acc idx sub v) s = .next (burnt s ((s.addressStaged acc (idx * 256 + sub) v).answered acc (idx * 256 + sub) v)) := by
  obtain ⟨r, hr, hty, hpass, hserve⟩ := Sys.serve_address s.otpWord h
  rw [Sys.idx_of idx sub sub.isLt rfl, Sys.sub_of idx sub sub.isLt rfl] at hr
  have hdomain : (entryRow idx sub).any (fun r => decide (r.ty = .domain)) = true := by rw [hr]; exact decide_eq_true hty
  have hexec : exec (.domainAddressWrite acc idx sub v) s = onOd (fun otp u => u.request otp (Sys.writeReq acc (idx * 256 + sub) v) {}) s := by
    change onOd (fun otp u => if (entryRow idx sub).any (fun r => decide (r.ty = .domain)) then u.request otp (Sys.writeReq acc (idx * 256 + sub) v) {} else u) s = _
    rw [hdomain]
    rfl
  rw [hexec, onOd_passed hpass hserve (by simp)]
  rfl

/-- The length of a DOMAIN is written whole. -/
theorem exec_domainLength {v : Nat} (hdom : (entryRow idx sub).any (fun r => r.dom.isSome) = true) (h : s.accepts acc (idx * 256 + sub) v {} = true) :
    exec (.domainLengthWrite acc idx sub v) s = .next (s.afterWrite acc (idx * 256 + sub) v {}) := by
  have hexec : exec (.domainLengthWrite acc idx sub v) s = onWrite acc (idx * 256 + sub) v {} s := by
    change onOd (fun otp u => if (entryRow idx sub).any (fun r => r.dom.isSome) then u.request otp (Sys.writeReq acc (idx * 256 + sub) v) {} else u) s = _
    rw [hdom]
    rfl
  rw [hexec, onWrite_accepted s acc _ v {} h]

end Commands

/-- Settles O28: whole writes are those of the entry, and the other accesses pass checks 1 to 6 and are served by their form. -/
theorem accessesAct : Obligations.AccessesAct := by
  refine ⟨fun s acc idx sub v h => ?write, fun s m machine idx sub h => ?lowRead, fun s who master h => ?capture,
    fun s acc m machine idx sub word r hwho hr hty hpass => ?lowWord, fun s acc m machine idx sub word r low hwho hr hty hlow h => ?highWord,
    fun s acc m machine idx sub word r hwho hr hty h => ?narrow, fun s acc m machine idx sub word r hwho hr hty hv hpass => ?zeroHigh,
    fun s acc idx sub v h => ?address, fun s acc idx sub v hdom h => ?length⟩
  case write => exact (Sys.odWrite_eq acc _ v idx sub rfl s).trans (onWrite_accepted s acc _ v {} h)
  case lowRead => exact onOd_read s sub.isLt h
  case capture => exact onOd_read s (Nat.mod_lt _ (by decide)) h
  case lowWord => exact exec_lowWord hwho hr hty hpass
  case highWord => exact exec_highWord rfl hwho hr hty hlow h
  case narrow =>
    rw [exec_split hwho, ← Sys.writeReq_narrow hwho sub.isLt hr hty]
    exact onWrite_accepted s acc _ word {} h
  case zeroHigh => exact exec_zeroHigh hwho hr hty hv hpass
  case address => exact exec_domainAddress h
  case length => exact exec_domainLength hdom h

end Sys2Proof.Machine
end

section
/-! PROOFS. What credits, heartbeats and the timers of the chain do when they are due (R55, R74, R83, R84, R96). -/

namespace Sys2Proof.Machine

open Sys2Proof

namespace Sys

/-- A heartbeat on an UP port records the neighbour; it is an alarm where the neighbour has fallen to FAULT on a port that alarms. -/
theorem heartbeatIn_up {s : Sys} {p addr st : Nat} (gateway : Bool) (hup : s.portUp p = true)
    (halarm : ¬(st = 4 ∧ (s.port p).nbState ≠ 4 ∧ s.rdB (Key.Port.ALARM_ON_LOSS p) = true)) : s.heartbeatIn p addr st gateway =
      ((s.wr (Key.Port.NEIGHBOUR p) (addr % 256)).modPort p (fun r => { r with nbState := st, nbGateway := gateway, heardAt := s.clk })).pump p := by
  have hstate : s.rd (Key.Port.STATE p) = 3 := of_decide_eq_true hup
  have hkept : ((s.wr (Key.Port.NEIGHBOUR p) (addr % 256)).modPort p (fun r => { r with nbState := st, nbGateway := gateway, heardAt := s.clk })).rdB
      (Key.Port.ALARM_ON_LOSS p) = s.rdB (Key.Port.ALARM_ON_LOSS p) := by
    unfold rdB
    rw [show ∀ (u : Sys) f k, (u.modPort p f).rd k = u.rd k from fun _ _ _ => rfl, rd_wr, if_neg (by simp only [Key.Port.ALARM_ON_LOSS, Key.Port.NEIGHBOUR]; omega)]
  unfold heartbeatIn
  simp only [hstate, Nat.reduceLT, Nat.reduceEqDiff, false_and, or_self, if_false]
  rw [hkept, if_neg halarm]

theorem serviceTimeout_due {s : Sys} {tag : Nat} {r : SvcReq} (hfind : s.chain.svcq.find? (fun r => decide (r.req.tag = tag)) = some r)
    (hdue : r.at_ + 1000 * s.rd Key.Fws.SERVICE_TIMEOUT ≤ s.clk) :
    s.serviceTimeout tag = ({ s with chain := { s.chain with svcq := s.chain.svcq.erase r } } : Sys).answerSvc r 0x0805 [] := by
  unfold serviceTimeout
  simp only [hfind]
  rw [if_pos hdue]

theorem creditPeriod_due {s : Sys} {n : Nat} (hruns : (s.endpoint n).periodRuns = true)
    (hdue : (s.endpoint n).creditAt + 1000 * s.rd (Key.Ep.CREDIT_PERIOD n) ≤ s.clk) :
    s.creditPeriod n = (s.modEndpoint n (fun e => { e with periodRuns := false })).maybeCredit n :=
  if_pos (by rw [hruns, decide_eq_true hdue]; rfl)

theorem heartbeatLost_due {s : Sys} {p : Nat} (hup : s.portUp p = true) (hdue : (s.port p).heardAt + 40000 ≤ s.clk) :
    s.heartbeatLost p = (s.portExit p 1).portLanesTo p 1 := if_pos (by rw [hup, decide_eq_true hdue]; rfl)

theorem creditOut_due {s : Sys} {p k : Nat} (hup : s.portUp p = true) (hfreed : 0 < (s.port p).freed.get k) :
    s.creditOut p k = (s.modPort p (fun r => { r with freed := r.freed.set k 0 })).emit (.credit p k ((s.port p).freed.get k)) :=
  if_pos (by rw [hup, decide_eq_true hfreed]; rfl)

end Sys

/-- Settles O16, clause by clause: each event is due, and has the effect that the block gives it. -/
theorem portEventsAct : Obligations.PortEventsAct := by
  refine ⟨?credit, ?creditReturn, ?heartbeat, ?send, ?timeout, ?period, ?service⟩
  case credit => exact fun s p k cells hp hup => onSys_next (f := fun u => u.creditIn p k cells) hp (if_pos hup)
  case creditReturn => exact fun s p k hp hup hfreed => onSys_next (f := fun u => u.creditOut p k) hp (Sys.creditOut_due hup hfreed)
  case heartbeat => exact fun s p addr st gateway hp hup halarm => onSys_next (f := fun u => u.heartbeatIn p addr st gateway) hp (Sys.heartbeatIn_up gateway hup halarm)
  case send => exact fun s p hp hup => onSys_next (f := fun u => u.heartbeatOut p) hp (if_pos (by simpa using hup))
  case timeout => exact fun s p hp hup hdue => onSys_next (f := fun u => u.heartbeatLost p) hp (Sys.heartbeatLost_due hup hdue)
  case period => exact fun s n hp hruns hdue => onSys_next (f := fun u => u.creditPeriod n) hp (Sys.creditPeriod_due hruns hdue)
  case service => exact fun s tag r hp hfind hdue => onSys_next (f := fun u => u.serviceTimeout tag) hp (Sys.serviceTimeout_due hfind hdue)

end Sys2Proof.Machine
end

section
/-! PROOFS. What an occurrence of a fault that freezes leaves (R56, R59, R488, R494, R497). -/

namespace Sys2Proof.Machine

open Sys2Proof

namespace Sys

/-! ### What judging the gates keeps -/

/-- A judging of the gates keeps the transition that is pending and the record of the last state change. -/
structure KeepsRecord (s t : Sys) : Prop where
  pend : t.pendState = s.pendState
  entries : ∀ k ∈ calmKeys, t.rdW k = s.rdW k

theorem KeepsRecord.of_calm {s t : Sys} (h : Calm s t) : KeepsRecord s t := ⟨h.pend, h.entries⟩

theorem KeepsRecord.trans {s t u : Sys} (a : KeepsRecord s t) (b : KeepsRecord t u) : KeepsRecord s u :=
  ⟨b.pend.trans a.pend, fun k hk => (b.entries k hk).trans (a.entries k hk)⟩

theorem KeepsRecord.modPads (s : Sys) (f : Pads → Pads) : KeepsRecord s (s.modPads f) := ⟨rfl, fun _ _ => rfl⟩

theorem refreshGate_keepsRecord (s : Sys) (c : Nat) : KeepsRecord s (s.refreshGate c) := by
  obtain ⟨t, en, lit, ht, -, hr⟩ := s.refreshGate_eq c
  exact ((KeepsRecord.of_calm ht).trans (.modPads t _)).trans (.of_calm hr)

theorem each_refreshGate_keepsRecord (s : Sys) (l : List Nat) : KeepsRecord s (s.each l refreshGate) :=
  ⟨each_keeps (π := pendState) (fun s n => (s.refreshGate_keepsRecord n).pend) l s,
    fun k hk => each_keeps (π := fun s => s.rdW k) (fun s n => (s.refreshGate_keepsRecord n).entries k hk) l s⟩

theorem refreshIlk_keepsRecord (s : Sys) : KeepsRecord s s.refreshIlk := by
  unfold refreshIlk
  split
  · exact .of_calm (.refl s)
  · exact .modPads s _

theorem floatAnalog_keepsRecord (s : Sys) : KeepsRecord s s.floatAnalog := .modPads s _

theorem refresh_keepsRecord (s : Sys) : KeepsRecord s s.refresh := by
  have hgates : KeepsRecord s ((s.each (List.range 16) refreshGate).refreshIlk).floatAnalog :=
    ((s.each_refreshGate_keepsRecord _).trans (refreshIlk_keepsRecord _)).trans (floatAnalog_keepsRecord _)
  unfold refresh
  dsimp only
  split
  · exact hgates
  · exact hgates.trans (.modPads _ _)

/-- So do the effects of entering FAULT. -/
theorem faultEffects_keepsRecord (s : Sys) (code : Nat) : KeepsRecord s (s.faultEffects code) := by
  obtain ⟨t, ht, he⟩ := s.faultEffects_eq code
  rw [he]
  exact (KeepsRecord.of_calm ht).trans t.refresh_keepsRecord

/-! ### Entering FAULT -/

/-- The unit is in FAULT for a freeze of `code` in device state `d`, before what that stops. -/
def frozen (s : Sys) (d : DevState) (code : Nat) : Sys :=
  let s := s.setCause 0x20 code (devCode d) 4 0
  ({ s with dev := .fault, pendState := none, smp := { s.smp with entries := s.smp.entries + 1 } } : Sys).wr Key.Gath.FIRST_FREEZE code

theorem enterFault_frozen {s : Sys} (hstart : s.dev ≠ .start) (hfault : s.dev ≠ .fault) (code t : Nat) : s.enterFault code t =
    (((s.when (decide (s.dev = .service)) cancelService).frozen s.dev code).captureSource 0x51 t).faultEffects code := by
  unfold enterFault
  split
  next h => exact absurd h hstart
  next h => exact absurd h hfault
  next => rfl

/-- The record of a freeze: FIRST_FREEZE and the cause of the state change. -/
theorem frozen_record (s : Sys) (d : DevState) {code : Nat} (hc : code < 2 ^ 64) :
    (s.frozen d code).rd Key.Gath.FIRST_FREEZE = code ∧ (s.frozen d code).rd Key.Cause.CAUSE = 0x20 ∧
      (s.frozen d code).rd Key.Cause.CAUSE_DETAIL = code ∧ (s.frozen d code).rd Key.Cause.FROM_STATE = devCode d := by
  have hd : devCode d < 2 ^ 64 := by cases d <;> decide
  have hrd (k : Nat) : (s.frozen d code).rd k = ((s.setCause 0x20 code (devCode d) 4 0).wr Key.Gath.FIRST_FREEZE code).rd k := rfl
  simpa [hrd, setCause, rd_wr] using And.intro hc hd

theorem frozen_padsFit {s : Sys} (hfit : s.padsFit) (d : DevState) (code : Nat) : (s.frozen d code).padsFit := hfit

/-- A freeze fault outside START and FAULT takes the unit into FAULT, names itself as the cause, and leaves every emission output inactive. -/
theorem enterFault_enters {s : Sys} (hfit : s.padsFit) (hstart : s.dev ≠ .start) (hfault : s.dev ≠ .fault) {code : Nat} (hc : code < 2 ^ 64) (t : Nat) :
    (s.enterFault code t).dev = .fault ∧ (s.enterFault code t).pendState = none ∧ (s.enterFault code t).rd Key.Gath.FIRST_FREEZE = code ∧
      (s.enterFault code t).rd Key.Cause.CAUSE = 0x20 ∧ (s.enterFault code t).rd Key.Cause.CAUSE_DETAIL = code ∧
      (s.enterFault code t).rd Key.Cause.FROM_STATE = devCode s.dev ∧ (s.enterFault code t).dark = true := by
  have hservice : Calm s (s.when (decide (s.dev = .service)) cancelService) := .when _ _ s.cancelService_calm
  rw [enterFault_frozen hstart hfault]
  generalize s.when (decide (s.dev = .service)) cancelService = u at hservice
  obtain ⟨hfirst, hcause, hdetail, hfrom⟩ := u.frozen_record s.dev hc
  have hcapture : Calm (u.frozen s.dev code) ((u.frozen s.dev code).captureSource 0x51 t) := captureSource_calm _ _ _
  have hfitFrozen : ((u.frozen s.dev code).captureSource 0x51 t).padsFit := padsFit_of_calm hcapture (frozen_padsFit (padsFit_of_calm hservice hfit) _ _)
  generalize (u.frozen s.dev code).captureSource 0x51 t = w at hcapture hfitFrozen
  obtain ⟨hpend, hentries⟩ := (KeepsRecord.of_calm hcapture).trans (w.faultEffects_keepsRecord code)
  obtain ⟨hdark, hdev⟩ := faultEffects_dark hfitFrozen hcapture.dev code
  have hrd (k : Nat) (hk : k ∈ calmKeys) : (w.faultEffects code).rd k = (u.frozen s.dev code).rd k := congrArg _ (hentries k hk)
  refine ⟨hdev, hpend, ?_, ?_, ?_, ?_, hdark⟩
  · rw [hrd _ (by decide), hfirst]
  · rw [hrd _ (by decide), hcause]
  · rw [hrd _ (by decide), hdetail]
  · rw [hrd _ (by decide), hfrom]

/-- An occurrence of a fault whose reaction is 4 is recorded and enters FAULT. -/
theorem fault_freezes {s : Sys} {code : Nat} (hc : code < 256) (hreaction : s.reaction code = 4) (kind inst t : Nat) :
    s.fault code kind inst t = (s.occur code kind inst t).enterFault code t := by
  have hkept : (s.occur code kind inst t).reaction code = 4 := by
    unfold reaction rd at hreaction ⊢
    rw [(s.occur_keepsReactions hc kind inst t).entries code hc]
    exact hreaction
  exact if_pos hkept

end Sys

/-- Settles O47: recording the occurrence is calm, and entering FAULT writes the record before the judging of the gates that darkens the outputs. -/
theorem freezeFaultEntersFault : Obligations.FreezeFaultEntersFault := by
  intro s code kind inst t hp hassigned hreaction hstart hfault hen hmod
  have hcode := code.isLt
  have hexec : exec (.faultOccurrence code kind inst t) s = .next (s.on (fun u => u.fault code kind inst t)) :=
    onSys_next (f := fun u => if Sys.assignedCode code then u.fault code kind inst t else u) hp (if_pos hassigned)
  have hcalm := Sys.occur_calm s.toSys code kind inst t
  have henters := Sys.enterFault_enters (s := s.toSys.occur code kind inst t) (Sys.padsFit_of_calm hcalm ⟨hen, hmod⟩) (hcalm.dev ▸ hstart) (hcalm.dev ▸ hfault)
    (code := code) (by omega) t
  rw [← Sys.fault_freezes (by omega) hreaction, hcalm.dev] at henters
  exact ⟨_, hexec, henters⟩

end Sys2Proof.Machine
end
